-- ==== Sys2Proof/Word.lean ====
section
/-! DEFINITION. Word.lean: the words of the device, and the plain data that a command of Syntax.lean carries
(who asks, a network packet, what the outside world shows at a start, at a wave, at a sensor read).
Nothing here computes: every bit-field reading of these data stands in files under Machine/. -/

namespace Sys2Proof

/-- One byte of a stored or transferred value (R5). -/
abbrev Byte := BitVec 8

/-- A kernel register or a 32-bit memory word of a kernel (R370). -/
abbrev Word := BitVec 32

/-- The 64 payload bits of one block (R203), and a word of a bank (R96). -/
abbrev Word64 := BitVec 64

/-- Who asks for a dictionary access (R399, R407, R504): a node on one of the two CAN channels, one of the
16 mailboxes of the BAR0 window, the design's dictionary port, or a kernel's DICT. -/
inductive Requester where
  | can (channel node : Nat)
  | mailbox (m : Nat)
  | port
  | kernel (k : Nat)
  deriving DecidableEq, Repr, Inhabited

/-- R342: a link speed by its code, a width and a negotiated payload size that the endpoint supports. -/
def linkOk (speed width payload : Nat) : Bool :=
  1 ≤ speed && speed ≤ 5 && [1, 2, 4, 8, 16].contains width && [128, 256, 512].contains payload

/-- A network packet (R329, Table 10-3): the header's fields and its data units of 128 bits. In a response,
last holds LP in bit 2 and wcnt holds NSTAT in bits [3:0], as the header's bits [47:40] do. -/
structure Packet where
  route : BitVec 32 := 0
  dest : Nat := 0
  src : Nat := 0
  cmd : Nat := 0
  tag : Nat := 0
  hops : Nat := 0
  last : Nat := 0
  wcnt : Nat := 0
  addr : Nat := 0
  units : List (BitVec 128) := []
  deriving DecidableEq, Repr, Inhabited

/-- A block on one data lane of a stack port (R279): its header in transmission order, its payload as it stands on the
line. -/
structure PortBlock where
  lane : Nat := 0
  header : BitVec 2 := 0
  raw : BitVec 64 := 0
  deriving DecidableEq, Repr, Inhabited

/-- What a stack port measures of the blocks that it receives: arrival of a crossing marker's first bit after the
device's own edge (R293), the largest lane skew of a marker row (R287), the round trip of an echo (R288), in ps. -/
structure PortMeas where
  arrivalPs : Int := 0
  skewPs : Nat := 0
  roundTripPs : Nat := 0
  deriving DecidableEq, Repr, Inhabited

/-- What the outside world and the parts under test show while the start sequence of Table 18-2 runs. -/
structure StartConds where
  /-- sensor readings when the base firmware starts and at the end of step 5, in m°C: (sensor, reading);
  a sensor not listed reads its last reading -/
  readings : List (Nat × Int) := []
  /-- R498: regeneration of the device-unique key succeeds -/
  pufOk : Bool := true
  /-- R430: a crystal starts, so that PLL_S becomes PROVEN in step 2 -/
  pllOk : Bool := true
  /-- R519: the journal can be read -/
  journalOk : Bool := true
  /-- R512: image kinds (1 to 3) whose stored image no longer stands as it was written in the selected slot -/
  imageFails : List Nat := []
  /-- R132: the repair map passes its CRC -/
  repairMapOk : Bool := true
  /-- R403: the persisted set passes its check -/
  persistedOk : Bool := true
  /-- R522, R523: the previous firmware's settings area can be read -/
  settingsOk : Bool := true
  /-- R137: regions whose blank fill does not complete in 40 µs -/
  slowFills : List Nat := []
  /-- Table 18-5: look-back stacks that fail training at step 5 -/
  failedStacks : List Nat := []
  /-- step 6: every lane passes its near-end loopback self-test -/
  selfTestOk : Bool := true
  deriving DecidableEq, Repr, Inhabited

/-- What the handshakes show in one wave (R27, R36: their speed is the outside's, their order is not seen). -/
structure WaveIn where
  /-- R40: release registers whose token was not delivered by this boundary -/
  late : List Nat := []
  /-- R42: (region, waves accepted in this step), 1 where a region is not listed -/
  accepted : List (Nat × Nat) := []
  /-- R106: banks (64 n + b) with a scheduled access not complete at this boundary -/
  overruns : List Nat := []
  /-- R88: top outputs whose probe value has not arrived -/
  probeLate : List Nat := []
  /-- R225, R226: (transmit lane, idle blocks with which it fills the capacity left over in this step) -/
  fill : List (Nat × Nat) := []
  /-- R162: tokens with V = 0 of an old placement that a selector discards in this wave -/
  oldTokens : Nat := 0
  deriving DecidableEq, Repr, Inhabited

/-- One sensor conversion (R457, R471): none is a conversion that did not complete. -/
structure SensorIn where
  sensor : Nat := 0
  reading : Option Int := none
  deriving DecidableEq, Repr, Inhabited

/-- A received CAN FD frame (R408 to R411). -/
structure CanFrame where
  /-- CAN FD with a 29-bit identifier; false: classical, or an 11-bit identifier -/
  fd : Bool := true
  id : BitVec 29 := 0
  data : List Byte := []
  deriving DecidableEq, Repr, Inhabited

/-- A faulty cell that a march finds (R126): row, word column, the bit of the word's eight raw 14-bit bytes, and whether
it lies in a spare. -/
structure MarchFault where
  row : Nat := 0
  col : Nat := 0
  bit : Fin 112 := 0
  spare : Bool := false
  deriving DecidableEq, Repr, Inhabited

end Sys2Proof
end

