-- ==== Sys2Proof/Syntax.lean ====
section
/-! DEFINITION. Syntax.lean: the commands and events of the SPN4096, one constructor for each row of
spec/opcode_table.json (95_what_each_step_holds.md: each is one whole, indivisible step). The operands are what
the command carries from outside: the requester, the entry's unit, a received block or packet, a measurement. -/

namespace Sys2Proof

/-- The commands of the table. r is the requester of a dictionary access; n a region, b a bank, q a quadrant,
l a lane, g a lane group, p a stack port (a plane in scrub rows), k a kernel, stack or slot, x a router,
e a DMA engine, d a clock domain, i a clock source or a sensor, c a CAN channel (a crossing count in the look-back rows), m a mailbox, src a fault source. -/
inductive Instr where
  /-- POWER_ON_RESET (R529): Release of the power-on reset runs the power-up sequence from step 1: straps latched, firmware started, keep store read, regions blank-filled, stacks trained, lanes self-tested and the bundle loaded. -/
  | powerOnReset (straps : BitVec 18) (c : StartConds)
  /-- BUNDLE_ACTIVATION (R56): Once the crossing source is tracking, the bundle is activated: PLL_X starts, user kernels start, the wave engine goes OFF to STOPPED and the start-up switch is armed. -/
  | bundleActivation (fxMeasured : Nat)
  /-- DEVICE_RESET_COMMAND (R533): A write of 1 to 0x1100:01 performs a device reset, which runs the sequence from step 2 with every plane zeroised. -/
  | deviceResetCommand (r : Requester) (c : StartConds)
  /-- WARM_RESET_COMMAND (R534): A write of 2 to 0x1100:01 performs a warm reset: engine OFF, regions reset, user kernels restarted, engine STOPPED, and rejoin at (XN + D):0. -/
  | warmResetCommand (r : Requester)
  /-- RESET_N_ASSERT (R552): RESET_N held low for 10 µs or longer causes a device reset. -/
  | resetNAssert (widthNs : Nat) (c : StartConds)
  /-- POWER_LOSS (R545): A rail below 90 % for more than 10 µs asserts the power-on reset again, with the tamper response first where it applies. -/
  | powerLoss (rail : Nat) (lowNs : Nat) (tamperWindow : Bool)
  /-- CROSSING_START (R25): The crossing edge opens a crossing at step 0: the ring counters advance, TICK events fire, heartbeats are counted and crossing markers are sent. -/
  | crossingStart
  /-- WAVE_INJECTION (R27): At every step boundary each injection point emits one token, and together they form one wave that runs through the fabric. -/
  | waveInjection (w : WaveIn)
  /-- LATE_TOKEN_DISCARD (R41): A token arriving at a release register after its release point is discarded and counted. -/
  | lateTokenDiscard (reg : Nat) (wtag : Nat)
  /-- INPUT_DEADLINE_MISSED (R45): A block absent from the deskew buffer at its input deadline is carried as BV = 1, counted, and raises the cause. -/
  | inputDeadlineMissed (lane : Nat) (block : Nat)
  /-- PACE_SAMPLE (R49): At each pace sample interval the monitors are read, slack is computed and the governor acts on the least slack. -/
  | paceSample (readings : List (Nat × Nat))
  /-- LEAST_SLACK_RESET (R64): A write of 0x4040+n:05 sets the least slack to the current slack. -/
  | leastSlackReset (r : Requester) (n : Nat)
  /-- RUN_START (R57): Run command 1 accepts a start at S0 after the lead, order and state checks. -/
  | runStart (r : Requester)
  /-- RUN_STOP (R57): Run command 2 accepts a stop at E after the lead, order and state checks. -/
  | runStop (r : Requester)
  /-- RUN_CANCEL (R57): Run command 3 withdraws the pending stop, or else the pending start. -/
  | runCancel (r : Requester)
  /-- RUN_BOUNDARY (R56): At start wave S0 the engine enters PRIMING, RWR values take effect and queue states reset. -/
  | runBoundary
  /-- PRIMING_END (R56): At wave S0 + L the engine enters RUNNING. -/
  | primingEnd
  /-- STOP_WAVE (R56): At stop wave E the engine enters DRAINING, and lane and stack-port tokens become void. -/
  | stopWave
  /-- DRAIN_END (R56): At wave E + L the engine enters STOPPED. -/
  | drainEnd
  /-- SPAN_REARM (R86): A latched span is rearmed at the first wave of the next crossing after a clean scrub, a switch, a command or a region reset. -/
  | spanRearm (span : Nat)
  /-- REARM_SPANS (R86): A write of 1 to 0x4100+n:08 requests a rearm of every latched span owned by the region. -/
  | rearmSpans (r : Requester) (n : Nat)
  /-- NOC_READ (R330): A read packet reaches its target and is answered with word statuses and data in response trains. -/
  | nocRead (p : Packet) (waits : Nat)
  /-- NOC_WRITE (R330): A write packet reaches its target and is answered with one status unit. -/
  | nocWrite (p : Packet) (waits : Nat)
  /-- NOC_MESSAGE (R385): A message packet is placed in the target kernel's inbox and answered. -/
  | nocMessage (p : Packet)
  /-- NOC_RETRIEVE (R270): A retrieval packet reaches a look-back controller, which answers it, holds it, or returns expired or invalid. -/
  | nocRetrieve (p : Packet)
  /-- BIT_SET_ALIAS_WRITE (R112): A write through the bit-set view sets the written 1 bits of each enabled byte in one read-modify-write. -/
  | bitSetAliasWrite (master : Nat) (addr : Nat) (wcnt : Nat) (last : Nat) (data : List Word64) (waits : Nat)
  /-- BIT_CLEAR_ALIAS_WRITE (R112): A write through the bit-clear view clears the written 1 bits of each enabled byte in one read-modify-write. -/
  | bitClearAliasWrite (master : Nat) (addr : Nat) (wcnt : Nat) (last : Nat) (data : List Word64) (waits : Nat)
  /-- PATROL_READ (R124): The patrol reader reads one word of a patrolled bank in a free slot, corrects it and reports errors. -/
  | patrolRead (n : Nat) (b : Nat)
  /-- BLANK_FILL_END (R120): A region's blank fill ends, its banks become ready, and it enters LOADING. -/
  | blankFillEnd (n : Nat)
  /-- BLANK_FILL_TIMEOUT (R137): A blank fill not complete within 40 µs raises its cause, and the region stays off. -/
  | blankFillTimeout (n : Nat)
  /-- MARCH_START (R134): March command OP 0b01 starts a destructive or preserving march of a bank, region or quadrant. -/
  | marchStart (r : Requester) (q : Nat) (w : BitVec 32)
  /-- MARCH_CANCEL (R134): March command OP 0b10 cancels the march at the end of the current row. -/
  | marchCancel (r : Requester) (q : Nat) (w : BitVec 32)
  /-- MARCH_BANK_END (R130): When a bank's test ends, spares are allocated, repairs take effect, or the bank is marked failed. -/
  | marchBankEnd (q : Nat) (n : Nat) (b : Nat) (faults : List MarchFault) (waits : Nat)
  /-- MARCH_END (R131): At the end of a march command, the repair map is written to the keep store with a new generation. -/
  | marchEnd (q : Nat) (written : Bool)
  /-- CLEAR_REPAIR_MAP (R136): A write of 1 to 0x5111:05 erases the stored repair map, effective at the next power-up. -/
  | clearRepairMap (r : Requester)
  /-- CONFLICT_COUNTER_CLEAR (R136): A write of 0x51F0+q:m+1 sets a conflict counter to 0. -/
  | conflictCounterClear (r : Requester) (q : Nat) (m : Nat)
  /-- HALT (R142): Region command 1 halts the region as its state permits and records 0xFFFF. -/
  | halt (r : Requester) (n : Nat)
  /-- RESUME (R158): Region command 2 schedules a HALTED region to resume at the command wave. -/
  | resume (r : Requester) (n : Nat)
  /-- RESET (R158): Region command 3 puts the region in RESETTING with initial values, to rejoin at the command wave in INIT mode. -/
  | reset (r : Requester) (n : Nat)
  /-- POWER_OFF (R142): Region command 4 closes the region's interface and powers it off after the drain. -/
  | powerOff (r : Requester) (n : Nat)
  /-- POWER_ON (R158): Region command 5 queues an OFF region for power-on. -/
  | powerOn (r : Requester) (n : Nat)
  /-- REGION_SWITCH_ON (R452): A queued region is switched on when the 4-per-100 µs limit allows, opens its interface and begins FILLING. -/
  | regionSwitchOn (n : Nat) (switchOk : Bool)
  /-- RESUME_WAVE (R142): At the resume wave a HALTED region becomes ACTIVE, or the resume is dropped while the thermal halt holds. -/
  | resumeWave (n : Nat)
  /-- REJOIN_WAVE (R142): At the rejoin wave a RESETTING region becomes ACTIVE, or HALTED while the thermal halt holds. -/
  | rejoinWave (n : Nat)
  /-- SLOT_ARM (R148): Slot command 1 arms a switch after its checks, or refuses it with a reason. -/
  | slotArm (r : Requester) (k : Nat)
  /-- SLOT_CANCEL (R169): Slot command 2 cancels an armed switch, but not within 2 µs of its wave. -/
  | slotCancel (r : Requester) (k : Nat)
  /-- SWITCH_WAVE (R149): At an armed switch's wave the span check is repeated and every named region changes plane atomically, or the switch is cancelled. -/
  | switchWave (k : Nat)
  /-- GOLDEN_PLANE_WRITE (R154): A write of 0x4100+n:15 designates a golden plane after the VALID and identity checks. -/
  | goldenPlaneWrite (r : Requester) (n : Nat) (v : Nat)
  /-- GOLDEN_SWITCH (R155): At wave (XN_d + 2):0 the region switches to its golden plane, or it is halted if the golden plane is unusable. -/
  | goldenSwitch (n : Nat)
  /-- MIGRATION_START (R160): Migration command 1 arms the migration of a map entry after the checks of R161, powering on the spare if needed. -/
  | migrationStart (r : Requester)
  /-- MIGRATION_REVERT (R164): Migration command 2 reverts a completed migration with the roles exchanged. -/
  | migrationRevert (r : Requester)
  /-- MIGRATION_CANCEL (R169): Migration command 3 cancels an armed migration before W − k. -/
  | migrationCancel (r : Requester)
  /-- MIGRATION_OVERLAP_WAVE (R160): At wave W − k the spare switches to its spare plane in INIT mode, and both placements run. -/
  | migrationOverlapWave
  /-- MIGRATION_SWITCH_WAVE (R160): At wave W the function region switches to its donor plane in KEEP mode, and the selectors pass the spare's tokens. -/
  | migrationSwitchWave
  /-- STREAM_HEADER (R184): A received stream header is checked, and either every target pair enters LOADING or the stream is refused. -/
  | streamHeader (path : Nat) (bytes : List Byte)
  /-- STREAM_RECORD (R185): A received record is decrypted, checked and written to a frame or a bank, or the stream fails. -/
  | streamRecord (bytes : List Byte)
  /-- STREAM_TRAILER (R186): The trailer is checked and the tag compared, and the signature check starts when present. -/
  | streamTrailer (bytes : List Byte)
  /-- SIGNATURE_VERIFIED (R183): Completion of the signature check moves the load to validation, or fails it. -/
  | signatureVerified
  /-- FRAME_VALIDATION_DONE (R188): The frame validator ends and accepts the stream, making pairs VALID, or fails it. -/
  | frameValidationDone
  /-- STREAM_INACTIVITY_TIMEOUT (R185): No byte within the inactivity timeout fails the load with 0x21. -/
  | streamInactivityTimeout (path : Nat)
  /-- STREAM_PATH_END (R185): The path signalling the end before LENGTH bytes fails the load with 0x20. -/
  | streamPathEnd (path : Nat)
  /-- ZEROISE_DONE (R187): At the end of zeroising, the target pairs enter INVALID. -/
  | zeroiseDone
  /-- LOAD_START (R180): Load command 1 starts a load from the keep store or the boot flash. -/
  | loadStart (r : Requester)
  /-- LOAD_CANCEL (R196): Load command 2 fails the current load with 0x2B. -/
  | loadCancel (r : Requester)
  /-- READBACK (R190): A guarded read of 0x4321:00 returns the decrypted frames of the named pair, or is refused. -/
  | readback (r : Requester)
  /-- INJECT_FRAME_ERROR (R197): A write of 0x4330:00 inverts one stored bit of a frame. -/
  | injectFrameError (r : Requester) (v : BitVec 64)
  /-- SCRUB_READ (R192): The scrubber reads a frame, finds it clean, corrects it, or finds it uncorrectable. -/
  | scrubRead (n : Nat) (p : Nat) (addr : Nat)
  /-- SCRUB_PASS (R193): Every 0.3 ms a scrub pass ends and the next begins, covering the active plane and plane k mod 8. -/
  | scrubPass (n : Nat)
  /-- SIGNAL_DETECTED (R210): A signal is detected on an enabled lane, which enters TRAINING. -/
  | signalDetected (l : Nat)
  /-- SIGNAL_LOST (R210): Loss of signal puts the lane in LOST and raises the cause. -/
  | signalLost (l : Nat)
  /-- TRAINING_DONE (R210): Clock recovery and the equaliser converge, and the lane enters LOCKING. -/
  | trainingDone (l : Nat)
  /-- BLOCK_LOCK (R210): 64 consecutive valid headers achieve block lock, and the lane enters ALIGNING. -/
  | blockLock (l : Nat)
  /-- LOSS_OF_LOCK (R210): 16 invalid headers among 64 blocks return the lane to LOCKING. -/
  | lossOfLock (l : Nat)
  /-- DATA_BLOCK (R214): A received data block is placed in the deskew buffer as the next block of the current crossing, or dropped. -/
  | dataBlock (l : Nat) (header : BitVec 2) (raw : Word64) (marginPs : Int)
  /-- CROSSING_MARKER (R213): A received crossing marker is accepted or rejected by lag and order, and opens the crossing, admits the lane, or makes it a stranger. -/
  | crossingMarker (l : Nat) (raw : Word64) (offsetPs : Int)
  /-- ALIGNMENT_MARKER (R219): A received alignment marker is taken in clear and matched against the expected lane and SID. -/
  | alignmentMarker (l : Nat) (raw : Word64) (skewPs : Nat)
  /-- SOURCE_IDENTIFIER_BLOCK (R219): A received source-identifier block completes or breaks a match. -/
  | sourceIdentifierBlock (l : Nat) (raw : Word64)
  /-- USER_CONTROL_BLOCK (R212): A received user-control block is a payload block with UC = 1. -/
  | userControlBlock (l : Nat) (raw : Word64) (marginPs : Int)
  /-- PAIR_ROLE_BLOCK (R212): A received pair-role block on a field lane is a payload block with UC = 1. -/
  | pairRoleBlock (l : Nat) (raw : Word64) (marginPs : Int)
  /-- IDLE_BLOCK (R207): A received idle block is fill and is not payload. -/
  | idleBlock (l : Nat) (raw : Word64)
  /-- READMIT (R222): A write of 0x3000+g:13 permits the readmission of stranger lanes. -/
  | readmit (r : Requester) (g : Nat) (mask : BitVec 8)
  /-- LANE_CONFIGURATION_WRITE (R240): A write of a lane configuration word applies at once and retrains the lane on a rate, mode or RXEN change. -/
  | laneConfigurationWrite (r : Requester) (l : Nat) (w : Word64)
  /-- CLEAR_COUNTERS (R242): A write of 1 to 0x3100+l:16 clears the lane counters. -/
  | clearCounters (r : Requester) (l : Nat)
  /-- TX_ALIGNMENT_MARKER (R225): Every 16,384 blocks a transmit lane sends an alignment marker and a source-identifier block, and applies a new emphasis table. -/
  | txAlignmentMarker (l : Nat)
  /-- TIMING_CROSSING_MARKER (R232): A crossing marker on TIMA or TIMB advances the input toward TRACKING and may set the crossing edge. -/
  | timingCrossingMarker (inp : Nat) (header : BitVec 2) (raw : Word64) (offsetPs : Int)
  /-- TIMING_INPUT_LOST (R232): A timing input falls to DOWN and raises the input-lost cause. -/
  | timingInputLost (inp : Nat)
  /-- SOURCE_MOVE (R233): At the next crossing edge the crossing source moves to the other input or to the flywheel. -/
  | sourceMove
  /-- SELECTION_MODE_WRITE (R233): A write of 0x3300:01 selects the crossing source mode, which may move the source. -/
  | selectionModeWrite (r : Requester) (v : Nat)
  /-- TIMING_USER_CONTROL (R238): A user-control block on the active timing input is passed to region 0 and recorded. -/
  | timingUserControl (inp : Nat) (header : BitVec 2) (raw : Word64)
  /-- SLOT_WRITTEN (R255): The controller completes the write of a slot's lines and answers the requests held for it. -/
  | slotWritten (stream : Nat) (c : Nat)
  /-- SLOT_WRITE_LATE (R277): A slot not written within R21 raises its cause. -/
  | slotWriteLate (stream : Nat) (c : Nat)
  /-- CLASS_C_RESTART (R257): Class C restarts after the store has been cool for the cool hold time. -/
  | classCRestart
  /-- REFRESH (R264): A controller refreshes its stack within the window of its band. -/
  | refresh (k : Nat)
  /-- LOOKBACK_SCRUB_READ (R265): The look-back kernel reads the next line, corrects it, or skips it if it is due to be overwritten. -/
  | lookbackScrubRead (k : Nat)
  /-- RECORD_READ (R273): A read of 0x5841:00 retrieves the slot of the named stream and crossing. -/
  | recordRead (r : Requester)
  /-- BAR2_READ (R272): A BAR2 read returns line data with the line code applied, with poison or abort on error. -/
  | bar2Read (offset : Nat) (length : Nat)
  /-- BAR2_WRITE (R347): A write to BAR2 is discarded and counted. -/
  | bar2Write (offset : Nat) (bytes : List Byte)
  /-- INJECT_LINE_ERROR (R276): A write of 0x5860:00 XORs a mask into one stored symbol of a line. -/
  | injectLineError (r : Requester) (v : BitVec 64)
  /-- STACK_FAILED (R275): A stack fails training or loses its link, and its streams are no longer stored. -/
  | stackFailed (k : Nat)
  /-- PORT_CROSSING_MARKER (R293): A crossing marker on a stack port aligns ports, measures the edge offset and sets the flock trim. -/
  | portCrossingMarker (p : Nat) (blocks : List PortBlock) (arrivalPs : Int)
  /-- PORT_PAIR_ROLE_BLOCK (R310): A pair-role block on a stack port updates the epoch and may demote a lead. -/
  | portPairRoleBlock (p : Nat) (blocks : List PortBlock)
  /-- PORT_ALIGNMENT_MARKER (R287): A stack-port alignment marker is matched against the flock table, admitting the port or making it a stranger. -/
  | portAlignmentMarker (p : Nat) (blocks : List PortBlock) (skewPs : Nat)
  /-- WAVE_RECORD (R284): A wave record arrives in the port buffer for injection H waves after its release. -/
  | waveRecord (p : Nat) (blocks : List PortBlock)
  /-- HEARTBEAT (R301): A received heartbeat resets the missed count and compares digests. -/
  | heartbeat (p : Nat) (blocks : List PortBlock)
  /-- ITEM (R303): A mirror accepts the next item in sequence and applies it. -/
  | item (p : Nat) (blocks : List PortBlock)
  /-- REFUSAL (R304): A mirror's refusal makes the lead refuse the arm with the same reason. -/
  | refusal (p : Nat) (blocks : List PortBlock)
  /-- RUN (R295): A member applies START and STOP from a run message, and forwards it if it is a branch. -/
  | run (p : Nat) (blocks : List PortBlock)
  /-- RUN_MESSAGE_REPEAT (R295): Every 1,024 crossings the bellwether resends the run message downwards. -/
  | runMessageRepeat
  /-- YIELD (R307): A mirror accepts a yield and takes over at the next boundary. -/
  | yield (p : Nat) (blocks : List PortBlock)
  /-- ECHO_REQUEST (R290): An echo request is answered 20 ns after it arrives. -/
  | echoRequest (p : Nat) (blocks : List PortBlock)
  /-- ECHO_ANSWER (R288): An echo answer gives the round trip and the cable delay c. -/
  | echoAnswer (p : Nat) (blocks : List PortBlock) (roundTripPs : Nat)
  /-- PAIR_RESET (R314): A mirror accepts a pair reset from a lead whose epoch is not earlier, and performs the pair-commanded reset. -/
  | pairReset (p : Nat) (blocks : List PortBlock)
  /-- THROTTLE (R315): A lead receiving a mirror's throttle message arms the cool switch. -/
  | throttle (p : Nat) (blocks : List PortBlock)
  /-- CABLE_RECHECK (R288): Every 65,536 crossings an UP port re-measures its cable delay. -/
  | cableRecheck (p : Nat) (roundTripPs : Nat)
  /-- TAKEOVER (R307): A mirror whose missed heartbeats reach N, or that accepted a yield, becomes LEAD with the next epoch. -/
  | takeover
  /-- PARTNER_ABSENT (R313): A lead counting N missed mirror heartbeats records the partner as absent. -/
  | partnerAbsent
  /-- MIRROR_RESEND (R302): An acknowledgement stalled for 4 crossings makes the lead resend from the first unacknowledged message. -/
  | mirrorResend
  /-- PAIR_JOIN_TIMEOUT (R299): A mirror port not UP within 2 s of activation lets a half become LEAD. -/
  | pairJoinTimeout
  /-- PAIR_YIELD_COMMAND (R308): A write of 1 to 0x8100:0D makes the lead send a yield. -/
  | pairYieldCommand (r : Requester)
  /-- PAIR_RESET_COMMAND (R314): A write of 2 to 0x8100:0D makes the lead send a pair reset. -/
  | pairResetCommand (r : Requester)
  /-- PORT_CONFIGURATION_WRITE (R319): A write of a port configuration word, refused while running or on a MODE mismatch. -/
  | portConfigurationWrite (r : Requester) (p : Nat) (w : Word64)
  /-- PORT_CLEAR_COUNTERS (R319): A write of 1 to 0x3400+p:11 clears the port counters. -/
  | portClearCounters (r : Requester) (p : Nat)
  /-- NOC_RESPONSE (R384): A response packet reaches the requester's interface, which stores its data and completes the request on LP = 1. -/
  | nocResponse (p : Packet)
  /-- RESPONSE_TIMEOUT (R333): No LP = 1 packet within the response timeout completes the request with NSTAT 3. -/
  | responseTimeout (node : Nat) (tag : Nat)
  /-- ROUTER_DRAIN (R334): Router command 1 starts a drain, and the router refuses requests once every mask holds its bit. -/
  | routerDrain (r : Requester) (x : Nat)
  /-- ROUTER_RETURN (R334): Router command 2 returns an OUT router to IN. -/
  | routerReturn (r : Requester) (x : Nat)
  /-- ROUTER_OUT (R334): An empty draining router enters OUT 12 µs after it began refusing. -/
  | routerOut (x : Nat)
  /-- DRAIN_TIMEOUT (R334): A router not OUT within the drain timeout is forced OUT and its packets are discarded. -/
  | drainTimeout (x : Nat) (held : Nat)
  /-- BOUNCE (R335): A request refused for 2 µs is bounced back with NSTAT 1, and a refused response is discarded. -/
  | bounce (x : Nat) (port : Nat) (p : Packet)
  /-- REGION_CLOSED (R338): A closing interface with no accepted request and no reserved slot enters CLOSED, and power is removed. -/
  | regionClosed (n : Nat) (durationNs : Nat)
  /-- CLOSE_TIMEOUT (R338): A close not done in time answers the remaining requests with NSTAT 2 and powers off. -/
  | closeTimeout (n : Nat) (durationNs : Nat)
  /-- PCIE_CONFIGURATION_REQUEST (R343): A configuration request is answered, with retry status until the firmware starts. -/
  | pcieConfigurationRequest (reg : Nat) (write : Option (BitVec 32))
  /-- BAR4_READ (R346): A BAR4 read is split into open accesses and completed, poisoned, or aborted. -/
  | bar4Read (offset : Nat) (firstBe : BitVec 4) (lastBe : BitVec 4) (dws : Nat) (waits : Nat)
  /-- BAR4_WRITE (R346): A BAR4 write is split into open accesses in address order, and stops at the first refusal. -/
  | bar4Write (offset : Nat) (firstBe : BitVec 4) (lastBe : BitVec 4) (data : List (BitVec 32)) (waits : Nat)
  /-- MSIX_MESSAGE (R350): A pending, unmasked vector sends its message when its holdoff allows. -/
  | msixMessage (v : Nat) (entry : BitVec 128)
  /-- MSIX_HOLDOFF_END (R350): At the end of a holdoff, the raises combined during it are sent as one message. -/
  | msixHoldoffEnd (v : Nat) (entry : BitVec 128)
  /-- SOFTWARE_TRIGGER (R354): A write of 0x6140+r:04 sends the readout kernel a soft trigger message. -/
  | softwareTrigger (r : Requester) (k : Nat) (token : Word64)
  /-- PRODUCER_INDEX_WRITE (R357): A write of P passes descriptors to the DMA engine, and is refused if it overruns the ring. -/
  | producerIndexWrite (r : Requester) (e : Nat) (p : BitVec 32)
  /-- ENGINE_START (R366): Engine command 1 starts a DMA engine. -/
  | engineStart (r : Requester) (e : Nat)
  /-- ENGINE_STOP (R365): Engine command 2 stops the engine and closes its buffer with RESULT 2. -/
  | engineStop (r : Requester) (e : Nat)
  /-- ENGINE_CLEAR_ERROR (R366): Engine command 3 clears ERROR and stops the engine. -/
  | engineClearError (r : Requester) (e : Nat)
  /-- FRAGMENT_WRITTEN (R359): The engine completes a fragment's writes to host memory, writes STATUS and sends its vector. -/
  | fragmentWritten (e : Nat) (bufAddr : Word64) (bufSize : BitVec 32)
  /-- BUFFER_FLUSH (R358): A buffer idle for the flush time is closed with RESULT 1. -/
  | bufferFlush (e : Nat)
  /-- DESCRIPTOR_READ_ERROR (R360): An error on a descriptor read puts the engine in ERROR. -/
  | descriptorReadError (e : Nat)
  /-- READOUT_LANE_FRAGMENT (R363): A fragment is sent on a readout lane between user-control blocks, or dropped when the queue is full. -/
  | readoutLaneFragment (trig : Nat) (bytes : List Byte)
  /-- PCIE_RESET (R364): PERST_N, a hot reset, a link-down reset or a function-level reset resets only the host interface. -/
  | pcieReset (kind : Nat)
  /-- MV (R374): 16-bit rd = rs. -/
  | mv (k : Nat) (rd : Nat) (rs : Nat)
  /-- ADD (R374): 16-bit rd = rd + rs. -/
  | add (k : Nat) (rd : Nat) (rs : Nat)
  /-- SUB (R374): 16-bit rd = rd − rs. -/
  | sub (k : Nat) (rd : Nat) (rs : Nat)
  /-- AND (R374): 16-bit rd = rd AND rs. -/
  | and (k : Nat) (rd : Nat) (rs : Nat)
  /-- OR (R374): 16-bit rd = rd OR rs. -/
  | or (k : Nat) (rd : Nat) (rs : Nat)
  /-- XOR (R374): 16-bit rd = rd XOR rs. -/
  | xor (k : Nat) (rd : Nat) (rs : Nat)
  /-- SLL (R374): 16-bit left shift of rd by rs[4:0]. -/
  | sll (k : Nat) (rd : Nat) (rs : Nat)
  /-- SRL (R374): 16-bit logical right shift of rd by rs[4:0]. -/
  | srl (k : Nat) (rd : Nat) (rs : Nat)
  /-- SRA (R374): 16-bit arithmetic right shift of rd by rs[4:0]. -/
  | sra (k : Nat) (rd : Nat) (rs : Nat)
  /-- JR (R374): Jump to rs with bit 0 cleared. -/
  | jr (k : Nat) (rs : Nat)
  /-- NOP (R374): No operation. -/
  | nop (k : Nat)
  /-- LI (R374): rd = sext(imm7). -/
  | li (k : Nat) (rd : Nat) (imm : BitVec 7)
  /-- C_ADDI (R374): 16-bit rd = rd + sext(imm7). -/
  | cAddi (k : Nat) (rd : Nat) (imm : BitVec 7)
  /-- LWS (R374): Load a word from g13 + 4 × imm7. -/
  | lws (k : Nat) (rd : Nat) (imm : BitVec 7)
  /-- SWS (R374): Store a word to g13 + 4 × imm7. -/
  | sws (k : Nat) (rd : Nat) (imm : BitVec 7)
  /-- BEQZ (R374): Branch if rs = 0. -/
  | beqz (k : Nat) (rs : Nat) (off : BitVec 7)
  /-- BNEZ (R374): Branch if rs ≠ 0. -/
  | bnez (k : Nat) (rs : Nat) (off : BitVec 7)
  /-- BLTZ (R374): Branch if rs < 0, signed. -/
  | bltz (k : Nat) (rs : Nat) (off : BitVec 7)
  /-- BGEZ (R374): Branch if rs ≥ 0, signed. -/
  | bgez (k : Nat) (rs : Nat) (off : BitVec 7)
  /-- ALU_ADD (R375): rd = rs1 + rs2. -/
  | aluAdd (k : Nat) (rd : Nat) (rs1 : Nat) (rs2 : Nat)
  /-- ALU_SUB (R375): rd = rs1 − rs2. -/
  | aluSub (k : Nat) (rd : Nat) (rs1 : Nat) (rs2 : Nat)
  /-- ALU_AND (R375): rd = rs1 AND rs2. -/
  | aluAnd (k : Nat) (rd : Nat) (rs1 : Nat) (rs2 : Nat)
  /-- ALU_OR (R375): rd = rs1 OR rs2. -/
  | aluOr (k : Nat) (rd : Nat) (rs1 : Nat) (rs2 : Nat)
  /-- ALU_XOR (R375): rd = rs1 XOR rs2. -/
  | aluXor (k : Nat) (rd : Nat) (rs1 : Nat) (rs2 : Nat)
  /-- ALU_SLL (R375): rd = rs1 shifted left by rs2[4:0]. -/
  | aluSll (k : Nat) (rd : Nat) (rs1 : Nat) (rs2 : Nat)
  /-- ALU_SRL (R375): rd = rs1 shifted logically right by rs2[4:0]. -/
  | aluSrl (k : Nat) (rd : Nat) (rs1 : Nat) (rs2 : Nat)
  /-- ALU_SRA (R375): rd = rs1 shifted arithmetically right by rs2[4:0]. -/
  | aluSra (k : Nat) (rd : Nat) (rs1 : Nat) (rs2 : Nat)
  /-- SETLT (R375): rd = 1 if rs1 < rs2, signed. -/
  | setlt (k : Nat) (rd : Nat) (rs1 : Nat) (rs2 : Nat)
  /-- SETLO (R375): rd = 1 if rs1 < rs2, unsigned. -/
  | setlo (k : Nat) (rd : Nat) (rs1 : Nat) (rs2 : Nat)
  /-- MUL (R375): rd = low 32 bits of rs1 × rs2. -/
  | mul (k : Nat) (rd : Nat) (rs1 : Nat) (rs2 : Nat)
  /-- MULHI (R375): rd = high 32 bits of the unsigned product. -/
  | mulhi (k : Nat) (rd : Nat) (rs1 : Nat) (rs2 : Nat)
  /-- ADDI (R375): rd = rs1 + sext(imm17). -/
  | addi (k : Nat) (rd : Nat) (rs1 : Nat) (imm : BitVec 17)
  /-- ANDI (R375): rd = rs1 AND zext(imm17). -/
  | andi (k : Nat) (rd : Nat) (rs1 : Nat) (imm : BitVec 17)
  /-- ORI (R375): rd = rs1 OR zext(imm17). -/
  | ori (k : Nat) (rd : Nat) (rs1 : Nat) (imm : BitVec 17)
  /-- XORI (R375): rd = rs1 XOR zext(imm17). -/
  | xori (k : Nat) (rd : Nat) (rs1 : Nat) (imm : BitVec 17)
  /-- SHI_SLL (R375): Immediate left shift. -/
  | shiSll (k : Nat) (rd : Nat) (rs1 : Nat) (sh : BitVec 5)
  /-- SHI_SRL (R375): Immediate logical right shift. -/
  | shiSrl (k : Nat) (rd : Nat) (rs1 : Nat) (sh : BitVec 5)
  /-- SHI_SRA (R375): Immediate arithmetic right shift. -/
  | shiSra (k : Nat) (rd : Nat) (rs1 : Nat) (sh : BitVec 5)
  /-- SETLTI (R375): rd = 1 if rs1 < sext(imm17), signed. -/
  | setlti (k : Nat) (rd : Nat) (rs1 : Nat) (imm : BitVec 17)
  /-- LHI (R375): rd = imm21 × 2^11. -/
  | lhi (k : Nat) (rd : Nat) (imm : BitVec 21)
  /-- LW (R375): Load a word. -/
  | lw (k : Nat) (rd : Nat) (rs1 : Nat) (imm : BitVec 17)
  /-- LH (R375): Load a halfword, sign-extended. -/
  | lh (k : Nat) (rd : Nat) (rs1 : Nat) (imm : BitVec 17)
  /-- LHU (R375): Load a halfword, zero-extended. -/
  | lhu (k : Nat) (rd : Nat) (rs1 : Nat) (imm : BitVec 17)
  /-- LB (R375): Load a byte, sign-extended. -/
  | lb (k : Nat) (rd : Nat) (rs1 : Nat) (imm : BitVec 17)
  /-- LBU (R375): Load a byte, zero-extended. -/
  | lbu (k : Nat) (rd : Nat) (rs1 : Nat) (imm : BitVec 17)
  /-- SW (R375): Store a word. -/
  | sw (k : Nat) (rs1 : Nat) (rs2 : Nat) (imm : BitVec 17)
  /-- SH (R375): Store a halfword. -/
  | sh (k : Nat) (rs1 : Nat) (rs2 : Nat) (imm : BitVec 17)
  /-- SB (R375): Store a byte. -/
  | sb (k : Nat) (rs1 : Nat) (rs2 : Nat) (imm : BitVec 17)
  /-- BEQ (R375): Branch if rs1 = rs2. -/
  | beq (k : Nat) (rs1 : Nat) (rs2 : Nat) (imm : BitVec 17)
  /-- BNE (R375): Branch if rs1 ≠ rs2. -/
  | bne (k : Nat) (rs1 : Nat) (rs2 : Nat) (imm : BitVec 17)
  /-- BLT (R375): Branch if rs1 < rs2, signed. -/
  | blt (k : Nat) (rs1 : Nat) (rs2 : Nat) (imm : BitVec 17)
  /-- BGE (R375): Branch if rs1 ≥ rs2, signed. -/
  | bge (k : Nat) (rs1 : Nat) (rs2 : Nat) (imm : BitVec 17)
  /-- BLO (R375): Branch if rs1 < rs2, unsigned. -/
  | blo (k : Nat) (rs1 : Nat) (rs2 : Nat) (imm : BitVec 17)
  /-- BHS (R375): Branch if rs1 ≥ rs2, unsigned. -/
  | bhs (k : Nat) (rs1 : Nat) (rs2 : Nat) (imm : BitVec 17)
  /-- CALL (R375): rd = PC + 4, then a PC-relative jump. -/
  | call (k : Nat) (rd : Nat) (imm : BitVec 21)
  /-- CALLR (R375): rd = PC + 4, then a jump to rs1 + imm17. -/
  | callr (k : Nat) (rd : Nat) (rs1 : Nat) (imm : BitVec 17)
  /-- SEND (R384): MSG SEND reserves a slot and a credit and sends a request block. -/
  | send (k : Nat) (rd : Nat) (rs1 : Nat)
  /-- RECV (R385): MSG RECV copies and removes the oldest inbox message. -/
  | recv (k : Nat) (rd : Nat) (rs1 : Nat)
  /-- TRIG (R386): MSG TRIG copies the next trigger message. -/
  | trig (k : Nat) (rd : Nat) (rs1 : Nat)
  /-- FRAG (R386): MSG FRAG hands a staged fragment to the DMA engine. -/
  | frag (k : Nat) (rd : Nat) (rs1 : Nat) (rs2 : Nat)
  /-- WAIT (R381): WAIT completes when a masked event is pending, or enters WAITING. -/
  | wait (k : Nat) (rd : Nat) (rs1 : Nat)
  /-- WAIT_WAKEUP (R381): A waiting kernel resumes when a masked event becomes pending. -/
  | waitWakeup (k : Nat)
  /-- CRD (R375): CTRL CRD reads a CSR. -/
  | crd (k : Nat) (rd : Nat) (csr : BitVec 12)
  /-- CWR (R382): CTRL CWR writes a CSR. -/
  | cwr (k : Nat) (rs1 : Nat) (csr : BitVec 12)
  /-- COR (R382): CTRL COR ORs into a CSR. -/
  | cor (k : Nat) (rs1 : Nat) (csr : BitVec 12)
  /-- DICT_READ (R387): DICT read stalls the kernel for a dictionary read. -/
  | dictRead (k : Nat) (rd : Nat) (rs1 : Nat) (rs2 : Nat)
  /-- DICT_WRITE (R387): DICT write stalls the kernel for a dictionary write. -/
  | dictWrite (k : Nat) (rd : Nat) (rs1 : Nat) (rs2 : Nat)
  /-- DICT_PUBLISH (R387): DICT publish writes a user value. -/
  | dictPublish (k : Nat) (rd : Nat) (rs1 : Nat) (v : Nat)
  /-- DICT_ANSWER (R387): The dictionary kernel answers a stalled DICT, and the kernel continues with the abort code in rd. -/
  | dictAnswer (k : Nat)
  /-- TRAP (R377): SYS TRAP faults the kernel with code 7. -/
  | trap (k : Nat) (rs1 : Nat)
  /-- SYNC (R376): SYS SYNC waits for earlier stores and makes code stores visible to fetch. -/
  | sync (k : Nat)
  /-- KERNEL_WATCHDOG (R377): No WAIT within the watchdog time faults the kernel with code 8. -/
  | kernelWatchdog (k : Nat)
  /-- KERNEL_RESTART (R378): A faulted user kernel restarts 1 ms after the fault, within its restart limit. -/
  | kernelRestart (k : Nat)
  /-- KERNEL_TIMER (R381): A kernel timer reaching 0 sets the TIMER event. -/
  | kernelTimer (k : Nat)
  /-- EYE_MEASUREMENT_DONE (R380): An eye measurement ends, sets EYERES done and sets the LANE event. -/
  | eyeMeasurementDone (k : Nat) (p : Nat) (errors : BitVec 24)
  /-- KERNEL_RESTART_COMMAND (R392): Kernel command 1 restarts a user kernel. -/
  | kernelRestartCommand (r : Requester) (k : Nat)
  /-- KERNEL_STOP (R392): Kernel command 2 stops a user kernel. -/
  | kernelStop (r : Requester) (k : Nat)
  /-- REGISTER_WRITE (R398): A write of an entry with no behaviour of its own is checked and takes effect, or is pending for RWR. -/
  | registerWrite (r : Requester) (index : Nat) (sub : Nat) (bytes : List Byte)
  /-- CAN_FRAME_RECEIVED (R410): A received CAN frame is classified as foreign, stranger, ignored, duplicate, or processed. -/
  | canFrameReceived (c : Nat) (f : CanFrame)
  /-- CAN_EXPEDITED_READ (R411): CS 0x01 reads an entry and answers with its value. -/
  | canExpeditedRead (c : Nat) (prio : Nat) (node : Nat) (tid : Nat) (index : Nat) (sub : Nat)
  /-- CAN_EXPEDITED_WRITE (R411): CS 0x02 writes an entry and answers once it takes effect. -/
  | canExpeditedWrite (c : Nat) (prio : Nat) (node : Nat) (tid : Nat) (index : Nat) (sub : Nat) (bytes : List Byte)
  /-- CAN_SEGMENTED_READ (R412): CS 0x03 initiates a segmented read of a DOMAIN entry. -/
  | canSegmentedRead (c : Nat) (prio : Nat) (node : Nat) (tid : Nat) (index : Nat) (sub : Nat) (win : Nat)
  /-- CAN_SEGMENTED_WRITE (R412): CS 0x04 initiates a segmented write of a DOMAIN entry. -/
  | canSegmentedWrite (c : Nat) (prio : Nat) (node : Nat) (tid : Nat) (index : Nat) (sub : Nat) (size : Nat) (win : Nat)
  /-- CAN_SEGMENT (R412): CS 0x05 carries the next segment of a transfer. -/
  | canSegment (c : Nat) (node : Nat) (tid : Nat) (seq : Nat) (bytes : List Byte)
  /-- CAN_ACKNOWLEDGE (R412): CS 0x06 acknowledges segments, after which the sender resends or continues. -/
  | canAcknowledge (c : Nat) (node : Nat) (tid : Nat) (seq : Nat) (win : Nat)
  /-- CAN_ABORT (R412): CS 0x07 aborts a transfer with a code. -/
  | canAbort (c : Nat) (node : Nat) (tid : Nat) (code : BitVec 32)
  /-- TRANSFER_TIMEOUT (R412): A transfer idle for the transfer timeout is aborted with 0x05040000. -/
  | transferTimeout (r : Requester) (tid : Nat)
  /-- CAN_HEARTBEAT (R417): Each heartbeat period the device broadcasts a heartbeat frame. -/
  | canHeartbeat
  /-- BUS_OFF (R416): A channel enters bus-off, discards its queue and raises the cause. -/
  | busOff (c : Nat)
  /-- BUS_OFF_RECOVERY (R416): After the bus-off delay the channel requests recovery and rejoins. -/
  | busOffRecovery (c : Nat) (recessive : Nat)
  /-- SAVE (R401): A write of "save" to 0x1002:02 writes the persisted set to the keep store. -/
  | save (r : Requester)
  /-- RESTORE_DEFAULTS (R402): A write of "load" to 0x1002:03 erases the persisted set. -/
  | restoreDefaults (r : Requester)
  /-- NODE_NUMBER_WRITE (R413): A write of 0x1008:01 sets the node number after the response and ends the duplicate silence. -/
  | nodeNumberWrite (r : Requester) (v : Nat)
  /-- MAILBOX_READ (R418): Mailbox OP 1 performs an expedited read. -/
  | mailboxRead (m : Nat) (index : Nat) (sub : Nat)
  /-- MAILBOX_WRITE (R418): Mailbox OP 2 performs an expedited write. -/
  | mailboxWrite (m : Nat) (index : Nat) (sub : Nat) (bytes : List Byte)
  /-- MAILBOX_SEGMENTED_READ (R419): Mailbox OP 3 starts a segmented read into DATA. -/
  | mailboxSegmentedRead (m : Nat) (index : Nat) (sub : Nat)
  /-- MAILBOX_SEGMENTED_WRITE (R419): Mailbox OP 4 starts a segmented write. -/
  | mailboxSegmentedWrite (m : Nat) (index : Nat) (sub : Nat) (total : Nat)
  /-- MAILBOX_SEGMENT (R419): Mailbox OP 5 carries or fetches the next segment. -/
  | mailboxSegment (m : Nat) (bytes : List Byte)
  /-- MAILBOX_ABORT (R418): Mailbox OP 6 aborts the mailbox transfer. -/
  | mailboxAbort (m : Nat)
  /-- DICT_PORT_READ (R423): A design's port head OP 0x01 reads an entry that is not guarded. -/
  | dictPortRead (tag : Nat) (index : Nat) (sub : Nat)
  /-- DICT_PORT_WRITE (R423): A design's port head OP 0x02 writes a permitted entry. -/
  | dictPortWrite (tag : Nat) (index : Nat) (sub : Nat) (bytes : List Byte)
  /-- DICT_PORT_SEGMENTED_OPEN (R423): Port OP 0x03 opens a segmented write. -/
  | dictPortSegmentedOpen (tag : Nat) (index : Nat) (sub : Nat)
  /-- DICT_PORT_SEGMENT (R423): Port OP 0x04 carries a segment. -/
  | dictPortSegment (tag : Nat) (bytes : List Byte)
  /-- DICT_PORT_SEGMENTED_CLOSE (R423): Port OP 0x05 closes a segmented write. -/
  | dictPortSegmentedClose (tag : Nat)
  /-- DESIGN_ANSWER (R422): The design's answer head completes a user-entry access. -/
  | designAnswer (tag : Nat) (res : Nat) (bytes : List Byte)
  /-- DESIGN_TIMEOUT (R422): No design answer within the design timeout aborts the access with 0x08000030. -/
  | designTimeout
  /-- MONITOR_TRIP (R429): A clock monitor trips its source on no edge, a bad count, or loss of lock, and domains switch. -/
  | monitorTrip (source : Nat) (reason : Nat) (hz : Nat)
  /-- SOURCE_PROVEN (R430): A source passes its start delay and becomes PROVEN, releasing held domains. -/
  | sourceProven (source : Nat) (hz : Nat)
  /-- SLOW_RATIO_MEASURE (R432): Every second OSC_S is measured against SYS. -/
  | slowRatioMeasure (num : Nat) (den : Nat)
  /-- PLLX_LOCK (R433): PLL_X is locked after 1,024 crossings within ±50 ps. -/
  | pllxLock (phasePs : Int) (hz : Nat)
  /-- PLLX_HOLDOVER (R435): A phase error above ±500 ps for 16 crossings puts PLL_X in holdover and the source on the flywheel. -/
  | pllxHoldover (phasePs : Int)
  /-- DOMAIN_SWITCH_COMMAND (R443): A write of 0x2040+d:04 switches a domain to a proven, permitted target. -/
  | domainSwitchCommand (r : Requester) (d : Nat) (target : Nat)
  /-- DOMAIN_SWITCH_DONE (R440): At the fifth new edge the domain runs on its new source. -/
  | domainSwitchDone (d : Nat) (stopUs : Nat)
  /-- DEAD_CLOCK_TIMEOUT (R441): An old clock without two edges in 64 OSC_S cycles has its stop forced. -/
  | deadClockTimeout (d : Nat)
  /-- DEAD_CLOCK_FLAG_CLEAR (R448): A write of 1 to 0x2040+d:09 clears the sticky flag. -/
  | deadClockFlagClear (r : Requester) (d : Nat)
  /-- GATE_CLOSE (R445): A gated block closes its gate after 64 idle cycles. -/
  | gateClose (d : Nat) (block : Nat)
  /-- AUTOMATIC_GATING (R453): A region LOADING for 10 s with no VALID plane is powered off. -/
  | automaticGating (n : Nat)
  /-- AVS_TRANSACTION_FAIL (R455): Three failed AVSBus transactions to a rail stop writes to it. -/
  | avsTransactionFail (rail : Nat) (afterSuccess : Bool)
  /-- VC_HOLD (R456): A write of 1 to 0x2102:02 puts VC in hold mode. -/
  | vcHold (r : Requester)
  /-- VC_LEAVE (R456): A write of 2 to 0x2102:02 returns VC to 0.70 V. -/
  | vcLeave (r : Requester)
  /-- VC_RETURNED (R456): VC reaches 0.70 V, and waiting header checks begin. -/
  | vcReturned
  /-- SENSOR_READ (R457): Every 1 ms sensors are read, bands and limits applied, and rates and failures evaluated. -/
  | sensorRead (readings : List SensorIn)
  /-- WARMUP_TIMEOUT (R461): Warm-up lasting longer than the timeout raises its cause. -/
  | warmupTimeout
  /-- COLD_START_RETRY (R459): Every 1 s a cold-refused start is retried. -/
  | coldStartRetry (c : StartConds)
  /-- THERMTRIP (R464): A comparator at 115 °C drives THERMTRIP_N low and holds the device in reset. -/
  | thermtrip
  /-- THROTTLE_ENFORCE (R467): A request still held at the end of the grace time is enforced with the first step. -/
  | throttleEnforce
  /-- THROTTLE_STEP (R468): After each step interval the next throttle step is taken. -/
  | throttleStep
  /-- THROTTLE_RELEASE (R469): Causes absent for the release time end throttling. -/
  | throttleRelease
  /-- THROTTLE_COMMAND_REQUEST (R466): A write of 1 to 0x2290:08 sets request cause bit 3. -/
  | throttleCommandRequest (r : Requester)
  /-- THROTTLE_COMMAND_WITHDRAW (R466): A write of 2 to 0x2290:08 clears cause bit 3. -/
  | throttleCommandWithdraw (r : Requester)
  /-- CLEAR_SENSOR_FAILURE (R472): A write of 1 to 0x2200+i:08 clears a sensor failure. -/
  | clearSensorFailure (r : Requester) (sensor : Nat)
  /-- HOTSPOT_MIGRATION (R473): A region above the median by the margin for the hot-spot time starts a migration. -/
  | hotspotMigration (n : Nat)
  /-- STATUS_ACKNOWLEDGE (R488): A write of 1 to 0x7100+s:01 clears the source status and mask. -/
  | statusAcknowledge (r : Requester) (src : Nat)
  /-- ACKNOWLEDGE_CLASSES (R488): A write of 0x7000:05 clears the named class bits in every mask. -/
  | acknowledgeClasses (r : Requester) (mask : BitVec 16)
  /-- ACKNOWLEDGE_ALL (R488): A write of 1 to 0x7000:06 clears every status and mask. -/
  | acknowledgeAll (r : Requester)
  /-- FORCE (R490): A write of 1 to 0x7100+s:02 raises source s with cause 0x10FF. -/
  | force (r : Requester) (src : Nat)
  /-- USER_RAISE (R491): A write of 0x7002:01 raises a user source. -/
  | userRaise (r : Requester) (v : BitVec 64)
  /-- CLEAR_HISTORY (R496): A write of 1 to 0x7010:04 empties the history queue. -/
  | clearHistory (r : Requester)
  /-- CLEAR_LOG (R493): A write of 1 to 0x7031:03 erases the fault log. -/
  | clearLog (r : Requester)
  /-- FAULT_LOG_WRITE (R493): A contain-level entry is appended to the keep-store fault log within 10 ms. -/
  | faultLogWrite (ok : Bool)
  /-- PROGRAM_OWNER_KEY (R500): A write of 0x2401:01 or 0x2401:02 fuses an owner key hash and stores the key. -/
  | programOwnerKey (r : Requester) (which : Nat) (bytes : List Byte)
  /-- REVOKE_OWNER_KEY_0 (R500): Fuse command 1 revokes owner key 0. -/
  | revokeOwnerKey0 (r : Requester)
  /-- REVOKE_OWNER_KEY_1 (R500): Fuse command 2 revokes owner key 1. -/
  | revokeOwnerKey1 (r : Requester)
  /-- REQUIRE_SIGNATURES (R499): Fuse command 3 blows the signatures-required fuse. -/
  | requireSignatures (r : Requester)
  /-- DISABLE_DEBUG (R499): Fuse command 4 blows the debug-disabled fuse. -/
  | disableDebug (r : Requester)
  /-- SVN_FLOOR_COMMAND (R513): A write of 0x2401:04 raises the SVN floor of one kind. -/
  | svnFloorCommand (r : Requester) (v : BitVec 32)
  /-- INSTALL_KEY (R502): A write of a blob to 0x2410+k:03 unwraps and installs a slot key. -/
  | installKey (r : Requester) (k : Nat) (blob : List Byte)
  /-- REVOKE_KEY (R501): A write of 1 to 0x2410+k:04 revokes a key slot. -/
  | revokeKey (r : Requester) (k : Nat)
  /-- CHALLENGE (R503): A read of 0x2420:01 issues a 48-byte challenge to the requester. -/
  | challenge (r : Requester)
  /-- RESPONSE (R503): A write of 0x2420:02 verifies the signed response and opens a session. -/
  | response (r : Requester) (bytes : List Byte)
  /-- CLOSE_SESSION (R504): A write of 1 to 0x2420:05 closes the session. -/
  | closeSession (r : Requester)
  /-- SESSION_IDLE_TIMEOUT (R504): A session without a guarded access for the idle time closes. -/
  | sessionIdleTimeout (r : Requester)
  /-- DEBUG_UNLOCK (R506): Debug command 1 unlocks the debug port. -/
  | debugUnlock (r : Requester)
  /-- DEBUG_LOCK (R506): Debug command 2 locks the debug port. -/
  | debugLock (r : Requester)
  /-- TAMPER (R507): A tamper sensor trip zeroises keys, closes sessions and performs a device reset. -/
  | tamper (kind : Nat)
  /-- TAMPER_WAIT_END (R508): The tamper wait ends and the pip loader starts the base firmware. -/
  | tamperWaitEnd (c : StartConds)
  /-- LOCK_CLAIM (R514): Update lock 1 claims the update lock. -/
  | lockClaim (r : Requester)
  /-- LOCK_RELEASE (R514): Update lock 2 releases the lock. -/
  | lockRelease (r : Requester)
  /-- LOCK_IDLE_TIMEOUT (R514): The lock idle time without an update access releases the lock. -/
  | lockIdleTimeout
  /-- IMAGE_WRITE (R515): An image written to 0x2510+j:06 fills the inactive slot and is verified when complete. -/
  | imageWrite (r : Requester) (j : Nat) (bytes : List Byte)
  /-- TRANSACTION_BEGIN (R516): Transaction command 1 begins a transaction and writes BEGIN. -/
  | transactionBegin (r : Requester)
  /-- TRANSACTION_COMMIT (R516): Transaction command 2 checks the requires ranges and commits. -/
  | transactionCommit (r : Requester)
  /-- TRANSACTION_ABORT (R516): Transaction command 3 aborts before commit. -/
  | transactionAbort (r : Requester)
  /-- PART_ACTIVATION (R517): With the engine OFF or STOPPED, the next part is selected and a device reset is performed. -/
  | partActivation (c : StartConds)
  /-- PART_CONFIRM (R520): A trial part whose condition holds confirms: CONFIRM is written and the slots become ACTIVE and PREVIOUS. -/
  | partConfirm
  /-- HOST_CONFIRM (R520): A write of 1 to 0x2501:06 gives the host confirmation. -/
  | hostConfirm (r : Requester)
  /-- CONFIRMATION_TIMEOUT (R521): A part not confirmed in time writes FALLBACK and END. -/
  | confirmationTimeout
  /-- FALLBACK_RESET (R521): After a failed trial, a device reset is performed once the engine is OFF or STOPPED. -/
  | fallbackReset (c : StartConds)
  /-- FIRMWARE_WATCHDOG (R521): Firmware that fails to serve the watchdog for 2 s causes a device reset. -/
  | firmwareWatchdog (c : StartConds)
  /-- VIO_OUT_OF_RANGE (R549): A bank whose VIOk is out of range for 10 µs goes to high impedance. -/
  | vioOutOfRange (k : Nat) (mv : Nat)
  /-- VIO_RESTORED (R549): A bank takes its drive again after VIOk has been in range for 1 ms. -/
  | vioRestored (k : Nat) (mv : Nat)
  /-- ILLEGAL_INSTRUCTION (R377): A kernel fetches an illegal encoding, such as form 0b11, an unlisted opcode or f5, or the fill halfword 0xFFFF, and faults with code 1. -/
  | illegalInstruction (k : Nat)
  /-- SOURCE_EDGE_AFTER_TRIP (R430): A TRIPPED clock source enters STARTING at its first edge after the trip, and its start delay runs afresh. -/
  | sourceEdgeAfterTrip (source : Nat)
  /-- ERROR_PASSIVE (R416): CAN bus errors move a channel's error counters across the ISO 11898-1 limits, into or out of the error-passive state, and raise the error-passive cause. -/
  | errorPassive (c : Nat) (tec : Nat) (rec : Nat) (losses : Nat)
  /-- LINK_TRAINING_DONE (R343): The PCI Express link finishes training and reports up, with its speed and width, raising the below-target cause when they fall short. -/
  | linkTrainingDone (speed : Nat) (width : Nat) (payload : Nat) (correctable : Nat) (uncorrectable : Nat)
  /-- TAMPER_COUNT_EXPIRY (R508): After 60 s of running without a tamper trip, the count of consecutive tamper resets returns to 0. -/
  | tamperCountExpiry
  /-- TRANSMIT_LOOP_RELOCK (R225): A group's transmit loops finish relocking after a rate change, and its transmit lanes leave electrical idle and send. -/
  | transmitLoopRelock (g : Nat)
  /-- SAVE_COMPLETE (R401): The new persisted set has been written in full and checked, replaces the old set, increments the generation and answers the save. -/
  | saveComplete (ok : Bool)
  /-- WARM_RESET_DONE (R534): Within 50 ms a warm reset completes: user kernels have restarted and the wave engine enters STOPPED with rejoins set at (XN + D):0. -/
  | warmResetDone
  /-- TYPE_ERROR (R205): A received control block whose TYPE is not listed, or whose CHK is wrong, is dropped and counted as a type or marker error. -/
  | typeError (l : Nat) (raw : Word64)
  deriving DecidableEq, Repr

end Sys2Proof
end

