-- ==== Sys2Proof/Decode.lean ====
section
/-! DEFINITION. Decode.lean: commands of the opcode table by their words. Every row of spec/opcode_table.json has an
empty list of fields: no word spells a command, and the decoder refuses each. The words of the kernels' own
instruction set (R372 to R375) are read and written in Machine/KernelWords.lean. -/

namespace Sys2Proof

/-- The command that a word of the table spells: none, since the table gives no row any bits. -/
def decodeTableWord (_nbits _w : Nat) : Option Instr := none

end Sys2Proof
end

