-- ==== Sys2Proof/Config.lean ====
section
/-! DEFINITION. Config.lean: what one implementation, one context bundle or one physical device fixes, and the
free values the spec leaves open. The plain structures here are the shapes of a design, a context bundle and a
kernel program; the opaque constants have no body, so nothing can be proved of their values. -/

namespace Sys2Proof

/-! ### The design that a personality describes (R66 to R92) -/

/-- The outputs of a cell that routing can pick up (R67). -/
inductive CellOut where
  | f | fa | fb | q0 | q1 | co | sum
  deriving DecidableEq, Repr, Inhabited

/-- A direction on the logic die (R66): that in which a span runs, or the edge of a region. -/
inductive Dir where
  | east | north | west | south
  deriving DecidableEq, Repr, Inhabited

/-- The lengths of the spans on the logic die, in tiles (R73). -/
inductive SpanLen where
  | one | four | sixteen
  deriving DecidableEq, Repr, Inhabited

/-- What brings a tile a signal from outside its region (R74, R75, R79): input idx of a border edge, or a riser whose
tap is in receive mode. -/
inductive PortIn where
  | border (side : Dir) (idx : Nat)
  | riser (r : Nat)
  deriving DecidableEq, Repr, Inhabited

/-- A signal as a tile takes it: a constant, an output of one of its 16 cells, a logic-die span that the tile numbered
origin drives and that ends here (R73), a bit of an injected token, a border input or riser, or the void flag of a
signal, which a void-aware input reads as data (R31). An input that receives migrated work has its border selector
(R75, R162): alt names the region whose work it was and the input of this tile that brings the old placement's token. -/
inductive Src where
  | const (b : Bool)
  | cell (c : Nat) (o : CellOut)
  | wire (dir : Dir) (len : SpanLen) (idx origin : Nat)
  | inj (point bit : Nat)
  | port (p : PortIn) (alt : Option (Nat × PortIn))
  | voidOf (x : Src)
  deriving DecidableEq, Repr, Inhabited

/-- Table modes of a cell (R68), and that of a cell that is not in use (Table 3-7). -/
inductive CellMode where
  | six | split | carry | off
  deriving DecidableEq, Repr, Inhabited

/-- Enable of a register (R70). -/
inductive EnableSel where
  | always | ce0 | ce1
  deriving DecidableEq, Repr, Inhabited

/-- The settings of one register of a cell (R69, R70). -/
structure RegCfg where
  used : Bool := false
  sel : BitVec 2 := 0
  enable : EnableSel := .always
  useSr : Bool := false
  init : Bool := false
  deriving DecidableEq, Repr, Inhabited

/-- The void settings of one output of a cell (Table 3-2): its bit of the void mask (0: the void flags of the cell's own
inputs do not enter the flag of its group; log entry 137), and its void-aware flag with the signal that sets the
flag of its group (R31). -/
structure OutVoid where
  mask : Bool := true
  aware : Option Src := none
  deriving DecidableEq, Repr, Inhabited

/-- Table mode, register settings and carry start of a cell (Table 3-2). -/
structure CellModes where
  mode : CellMode := .off
  reg0 : RegCfg := {}
  reg1 : RegCfg := {}
  carryStart : Bool := false
  deriving DecidableEq, Repr, Inhabited

/-- What the inputs A0 to A5 of a cell take (Table 3-2). -/
structure CellInputs where
  a0 : Src := .const false
  a1 : Src := .const false
  a2 : Src := .const false
  a3 : Src := .const false
  a4 : Src := .const false
  a5 : Src := .const false
  deriving DecidableEq, Repr, Inhabited

/-- Void settings of a cell's four outputs (R67): F (with FA), CO (with S, and FB of a cell that has no CO), Q0, Q1. -/
structure CellVoids where
  vf : OutVoid := {}
  vco : OutVoid := {}
  vq0 : OutVoid := {}
  vq1 : OutVoid := {}
  deriving DecidableEq, Repr, Inhabited

/-- One cell of a personality (R68 to R72, Table 3-2): its table, inputs, modes, void settings. -/
structure CellCfg extends CellModes, CellInputs, CellVoids where
  table : BitVec 64 := 0
  deriving DecidableEq, Repr, Inhabited

/-- Husk value of a held signal (R75, R144). -/
inductive Husk where
  | holdLast | zero | one
  deriving DecidableEq, Repr, Inhabited

/-- A logic-die span that a tile drives (R73); a source that is itself a received span of 4 or 16 tiles is a switch. -/
structure WireDrive where
  tile : Nat := 0
  dir : Dir := .east
  len : SpanLen := .one
  idx : Nat := 0
  src : Src := .const false
  deriving DecidableEq, Repr, Inhabited

/-- A border signal that a tile on an edge of its region drives (R74, R75). -/
structure BorderOut where
  tile : Nat := 0
  side : Dir := .east
  idx : Nat := 0
  src : Src := .const false
  husk : Husk := .zero
  deriving DecidableEq, Repr, Inhabited

/-- The mode of a riser tap (R79). A tap in drive mode has a separate driver-enable bit, a signal and a husk value. -/
inductive TapMode where
  | off
  | receive
  | drive (enable : Bool) (src : Src) (husk : Husk)
  deriving DecidableEq, Repr, Inhabited

/-- A riser tap of a tile (R79): riser r below 16 is that of horizontal track r, 16 + r that of vertical track r. -/
structure TapCfg where
  tile : Nat := 0
  riser : Nat := 0
  mode : TapMode := .off
  deriving DecidableEq, Repr, Inhabited

/-- The control lines of a tile (R70). -/
structure TileCtl where
  tile : Nat := 0
  ce0 : Src := .const true
  ce1 : Src := .const true
  sr : Src := .const false
  deriving DecidableEq, Repr, Inhabited

/-- A release register of a region (R38): its number, the tile at which its group is taken, its data bits from bit 0
up, its void rule, the regions from a register of which it is marked as fed (R150), and the compiled void value of a
pin (R43). -/
structure ReleaseCfg where
  id : Nat := 0
  tile : Nat := 0
  bits : List Src := []
  aware : Option Src := none
  fed : List Nat := []
  pinHusk : Husk := .zero
  deriving DecidableEq, Repr, Inhabited

/-- A scheduled access of a bank in the slot schedule (R104, R105): the bank of the region, the tile that presents it,
the slot, the port (0: A, 1: B), the waves it is made in (wave index congruent to phase
modulo every), and its signals. -/
structure SchedAcc where
  bank : Fin 64 := 0
  tile : Nat := 0
  slot : Nat := 0
  port : Fin 2 := 0
  every : Nat := 1
  phase : Nat := 0
  valid : Src := .const true
  addr : List Src := []
  dist : List Src := []
  enables : List Src := []
  data : List Src := []
  deriving DecidableEq, Repr, Inhabited

/-- Bank ports, border ports and release registers of a region (the region share of Table 3-2), with the descriptors
of its banks, bank 0 first (Table 4-1). -/
structure RegionShare where
  borders : List BorderOut := []
  releases : List ReleaseCfg := []
  accesses : List SchedAcc := []
  descriptors : List (BitVec 64) := []
  deriving DecidableEq, Repr, Inhabited

/-- A personality of one region, as a design: what the region's 8,192 frames mean (R171, R172). A cell's number is 16
times its tile's number (64 j + i) plus c; a token group of more than one bit (R29) lists the cell outputs in it. -/
structure RegionNet extends RegionShare where
  cells : List (Nat × CellCfg) := []
  tiles : List TileCtl := []
  groups : List (List (Nat × CellOut)) := []
  wires : List WireDrive := []
  taps : List TapCfg := []
  deriving DecidableEq, Repr, Inhabited

/-- The configuration bits of one cell in the groups of Table 3-2, in the order of R172. -/
structure CellBits where
  table : BitVec 64 := 0
  inputs : BitVec 60 := 0
  modes : BitVec 16 := 0
  voids : BitVec 8 := 0
  spans : BitVec 64 := 0
  risers : BitVec 24 := 0
  region : BitVec 20 := 0
  deriving DecidableEq, Repr, Inhabited

/-! ### The context bundle -/

/-- R44: the schedule of one receive lane: crossing offset a and the step of block j. -/
structure LaneSchedule where
  lane : Nat := 0
  offset : Nat := 0
  steps : List Nat := []
  deriving DecidableEq, Repr, Inhabited

/-- A kernel program image (Table 12-15): the fields of its header, of which CODELEN and DATALEN are the lengths of code
and data, byte 7 and bytes 40 to 63 among them. -/
structure Program where
  magic : Nat := 0x4B505247
  format : Nat := 1
  kind : Nat := 0
  mask : BitVec 64 := 0
  progId : Nat := 0
  entry : Nat := 0
  stack : Nat := 0
  code : List Byte := []
  data : List Byte := []
  crc : BitVec 32 := 0
  byte7 : Byte := 0
  bytes40 : List Byte := List.replicate 24 0
  deriving DecidableEq, Repr, Inhabited

/-- A user entry that the bundle declares (R420): key is index × 256 + sub-index; ty, acc and the flags as in
Tables 13-1 and 13-2 (acc 0: RO, 1: WO, 2: RW). -/
structure UserEntry where
  key : Nat := 0
  size : Nat := 4
  isBool : Bool := false
  isF32 : Bool := false
  isString : Bool := false
  acc : Nat := 2
  guarded : Bool := false
  persist : Bool := false
  deriving DecidableEq, Repr, Inhabited

/-- One port of the flock table (R291). -/
structure PortPlan where
  port : Nat := 0
  /-- 0: off, 1: flock, 2: mirror (Table 9-13) -/
  mode : Nat := 0
  upward : Bool := false
  /-- member number at the far end -/
  peer : Nat := 0
  /-- the port leads to the lead half, the unpaired bellwether or the branch (R293) -/
  reference : Bool := false
  deriving DecidableEq, Repr, Inhabited

/-- The flock table (R291). kind: 1 unpaired bellwether, 2 pair half, 3 branch, 4 leaf (R280). -/
structure FlockTable where
  flock : Nat := 0
  member : Nat := 0
  half : Option Nat := none
  kind : Nat := 1
  pair : Nat := 0
  /-- member 0 is a redundant pair -/
  paired : Bool := false
  members : BitVec 16 := 0
  ports : List PortPlan := []
  deriving DecidableEq, Repr, Inhabited

/-- A route of one interface (R328). -/
structure Route where
  node : Nat := 0
  dest : Nat := 0
  primary : BitVec 32 := 0xFFFFFFFF
  alternate : BitVec 32 := 0xFFFFFFFF
  deriving DecidableEq, Repr, Inhabited

/-- Credits that one interface holds for the request queue of one destination (R332). -/
structure Credit where
  node : Nat := 0
  dest : Nat := 0
  count : Nat := 0
  deriving DecidableEq, Repr, Inhabited

/-- A context bundle, as the device uses it. The layout of a bundle's payload is not in the spec; vals holds the
values that the bundle gives to dictionary entries (key index × 256 + sub-index): every entry whose Default is
Bundle, the pace table, the migration map, the roles, the slot map. -/
structure Bundle where
  id : Nat := 0
  /-- R1: family and member code of the parameter set the bundle was built for -/
  family : Nat := 0x53
  member : Nat := 0x40
  fx : Nat := 0
  S : Nat := 0
  L : Nat := 0
  slotMapId : Nat := 0
  vals : List (Nat × Nat) := []
  lanes : List LaneSchedule := []
  /-- frame stride L_k of each stack, 0 first (R249) -/
  strides : List Nat := []
  /-- (d, data bits) of the release register of derived stream d (R253) -/
  derivedBits : List (Nat × Nat) := []
  /-- transmit lanes that some plane drives from a release register (R226) -/
  releaseLanes : List Nat := []
  /-- its configuration streams, each as its bytes (R173 to R178) -/
  streams : List (List Byte) := []
  programs : List Program := []
  /-- R355, R379: bytes from 0x0010_0000 of a readout kernel that runs the standard program: its descriptor tables -/
  tables : List (Nat × List Byte) := []
  userEntries : List UserEntry := []
  /-- keys that the design may write through the dictionary port (R423) -/
  portPermit : List Nat := []
  flock : Option FlockTable := none
  routes : List Route := []
  routeGeneration : Nat := 0
  /-- FREV and KIND that transmit lanes send (R225) -/
  txFrev : Nat := 0
  txKind : Nat := 0
  /-- credits of each interface for the request queue of each destination (R332) -/
  credits : List Credit := []
  /-- (pin, mA) of the single-ended outputs of the I/O banks, pins numbered 24 to a bank (R548) -/
  drives : List (Nat × Nat) := []
  deriving DecidableEq, Repr, Inhabited

namespace Config

/-! ### Values that one device or one image fixes, and that the spec names without giving them -/

/-- DEVICE bits [15:0]: the stack revision, major and minor (Table 6-2). Log entry 10. -/
opaque stackRevision : BitVec 16
/-- 0x1000:03, unique per device. Log entry 10. -/
opaque serialNumber : BitVec 64
/-- 0x2400:02: SHA-384 of the Gwynuth root public key (Table 17-1). Log entry 10. -/
opaque vendorRootHash : BitVec 384
/-- 0x2400:06: the identity public key, 97 bytes (R498). Log entry 10. -/
opaque identityKey : List Byte
/-- 0x6100:09. Log entry 10. -/
opaque pcieDevice : BitVec 16
/-- 0x6100:0A. Log entry 10. -/
opaque pcieVendor : BitVec 16
/-- 0x6800:01: PROGID of the standard lane program. Log entry 10. -/
opaque standardLane : BitVec 32
/-- 0x6800:02: PROGID of the standard readout program. Log entry 10. -/
opaque standardReadout : BitVec 32
/-- 0x2200+i:06: the four neighbours of sensor i, [31:24] to [7:0] (R471). Log entry 10. -/
opaque sensorNeighbours : Nat → BitVec 32
/-- 0x2200+i:07: the model offset of sensor i, in m°C (R471). Log entry 10. -/
opaque sensorOffset : Nat → Int
/-- The image of Dellarin's standard program of a kind, 0 lane and 1 readout (R389): its code is not in the spec. Log
entry 11. -/
opaque standardProgram : Nat → Program
/-- A register of PCI Express configuration space that the spec does not lay out: what it is after a reset, and what a
write makes of it (R342). Log entry 194. -/
opaque cfgReset : Nat → BitVec 32
opaque cfgWritten : Nat → BitVec 32 → BitVec 32 → BitVec 32
/-- The register of configuration space at which a capability begins: 0 power management, 1 PCI Express, 2 MSI-X (R342). Log
entry 194. -/
opaque capReg : Nat → Nat
/-- Response slots of a network interface beyond its first (R332). Log entry 10. -/
opaque responseSlots : Nat → Nat
/-- Depth of a target's request queue (R332). Log entry 10. -/
opaque queueDepth : Nat → Nat

/-! ### Algorithms the spec names and does not lay down, and layouts it leaves to Dellarin -/

/-! The layout of the bits inside each group of Table 3-2 is fixed by Dellarin (R172): what each group sets. Log
entry 11. -/

/-- The table of a cell. -/
opaque tableOf : BitVec 64 → BitVec 64
/-- The inputs of a cell, from its number and the 10 bits of each. -/
opaque inputsOf : Nat → BitVec 60 → CellInputs
/-- The modes of a cell. -/
opaque modesOf : BitVec 16 → CellModes
/-- The void settings of a cell, from its number, its void bits and the input selection they draw on. -/
opaque voidsOf : Nat → BitVec 8 → BitVec 60 → CellVoids
/-- The control lines of a tile, from its number and the input selection of its cells 0 to 15. -/
opaque controlsOf : Nat → List (BitVec 60) → TileCtl
/-- The spans that a tile drives and its switches, from its number and the span shares of its cells 0 to 15. -/
opaque spansOf : Nat → List (BitVec 64) → List WireDrive
/-- The riser taps of a tile, from its number and the shares of its cells 0 to 15. -/
opaque tapsOf : Nat → List (BitVec 24) → List TapCfg
/-- The region settings, from the cells' region shares by cell number. -/
opaque regionOf : List (Nat × BitVec 20) → RegionShare
/-- The token groups of a region, from its cells' void and input settings by cell number. -/
opaque groupsOf : List (Nat × BitVec 8 × BitVec 60) → List (List (Nat × CellOut))
/-- The pins of IOB7 that are PRB[15:0] and then PRB_STB (R90). Log entry 10. -/
opaque probePins : List Nat
/-- The context bundle in an image's payload (R511). Log entry 11. -/
opaque bundleOf : List Byte → Bundle
/-- The bundle image in the boot flash at a byte offset (R528, R180); none where no image stands. Log entry 11. -/
opaque flashBundle : Nat → Option Bundle
/-- AES-256-GCM decryption: key, initialisation vector, byte offset of the piece, ciphertext (R178). Log entry 12. -/
opaque gcmDecrypt : BitVec 256 → BitVec 96 → Nat → List Byte → List Byte
/-- AES-256-GCM tag: key, initialisation vector, additional data, ciphertext (R178). Log entry 12. -/
opaque gcmTag : BitVec 256 → BitVec 96 → List Byte → List Byte → BitVec 128
/-- SHA-384 (R178, R499). Log entry 12. -/
opaque sha384 : List Byte → BitVec 384
/-- ECDSA P-384 verification of a 96-byte signature: public key, digest, signature (R177). Log entry 12. -/
opaque ecdsaOk : List Byte → BitVec 384 → List Byte → Bool
/-- ECDSA verification against the vendor root (R512). Log entry 12. -/
opaque vendorOk : BitVec 384 → List Byte → Bool
/-- ECDH with the identity private key, of an ephemeral public key (R502). Log entry 12. -/
opaque ecdh : List Byte → List Byte
/-- HKDF-SHA-384 to 32 bytes: input, salt, info (R502). Log entry 12. -/
opaque hkdf : List Byte → List Byte → List Byte → BitVec 256
/-- The vendor image key of slot 15 (R501). Log entry 12. -/
opaque vendorKey : BitVec 256

/-! ### Free values -/

/-- A fresh value of no stated kind, by the draw counter of State (log entry 13). -/
opaque free : Nat → Nat
/-- The 32 random bytes of a challenge, by the draw counter (R503). Log entry 13. -/
opaque random : Nat → List Byte
/-- The stored 576 bits of a look-back line that nothing has written since power-up (Table 8-9: not defined):
stack, line. Log entry 14. -/
opaque unwrittenLine : Nat → Nat → BitVec 576
/-- A line of the keep store of which the device keeps nothing that the spec lays out, and which no network write has
written (R330, R509). Log entry 90. -/
opaque keepLine : Nat → BitVec 512
/-- A line of a keep-store area that the device itself keeps, sealed or plain, as it reads in raw mode: line, contents of
the area (R498, R509). How an area arranges its contents is not in the spec. Log entry 90. -/
opaque areaLine : Nat → List Nat → BitVec 512
/-- A line of the keep store fails its write at a device time (R510). Log entry 214. -/
opaque keepFails : Nat → Bool
/-- What a counter reads after its greatest value, where the spec does not say that it saturates: key, value
before. Log entry 15. -/
opaque counterOver : Nat → Nat → Nat
/-- The stream that a bundle slot's image holds, as a load from the keep store reads it (R180). Log entry 11. -/
opaque keepStream : List Byte → List Byte
/-- What an I32 entry shows for a measure outside its range: key, measure. Log entry 166. -/
opaque beyondI32 : Nat → Int → Nat
/-- An entry that shows a measure of the outside that no command brings, at a device time (log entry 105). -/
opaque outsideValue : Nat → Nat → Nat
/-- What the outside world shows at the start that a reaction's device reset brings (R486). Log entry 13. -/
opaque outsideStart : Nat → StartConds
/-- The route that the interface of a node holds to another before any bundle (log entry 53): node, destination. -/
opaque bootRoute : Nat → Nat → BitVec 32
/-- The route tables as 0x6005:02 returns them (R328): the layout of the read is not in the spec. Log entry 11. -/
opaque routeTables : List Route → List Byte
/-- Content of a boot-flash stream at an offset (R180): bytes from there. Log entry 11. -/
opaque flashStream : Nat → List Byte

end Config

end Sys2Proof
end

