-- ==== Sys2Proof/Machine/State.lean ====
section
/-! DEFINITION. State.lean: the state of one SPN4096 as plain data. Every value of the object dictionary (R394:
every value that controls or reports on the device is an entry) stands in State.dict; what the spec gives the
device beside its dictionary (memories, queues, receive state, keys, the kernels' registers) has a field of its
own. A sparse table is a list of (key, value) with keys strictly rising and no value equal to what an unlisted
key reads as; its reader and writer stand in Ops.lean. -/

namespace Sys2Proof.Machine

/-- Why a command stops the model. -/
inductive Fault where
  /-- Raised by every meaning whose operand names a unit the device does not have (a lane above 511, a region
  above 63, a byte outside a BAR): the spec says that it does not exist. Safe. -/
  | noSuchUnit
  deriving DecidableEq, Repr

/-- Why a command has no meaning. -/
inductive Refusal where
  /-- Raised by an arm of exec whose command has no meaning yet. Safe. -/
  | notModelled (mnemonic : String)
  deriving DecidableEq, Repr

/-- A table of values by key; unlisted keys read as the table's default. -/
abbrev Sparse (α : Type) := List (Nat × α)

/-- An answer, message, block or pin change that the device gives. State.out holds those of the last command. -/
inductive Output where
  /-- the answer to a dictionary access: abort code (0: done) and the value's bytes -/
  | answer (r : Requester) (abort : Nat) (value : List Byte)
  /-- a CAN FD frame handed to channel c -/
  | canFrame (c : Nat) (id : BitVec 29) (data : List Byte)
  /-- a packet that a network interface sends -/
  | packet (p : Packet)
  /-- a PCI Express completion: status 0 successful, 1 completer abort, 2 poisoned, 3 configuration retry -/
  | completion (status : Nat) (data : List Byte)
  /-- an MSI-X message -/
  | msix (vector : Nat)
  /-- a 66-bit block on a transmit lane: 2-bit header, payload before scrambling, scrambled payload -/
  | block (lane : Nat) (header : BitVec 2) (payload raw : Word64)
  /-- a 66-bit block on a lane of a stack port: 2-bit header, payload before scrambling, scrambled payload -/
  | portWord (port lane : Nat) (header : BitVec 2) (payload raw : Word64)
  /-- the token of a release register -/
  | release (id : Nat) (wtag : Nat) (void late : Bool) (data : Nat)
  /-- the level of a pin -/
  | pin (name : String) (level : Nat)
  /-- a word from the dictionary port to the design -/
  | portToken (head dir : Bool) (word : Word64)
  /-- bytes that a DMA engine writes to host memory -/
  | hostWrite (addr : Nat) (data : List Byte)
  /-- the answer to a retrieval: status words and slots (R271) -/
  | retrieval (bytes : List Byte)
  /-- word statuses of an open access whose master is named by number only (R123) -/
  | statuses (l : List Nat)
  /-- a network status other than 0 that such a master is given (R331, R338) -/
  | netStatus (nstat : Nat)
  /-- a transaction on AVSBus (R451): rail address; command 0 Voltage write, 1 Voltage read, 2 Current read, 3 Status
  read; the voltage written, in mV -/
  | avsBus (rail command value : Nat)
  /-- CLKOUT0 or CLKOUT1 carries a clock of PLL_B, in Hz, or is driven low: 0 (Table 18-3) -/
  | clockOut (k hz : Nat)
  /-- a single-ended output of an I/O bank takes its drive, in mA (R532, R548) -/
  | pinDrive (pin mA : Nat)
  /-- the answer to the path of a stream that is refused at its header (R184): path, abort code -/
  | streamAnswer (path code : Nat)
  deriving DecidableEq, Repr

/-- What is taken before the command ends: a reaction action that a raise calls for (R485, R486), or the waves of a
region that left ACTIVE (R145). -/
inductive Action where
  /-- region n left ACTIVE with its last k waves held: its husk emits their tokens (R145) -/
  | replay (n k : Nat)
  | haltRegion (n source : Nat)
  | haltFabric (source : Nat)
  | migrate (entry source : Nat)
  | throttle
  | yield
  | warmReset
  | deviceReset
  deriving DecidableEq, Repr

/-- One region beside its dictionary entries. Waves are designators (Table 5-3). -/
structure RegionRec where
  /-- R42: waves its injection points hold -/
  held : Nat := 0
  /-- pending resume: wave, mode (R158) -/
  resume : Option (Nat × Nat) := none
  /-- pending rejoin wave (R158, R534) -/
  rejoin : Option Nat := none
  /-- pending golden switch: wave, plane, mode (R155) -/
  golden : Option (Nat × Nat × Nat) := none
  /-- its interface drains for a power-off (R142) -/
  closing : Bool := false
  /-- a run of late waves goes on (R65) -/
  lateRun : Bool := false
  /-- a run of samples in pace deficit goes on (R53) -/
  deficitRun : Bool := false
  /-- s_n at the last sample, in fs (R52) -/
  slack : Int := 0
  /-- smallest s_n since the last write of 0x4040+n:05, in fs (R64) -/
  least : Int := 0
  /-- continuous wave index of the last INIT switch, resume or rejoin (R150) -/
  initWave : Option Nat := none
  /-- ACTIVE for the whole of the last wave (R58) -/
  wasActive : Bool := false
  /-- plane whose husk values hold its signals (R143) -/
  huskPlane : Option Nat := none
  /-- a frame has been corrected in the running scrub pass (R199) -/
  correctedInPass : Bool := false
  /-- number of the running scrub pass, from power-up (R193) -/
  pass : Nat := 0
  /-- scrub passes that must end before a switch or resume takes effect after VC hold (R195) -/
  holdPasses : Nat := 0
  /-- plane it ran before a migration put it into its spare plane (R164) -/
  beforeMigration : Option Nat := none
  deriving DecidableEq, Repr, Inhabited

/-- A plane of a region (R138, R139, R189); its state stands in the dictionary. -/
structure PlaneRec where
  personality : Nat := 0
  layout : Nat := 0
  depth : Nat := 0
  flags : Nat := 0
  /-- crossing in which the stream that loaded it was accepted (R155) -/
  acceptedXn : Nat := 0
  /-- what its frames describe (R172) -/
  net : RegionNet := {}
  /-- spans on which it enables a driver, as validated (R84) -/
  summary : List Nat := []
  /-- frame address to 1 + the crossing of the last read that found it clean or corrected it (R155) -/
  cleanXn : Sparse Nat := []
  deriving DecidableEq, Repr, Inhabited

/-- A stored frame and its 13-bit code: C0 to C11 in [11:0], P in [12] (R191). -/
structure Frame where
  data : BitVec 2048 := 0
  code : BitVec 13 := 0
  deriving DecidableEq, Repr, Inhabited

/-- A token: data bits as a number, and the void flag (R29). -/
structure Tok where
  data : Nat := 0
  void : Bool := true
  deriving DecidableEq, Repr, Inhabited

/-- The token of a register: one data bit and its void flag (R35). -/
structure Bit where
  d : Bool := false
  v : Bool := false
  deriving DecidableEq, Repr, Inhabited

/-- A token delivered to a release register in the last wave (R38), with the register as the plane of that wave has it. -/
structure Delivered where
  cfg : ReleaseCfg := {}
  region : Nat := 0
  tok : Tok := {}
  deriving DecidableEq, Repr, Inhabited

/-- Queue state of a bank (R103). -/
structure QueueRec where
  count : Nat := 0
  rd : Nat := 0
  wr : Nat := 0
  /-- delay line: tokens stored since the reset of the queue state, up to the delay -/
  fill : Nat := 0
  /-- ring: the slots whose written-slot flag is set -/
  written : List Nat := []
  deriving DecidableEq, Repr, Inhabited

/-- What the waves of the fabric write: register tokens, held signals, bytes of the banks, queue states. -/
structure FabMem where
  regs : Sparse (Option Bit) := []
  huskLast : Sparse Bool := []
  bankMem : Sparse (BitVec 14) := []
  queues : Sparse QueueRec := []
  deriving DecidableEq, Repr, Inhabited

/-- A wave that some region has not accepted (R42, R145): its injected tokens, the banks whose accesses overran, the
draws made before it, the states, planes and selectors that it ran under, and what it found and left. -/
structure WaveSnap where
  inj : List (Nat × Tok) := []
  overruns : List Nat := []
  draws : Nat := 0
  dict : Sparse Nat := []
  regions : Sparse RegionRec := []
  planes : Sparse PlaneRec := []
  latched : List Nat := []
  migReverting : Bool := false
  migOverlap : Bool := false
  migHalted : Bool := false
  before : FabMem := {}
  after : FabMem := {}
  deriving DecidableEq, Repr, Inhabited

/-- The load engine's stream (R183): header fields of Table 6-2 and what the records brought. -/
structure LoadRec where
  active : Bool := false
  path : Nat := 0
  /-- bundle slot that the last load from the keep store reads (R515) -/
  slot : Nat := 0
  header : List Byte := []
  cipher : List Byte := []
  seen : List Nat := []
  memSeen : List Nat := []
  /-- (region, plane, layout, depth) -/
  metas : List (Nat × Nat × Nat × Nat) := []
  /-- (plane, role) -/
  roles : List (Nat × Nat) := []
  dupMeta : Bool := false
  banks : List Nat := []
  trailer : List Byte := []
  /-- bytes that have arrived on a path and are not yet a header, a record or a trailer -/
  partials : List (Nat × List Byte) := []
  /-- bytes of a refused stream still to be discarded on a path (R184) -/
  discards : List (Nat × Nat) := []
  /-- headers wait for VC to come back to 0.70 V (R456): path, bytes -/
  waiting : Option (Nat × List Byte) := none
  /-- credits granted to the access port beyond the words received (R182) -/
  credits : Nat := 0
  /-- spans and pairs as the header names them -/
  pairs : List (Nat × Nat) := []
  deriving DecidableEq, Repr, Inhabited

/-- A payload block in the deskew buffer (R214): continuous crossing, index, payload, control flag. -/
structure DeskewBlock where
  c : Nat := 0
  j : Nat := 0
  payload : Word64 := 0
  uc : Bool := false
  deriving DecidableEq, Repr, Inhabited

/-- The look-back slot of one crossing of a stream, as it fills (R252 to R255). -/
structure SlotOpen where
  c : Nat := 0
  st : Nat := 0
  blocks : List (Word64 × Bool) := []
  closed : Bool := false
  deriving DecidableEq, Repr, Inhabited

/-- The receive side of the 66-bit block code (R203, R204, R210): of a field lane, a timing input, a lane of a stack
port. -/
structure CodeRec where
  /-- the last 58 scrambled payload bits received, the newest in bit 0 -/
  descr : BitVec 58 := 0
  /-- blocks since the last alignment marker taken since it entered LOCKING -/
  sinceAm : Option Nat := none
  /-- headers of the last blocks at this bit position, newest first, at most 64: valid or not -/
  hdrs : List Bool := []
  deriving DecidableEq, Repr, Inhabited

/-- A received block (R203 to R205): an alignment marker taken in clear, a data block, any other control block, a block
with a header error. -/
inductive RxBlock where
  | marker (body : BitVec 56)
  | data (payload : Word64)
  | control (payload : Word64)
  | headerError
  deriving DecidableEq, Repr, Inhabited

/-- A receive lane beside its dictionary entries (R204, R209 to R222). -/
structure LaneRec extends CodeRec where
  /-- crossing of the last accepted marker since admission, by its continuous count -/
  refC : Option Nat := none
  /-- crossing being received: continuous count, blocks placed, NB; none: blocks are dropped -/
  cur : Option (Nat × Nat × Nat) := none
  /-- crossings of the rejected markers, counted as lost, since the last accepted one (R213) -/
  lostC : List Nat := []
  /-- the last alignment marker matched and waits for its source-identifier block -/
  pendSi : Bool := false
  /-- the last marker and its source-identifier block matched (R217) -/
  matched : Bool := false
  /-- the last two alignment markers taken since it entered LOCKING, newest first: AMC, and arrival in ps after the
  marker of the bond's earliest member with the same AMC -/
  amcs : List (Nat × Nat) := []
  /-- a mismatch makes it a stranger at the next crossing marker (R220) -/
  mismatch : Bool := false
  matches_ : Nat := 0
  permit : Bool := false
  lostRun : Bool := false
  trained : Bool := false
  deskew : List DeskewBlock := []
  slots : List SlotOpen := []
  /-- the error-rate cause may be raised (R223) -/
  estArmed : Bool := true
  /-- free-running counters of the lane window (R380) -/
  blocks : Nat := 0
  hdrErr : Nat := 0
  /-- blocks received since the lane was trained, while the standard program runs, and the numbers of those with a header
  error among the last 2^32 (R223) -/
  estBlocks : Nat := 0
  errAt : List Nat := []
  marginSet : Bool := false
  deriving DecidableEq, Repr, Inhabited

/-- A transmit lane (R225 to R229). -/
structure TxRec where
  scr : BitVec 58 := 0
  amc : Nat := 0
  /-- blocks sent from the last alignment marker on, that marker among them; none: no marker since it began to send -/
  sent : Option Nat := none
  /-- the group's loops are relocking -/
  relock : Bool := false
  /-- emphasis table in use and the one that waits for the next alignment marker (R229) -/
  band : Nat := 0
  nextBand : Nat := 0
  deriving DecidableEq, Repr, Inhabited

/-- A timing input (R232). -/
structure TimRec extends CodeRec where
  good : Nat := 0
  bad : Nat := 0
  lastXn : Nat := 0
  /-- blocks of the current frame that have arrived after its block 0; none before the first crossing marker -/
  pos : Option Nat := none
  /-- edge of the last crossing marker less the kept edge, in ps, before the compensation is added -/
  edgePs : Int := 0
  dropped : Nat := 0
  deriving DecidableEq, Repr, Inhabited

/-- An interval of a skip log (R259): first and last continuous count, stream classes. -/
structure SkipRec where
  first : Nat := 0
  last : Option Nat := none
  classes : Nat := 0
  /-- stops that hold it open: bits 0 to 2, those of a class; bit 3, that of domain LBIF -/
  holders : Nat := 0
  deriving DecidableEq, Repr, Inhabited

/-- A stop of domain LBIF (R259, R444): device time and crossing when it began, for each stack the first crossing with a slot that had
not closed then, and whether it has lasted longer than 2 µs. -/
structure LbifStop where
  since : Nat := 0
  crossing : Nat := 0
  firsts : List Nat := []
  long : Bool := false
  deriving DecidableEq, Repr, Inhabited

/-- A retrieval held for a slot that is not written (R22): who asked, its tag, stream, count, and the status
words and slots gathered so far. -/
structure HeldReq where
  packet : Packet := {}
  who : Option Requester := none
  stream : Nat := 0
  c : Nat := 0
  deriving DecidableEq, Repr, Inhabited

/-- A message of a stack port that waits to be sent (R289), or of the mirror protocol that waits for its acknowledgement
(R302). -/
structure PairMsg where
  mseq : Nat := 0
  op : Nat := 0
  arg : Nat := 0
  data : List (BitVec 48) := []
  /-- it has been sent -/
  sent : Bool := false
  deriving DecidableEq, Repr, Inhabited

/-- The receive side of a stack port's words (R279, R280, R289). -/
structure PortRx where
  /-- the block code of each lane, and the lanes that hold block lock while the port is LOCKING -/
  lanes : Sparse CodeRec := []
  locked : List Nat := []
  /-- bodies of the alignment markers and of the source-identifier blocks of the last marker row, by lane -/
  ams : Sparse (Option (BitVec 56)) := []
  sis : Sparse (Option (BitVec 56)) := []
  /-- a message whose first block has come, and its continuation contents so far -/
  msg : Option (BitVec 56 × List (BitVec 48)) := none
  /-- user-control blocks, and data blocks, are ignored up to the next crossing marker -/
  msgOff : Bool := false
  wordsOff : Bool := false
  /-- data blocks of a wave record so far -/
  words : List Word64 := []
  /-- XN of the last crossing marker -/
  rxXn : Nat := 0
  deriving DecidableEq, Repr, Inhabited

/-- The transmit side of a stack port (R279 to R281, R289). -/
structure PortTx where
  /-- scrambler of each lane, and the lane of the next word -/
  scr : Sparse (BitVec 58) := []
  next : Nat := 0
  /-- whole rows sent from the last marker row on; none: no marker row yet -/
  rows : Option Nat := none
  txAmc : Nat := 0
  /-- messages that wait, and the message blocks sent in this crossing -/
  msgs : List PairMsg := []
  used : Nat := 0
  /-- blocks that the near-end loopback holds -/
  loop : List PortBlock := []
  deriving DecidableEq, Repr, Inhabited

/-- A stack port beside its dictionary entries (R279 to R293). -/
structure PortRec extends PortRx, PortTx where
  matches_ : Nat := 0
  mismatch : Bool := false
  identityOk : Bool := false
  frevOk : Bool := false
  skewOk : Bool := true
  measured : Bool := false
  /-- wave records in the buffer: head word, data -/
  buffer : List (Word64 × List Word64) := []
  lateRun : Bool := false
  slipRun : Bool := false
  /-- consecutive crossings with an edge offset above 200 ps (R293) -/
  offBad : Nat := 0
  /-- EPOCH and ROLE of the last pair-role block received (R309) -/
  epoch : Option Nat := none
  role : Nat := 0
  deriving DecidableEq, Repr, Inhabited

/-- The redundant pair beside its dictionary entries (R298 to R314). -/
structure PairRec where
  /-- the mirror has accepted a yield; the lead is to send one at the next crossing; it has sent one (R308) -/
  yieldAccepted : Bool := false
  yieldDue : Bool := false
  yieldSent : Bool := false
  yieldNow : Bool := false
  /-- a later epoch has been seen: JOINING at the next boundary (R310) -/
  demote : Bool := false
  /-- a valid heartbeat has come since the last boundary (R307, R313) -/
  heard : Bool := false
  /-- the partner has been recorded as absent since it was last heard (R313) -/
  absent : Bool := false
  /-- a pair-role block with ROLE 1 has come on some port since the activation (R299) -/
  leadSeen : Bool := false
  /-- 0x8100:04 is an epoch received since the half entered JOINING, or the member was activated (R309) -/
  tracks : Bool := false
  /-- boundaries up to the one at which the partner takes over after a yield (R308) -/
  yieldIn : Nat := 0
  /-- numbered messages not yet acknowledged, in order, and the number of the next (R302) -/
  unacked : List PairMsg := []
  nextSeq : Nat := 0
  stalled : Nat := 0
  sentAny : Bool := false
  /-- some message since the last full snapshot began has been acknowledged; 256 have not, so that a full snapshot takes
  their place once the mirror is JOINING (R302) -/
  ackedAny : Bool := false
  overrun : Bool := false
  acceptedAny : Bool := false
  sameDigests : Nat := 0
  /-- item codes of the snapshot accepted so far, and content last sent of each item (R303) -/
  snapshot : List Nat := []
  /-- the menu and look-back items that the mirror has accepted last, and whether XN or era of the last differed (R303) -/
  leadItems : List (Nat × List (BitVec 48)) := []
  countDiffers : Bool := false
  sentItems : List (Nat × List (BitVec 48)) := []
  /-- own digests of the last crossings: (XN bits [15:0], digest) -/
  digests : List (Nat × Nat) := []
  /-- head and data words of the mirror tokens released in this crossing -/
  mirrorWords : List Word64 := []
  /-- switch slots that wait for the mirror's confirmation: slot, MSEQ of its item, origin, requester -/
  confirm : List (Nat × Nat × Nat × Option Requester) := []
  /-- the flock trim has been set (R294) -/
  trimSet : Bool := false
  deriving DecidableEq, Repr, Inhabited

/-- A BAR4 request, or what is left of one: its open accesses, each a list of words with their enabled bytes; the
data of a write; the offset that the data begins at; bank-port wait cycles of the next access (R110, R345). -/
structure BarReq where
  write : Bool := false
  accs : List (List (Nat × Nat)) := []
  offset : Nat := 0
  data : List (BitVec 32) := []
  waits : Nat := 0
  deriving DecidableEq, Repr, Inhabited

/-- A request that an interface has outstanding (R332, R384). -/
structure OutReq where
  node : Nat := 0
  dest : Nat := 0
  tag : Nat := 0
  cmd : Nat := 0
  rbuf : Nat := 0
  rmax : Nat := 0
  got : Nat := 0
  excess : Bool := false
  /-- sent before the kernel's last start: its responses are discarded (R390) -/
  stale : Bool := false
  /-- the request as it was handed to the interface -/
  packet : Packet := {}
  /-- the route it was sent on (R328) -/
  route : BitVec 32 := 0
  /-- it has left; one that has not holds its slot and credit until the interface may change its route (R328) -/
  sent : Bool := true
  deriving DecidableEq, Repr, Inhabited

/-- A DMA engine beside its dictionary entries (R357 to R361). -/
structure EngRec where
  /-- current buffer: address, size, fill in bytes -/
  buf : Option (Nat × Nat × Nat) := none
  seq : Nat := 0
  held : List (List Byte) := []
  starvedRaised : Bool := false
  deriving DecidableEq, Repr, Inhabited

/-- A stalled DICT (R387): function, rd, rs1, rs2 or user value. -/
structure DictReq where
  fn : Nat := 0
  rd : Nat := 0
  arg : Word := 0
  buf : Word := 0
  v : Nat := 0
  deriving DecidableEq, Repr, Inhabited

/-- A part of a fragment's payload (R356): a descriptor entry, the slot of a stream for a crossing, words of the memory
layer. -/
inductive RdPart where
  | entry (u : BitVec 128)
  | slot (stream xn : Nat)
  | words (addr wcnt : Nat)
  deriving DecidableEq, Repr, Inhabited

/-- A trigger that the standard readout program works on (R355, R356). -/
structure RdJob where
  w0 : Word64 := 0
  w1 : Word64 := 0
  /-- parts of the payload still to place; the request for the first has been sent -/
  parts : List RdPart := []
  sent : Bool := false
  payload : List Byte := []
  /-- PARTIAL -/
  part : Bool := false
  deriving DecidableEq, Repr, Inhabited

/-- A kernel beside its dictionary entries (R370, R379 to R386). -/
structure KernelRec where
  /-- g0 to g15; g0 is never read from here -/
  regs : Vector Word 16 := Vector.replicate 16 0
  pc : Word := 0
  /-- memory by kernel address, unlisted bytes as Kernel memory's default gives them -/
  mem : List Host.Cell := []
  /-- code memory as instruction fetch sees it (R376) -/
  code : List Host.Cell := []
  inbox : List Packet := []
  triggers : List (Word64 × Word64) := []
  /-- edge events pending, bits 3 to 6 of Table 12-11 -/
  edges : BitVec 8 := 0
  /-- device time in ns at which the timer reaches 0 -/
  timer : Option Nat := none
  tickDiv : Word := 0
  timeHi : Word := 0
  xnHi : Word := 0
  cqHead : Nat := 0
  cqTail : Nat := 0
  wait : Option (Nat × BitVec 8) := none
  dict : Option DictReq := none
  /-- the access of the stalled DICT has been made; its answer, once there is one -/
  dictMade : Bool := false
  dictDone : Option (Nat × List Byte) := none
  stopAfter : Bool := false
  /-- staging bytes owned by the engine (R386) -/
  stageOwned : Nat := 0
  /-- staging bytes, by offset, that have been written and not handed to the engine since (R386) -/
  staged : Sparse Bool := []
  /-- bytes written to the lane window (EYECTL, ESTN, ESTD) and EYERES: key 256 p + offset -/
  window : List Host.Cell := []
  eyeRun : List Nat := []
  /-- it runs Dellarin's standard program (R389), and the trigger in hand -/
  std : Bool := false
  job : Option RdJob := none
  deriving DecidableEq, Repr, Inhabited

/-- A transfer of a DOMAIN entry (R412, R414, R419, R423): data holds the bytes received, or all those to send;
seq counts the segments received in order, or acknowledged, and sent those sent since. -/
structure Transfer where
  r : Requester := .port
  tid : Nat := 0
  key : Nat := 0
  write : Bool := false
  data : List Byte := []
  size : Nat := 0
  win : Nat := 1
  seq : Nat := 0
  sent : Nat := 0
  prio : Nat := 0
  /-- the pair that a readback reads, 8 n + p (R190) -/
  pair : Nat := 0
  /-- the stream that a write brings has been refused or has failed: the code that the path gets (R184, R187) -/
  failed : Nat := 0
  deriving DecidableEq, Repr, Inhabited

/-- A request of a CAN node that is open, expedited or an initiate (R411, R412, R414, R415): where its response
goes. -/
structure CanOpen where
  c : Nat := 0
  node : Nat := 0
  prio : Nat := 0
  cs : Nat := 0
  tid : Nat := 0
  key : Nat := 0
  /-- WIN of a segmented read's initiate -/
  win : Nat := 1
  /-- the request's payload, by which its copy on the other channel is known -/
  req : List Byte := []
  /-- the same request has come on the other channel too -/
  both : Bool := false
  deriving DecidableEq, Repr, Inhabited

/-- A request that a channel has brought within the last 10 ms, and its response once it is given (R415). -/
structure CanRecent where
  node : Nat := 0
  payload : List Byte := []
  at_ : Nat := 0
  response : Option (List Byte) := none
  deriving DecidableEq, Repr, Inhabited

/-- A mailbox of the BAR0 window (Table 13-10). -/
structure MailboxRec where
  cmd : BitVec 32 := 0
  len : Nat := 0
  status : BitVec 32 := 0
  /-- a segmented read is being opened (OP 3) -/
  opening : Bool := false
  abort : Nat := 0
  value : List Byte := []
  data : List Byte := []
  deriving DecidableEq, Repr, Inhabited

/-- A CAN channel beside its dictionary entries (R410 to R416). -/
structure CanRec where
  /-- a duplicate node has been heard: only error frames and acknowledgements leave (R413) -/
  silent : Bool := false
  queue : List (BitVec 29 × List Byte) := []
  /-- device time in ns of the last stranger cause -/
  strangerAt : Option Nat := none
  recent : List CanRecent := []
  /-- device time in ns at which it entered bus-off -/
  offSince : Nat := 0
  deriving DecidableEq, Repr, Inhabited

/-- An access to a user entry that the design is asked for (R422); r is none for the device's own writes at a run
boundary. -/
structure DesignReq where
  r : Option Requester := none
  tag : Nat := 0
  key : Nat := 0
  write : Bool := false
  value : List Byte := []
  deriving DecidableEq, Repr, Inhabited

/-- The design's own request that is open (R423): OP, TAG, entry. -/
structure PortReq where
  op : Nat := 0
  tag : Nat := 0
  key : Nat := 0
  deriving DecidableEq, Repr, Inhabited

/-- A clock domain beside its dictionary entries (R438 to R442). -/
structure DomainRec where
  target : Option Nat := none
  /-- old edges are still to come (step 2 of Table 14-3) -/
  waitingOld : Bool := false
  /-- it has run since the power-on or device reset -/
  started : Bool := false
  forced : Bool := false
  /-- it has been held, or without a source, in the stop that lasts (R442) -/
  held : Bool := false
  /-- a source has become PROVEN for the first time to which the domain is to move once it runs again (R438) -/
  moveDue : Option Nat := none
  /-- device time at which the stop began, and whether a stop of LREF has lasted longer than 1 µs (R444) -/
  since : Nat := 0
  lost : Bool := false
  deriving DecidableEq, Repr, Inhabited

/-- A thermal sensor beside its dictionary entries (R457, R465, R471). -/
structure SensorRec where
  /-- readings of the last 250 reads, newest first, in m°C -/
  history : List Int := []
  /-- consecutive reads more than 20 °C from the hottest neighbour -/
  apart : Nat := 0
  /-- consecutive reads that pass the checks of R471 -/
  goodRun : Nat := 0
  /-- the hottest-sensor hold adds 5 °C (R471) -/
  plus5 : Bool := false
  deriving DecidableEq, Repr, Inhabited

/-- Power and thermal management beside the dictionary (R454 to R469). -/
structure ThermalRec where
  awaitReport : Bool := false
  /-- device time in ns of the last lower step -/
  lowerAt : Option Nat := none
  /-- consecutive transactions to each rail that have failed (R455) -/
  railFails : Sparse Nat := []
  /-- Voltage writes that wait for domain AVS: rail, mV (R444) -/
  avsHeld : List (Nat × Nat) := []
  alertOn : Bool := false
  requestOn : Bool := false
  haltOn : Bool := false
  riseOn : Bool := false
  /-- nibble of the order word to be taken next (R468) -/
  orderPos : Nat := 0
  /-- step of start-up that warm-up interrupted (R461) -/
  warmStart : Option StartConds := none
  /-- device times in ns of the last region switch-ons (R452) -/
  switched : List Nat := []
  /-- regions that wait to be switched on, first first -/
  queue : List Nat := []
  throttleN : Nat := 1
  thermtripN : Nat := 1
  /-- a rate has reached the rise request (R465) -/
  riseReq : Bool := false
  /-- rails whose last reading lay outside 3 % of the nominal voltage (R477) -/
  railsOut : List Nat := []
  /-- sensor reads, 1 ms apart, for which the store has been cool (R257) -/
  coolMs : Nat := 0
  deriving DecidableEq, Repr, Inhabited

/-- A history entry (Table 16-6). -/
structure HistEntry where
  w0 : Word64 := 0
  w1 : Word64 := 0
  w2 : Word64 := 0
  deriving DecidableEq, Repr, Inhabited

/-- The fault collector beside its dictionary entries. -/
structure CollectorRec where
  /-- newest first, at most 32 (R492) -/
  history : List HistEntry := []
  /-- oldest first, at most 4,096, in the keep store (R493) -/
  log : List HistEntry := []
  /-- entries to be appended to the log -/
  logPending : List HistEntry := []
  /-- sources with an unacknowledged note (R488) -/
  notes : List Nat := []
  /-- actions to take before the command ends -/
  actions : List Action := []
  /-- once-per-crossing causes already raised in this crossing (R137, R277, R341, R367) -/
  onceC : List Nat := []
  /-- device times in ns of the last 32 raises that wrote an entry, newest first (R492) -/
  written : List Nat := []
  /-- map entry of the migration that a reaction started (R486) -/
  migRaised : Option Nat := none
  deriving DecidableEq, Repr, Inhabited

/-- A session (R503, R504). -/
structure Session where
  r : Requester := .port
  rights : BitVec 8 := 0
  signer : Nat := 0
  deriving DecidableEq, Repr, Inhabited

/-- A challenge issued (R503). -/
structure Challenge where
  r : Requester := .port
  bytes : List Byte := []
  issued : Nat := 0
  deriving DecidableEq, Repr, Inhabited

/-- An image slot of the keep store (R509 to R515); its state stands in the dictionary. -/
structure ImageRec where
  bytes : List Byte := []
  version : Nat := 0
  svn : Nat := 0
  mpv : Nat := 0
  sfr : Nat := 0
  sfrMin : Nat := 0
  /-- (kind, lowest, highest) -/
  requires : List (Nat × Nat × Nat) := []
  /-- what a bundle image describes (R515) -/
  bundle : Option Bundle := none
  deriving DecidableEq, Repr, Inhabited

/-- A journal record (Table 17-7). -/
structure JournalRec where
  seq : Nat := 0
  type : Nat := 0
  part : Nat := 0
  result : Nat := 0
  tid : Nat := 0
  version : Nat := 0
  time : Nat := 0
  order : Nat := 0
  deriving DecidableEq, Repr, Inhabited

/-- A persisted set (R401): bundle identifier, and key and value of every persisted entry. -/
structure PersistSet where
  /-- identifier of the bundle under which it was saved (R403) -/
  bundle : Nat := 0
  /-- settings format revision of the firmware that wrote it (R522) -/
  sfr : Nat := 0
  vals : Sparse Nat := []
  /-- values of user entries (R420) -/
  users : List (Nat × List Byte) := []
  deriving DecidableEq, Repr, Inhabited

/-- A key that the device derives from its device-unique key (R498). -/
inductive DerivedKey where
  | storage | slotWrap | identity
  deriving DecidableEq, Repr

/-- A value that stands sealed or wrapped under a derived key: it can be read only while the device holds that key (R498,
R500, R501). -/
structure Sealed (α : Type) where
  key : DerivedKey
  content : α
  deriving DecidableEq, Repr

/-- Security, images and update beside the dictionary. -/
structure SecurityRec where
  /-- the DUK copy is held (R498, R507) -/
  duk : Bool := false
  /-- the keys derived from it (R498) -/
  derived : List DerivedKey := []
  /-- owner keys in the device record, sealed (R500) -/
  ownerKeys : Sparse (Sealed (List Byte)) := []
  /-- owner keys that failed their check at the last start (R500) -/
  badKeys : List Nat := []
  /-- slot keys in the device record, wrapped (R501) -/
  keys : Sparse (Sealed (BitVec 256)) := []
  /-- slot keys unwrapped (R501, R507) -/
  slotKeys : Sparse (BitVec 256) := []
  sessions : List Session := []
  challenges : List Challenge := []
  /-- sources to raise at the next start that succeeds (R464, R498, R536) -/
  atStart : List (Nat × Nat × Nat) := []
  lock : Option Requester := none
  images : Sparse ImageRec := []
  /-- persisted sets of settings areas A and B (R522) -/
  areas : Sparse PersistSet := []
  saving : Option (Requester × PersistSet) := none
  journal : List JournalRec := []
  hostConfirmed : Bool := false
  haltSeen : Bool := false
  fallbackDue : Bool := false
  deriving DecidableEq, Repr, Inhabited

/-- The areas of the keep store (Table 17-5). -/
inductive KeepArea where
  /-- image slot x of kind j + 1 -/
  | image (j x : Nat)
  /-- settings area x -/
  | settings (x : Nat)
  | repairMap | log | journal | record
  /-- spare lines: not addressable -/
  | spare
  deriving DecidableEq, Repr

/-- What the keep store holds while writes to it wait for domain KEEP (R444): the stored parts of SecurityRec, the stored
repair map, and the entries of the image slots and the journal. -/
structure KeepCopy where
  ownerKeys : Sparse (Sealed (List Byte)) := []
  keys : Sparse (Sealed (BitVec 256)) := []
  images : Sparse ImageRec := []
  areas : Sparse PersistSet := []
  journal : List JournalRec := []
  storedMap : List (BitVec 32) := []
  log : List HistEntry := []
  entries : Sparse Nat := []
  /-- what the network wrote -/
  lines : Sparse (Option (BitVec 512)) := []
  deriving DecidableEq, Repr, Inhabited

/-- The step of Table 18-2 that the device is in, and what of its reset it waits for. -/
structure StartupRec where
  /-- the power-on reset is released -/
  released : Bool := false
  /-- THERMTRIP_N holds the device in reset (R464) -/
  tripped : Bool := false
  /-- the base firmware runs (R343) -/
  firmware : Bool := false
  /-- no firmware slot could be started: the ROM answers over CAN FD (Table 18-5) -/
  rom : Bool := false
  /-- slot of the firmware that runs (R520 to R522) -/
  running : Nat := 0
  /-- the settings have been read since the firmware started (R520) -/
  settingsRead : Bool := false
  /-- the loopback self-test of step 6 has passed since the reset (R520) -/
  selfTested : Bool := false
  /-- a bundle is in force, and the engine enters STOPPED when PLL_X is locked (Table 18-2) -/
  engineDue : Bool := false
  /-- device time in ns, from the release of the power-on reset to the last device reset (Table 18-6) -/
  before : Nat := 0
  /-- device time in ns from the last tamper reset to the last reset (R508) -/
  sinceTamper : Nat := 0
  /-- banks whose supply has been measured since the reset (R549) -/
  vioSeen : List Nat := []
  /-- a cold start is refused and tried again (R459) -/
  coldWait : Bool := false
  /-- a tamper wait holds the pip loader (R508) -/
  tamperWait : Bool := false
  /-- references of PLL_S, PLL_A and PLL_B, as the last start set them up (R397) -/
  loopRefs : List Nat := [2, 3, 2]
  /-- sources that have been PROVEN since the power-on or device reset (R438) -/
  proven : List Nat := []
  /-- the start that waits for the start-up march to end (R133) -/
  march : Option StartConds := none
  /-- a warm reset is in progress -/
  warm : Bool := false
  /-- some bundle has been activated since the power-on or device reset (R438) -/
  everActive : Bool := false
  /-- the bundle loaded in step 7 -/
  loaded : Option Bundle := none
  /-- key of the slot map in force before the last activation (R269) -/
  lastSlotMap : Option Nat := none
  /-- code of the reset that the next start reports (R536) -/
  cause : Nat := 0
  /-- the start-up switch waits to be armed until PLL_X locks (R531) -/
  switchDue : Bool := false
  deriving DecidableEq, Repr, Inhabited

/-- The state of the device. -/
structure State where
  /-- values of dictionary entries, key index × 256 + sub-index; unlisted: the entry's default -/
  dict : Sparse Nat := []
  /-- pending values of RWR entries (R396) -/
  rwr : List (Nat × Nat) := []
  /-- what the last command gave -/
  out : List Output := []
  /-- commands that wait, first in, first out -/
  pending : List Instr := []
  /-- the model's own: draws of free values made so far -/
  draws : Nat := 0
  /-- the active bundle (R24, R515) -/
  bundle : Option Bundle := none
  startup : StartupRec := {}
  /-- pending start and stop (R56, R57) -/
  startPending : Bool := false
  stopPending : Bool := false
  /-- the wave of the current step has not been injected yet -/
  waveDue : Bool := false
  /-- era of the last run boundary (R102) -/
  runEra : Nat := 0
  regions : Sparse RegionRec := []
  planes : Sparse PlaneRec := []
  frames : Sparse Frame := []
  /-- spans latched off (R85) -/
  latched : List Nat := []
  /-- 1 + the crossing in which a span was latched off -/
  latchXn : Sparse Nat := []
  /-- spans to rearm: requested in this crossing, and due at the first wave of a crossing (R86) -/
  rearm : List Nat := []
  rearmDue : List Nat := []
  /-- register tokens by region, cell and register; none: the initial value (R35) -/
  regs : Sparse (Option Bit) := []
  /-- data of the last token of every signal that a husk may hold (R144) -/
  huskLast : Sparse Bool := []
  /-- the last waves, newest first, that some region has not accepted (R42) -/
  waveLog : List WaveSnap := []
  /-- what the last wave delivered to release registers (R38) -/
  delivered : List Delivered := []
  /-- tokens that scheduled reads inject in the next wave: (point, token) -/
  readTokens : List (Nat × Tok) := []
  /-- probe values of the last waves, before Lp steps have passed (R88) -/
  probePipe : List (List (Bool × Bool)) := []
  /-- levels of the probe pins (R90), and updates of them that wait for domain IO (R444) -/
  probePins : Nat := 0
  pinsHeld : List Nat := []
  /-- blocks sent on the probe lanes (R91), and the outputs that wait for the next block -/
  probeBlocks : Nat := 0
  probeHeld : List Nat := []
  /-- bytes of the banks, 8 data and 6 check bits (R96, R115) -/
  bankMem : Sparse (BitVec 14) := []
  queues : Sparse QueueRec := []
  /-- words that the patrol reader has read in a bank (R124) -/
  patrol : Sparse Nat := []
  /-- repair map records in force, and those stored in the keep store (Table 4-10) -/
  repairs : List (BitVec 32) := []
  storedMap : List (BitVec 32) := []
  /-- running march of engine q: command word, banks to test -/
  march : Sparse (Option (BitVec 32 × List Nat)) := []
  /-- the load engine (R183) -/
  load : LoadRec := {}
  /-- the migration in flight is a revert (R164); its overlap has begun; its switch wave W, 0 until the device has
  chosen it; the earliest W of the 50 µs and four crossings of R160; f was HALTED at arming (R163) -/
  migReverting : Bool := false
  migOverlap : Bool := false
  migWave : Nat := 0
  migMin : Nat := 0
  migHalted : Bool := false
  /-- switches and resumes that wait for the scrub passes of R195: slot k, or 16 + n for the resume of region n,
  96 + n for its golden switch, 200 and 201 for the waves of the migration in flight -/
  deferred : List Nat := []
  lanes : Sparse LaneRec := []
  tx : Sparse TxRec := []
  timing : Sparse TimRec := []
  /-- pending move of the crossing source (R233) -/
  sourceDue : Option Nat := none
  /-- a user-control block arrived on the active timing input since the last wave (R238) -/
  timingNew : Bool := false
  /-- lines of the look-back stacks, 64 data and 8 check bytes (R245) -/
  lines : Sparse (Option (BitVec 576)) := []
  /-- stream × 2^32 + slot index to 1 + continuous count of the crossing written there -/
  slotC : Sparse Nat := []
  /-- what the keep store holds while writes to it wait for domain KEEP (R444) -/
  keepCopy : Option KeepCopy := none
  /-- skip logs of the stacks (R259) -/
  skips : Sparse (List SkipRec) := []
  /-- the stops of each stack's streams within the last crossings, one record for each and none merged (R257, R258) -/
  storeStops : Sparse (List SkipRec) := []
  heldReqs : List HeldReq := []
  /-- domain LBIF is stopped (R444) -/
  lbif : Option LbifStop := none
  /-- BAR2 reads that wait for its restart: offset, length -/
  bar2Held : List (Nat × Nat) := []
  /-- BAR4 requests that wait for a credit or for their route (R328, R332) -/
  bar4Held : List BarReq := []
  /-- registers of PCI Express configuration space that a write has set, by register number (R342, R364) -/
  cfgSpace : Sparse (BitVec 32) := []
  /-- line that the look-back scrub reads next (R265) -/
  scrubPos : Sparse Nat := []
  /-- refresh window that waits for the next one (R264) -/
  nextWindow : Sparse Nat := []
  /-- continuous crossing of the last activation (R269) -/
  activationC : Nat := 0
  /-- entries of the derived streams and the probe stream: crossing × 1024 + stream to (V, LATE, data) per step -/
  derived : Sparse (List (Bool × Bool × Nat)) := []
  ports : Sparse PortRec := []
  pair : PairRec := {}
  outReqs : List OutReq := []
  /-- MSI-X pending vectors (R349) -/
  msixPend : List Nat := []
  /-- vectors in their holdoff (R350) -/
  msixHold : List Nat := []
  /-- MSI-X table (R348) -/
  msixTable : Sparse (BitVec 128) := []
  /-- lines of the keep store written over the network (R330); the layout of the keep store is not in the spec -/
  keepLines : Sparse (Option (BitVec 512)) := []
  /-- spare lines of the keep store that stand in for none yet: 476 MiB of them at first (R510, Table 17-5) -/
  spareLines : Nat := 7798784
  engines : Sparse EngRec := []
  /-- fragments that wait on a readout lane (R362) -/
  readoutQueue : Sparse (List (List Byte)) := []
  kernels : Sparse KernelRec := []
  /-- readout kernels on the standard program that a trigger, an answer or staging space has come to -/
  readoutDue : List Nat := []
  transfers : List Transfer := []
  mailboxes : Sparse MailboxRec := []
  can : Sparse CanRec := []
  canOpen : List CanOpen := []
  /-- the access that the design is asked for, those that wait, and the last TAG used (R422) -/
  design : Option DesignReq := none
  designQ : List DesignReq := []
  designTag : Nat := 0
  /-- values of user entries as accesses last carried them (R401, R420): key, value -/
  userVals : List (Nat × List Byte) := []
  /-- the design's own request, the words for it that wait for a wave each, and the message it is sending: DIR,
  head word, value words so far (R421, R423) -/
  portReq : Option PortReq := none
  portOut : List (Bool × Bool × Word64) := []
  portIn : Option (Bool × Word64 × List Word64) := none
  /-- messages of the design that are complete and wait for the dictionary kernel -/
  portMsgs : List (Bool × Word64 × List Word64) := []
  domains : Sparse DomainRec := []
  /-- closed gates: domain and block (R445) -/
  gates : List (Nat × Nat) := []
  /-- path and slot of a load command whose header waits for the path's clock domain (R444) -/
  loadHeld : Option (Nat × Nat) := none
  sensors : Sparse SensorRec := []
  thermal : ThermalRec := {}
  collector : CollectorRec := {}
  security : SecurityRec := {}
  deriving DecidableEq, Repr

/-- The machine right after reset: every dictionary entry at its default (R394), the power-on reset not yet
released (R529), memories with nothing listed, no command waiting. -/
def State.reset : State := {}

end Sys2Proof.Machine
end

