-- ==== Sys2Proof/Machine/Sparse.lean ====
section
/-! DEFINITION. Sparse.lean: tables of values by key in one canonical form: keys strictly rising, and no value
that equals what an unlisted key reads as. -/

namespace Sys2Proof.Machine

/-- The value of a key; d gives what an unlisted key reads as. -/
def Sparse.get {α : Type} (d : Nat → α) (m : Sparse α) (k : Nat) : α :=
  match m with
  | [] => d k
  | (k', v) :: m' => if k' = k then v else Sparse.get d m' k

/-- The table without a key. -/
def Sparse.erase {α : Type} (m : Sparse α) (k : Nat) : Sparse α :=
  m.filter (fun c => c.1 ≠ k)

/-- A new key put in its place. -/
def Sparse.insert {α : Type} (m : Sparse α) (k : Nat) (v : α) : Sparse α :=
  match m with
  | [] => [(k, v)]
  | (k', v') :: m' => if k < k' then (k, v) :: (k', v') :: m' else (k', v') :: Sparse.insert m' k v

/-- The table with a value written; the value that an unlisted key reads as removes the key. -/
def Sparse.set {α : Type} [DecidableEq α] (d : Nat → α) (m : Sparse α) (k : Nat) (v : α) : Sparse α :=
  if v = d k then Sparse.erase m k else Sparse.insert (Sparse.erase m k) k v

/-- The canonical form. -/
abbrev Sparse.wf {α : Type} (d : Nat → α) (m : Sparse α) : Prop :=
  m.Pairwise (fun a b => a.1 < b.1) ∧ ∀ c ∈ m, c.2 ≠ d c.1

/-- The table with every key for which p holds removed. -/
def Sparse.drop {α : Type} (m : Sparse α) (p : Nat → Bool) : Sparse α :=
  m.filter (fun c => !p c.1)

end Sys2Proof.Machine
end

