-- ==== Sys2Proof/Machine/Dict.lean ====
section
/-! DEFINITION. Dict.lean: the object dictionary as the manual's tables list it (R394 to R398, R405): every entry's
type, access code, default, persist flag, and the range that R398 checks. An entry with one unit per region, lane,
source and so on stands once, with n indices and m sub-indices. -/

namespace Sys2Proof.Machine

/-- Types of Table 13-1 (R395); the number is bytes. -/
inductive Ty where
  | u (n : Nat) | bool | i32 | f32 | str (n : Nat) | octets (n : Nat) | domain
  deriving DecidableEq, Repr

/-- Access codes of Table 13-2 (R396). -/
inductive Acc where
  | ro | wo | rw | rwr
  deriving DecidableEq, Repr

/-- Where an entry's default comes from. -/
inductive Dflt where
  | const (v : Nat)
  | deviceCode | serial | vendorHash | pcieDevice | pcieVendor | stdLane | stdReadout
  | neighbours | offset | mapping | engineVector | loopRef | order | reaction
  deriving DecidableEq, Repr

/-- The range or list of an entry's values (R398); special: the condition relates the value to other entries and
stands with its chapter in Values.lean. -/
inductive Rng where
  | any
  | range (lo hi : Nat)
  | oneOf (l : List Nat)
  | mask (m : Nat)
  | rangeOr (lo hi x : Nat)
  | wave
  | f32 (lo hi : Nat)
  | aligned (k : Nat)
  | pow2 (lo hi : Nat)
  | special
  deriving DecidableEq, Repr

/-- One line of a dictionary table. -/
structure Row where
  idx : Nat
  sub : Nat
  ty : Ty
  acc : Acc
  guarded : Bool := false
  persist : Bool := false
  dflt : Dflt := .const 0
  rng : Rng := .any
  /-- R514: a write needs the update lock -/
  lock : Bool := false
  n : Nat := 1
  m : Nat := 1
  deriving DecidableEq, Repr

/-- Bytes of a value of a type; the most for a string, 0 for a DOMAIN (R395). -/
def Ty.size : Ty → Nat
  | .u n => n
  | .bool => 1
  | .i32 => 4
  | .f32 => 4
  | .str n => n
  | .octets n => n
  | .domain => 0

/-- Entries of page 0x10 (R425). -/
def rows10 : List Row :=
  [ { idx := 0x1000, sub := 0x01, ty := .u 4, acc := .ro, dflt := .deviceCode },
    { idx := 0x1000, sub := 0x02, ty := .str 16, acc := .ro, dflt := .const 15262527941136467 },
    { idx := 0x1000, sub := 0x03, ty := .octets 8, acc := .ro, dflt := .serial },
    { idx := 0x1000, sub := 0x04, ty := .u 4, acc := .ro },
    { idx := 0x1001, sub := 0x01, ty := .u 2, acc := .ro, dflt := .const 0x0001 },
    { idx := 0x1002, sub := 0x01, ty := .u 4, acc := .ro },
    { idx := 0x1002, sub := 0x02, ty := .u 4, acc := .wo, guarded := true },
    { idx := 0x1002, sub := 0x03, ty := .u 4, acc := .wo, guarded := true },
    { idx := 0x1002, sub := 0x04, ty := .u 1, acc := .ro },
    { idx := 0x1002, sub := 0x05, ty := .u 2, acc := .ro },
    { idx := 0x1002, sub := 0x06, ty := .domain, acc := .ro },
    { idx := 0x1008, sub := 0x01, ty := .u 1, acc := .rw, guarded := true, persist := true, dflt := .const 0x60, rng := .range 1 127 },
    { idx := 0x1008, sub := 0x02, ty := .u 1, acc := .ro },
    { idx := 0x1009, sub := 0x01, ty := .u 4, acc := .rw, guarded := true, persist := true, dflt := .const 500000, rng := .oneOf [125000, 250000, 500000, 1000000] },
    { idx := 0x1009, sub := 0x02, ty := .u 4, acc := .rw, guarded := true, persist := true, dflt := .const 2000000, rng := .oneOf [1000000, 2000000, 4000000, 5000000, 8000000] },
    { idx := 0x1009, sub := 0x03, ty := .u 1, acc := .rw, guarded := true, persist := true, dflt := .const 3, rng := .mask 3 },
    { idx := 0x1009, sub := 0x04, ty := .u 2, acc := .rw, persist := true, dflt := .const 100, rng := .range 10 10000 },
    { idx := 0x100A, sub := 0x01, ty := .u 2, acc := .rw, persist := true, dflt := .const 100, rng := .range 10 10000 },
    { idx := 0x100B, sub := 0x01, ty := .u 1, acc := .ro, n := 2 },
    { idx := 0x100B, sub := 0x02, ty := .u 1, acc := .ro, n := 2 },
    { idx := 0x100B, sub := 0x03, ty := .u 1, acc := .ro, n := 2 },
    { idx := 0x100B, sub := 0x04, ty := .u 8, acc := .ro, n := 2 },
    { idx := 0x100B, sub := 0x05, ty := .u 8, acc := .ro, n := 2 },
    { idx := 0x100B, sub := 0x06, ty := .u 4, acc := .ro, n := 2 },
    { idx := 0x100B, sub := 0x07, ty := .u 8, acc := .ro, n := 2 },
    { idx := 0x100B, sub := 0x08, ty := .u 4, acc := .ro, n := 2 },
    { idx := 0x100B, sub := 0x09, ty := .u 8, acc := .ro, n := 2 },
    { idx := 0x100B, sub := 0x0A, ty := .u 4, acc := .ro, n := 2 },
    { idx := 0x100B, sub := 0x0B, ty := .u 4, acc := .ro, n := 2 },
    { idx := 0x100D, sub := 0x01, ty := .u 2, acc := .rw, persist := true, dflt := .const 1000, rng := .range 10 60000 },
    { idx := 0x100D, sub := 0x02, ty := .u 1, acc := .rw, persist := true, dflt := .const 16, rng := .range 1 16 },
    { idx := 0x1010, sub := 0x01, ty := .u 2, acc := .ro },
    { idx := 0x1010, sub := 0x02, ty := .u 2, acc := .rw, persist := true, dflt := .const 1000, rng := .range 10 60000 },
    { idx := 0x1010, sub := 0x03, ty := .u 4, acc := .ro },
    { idx := 0x1011, sub := 0x01, ty := .u 8, acc := .ro },
    { idx := 0x1011, sub := 0x02, ty := .u 4, acc := .ro },
    { idx := 0x1011, sub := 0x03, ty := .u 4, acc := .ro } ]

/-- Entries of page 0x11 (R538, R539). -/
def rows11 : List Row :=
  [ { idx := 0x1100, sub := 0x01, ty := .u 1, acc := .wo, guarded := true },
    { idx := 0x1100, sub := 0x02, ty := .u 1, acc := .ro },
    { idx := 0x1100, sub := 0x03, ty := .u 4, acc := .ro },
    { idx := 0x1100, sub := 0x04, ty := .u 1, acc := .ro },
    { idx := 0x1100, sub := 0x05, ty := .u 4, acc := .ro },
    { idx := 0x1100, sub := 0x06, ty := .u 4, acc := .ro },
    { idx := 0x1100, sub := 0x07, ty := .u 1, acc := .ro },
    { idx := 0x1101, sub := 0x01, ty := .bool, acc := .rw, guarded := true, persist := true },
    { idx := 0x1101, sub := 0x02, ty := .u 2, acc := .rw, persist := true, dflt := .const 64, rng := .range 16 1024 },
    { idx := 0x1101, sub := 0x03, ty := .u 1, acc := .rw, guarded := true, persist := true, dflt := .const 0xFF, rng := .rangeOr 0 7 0xFF },
    { idx := 0x1102, sub := 0x01, ty := .u 4, acc := .ro } ]

/-- Entries of page 0x20 (R447, R448). -/
def rows20 : List Row :=
  [ { idx := 0x2000, sub := 0x01, ty := .u 1, acc := .ro },
    { idx := 0x2000, sub := 0x02, ty := .u 4, acc := .ro },
    { idx := 0x2010, sub := 0x01, ty := .u 1, acc := .ro, n := 8 },
    { idx := 0x2010, sub := 0x02, ty := .u 4, acc := .ro, n := 8 },
    { idx := 0x2010, sub := 0x03, ty := .u 4, acc := .ro, n := 8 },
    { idx := 0x2010, sub := 0x04, ty := .u 1, acc := .ro, n := 8 },
    { idx := 0x2015, sub := 0x05, ty := .u 1, acc := .rwr, guarded := true, persist := true, dflt := .loopRef, rng := .special, n := 3 },
    { idx := 0x2012, sub := 0x06, ty := .u 4, acc := .rwr, guarded := true, persist := true, dflt := .const 25000000, rng := .special, n := 2 },
    { idx := 0x2017, sub := 0x06, ty := .u 4, acc := .rwr, guarded := true, persist := true, dflt := .const 25000000, rng := .special },
    { idx := 0x2017, sub := 0x07, ty := .u 4, acc := .rwr, guarded := true, persist := true, dflt := .const 100000000, rng := .range 10000000 500000000 },
    { idx := 0x2020, sub := 0x01, ty := .u 1, acc := .ro },
    { idx := 0x2020, sub := 0x02, ty := .i32, acc := .ro },
    { idx := 0x2020, sub := 0x03, ty := .u 1, acc := .ro, dflt := .const 0xFF },
    { idx := 0x2030, sub := 0x01, ty := .f32, acc := .ro, dflt := .const 0x3f800000 },
    { idx := 0x2030, sub := 0x02, ty := .u 8, acc := .ro },
    { idx := 0x2030, sub := 0x03, ty := .u 4, acc := .ro },
    { idx := 0x2040, sub := 0x01, ty := .u 1, acc := .ro, n := 7 },
    { idx := 0x2040, sub := 0x02, ty := .u 1, acc := .ro, dflt := .const 0xFF, n := 7 },
    { idx := 0x2040, sub := 0x03, ty := .u 4, acc := .rwr, guarded := true, persist := true, dflt := .order, rng := .special, n := 7 },
    { idx := 0x2040, sub := 0x04, ty := .u 1, acc := .wo, guarded := true, n := 7 },
    { idx := 0x2040, sub := 0x05, ty := .u 4, acc := .ro, n := 7 },
    { idx := 0x2040, sub := 0x06, ty := .u 2, acc := .ro, n := 7 },
    { idx := 0x2040, sub := 0x07, ty := .u 2, acc := .ro, n := 7 },
    { idx := 0x2040, sub := 0x08, ty := .u 4, acc := .ro, n := 7 },
    { idx := 0x2040, sub := 0x09, ty := .bool, acc := .rw, n := 7 },
    { idx := 0x2040, sub := 0x0A, ty := .bool, acc := .rw, persist := true, dflt := .const 1, rng := .special, n := 7 } ]

/-- Entries of page 0x21 (R475, R551). -/
def rows21 : List Row :=
  [ { idx := 0x2100, sub := 0x01, ty := .u 2, acc := .ro, dflt := .const 750 },
    { idx := 0x2100, sub := 0x02, ty := .u 2, acc := .ro },
    { idx := 0x2100, sub := 0x03, ty := .u 2, acc := .ro, dflt := .const 580 },
    { idx := 0x2100, sub := 0x04, ty := .u 1, acc := .rw, guarded := true, persist := true, dflt := .const 10, rng := .range 5 20 },
    { idx := 0x2100, sub := 0x05, ty := .u 1, acc := .rw, guarded := true, persist := true, dflt := .const 5, rng := .range 1 10 },
    { idx := 0x2100, sub := 0x06, ty := .u 2, acc := .rw, persist := true, dflt := .const 1000, rng := .range 100 60000 },
    { idx := 0x2100, sub := 0x07, ty := .u 4, acc := .ro },
    { idx := 0x2100, sub := 0x08, ty := .u 4, acc := .ro },
    { idx := 0x2100, sub := 0x09, ty := .u 4, acc := .ro },
    { idx := 0x2101, sub := 0x01, ty := .u 2, acc := .ro },
    { idx := 0x2101, sub := 0x02, ty := .u 4, acc := .ro },
    { idx := 0x2102, sub := 0x01, ty := .u 1, acc := .ro },
    { idx := 0x2102, sub := 0x02, ty := .u 1, acc := .wo, guarded := true },
    { idx := 0x2103, sub := 0x01, ty := .u 1, acc := .ro },
    { idx := 0x2103, sub := 0x02, ty := .u 4, acc := .ro },
    { idx := 0x2110, sub := 0x01, ty := .bool, acc := .rw, guarded := true, persist := true },
    { idx := 0x2110, sub := 0x02, ty := .u 8, acc := .ro },
    { idx := 0x2110, sub := 0x03, ty := .u 1, acc := .ro },
    { idx := 0x2120, sub := 0x01, ty := .u 2, acc := .ro, n := 8 },
    { idx := 0x2120, sub := 0x02, ty := .u 1, acc := .ro, n := 8 },
    { idx := 0x2120, sub := 0x03, ty := .u 1, acc := .ro, n := 8 } ]

/-- Entries of page 0x22 (R476). -/
def rows22 : List Row :=
  [ { idx := 0x2200, sub := 0x01, ty := .i32, acc := .ro, n := 128 },
    { idx := 0x2200, sub := 0x02, ty := .u 1, acc := .ro, n := 128 },
    { idx := 0x2200, sub := 0x03, ty := .u 1, acc := .ro, n := 128 },
    { idx := 0x2200, sub := 0x04, ty := .i32, acc := .ro, n := 128 },
    { idx := 0x2200, sub := 0x05, ty := .i32, acc := .ro, n := 128 },
    { idx := 0x2200, sub := 0x06, ty := .u 4, acc := .ro, dflt := .neighbours, n := 128 },
    { idx := 0x2200, sub := 0x07, ty := .i32, acc := .ro, dflt := .offset, n := 128 },
    { idx := 0x2200, sub := 0x08, ty := .u 1, acc := .wo, guarded := true, n := 128 },
    { idx := 0x2280, sub := 0x01, ty := .i32, acc := .ro },
    { idx := 0x2280, sub := 0x02, ty := .u 1, acc := .ro },
    { idx := 0x2280, sub := 0x03, ty := .i32, acc := .ro },
    { idx := 0x2280, sub := 0x04, ty := .u 1, acc := .rw, guarded := true, persist := true, dflt := .const 95, rng := .special },
    { idx := 0x2280, sub := 0x05, ty := .u 1, acc := .rw, guarded := true, persist := true, dflt := .const 100, rng := .special },
    { idx := 0x2280, sub := 0x06, ty := .u 1, acc := .rw, guarded := true, persist := true, dflt := .const 110, rng := .special },
    { idx := 0x2280, sub := 0x07, ty := .u 1, acc := .ro, dflt := .const 115 },
    { idx := 0x2280, sub := 0x08, ty := .u 1, acc := .rw, persist := true, dflt := .const 8, rng := .range 1 50 },
    { idx := 0x2280, sub := 0x09, ty := .u 1, acc := .rw, guarded := true, persist := true, rng := .range 0 50 },
    { idx := 0x2280, sub := 0x0A, ty := .u 1, acc := .ro },
    { idx := 0x2280, sub := 0x0B, ty := .u 2, acc := .rw, persist := true, dflt := .const 600, rng := .range 10 3600 },
    { idx := 0x2280, sub := 0x0C, ty := .bool, acc := .ro },
    { idx := 0x2290, sub := 0x01, ty := .u 1, acc := .ro },
    { idx := 0x2290, sub := 0x02, ty := .u 1, acc := .ro },
    { idx := 0x2290, sub := 0x03, ty := .u 1, acc := .ro },
    { idx := 0x2290, sub := 0x04, ty := .u 4, acc := .rw, guarded := true, persist := true, dflt := .const 200, rng := .range 10 10000 },
    { idx := 0x2290, sub := 0x05, ty := .u 2, acc := .rw, guarded := true, persist := true, dflt := .const 0x4321, rng := .special },
    { idx := 0x2290, sub := 0x06, ty := .u 4, acc := .rw, guarded := true, persist := true, dflt := .const 100, rng := .range 10 10000 },
    { idx := 0x2290, sub := 0x07, ty := .u 4, acc := .rw, guarded := true, persist := true, dflt := .const 10000, rng := .range 1000 600000 },
    { idx := 0x2290, sub := 0x08, ty := .u 1, acc := .wo, guarded := true },
    { idx := 0x2290, sub := 0x09, ty := .u 1, acc := .rw, guarded := true, persist := true, dflt := .const 1, rng := .range 0 1 },
    { idx := 0x2290, sub := 0x0A, ty := .u 4, acc := .ro },
    { idx := 0x2290, sub := 0x0B, ty := .u 8, acc := .ro },
    { idx := 0x22A0, sub := 0x01, ty := .bool, acc := .rw, guarded := true, persist := true },
    { idx := 0x22A0, sub := 0x02, ty := .u 1, acc := .rw, persist := true, dflt := .const 15, rng := .range 5 40 },
    { idx := 0x22A0, sub := 0x03, ty := .u 2, acc := .rw, persist := true, dflt := .const 1000, rng := .range 100 60000 } ]

/-- Entries of page 0x24 (R525). -/
def rows24 : List Row :=
  [ { idx := 0x2400, sub := 0x01, ty := .u 1, acc := .ro },
    { idx := 0x2400, sub := 0x02, ty := .octets 48, acc := .ro, dflt := .vendorHash },
    { idx := 0x2400, sub := 0x03, ty := .octets 48, acc := .ro },
    { idx := 0x2400, sub := 0x04, ty := .octets 48, acc := .ro },
    { idx := 0x2400, sub := 0x05, ty := .u 4, acc := .ro },
    { idx := 0x2400, sub := 0x06, ty := .domain, acc := .ro },
    { idx := 0x2401, sub := 0x01, ty := .domain, acc := .wo, guarded := true },
    { idx := 0x2401, sub := 0x02, ty := .domain, acc := .wo, guarded := true },
    { idx := 0x2401, sub := 0x03, ty := .u 1, acc := .wo, guarded := true },
    { idx := 0x2401, sub := 0x04, ty := .u 4, acc := .wo, guarded := true },
    { idx := 0x2410, sub := 0x01, ty := .u 1, acc := .ro, n := 16 },
    { idx := 0x2410, sub := 0x02, ty := .u 4, acc := .ro, n := 16 },
    { idx := 0x2410, sub := 0x03, ty := .domain, acc := .wo, guarded := true, n := 16 },
    { idx := 0x2410, sub := 0x04, ty := .u 1, acc := .wo, guarded := true, n := 16 },
    { idx := 0x2420, sub := 0x01, ty := .octets 48, acc := .ro },
    { idx := 0x2420, sub := 0x02, ty := .domain, acc := .wo },
    { idx := 0x2420, sub := 0x03, ty := .u 1, acc := .ro },
    { idx := 0x2420, sub := 0x04, ty := .u 1, acc := .ro },
    { idx := 0x2420, sub := 0x05, ty := .u 1, acc := .wo },
    { idx := 0x2420, sub := 0x06, ty := .u 4, acc := .rw, guarded := true, persist := true, dflt := .const 600, rng := .range 10 86400 },
    { idx := 0x2420, sub := 0x07, ty := .u 4, acc := .ro },
    { idx := 0x2430, sub := 0x01, ty := .u 1, acc := .ro },
    { idx := 0x2430, sub := 0x02, ty := .u 4, acc := .ro },
    { idx := 0x2430, sub := 0x03, ty := .u 1, acc := .ro },
    { idx := 0x2430, sub := 0x04, ty := .u 4, acc := .ro },
    { idx := 0x2430, sub := 0x05, ty := .u 1, acc := .ro },
    { idx := 0x2430, sub := 0x06, ty := .u 1, acc := .wo, guarded := true } ]

/-- Entries of page 0x25 (R526). -/
def rows25 : List Row :=
  [ { idx := 0x2500, sub := 0x01, ty := .u 1, acc := .wo, guarded := true },
    { idx := 0x2500, sub := 0x02, ty := .u 1, acc := .ro, dflt := .const 0xFF },
    { idx := 0x2500, sub := 0x03, ty := .u 4, acc := .rw, guarded := true, persist := true, dflt := .const 300, rng := .range 10 3600, lock := true },
    { idx := 0x2501, sub := 0x01, ty := .u 1, acc := .ro },
    { idx := 0x2501, sub := 0x02, ty := .u 1, acc := .ro },
    { idx := 0x2501, sub := 0x03, ty := .u 4, acc := .rw, guarded := true, persist := true, dflt := .const 60, rng := .range 10 3600, lock := true },
    { idx := 0x2501, sub := 0x04, ty := .u 4, acc := .ro },
    { idx := 0x2501, sub := 0x05, ty := .bool, acc := .rw, guarded := true, persist := true, lock := true },
    { idx := 0x2501, sub := 0x06, ty := .u 1, acc := .wo, guarded := true, lock := true },
    { idx := 0x2501, sub := 0x07, ty := .u 1, acc := .ro },
    { idx := 0x2501, sub := 0x08, ty := .bool, acc := .rw, guarded := true, persist := true, dflt := .const 1, lock := true },
    { idx := 0x2510, sub := 0x01, ty := .u 1, acc := .ro, n := 3 },
    { idx := 0x2510, sub := 0x02, ty := .u 1, acc := .ro, dflt := .const 3, n := 2 },
    { idx := 0x2512, sub := 0x02, ty := .u 1, acc := .ro },
    { idx := 0x2510, sub := 0x03, ty := .u 1, acc := .ro, n := 3 },
    { idx := 0x2510, sub := 0x04, ty := .u 4, acc := .ro, n := 3 },
    { idx := 0x2510, sub := 0x05, ty := .u 4, acc := .ro, n := 3 },
    { idx := 0x2510, sub := 0x06, ty := .domain, acc := .wo, guarded := true, lock := true, n := 3 },
    { idx := 0x2510, sub := 0x07, ty := .u 8, acc := .ro, n := 3 },
    { idx := 0x2510, sub := 0x08, ty := .u 1, acc := .ro, n := 3 },
    { idx := 0x2520, sub := 0x01, ty := .u 1, acc := .wo, guarded := true, lock := true },
    { idx := 0x2520, sub := 0x02, ty := .u 2, acc := .rw, guarded := true, lock := true },
    { idx := 0x2520, sub := 0x03, ty := .u 1, acc := .ro },
    { idx := 0x2520, sub := 0x04, ty := .u 1, acc := .ro },
    { idx := 0x2520, sub := 0x05, ty := .u 4, acc := .ro },
    { idx := 0x2520, sub := 0x06, ty := .domain, acc := .ro, guarded := true } ]

/-- Entries of page 0x30 (R240). -/
def rows30 : List Row :=
  [ { idx := 0x3000, sub := 0x00, ty := .u 8, acc := .rw, guarded := true, persist := true, rng := .special, n := 64, m := 8 },
    { idx := 0x3000, sub := 0x08, ty := .u 4, acc := .rwr, guarded := true, persist := true, rng := .mask 0xFFFFFF, n := 64, m := 8 },
    { idx := 0x3000, sub := 0x10, ty := .u 1, acc := .ro, n := 64 },
    { idx := 0x3000, sub := 0x11, ty := .u 1, acc := .rw, guarded := true, persist := true, dflt := .const 0x02, rng := .mask 3, n := 64 },
    { idx := 0x3000, sub := 0x12, ty := .u 1, acc := .rw, persist := true, dflt := .const 2, rng := .range 1 16, n := 64 },
    { idx := 0x3000, sub := 0x13, ty := .u 1, acc := .wo, guarded := true, n := 64 },
    { idx := 0x3000, sub := 0x14, ty := .u 1, acc := .ro, n := 64 },
    { idx := 0x3000, sub := 0x15, ty := .u 1, acc := .ro, n := 64 },
    { idx := 0x3000, sub := 0x16, ty := .u 2, acc := .ro, n := 64 },
    { idx := 0x3000, sub := 0x17, ty := .u 2, acc := .ro, n := 64 },
    { idx := 0x3000, sub := 0x18, ty := .u 4, acc := .ro, n := 64, m := 8 },
    { idx := 0x3000, sub := 0x20, ty := .f32, acc := .rw, persist := true, dflt := .const 0x3089705f, rng := .f32 0x26901D7D 0x3A83126F, n := 64 },
    { idx := 0x3000, sub := 0x21, ty := .u 1, acc := .ro, n := 64, m := 8 } ]

/-- Entries of page 0x31 (R242). -/
def rows31 : List Row :=
  [ { idx := 0x3100, sub := 0x01, ty := .u 1, acc := .ro, n := 512 },
    { idx := 0x3100, sub := 0x02, ty := .u 8, acc := .ro, n := 512 },
    { idx := 0x3100, sub := 0x03, ty := .u 4, acc := .ro, n := 512 },
    { idx := 0x3100, sub := 0x04, ty := .u 4, acc := .ro, n := 512 },
    { idx := 0x3100, sub := 0x05, ty := .u 4, acc := .ro, n := 512 },
    { idx := 0x3100, sub := 0x06, ty := .f32, acc := .ro, n := 512 },
    { idx := 0x3100, sub := 0x07, ty := .u 4, acc := .ro, n := 512 },
    { idx := 0x3100, sub := 0x08, ty := .u 2, acc := .ro, n := 512 },
    { idx := 0x3100, sub := 0x09, ty := .u 2, acc := .ro, n := 512 },
    { idx := 0x3100, sub := 0x0A, ty := .u 4, acc := .ro, n := 512 },
    { idx := 0x3100, sub := 0x0B, ty := .u 8, acc := .ro, n := 512 },
    { idx := 0x3100, sub := 0x0C, ty := .u 8, acc := .ro, n := 512 },
    { idx := 0x3100, sub := 0x0D, ty := .u 4, acc := .ro, n := 512 },
    { idx := 0x3100, sub := 0x0E, ty := .u 4, acc := .ro, n := 512 },
    { idx := 0x3100, sub := 0x0F, ty := .i32, acc := .ro, n := 512 },
    { idx := 0x3100, sub := 0x10, ty := .u 8, acc := .ro, n := 512 },
    { idx := 0x3100, sub := 0x11, ty := .u 4, acc := .ro, n := 512 },
    { idx := 0x3100, sub := 0x12, ty := .u 8, acc := .ro, n := 512 },
    { idx := 0x3100, sub := 0x13, ty := .u 1, acc := .ro, n := 512 },
    { idx := 0x3100, sub := 0x14, ty := .u 8, acc := .ro, n := 512 },
    { idx := 0x3100, sub := 0x15, ty := .octets 32, acc := .ro, n := 512 },
    { idx := 0x3100, sub := 0x16, ty := .u 1, acc := .wo, n := 512 },
    { idx := 0x3100, sub := 0x17, ty := .u 4, acc := .ro, n := 512 } ]

/-- Entries of page 0x33 (R243). -/
def rows33 : List Row :=
  [ { idx := 0x3300, sub := 0x01, ty := .u 1, acc := .rw, guarded := true, persist := true, dflt := .const 2, rng := .range 0 5 },
    { idx := 0x3300, sub := 0x02, ty := .u 1, acc := .ro, dflt := .const 0xFF },
    { idx := 0x3300, sub := 0x03, ty := .u 1, acc := .ro },
    { idx := 0x3300, sub := 0x04, ty := .u 1, acc := .ro },
    { idx := 0x3300, sub := 0x05, ty := .u 4, acc := .rw, guarded := true, persist := true, rng := .range 0 1000000 },
    { idx := 0x3300, sub := 0x06, ty := .u 4, acc := .rw, guarded := true, persist := true, rng := .range 0 1000000 },
    { idx := 0x3300, sub := 0x07, ty := .u 2, acc := .rw, guarded := true, persist := true, dflt := .const 0xFFFF, rng := .rangeOr 0 511 0xFFFF },
    { idx := 0x3300, sub := 0x08, ty := .u 1, acc := .rw, guarded := true, persist := true, dflt := .const 4, rng := .range 4 64 },
    { idx := 0x3300, sub := 0x09, ty := .u 8, acc := .ro },
    { idx := 0x3300, sub := 0x0A, ty := .u 4, acc := .ro },
    { idx := 0x3300, sub := 0x0B, ty := .u 4, acc := .ro },
    { idx := 0x3300, sub := 0x0C, ty := .u 8, acc := .ro },
    { idx := 0x3300, sub := 0x0D, ty := .i32, acc := .ro } ]

/-- Entries of page 0x34 (R319). -/
def rows34 : List Row :=
  [ { idx := 0x3400, sub := 0x01, ty := .u 8, acc := .rw, guarded := true, persist := true, rng := .special, n := 8 },
    { idx := 0x3400, sub := 0x02, ty := .u 1, acc := .ro, n := 8 },
    { idx := 0x3400, sub := 0x03, ty := .u 4, acc := .ro, n := 8 },
    { idx := 0x3400, sub := 0x04, ty := .u 4, acc := .ro, n := 8 },
    { idx := 0x3400, sub := 0x05, ty := .u 2, acc := .ro, n := 8 },
    { idx := 0x3400, sub := 0x06, ty := .u 4, acc := .ro, n := 8 },
    { idx := 0x3400, sub := 0x07, ty := .u 4, acc := .ro, n := 8 },
    { idx := 0x3400, sub := 0x08, ty := .u 2, acc := .ro, n := 8 },
    { idx := 0x3400, sub := 0x09, ty := .u 1, acc := .ro, n := 8 },
    { idx := 0x3400, sub := 0x0A, ty := .u 4, acc := .ro, n := 8 },
    { idx := 0x3400, sub := 0x0B, ty := .u 8, acc := .ro, n := 8 },
    { idx := 0x3400, sub := 0x0C, ty := .u 4, acc := .ro, n := 8 },
    { idx := 0x3400, sub := 0x0D, ty := .u 8, acc := .ro, n := 8 },
    { idx := 0x3400, sub := 0x0E, ty := .u 4, acc := .ro, n := 8 },
    { idx := 0x3400, sub := 0x0F, ty := .u 4, acc := .ro, n := 8 },
    { idx := 0x3400, sub := 0x10, ty := .i32, acc := .ro, n := 8 },
    { idx := 0x3400, sub := 0x11, ty := .u 1, acc := .wo, n := 8 } ]

/-- Entries of page 0x40 (R64). -/
def rows40 : List Row :=
  [ { idx := 0x4000, sub := 0x00, ty := .u 1, acc := .ro },
    { idx := 0x4001, sub := 0x01, ty := .u 4, acc := .ro },
    { idx := 0x4001, sub := 0x02, ty := .u 1, acc := .ro },
    { idx := 0x4001, sub := 0x03, ty := .u 4, acc := .ro },
    { idx := 0x4001, sub := 0x04, ty := .u 2, acc := .ro },
    { idx := 0x4002, sub := 0x01, ty := .u 8, acc := .ro },
    { idx := 0x4002, sub := 0x02, ty := .u 1, acc := .ro },
    { idx := 0x4002, sub := 0x03, ty := .u 2, acc := .ro },
    { idx := 0x4002, sub := 0x04, ty := .u 1, acc := .ro },
    { idx := 0x4003, sub := 0x01, ty := .u 1, acc := .wo, guarded := true },
    { idx := 0x4003, sub := 0x02, ty := .u 8, acc := .rw },
    { idx := 0x4003, sub := 0x03, ty := .u 8, acc := .rw },
    { idx := 0x4003, sub := 0x04, ty := .u 8, acc := .ro },
    { idx := 0x4003, sub := 0x05, ty := .u 8, acc := .ro },
    { idx := 0x4004, sub := 0x01, ty := .u 4, acc := .ro },
    { idx := 0x4004, sub := 0x02, ty := .u 4, acc := .ro },
    { idx := 0x4005, sub := 0x01, ty := .u 2, acc := .rw, persist := true, dflt := .const 40, rng := .special },
    { idx := 0x4005, sub := 0x02, ty := .u 2, acc := .rw, persist := true, dflt := .const 150, rng := .special },
    { idx := 0x4005, sub := 0x03, ty := .u 2, acc := .rw, persist := true, dflt := .const 20, rng := .special },
    { idx := 0x4005, sub := 0x04, ty := .u 2, acc := .rwr, persist := true, dflt := .const 10, rng := .range 1 100 },
    { idx := 0x4006, sub := 0x01, ty := .u 8, acc := .ro },
    { idx := 0x4006, sub := 0x02, ty := .u 4, acc := .ro },
    { idx := 0x4006, sub := 0x03, ty := .u 8, acc := .ro },
    { idx := 0x4006, sub := 0x04, ty := .u 4, acc := .ro },
    { idx := 0x4007, sub := 0x00, ty := .u 1, acc := .rwr, persist := true, dflt := .const 4, rng := .range 1 8 },
    { idx := 0x4040, sub := 0x01, ty := .u 2, acc := .ro, n := 64 },
    { idx := 0x4040, sub := 0x02, ty := .f32, acc := .ro, n := 64 },
    { idx := 0x4040, sub := 0x03, ty := .u 2, acc := .ro, n := 64 },
    { idx := 0x4040, sub := 0x04, ty := .i32, acc := .ro, n := 64 },
    { idx := 0x4040, sub := 0x05, ty := .i32, acc := .rw, n := 64 },
    { idx := 0x4040, sub := 0x06, ty := .u 4, acc := .ro, n := 64 },
    { idx := 0x4040, sub := 0x07, ty := .u 8, acc := .ro, n := 64 },
    { idx := 0x4080, sub := 0x01, ty := .u 2, acc := .ro, n := 6 },
    { idx := 0x4080, sub := 0x02, ty := .f32, acc := .ro, n := 6 },
    { idx := 0x4080, sub := 0x03, ty := .u 2, acc := .ro, n := 6 } ]

/-- Entries of page 0x41 (R93, R168). -/
def rows41 : List Row :=
  [ { idx := 0x4100, sub := 0x01, ty := .u 4, acc := .ro, n := 64 },
    { idx := 0x4100, sub := 0x02, ty := .u 4, acc := .ro, n := 64 },
    { idx := 0x4100, sub := 0x03, ty := .u 2, acc := .ro, n := 64 },
    { idx := 0x4100, sub := 0x04, ty := .u 4, acc := .ro, n := 64 },
    { idx := 0x4100, sub := 0x05, ty := .u 4, acc := .ro, n := 64 },
    { idx := 0x4100, sub := 0x06, ty := .u 8, acc := .ro, n := 64 },
    { idx := 0x4100, sub := 0x07, ty := .u 2, acc := .ro, n := 64 },
    { idx := 0x4100, sub := 0x08, ty := .u 1, acc := .wo, guarded := true, n := 64 },
    { idx := 0x4100, sub := 0x09, ty := .bool, acc := .rw, persist := true, dflt := .const 1, n := 64 },
    { idx := 0x4100, sub := 0x10, ty := .u 1, acc := .ro, n := 64 },
    { idx := 0x4100, sub := 0x11, ty := .u 1, acc := .ro, dflt := .const 0xFF, n := 64 },
    { idx := 0x4100, sub := 0x12, ty := .u 1, acc := .wo, guarded := true, n := 64 },
    { idx := 0x4100, sub := 0x13, ty := .u 8, acc := .rw, rng := .wave, n := 64 },
    { idx := 0x4100, sub := 0x14, ty := .u 1, acc := .rw, dflt := .const 1, rng := .range 0 1, n := 64 },
    { idx := 0x4100, sub := 0x15, ty := .u 1, acc := .rw, guarded := true, persist := true, dflt := .const 0xFF, rng := .rangeOr 0 7 0xFF, n := 64 },
    { idx := 0x4100, sub := 0x16, ty := .u 1, acc := .rw, guarded := true, persist := true, rng := .range 0 1, n := 64 },
    { idx := 0x4100, sub := 0x17, ty := .bool, acc := .rw, guarded := true, persist := true, n := 64 },
    { idx := 0x4100, sub := 0x18, ty := .u 4, acc := .ro, n := 64 },
    { idx := 0x4100, sub := 0x19, ty := .u 2, acc := .ro, dflt := .const 0xFFFE, n := 64 },
    { idx := 0x4100, sub := 0x1A, ty := .u 8, acc := .ro, n := 64 },
    { idx := 0x4100, sub := 0x1B, ty := .u 8, acc := .ro, n := 64 },
    { idx := 0x4100, sub := 0x1C, ty := .u 8, acc := .ro, n := 64 },
    { idx := 0x4100, sub := 0x1D, ty := .u 2, acc := .ro, n := 64 },
    { idx := 0x4100, sub := 0x1E, ty := .u 4, acc := .ro, n := 64 },
    { idx := 0x4100, sub := 0x20, ty := .u 1, acc := .ro, n := 64, m := 8 } ]

/-- Entries of page 0x42 (R169). -/
def rows42 : List Row :=
  [ { idx := 0x4200, sub := 0x01, ty := .u 4, acc := .ro },
    { idx := 0x4200, sub := 0x02, ty := .u 4, acc := .rw, persist := true, dflt := .const 2048, rng := .range 1024 65535 },
    { idx := 0x4200, sub := 0x03, ty := .u 4, acc := .ro },
    { idx := 0x4200, sub := 0x04, ty := .u 4, acc := .ro },
    { idx := 0x4201, sub := 0x01, ty := .u 1, acc := .ro, m := 8 },
    { idx := 0x4202, sub := 0x01, ty := .u 4, acc := .ro, m := 8 },
    { idx := 0x4210, sub := 0x01, ty := .u 8, acc := .rw, guarded := true, n := 16 },
    { idx := 0x4210, sub := 0x02, ty := .u 8, acc := .rw, guarded := true, rng := .wave, n := 16 },
    { idx := 0x4210, sub := 0x03, ty := .u 1, acc := .rw, guarded := true, rng := .range 0 7, n := 16 },
    { idx := 0x4210, sub := 0x04, ty := .u 1, acc := .rw, guarded := true, dflt := .const 1, rng := .range 0 1, n := 16 },
    { idx := 0x4210, sub := 0x05, ty := .u 1, acc := .wo, guarded := true, n := 16 },
    { idx := 0x4210, sub := 0x06, ty := .u 1, acc := .ro, n := 16 },
    { idx := 0x4210, sub := 0x07, ty := .u 1, acc := .ro, n := 16 },
    { idx := 0x4210, sub := 0x08, ty := .u 1, acc := .ro, n := 16 },
    { idx := 0x4230, sub := 0x01, ty := .u 1, acc := .ro, dflt := .const 0xFF, n := 16 },
    { idx := 0x4230, sub := 0x02, ty := .u 1, acc := .ro, n := 16 },
    { idx := 0x4230, sub := 0x03, ty := .u 1, acc := .ro, n := 16 },
    { idx := 0x4230, sub := 0x04, ty := .u 1, acc := .ro, n := 16 },
    { idx := 0x4230, sub := 0x05, ty := .u 1, acc := .ro, n := 16 },
    { idx := 0x4230, sub := 0x06, ty := .u 1, acc := .ro, n := 16 },
    { idx := 0x4230, sub := 0x07, ty := .u 1, acc := .ro, n := 16 },
    { idx := 0x4240, sub := 0x01, ty := .u 1, acc := .wo, guarded := true },
    { idx := 0x4240, sub := 0x02, ty := .u 1, acc := .rw, guarded := true, rng := .range 0 15 },
    { idx := 0x4240, sub := 0x03, ty := .u 8, acc := .rw, guarded := true, rng := .wave },
    { idx := 0x4240, sub := 0x04, ty := .u 4, acc := .ro },
    { idx := 0x4240, sub := 0x05, ty := .u 1, acc := .ro, dflt := .const 0xFF },
    { idx := 0x4240, sub := 0x07, ty := .u 8, acc := .ro } ]

/-- Entries of page 0x43 (R197). -/
def rows43 : List Row :=
  [ { idx := 0x4300, sub := 0x01, ty := .u 1, acc := .wo, guarded := true },
    { idx := 0x4300, sub := 0x02, ty := .u 1, acc := .rw, guarded := true, rng := .range 0 1 },
    { idx := 0x4300, sub := 0x03, ty := .u 1, acc := .rw, guarded := true, persist := true, rng := .range 0 1 },
    { idx := 0x4300, sub := 0x04, ty := .u 4, acc := .rw, guarded := true, persist := true },
    { idx := 0x4300, sub := 0x05, ty := .u 4, acc := .rw, persist := true, dflt := .const 2000, rng := .range 10 60000 },
    { idx := 0x4300, sub := 0x07, ty := .bool, acc := .rw, guarded := true, persist := true },
    { idx := 0x4301, sub := 0x01, ty := .u 1, acc := .ro },
    { idx := 0x4301, sub := 0x02, ty := .u 1, acc := .ro },
    { idx := 0x4301, sub := 0x03, ty := .u 1, acc := .ro, dflt := .const 0xFF },
    { idx := 0x4301, sub := 0x04, ty := .u 4, acc := .ro },
    { idx := 0x4301, sub := 0x05, ty := .u 4, acc := .ro },
    { idx := 0x4301, sub := 0x06, ty := .u 8, acc := .ro },
    { idx := 0x4301, sub := 0x07, ty := .u 8, acc := .ro },
    { idx := 0x4301, sub := 0x08, ty := .u 1, acc := .ro },
    { idx := 0x4301, sub := 0x09, ty := .u 4, acc := .ro },
    { idx := 0x4301, sub := 0x0A, ty := .u 4, acc := .ro },
    { idx := 0x4301, sub := 0x0C, ty := .u 4, acc := .ro },
    { idx := 0x4302, sub := 0x00, ty := .u 4, acc := .ro, dflt := .deviceCode },
    { idx := 0x4310, sub := 0x00, ty := .domain, acc := .wo, guarded := true },
    { idx := 0x4320, sub := 0x01, ty := .u 1, acc := .rw, guarded := true, rng := .range 0 63 },
    { idx := 0x4320, sub := 0x02, ty := .u 1, acc := .rw, guarded := true, rng := .range 0 7 },
    { idx := 0x4321, sub := 0x00, ty := .domain, acc := .ro, guarded := true },
    { idx := 0x4330, sub := 0x00, ty := .u 8, acc := .wo, guarded := true },
    { idx := 0x4340, sub := 0x01, ty := .u 4, acc := .ro, n := 64 },
    { idx := 0x4340, sub := 0x02, ty := .u 4, acc := .ro, n := 64 },
    { idx := 0x4340, sub := 0x03, ty := .u 4, acc := .ro, n := 64 },
    { idx := 0x4340, sub := 0x04, ty := .u 4, acc := .ro, n := 64 },
    { idx := 0x4340, sub := 0x05, ty := .u 8, acc := .ro, n := 64 },
    { idx := 0x4340, sub := 0x06, ty := .u 1, acc := .ro, n := 64 },
    { idx := 0x4340, sub := 0x07, ty := .u 4, acc := .ro, n := 64 } ]

/-- Entries of page 0x44 (R94). -/
def rows44 : List Row :=
  [ { idx := 0x4400, sub := 0x01, ty := .bool, acc := .ro },
    { idx := 0x4400, sub := 0x02, ty := .u 1, acc := .rwr, guarded := true, persist := true, dflt := .const 8, rng := .range 1 64 },
    { idx := 0x4400, sub := 0x03, ty := .u 1, acc := .rw, guarded := true, persist := true, dflt := .const 8, rng := .oneOf [1, 2, 4, 8, 16, 32, 64] },
    { idx := 0x4400, sub := 0x04, ty := .u 1, acc := .rw, guarded := true, persist := true, rng := .mask 7 },
    { idx := 0x4400, sub := 0x05, ty := .u 2, acc := .rw, guarded := true, persist := true, dflt := .const 0xFFFF, rng := .rangeOr 0 511 0xFFFF },
    { idx := 0x4400, sub := 0x06, ty := .u 2, acc := .rw, guarded := true, persist := true, dflt := .const 0xFFFF, rng := .rangeOr 0 511 0xFFFF },
    { idx := 0x4400, sub := 0x07, ty := .u 4, acc := .ro },
    { idx := 0x4401, sub := 0x01, ty := .u 2, acc := .rw, guarded := true, rng := .mask 0xBF3F, m := 32 },
    { idx := 0x4410, sub := 0x01, ty := .u 4, acc := .rw, guarded := true, rng := .mask 0xE000FFFF, n := 64, m := 64 } ]

/-- Entries of page 0x50 (R135). -/
def rows50 : List Row :=
  [ { idx := 0x5000, sub := 0x01, ty := .u 4, acc := .ro, n := 64 },
    { idx := 0x5000, sub := 0x02, ty := .u 4, acc := .ro, n := 64 },
    { idx := 0x5000, sub := 0x03, ty := .u 4, acc := .ro, n := 64 },
    { idx := 0x5000, sub := 0x04, ty := .u 4, acc := .ro, n := 64 },
    { idx := 0x5000, sub := 0x05, ty := .u 4, acc := .ro, n := 64 },
    { idx := 0x5000, sub := 0x06, ty := .u 8, acc := .ro, n := 64 },
    { idx := 0x5000, sub := 0x07, ty := .u 4, acc := .ro, n := 64 },
    { idx := 0x5000, sub := 0x08, ty := .u 4, acc := .ro, n := 64 },
    { idx := 0x5000, sub := 0x09, ty := .u 4, acc := .ro, n := 64 },
    { idx := 0x5000, sub := 0x0A, ty := .u 4, acc := .ro, n := 64 },
    { idx := 0x5000, sub := 0x0B, ty := .u 8, acc := .ro, n := 64 },
    { idx := 0x5000, sub := 0x0C, ty := .u 1, acc := .ro, dflt := .const 2, n := 64 },
    { idx := 0x5000, sub := 0x0D, ty := .bool, acc := .rw, persist := true, dflt := .const 1, n := 64 },
    { idx := 0x5000, sub := 0x0E, ty := .u 4, acc := .ro, n := 64 },
    { idx := 0x5000, sub := 0x10, ty := .u 8, acc := .ro, n := 64, m := 64 } ]

/-- Entries of page 0x51 (R136). -/
def rows51 : List Row :=
  [ { idx := 0x5100, sub := 0x01, ty := .u 4, acc := .wo, guarded := true, n := 4 },
    { idx := 0x5100, sub := 0x02, ty := .u 1, acc := .ro, n := 4 },
    { idx := 0x5100, sub := 0x03, ty := .u 2, acc := .ro, n := 4 },
    { idx := 0x5100, sub := 0x04, ty := .u 4, acc := .ro, n := 4 },
    { idx := 0x5100, sub := 0x05, ty := .u 2, acc := .ro, n := 4 },
    { idx := 0x5100, sub := 0x06, ty := .u 2, acc := .ro, n := 4 },
    { idx := 0x5110, sub := 0x01, ty := .u 1, acc := .rwr, persist := true, rng := .range 0 1 },
    { idx := 0x5110, sub := 0x02, ty := .bool, acc := .ro },
    { idx := 0x5111, sub := 0x01, ty := .u 2, acc := .ro },
    { idx := 0x5111, sub := 0x02, ty := .u 2, acc := .ro },
    { idx := 0x5111, sub := 0x03, ty := .u 2, acc := .ro },
    { idx := 0x5111, sub := 0x04, ty := .u 4, acc := .ro },
    { idx := 0x5111, sub := 0x05, ty := .u 1, acc := .wo, guarded := true },
    { idx := 0x5112, sub := 0x00, ty := .domain, acc := .ro },
    { idx := 0x51F0, sub := 0x01, ty := .u 4, acc := .rw, n := 4, m := 7 } ]

/-- Entries of page 0x58 (R276). -/
def rows58 : List Row :=
  [ { idx := 0x5800, sub := 0x01, ty := .u 1, acc := .ro },
    { idx := 0x5800, sub := 0x02, ty := .u 4, acc := .ro },
    { idx := 0x5800, sub := 0x03, ty := .u 8, acc := .ro },
    { idx := 0x5800, sub := 0x04, ty := .u 8, acc := .ro },
    { idx := 0x5800, sub := 0x05, ty := .u 4, acc := .ro },
    { idx := 0x5800, sub := 0x06, ty := .u 1, acc := .ro },
    { idx := 0x5800, sub := 0x07, ty := .u 2, acc := .rw, persist := true, dflt := .const 1000, rng := .range 100 60000 },
    { idx := 0x5801, sub := 0x01, ty := .u 1, acc := .ro, m := 8 },
    { idx := 0x5802, sub := 0x01, ty := .u 4, acc := .ro, m := 8 },
    { idx := 0x5803, sub := 0x01, ty := .domain, acc := .ro, m := 8 },
    { idx := 0x5810, sub := 0x01, ty := .u 8, acc := .ro, n := 8 },
    { idx := 0x5810, sub := 0x02, ty := .u 4, acc := .ro, n := 8 },
    { idx := 0x5810, sub := 0x03, ty := .u 4, acc := .ro, n := 8 },
    { idx := 0x5810, sub := 0x04, ty := .u 4, acc := .ro, n := 8 },
    { idx := 0x5810, sub := 0x05, ty := .u 1, acc := .ro, dflt := .const 64, n := 8 },
    { idx := 0x5810, sub := 0x06, ty := .u 1, acc := .ro, n := 8 },
    { idx := 0x5810, sub := 0x07, ty := .u 4, acc := .ro, n := 8 },
    { idx := 0x5810, sub := 0x08, ty := .u 4, acc := .ro, n := 8 },
    { idx := 0x5810, sub := 0x09, ty := .u 8, acc := .ro, n := 8 },
    { idx := 0x5810, sub := 0x0A, ty := .u 1, acc := .ro, n := 8 },
    { idx := 0x5820, sub := 0x01, ty := .u 8, acc := .ro, n := 4, m := 128 },
    { idx := 0x5824, sub := 0x01, ty := .u 8, acc := .ro, m := 65 },
    { idx := 0x5830, sub := 0x01, ty := .u 1, acc := .ro, m := 64 },
    { idx := 0x5840, sub := 0x01, ty := .u 2, acc := .rw },
    { idx := 0x5840, sub := 0x02, ty := .u 8, acc := .rw },
    { idx := 0x5840, sub := 0x03, ty := .u 1, acc := .ro },
    { idx := 0x5841, sub := 0x00, ty := .domain, acc := .ro },
    { idx := 0x5850, sub := 0x01, ty := .u 8, acc := .ro },
    { idx := 0x5850, sub := 0x02, ty := .u 8, acc := .ro },
    { idx := 0x5850, sub := 0x03, ty := .u 8, acc := .ro },
    { idx := 0x5850, sub := 0x04, ty := .u 8, acc := .ro },
    { idx := 0x5860, sub := 0x00, ty := .u 8, acc := .wo, guarded := true } ]

/-- Entries of page 0x60 (R340). -/
def rows60 : List Row :=
  [ { idx := 0x6001, sub := 0x01, ty := .u 4, acc := .rw, guarded := true, persist := true, dflt := .const 100, rng := .range 20 10000 },
    { idx := 0x6001, sub := 0x02, ty := .u 4, acc := .ro, dflt := .const 2000 },
    { idx := 0x6001, sub := 0x03, ty := .u 4, acc := .rw, persist := true, dflt := .const 50, rng := .range 20 1000 },
    { idx := 0x6001, sub := 0x04, ty := .u 4, acc := .rw, guarded := true, persist := true, dflt := .const 100, rng := .range 20 10000 },
    { idx := 0x6003, sub := 0x01, ty := .u 8, acc := .ro },
    { idx := 0x6003, sub := 0x02, ty := .u 8, acc := .ro },
    { idx := 0x6003, sub := 0x03, ty := .u 4, acc := .ro },
    { idx := 0x6003, sub := 0x04, ty := .u 4, acc := .ro },
    { idx := 0x6004, sub := 0x01, ty := .u 8, acc := .ro },
    { idx := 0x6004, sub := 0x02, ty := .u 1, acc := .ro },
    { idx := 0x6005, sub := 0x01, ty := .u 4, acc := .ro },
    { idx := 0x6005, sub := 0x02, ty := .domain, acc := .ro },
    { idx := 0x6010, sub := 0x01, ty := .u 1, acc := .ro, n := 69 },
    { idx := 0x6010, sub := 0x02, ty := .u 1, acc := .wo, guarded := true, n := 69 },
    { idx := 0x6010, sub := 0x03, ty := .u 4, acc := .ro, n := 69 },
    { idx := 0x6010, sub := 0x04, ty := .u 4, acc := .ro, n := 69 },
    { idx := 0x6010, sub := 0x05, ty := .u 8, acc := .ro, n := 69 },
    { idx := 0x6060, sub := 0x01, ty := .u 1, acc := .ro, n := 64 },
    { idx := 0x6060, sub := 0x02, ty := .u 8, acc := .ro, n := 64 },
    { idx := 0x6060, sub := 0x03, ty := .u 4, acc := .ro, n := 64 } ]

/-- Entries of page 0x61 (R366). -/
def rows61 : List Row :=
  [ { idx := 0x6100, sub := 0x01, ty := .u 1, acc := .ro },
    { idx := 0x6100, sub := 0x02, ty := .u 1, acc := .ro },
    { idx := 0x6100, sub := 0x03, ty := .u 1, acc := .ro },
    { idx := 0x6100, sub := 0x04, ty := .u 1, acc := .rwr, guarded := true, persist := true, dflt := .const 5, rng := .range 1 5 },
    { idx := 0x6100, sub := 0x05, ty := .u 2, acc := .ro },
    { idx := 0x6100, sub := 0x06, ty := .u 4, acc := .ro },
    { idx := 0x6100, sub := 0x07, ty := .u 4, acc := .ro },
    { idx := 0x6100, sub := 0x08, ty := .u 4, acc := .ro },
    { idx := 0x6100, sub := 0x09, ty := .u 2, acc := .ro, dflt := .pcieDevice },
    { idx := 0x6100, sub := 0x0A, ty := .u 2, acc := .ro, dflt := .pcieVendor },
    { idx := 0x6101, sub := 0x01, ty := .u 4, acc := .ro },
    { idx := 0x6101, sub := 0x02, ty := .u 4, acc := .ro },
    { idx := 0x6101, sub := 0x03, ty := .u 4, acc := .ro },
    { idx := 0x6101, sub := 0x04, ty := .u 8, acc := .ro },
    { idx := 0x6110, sub := 0x01, ty := .u 2, acc := .rw, persist := true, dflt := .mapping, rng := .mask 0x81FF, n := 3, m := 128 },
    { idx := 0x6113, sub := 0x01, ty := .u 2, acc := .rw, persist := true, dflt := .const 10, rng := .range 0 10000 },
    { idx := 0x6120, sub := 0x01, ty := .u 8, acc := .rw, rng := .aligned 4096, n := 16 },
    { idx := 0x6120, sub := 0x02, ty := .u 4, acc := .rw, rng := .pow2 16 65536, n := 16 },
    { idx := 0x6120, sub := 0x03, ty := .u 4, acc := .rw, n := 16 },
    { idx := 0x6120, sub := 0x04, ty := .u 4, acc := .ro, n := 16 },
    { idx := 0x6120, sub := 0x05, ty := .u 1, acc := .wo, n := 16 },
    { idx := 0x6120, sub := 0x06, ty := .u 1, acc := .ro, n := 16 },
    { idx := 0x6120, sub := 0x07, ty := .u 4, acc := .rw, persist := true, dflt := .const 1000, rng := .range 10 1000000, n := 16 },
    { idx := 0x6120, sub := 0x08, ty := .u 2, acc := .rw, persist := true, dflt := .engineVector, rng := .mask 0x81FF, n := 16 },
    { idx := 0x6120, sub := 0x09, ty := .u 8, acc := .ro, n := 16 },
    { idx := 0x6120, sub := 0x0A, ty := .u 8, acc := .ro, n := 16 },
    { idx := 0x6120, sub := 0x0B, ty := .u 4, acc := .ro, n := 16 },
    { idx := 0x6140, sub := 0x01, ty := .u 8, acc := .ro, n := 16 },
    { idx := 0x6140, sub := 0x02, ty := .u 4, acc := .ro, n := 16 },
    { idx := 0x6140, sub := 0x03, ty := .u 4, acc := .ro, n := 16 },
    { idx := 0x6140, sub := 0x04, ty := .u 8, acc := .wo, guarded := true, n := 16 },
    { idx := 0x6140, sub := 0x05, ty := .u 1, acc := .ro, n := 16 },
    { idx := 0x6160, sub := 0x01, ty := .u 2, acc := .rw, guarded := true, persist := true, dflt := .const 0xFFFF, rng := .rangeOr 0 511 0xFFFF, n := 16 },
    { idx := 0x6160, sub := 0x02, ty := .u 8, acc := .ro, n := 16 },
    { idx := 0x6160, sub := 0x03, ty := .u 4, acc := .ro, n := 16 } ]

/-- Entries of page 0x68 (R392). -/
def rows68 : List Row :=
  [ { idx := 0x6800, sub := 0x01, ty := .u 4, acc := .ro, dflt := .stdLane },
    { idx := 0x6800, sub := 0x02, ty := .u 4, acc := .ro, dflt := .stdReadout },
    { idx := 0x6800, sub := 0x03, ty := .u 4, acc := .rw, guarded := true, persist := true, dflt := .const 100, rng := .range 1 1000 },
    { idx := 0x6800, sub := 0x04, ty := .u 1, acc := .rw, persist := true, dflt := .const 8 },
    { idx := 0x6810, sub := 0x01, ty := .u 1, acc := .ro, n := 94 },
    { idx := 0x6810, sub := 0x02, ty := .u 4, acc := .ro, n := 94 },
    { idx := 0x6810, sub := 0x03, ty := .u 1, acc := .ro, n := 94 },
    { idx := 0x6810, sub := 0x04, ty := .u 4, acc := .ro, n := 94 },
    { idx := 0x6810, sub := 0x05, ty := .u 4, acc := .ro, n := 94 },
    { idx := 0x6810, sub := 0x06, ty := .u 4, acc := .ro, n := 94 },
    { idx := 0x6810, sub := 0x07, ty := .u 4, acc := .ro, n := 94 },
    { idx := 0x6810, sub := 0x08, ty := .u 1, acc := .wo, guarded := true, n := 94 },
    { idx := 0x6810, sub := 0x09, ty := .u 1, acc := .rw, persist := true, dflt := .const 1, rng := .range 0 1, n := 94 },
    { idx := 0x6810, sub := 0x0A, ty := .u 8, acc := .ro, n := 94 },
    { idx := 0x6810, sub := 0x0B, ty := .u 8, acc := .ro, n := 94 },
    { idx := 0x6880, sub := 0x01, ty := .u 4, acc := .ro, n := 80, m := 16 } ]

/-- Entries of page 0x70 (R496). -/
def rows70 : List Row :=
  [ { idx := 0x7000, sub := 0x01, ty := .u 2, acc := .ro },
    { idx := 0x7000, sub := 0x02, ty := .u 8, acc := .ro },
    { idx := 0x7000, sub := 0x03, ty := .u 1, acc := .rw, guarded := true, persist := true, dflt := .const 1, rng := .range 0 4 },
    { idx := 0x7000, sub := 0x04, ty := .bool, acc := .rw, guarded := true },
    { idx := 0x7000, sub := 0x05, ty := .u 2, acc := .wo, guarded := true },
    { idx := 0x7000, sub := 0x06, ty := .u 1, acc := .wo, guarded := true },
    { idx := 0x7000, sub := 0x07, ty := .u 2, acc := .ro },
    { idx := 0x7001, sub := 0x01, ty := .u 4, acc := .ro, m := 16 },
    { idx := 0x7002, sub := 0x01, ty := .u 8, acc := .wo },
    { idx := 0x7010, sub := 0x01, ty := .u 8, acc := .ro },
    { idx := 0x7010, sub := 0x02, ty := .u 4, acc := .ro },
    { idx := 0x7010, sub := 0x03, ty := .u 4, acc := .ro },
    { idx := 0x7010, sub := 0x04, ty := .u 1, acc := .wo, guarded := true },
    { idx := 0x7020, sub := 0x01, ty := .octets 24, acc := .ro, m := 32 },
    { idx := 0x7030, sub := 0x00, ty := .domain, acc := .ro, guarded := true },
    { idx := 0x7031, sub := 0x01, ty := .u 2, acc := .ro },
    { idx := 0x7031, sub := 0x02, ty := .u 4, acc := .ro },
    { idx := 0x7031, sub := 0x03, ty := .u 1, acc := .wo, guarded := true } ]

/-- Entries of page 0x71 (R497). -/
def rows71 : List Row :=
  [ { idx := 0x7100, sub := 0x01, ty := .bool, acc := .rw, n := 384 },
    { idx := 0x7100, sub := 0x02, ty := .u 1, acc := .wo, guarded := true, n := 384 },
    { idx := 0x7100, sub := 0x03, ty := .u 1, acc := .rw, guarded := true, persist := true, dflt := .const 0xFF, rng := .rangeOr 0 3 0xFF, n := 384 },
    { idx := 0x7100, sub := 0x04, ty := .u 4, acc := .rw, guarded := true, persist := true, dflt := .reaction, rng := .special, n := 384 },
    { idx := 0x7100, sub := 0x05, ty := .bool, acc := .rw, guarded := true, persist := true, dflt := .const 1, n := 384 },
    { idx := 0x7100, sub := 0x06, ty := .u 4, acc := .ro, n := 384 },
    { idx := 0x7100, sub := 0x07, ty := .u 8, acc := .ro, n := 384 },
    { idx := 0x7100, sub := 0x08, ty := .u 2, acc := .ro, n := 384 },
    { idx := 0x7100, sub := 0x09, ty := .u 1, acc := .ro, n := 384 },
    { idx := 0x7100, sub := 0x0A, ty := .u 2, acc := .ro, n := 384 } ]

/-- Entries of page 0x80 (R320). -/
def rows80 : List Row :=
  [ { idx := 0x8000, sub := 0x01, ty := .u 1, acc := .ro },
    { idx := 0x8000, sub := 0x02, ty := .u 2, acc := .ro },
    { idx := 0x8000, sub := 0x03, ty := .u 1, acc := .ro },
    { idx := 0x8000, sub := 0x04, ty := .u 2, acc := .ro },
    { idx := 0x8000, sub := 0x05, ty := .u 2, acc := .ro },
    { idx := 0x8000, sub := 0x06, ty := .u 1, acc := .ro, dflt := .const 0xFF },
    { idx := 0x8000, sub := 0x07, ty := .i32, acc := .ro },
    { idx := 0x8000, sub := 0x08, ty := .bool, acc := .rw, guarded := true, persist := true },
    { idx := 0x8000, sub := 0x09, ty := .u 8, acc := .ro },
    { idx := 0x8000, sub := 0x0A, ty := .u 4, acc := .ro } ]

/-- Entries of page 0x81 (R321). -/
def rows81 : List Row :=
  [ { idx := 0x8100, sub := 0x01, ty := .u 1, acc := .ro },
    { idx := 0x8100, sub := 0x02, ty := .u 1, acc := .ro, dflt := .const 0xFF },
    { idx := 0x8100, sub := 0x03, ty := .u 2, acc := .ro },
    { idx := 0x8100, sub := 0x04, ty := .u 2, acc := .ro },
    { idx := 0x8100, sub := 0x05, ty := .u 2, acc := .rw, guarded := true, persist := true, dflt := .const 64, rng := .range 16 160 },
    { idx := 0x8100, sub := 0x06, ty := .u 2, acc := .ro },
    { idx := 0x8100, sub := 0x07, ty := .u 2, acc := .ro },
    { idx := 0x8100, sub := 0x08, ty := .u 2, acc := .ro },
    { idx := 0x8100, sub := 0x09, ty := .u 4, acc := .ro },
    { idx := 0x8100, sub := 0x0A, ty := .u 4, acc := .ro },
    { idx := 0x8100, sub := 0x0B, ty := .u 4, acc := .ro },
    { idx := 0x8100, sub := 0x0C, ty := .u 4, acc := .ro },
    { idx := 0x8100, sub := 0x0D, ty := .u 1, acc := .wo, guarded := true },
    { idx := 0x8100, sub := 0x0E, ty := .u 2, acc := .ro },
    { idx := 0x8100, sub := 0x0F, ty := .u 2, acc := .ro },
    { idx := 0x8100, sub := 0x10, ty := .u 1, acc := .ro, dflt := .const 0xFF },
    { idx := 0x8100, sub := 0x11, ty := .u 8, acc := .ro },
    { idx := 0x8100, sub := 0x12, ty := .u 4, acc := .ro } ]

/-- The rows whose first index lies in a page of 256 indices (R405, Table 13-3). -/
def rowsOfPage (p : Nat) : List Row :=
  match p with
  | 0x10 => rows10
  | 0x11 => rows11
  | 0x20 => rows20
  | 0x21 => rows21
  | 0x22 => rows22
  | 0x24 => rows24
  | 0x25 => rows25
  | 0x30 => rows30
  | 0x31 => rows31
  | 0x32 => rows31
  | 0x33 => rows33
  | 0x34 => rows34
  | 0x40 => rows40
  | 0x41 => rows41
  | 0x42 => rows42
  | 0x43 => rows43
  | 0x44 => rows44
  | 0x50 => rows50
  | 0x51 => rows51
  | 0x58 => rows58
  | 0x60 => rows60
  | 0x61 => rows61
  | 0x68 => rows68
  | 0x70 => rows70
  | 0x71 => rows71
  | 0x72 => rows71
  | 0x80 => rows80
  | 0x81 => rows81
  | _ => []

/-- Every entry that a table of the manual lists (R394). -/
def allRows : List Row :=
  rows10 ++ rows11 ++ rows20 ++ rows21 ++ rows22 ++ rows24 ++ rows25 ++ rows30 ++ rows31 ++ rows33 ++ rows34 ++ rows40 ++ rows41 ++ rows42 ++ rows43 ++ rows44 ++ rows50 ++ rows51 ++ rows58 ++ rows60 ++ rows61 ++ rows68 ++ rows70 ++ rows71 ++ rows80 ++ rows81

/-- The row names this index and sub-index. -/
def Row.covers (row : Row) (idx sub : Nat) : Bool :=
  row.idx ≤ idx && idx < row.idx + row.n && row.sub ≤ sub && sub < row.sub + row.m

/-- The row of a device entry; none where no table lists it (R394). -/
def rowOf (idx sub : Nat) : Option Row :=
  (rowsOfPage (idx / 256)).find? (fun row => row.covers idx sub)

/-- Eight bytes, the first least significant (R5). -/
def bytesNat (l : List Byte) : Nat :=
  l.foldr (fun b acc => b.toNat + 256 * acc) 0

/-- The n bytes of a value, least significant first (R5). -/
def natBytes (n v : Nat) : List Byte :=
  (List.range n).map (fun i => BitVec.ofNat 8 (v / 256 ^ i))

/-- DEVICE: family 0x53, member 0x40, stack revision (Table 6-2). -/
def deviceWord : Nat := 0x53400000 + Config.stackRevision.toNat

/-- Two's complement of an integer in 32 bits (Table 13-1). -/
def i32 (x : Int) : Nat := (BitVec.ofInt 32 x).toNat

/-- The default order word of a domain (Table 14-2, R448). -/
def defaultOrder (d : Nat) : Nat :=
  if d = 0 ∨ d = 5 ∨ d = 6 then 0x010605 else 0xFF0605

/-- The default reaction word of a source (R484). -/
def defaultReaction (src : Nat) : Nat :=
  if 64 ≤ src ∧ src ≤ 127 then 0x10000000 else if src = 180 then 0x07000000 else 0

/-- The default of an entry of a row. Log entries 2 and 10. -/
def Dflt.value (d : Dflt) (idx sub : Nat) : Nat :=
  match d with
  | .const v => v
  | .deviceCode => deviceWord
  | .serial => Config.serialNumber.toNat
  | .vendorHash => Config.vendorRootHash.toNat
  | .pcieDevice => Config.pcieDevice.toNat
  | .pcieVendor => Config.pcieVendor.toNat
  | .stdLane => Config.standardLane.toNat
  | .stdReadout => Config.standardReadout.toNat
  | .neighbours => (Config.sensorNeighbours (idx - 0x2200)).toNat
  | .offset => i32 (Config.sensorOffset (idx - 0x2200))
  | .mapping => 0x8000 + 128 * (idx - 0x6110) + (sub - 1)
  | .engineVector => 0x8180 + (idx - 0x6120)
  | .loopRef => if idx = 0x2016 then 3 else 2
  | .order => defaultOrder (idx - 0x2040)
  | .reaction => defaultReaction (idx - 0x7100)

/-- What an entry holds before anything writes it: its default; 0 where no row lists it (a user entry). -/
def dfltOf (idx sub : Nat) : Nat :=
  match rowOf idx sub with
  | some row => row.dflt.value idx sub
  | none => 0

/-- The key of an entry in State.dict. -/
def ent (idx sub : Nat) : Nat := idx * 256 + sub

/-- An index of the user entries' range (Table 13-3). -/
def isUser (idx : Nat) : Bool := 0xA000 ≤ idx && idx ≤ 0xBFFF

/-- The default of the entry of a key. -/
def dfltKey (k : Nat) : Nat := dfltOf (k / 256) (k % 256)

end Sys2Proof.Machine
end

