-- ==== Sys2Proof/Machine/Ops.lean ====
section
/-! DEFINITION. Ops.lean: the named operations over the dictionary's values, the records of the units, crossing and
wave numbers (R11, R12, R28), the answers to dictionary accesses, and the checks of R558 that every command shares. -/

namespace Sys2Proof.Machine

/-- What a command answers. -/
abbrev Result := Host.Outcome State Fault Refusal

/-- The state at the start of a command: nothing given yet. -/
def State.fresh (s : State) : State := { s with out := [] }

/-- Something given by the device, after what it has given already. -/
def State.emit (s : State) (o : Output) : State := { s with out := s.out ++ [o] }

/-- A meaning whose operand names a unit: a fault where the device has no such unit. -/
def onUnit (exists_ : Bool) (t : State) : Result :=
  if exists_ then .next t else .fault .noSuchUnit

/-! ### Values of entries -/

/-- The value of an entry (R394): the written one, else its default. -/
def State.rd (s : State) (idx sub : Nat) : Nat := Sparse.get dfltKey s.dict (ent idx sub)

/-- The value of an entry written. -/
def State.wr (s : State) (idx sub v : Nat) : State :=
  { s with dict := Sparse.set dfltKey s.dict (ent idx sub) v }

/-- A counter's next value: one more, and a free value past the greatest one that w bits hold, where the spec does
not say what the counter reads then (log entry 15). -/
def counterNext (w key v : Nat) : Nat :=
  if v + 1 < 2 ^ w then v + 1 else Config.counterOver key v % 2 ^ w

/-- A w-bit counter entry counts one. -/
def State.bump (s : State) (w idx sub : Nat) : State :=
  s.wr idx sub (counterNext w (ent idx sub) (s.rd idx sub))

/-- A w-bit counter entry counts k. -/
def State.bumpBy (s : State) (w idx sub k : Nat) : State :=
  if k = 0 then s
  else if s.rd idx sub + k < 2 ^ w then s.wr idx sub (s.rd idx sub + k)
  else s.wr idx sub (Config.counterOver (ent idx sub) (s.rd idx sub) % 2 ^ w)

/-- A w-bit counter that stays at its greatest value (R110, R223, R242). -/
def State.bumpSat (s : State) (w idx sub k : Nat) : State :=
  s.wr idx sub (min (s.rd idx sub + k) (2 ^ w - 1))

/-- A bit of an entry. -/
def State.rdBit (s : State) (idx sub b : Nat) : Bool := (s.rd idx sub).testBit b

/-- A number with one bit set or cleared. -/
def withBit (v b : Nat) (on : Bool) : Nat :=
  if v.testBit b then (if on then v else v - 2 ^ b) else (if on then v + 2 ^ b else v)

/-- A bit of an entry written. -/
def State.wrBit (s : State) (idx sub b : Nat) (on : Bool) : State :=
  s.wr idx sub (withBit (s.rd idx sub) b on)

/-- An I32 value as an integer (Table 13-1). -/
def toI32 (v : Nat) : Int := (BitVec.ofNat 32 v).toInt

/-- A signed measure in an I32 entry: its value, or a free value where the entry cannot hold it (log entry 166). -/
def State.wrI32 (s : State) (idx sub : Nat) (x : Int) : State :=
  s.wr idx sub (if -2147483648 ≤ x ∧ x ≤ 2147483647 then i32 x else Config.beyondI32 (ent idx sub) x % 2 ^ 32)

/-- The numbers below n whose bit is set. -/
def bitsOf (n v : Nat) : List Nat := (List.range n).filter (fun i => v.testBit i)

/-- The mask of a list of bit numbers below n. -/
def maskOf (n : Nat) (p : Nat → Bool) : Nat :=
  (List.range n).foldl (fun acc i => if p i then acc + 2 ^ i else acc) 0

/-! ### Records of units -/

def State.region (s : State) (n : Nat) : RegionRec := Sparse.get (fun _ => {}) s.regions n
def State.setRegion (s : State) (n : Nat) (x : RegionRec) : State :=
  { s with regions := Sparse.set (fun _ => {}) s.regions n x }
/-- The key of plane p of region n. -/
def planeKey (n p : Nat) : Nat := n * 8 + p
def State.plane (s : State) (n p : Nat) : PlaneRec := Sparse.get (fun _ => {}) s.planes (planeKey n p)
def State.setPlane (s : State) (n p : Nat) (x : PlaneRec) : State :=
  { s with planes := Sparse.set (fun _ => {}) s.planes (planeKey n p) x }
/-- The key of frame address a of plane p of region n. -/
def frameKey (n p a : Nat) : Nat := planeKey n p * 8192 + a
def State.frame (s : State) (n p a : Nat) : Frame := Sparse.get (fun _ => {}) s.frames (frameKey n p a)
def State.setFrame (s : State) (n p a : Nat) (x : Frame) : State :=
  { s with frames := Sparse.set (fun _ => {}) s.frames (frameKey n p a) x }
/-- Bank n.b by one number. -/
def bankKey (n b : Nat) : Nat := n * 64 + b
def State.queue (s : State) (k : Nat) : QueueRec := Sparse.get (fun _ => {}) s.queues k
def State.setQueue (s : State) (k : Nat) (x : QueueRec) : State :=
  { s with queues := Sparse.set (fun _ => {}) s.queues k x }
def State.lane (s : State) (l : Nat) : LaneRec := Sparse.get (fun _ => {}) s.lanes l
def State.setLane (s : State) (l : Nat) (x : LaneRec) : State :=
  { s with lanes := Sparse.set (fun _ => {}) s.lanes l x }
def State.txLane (s : State) (l : Nat) : TxRec := Sparse.get (fun _ => {}) s.tx l
def State.setTx (s : State) (l : Nat) (x : TxRec) : State :=
  { s with tx := Sparse.set (fun _ => {}) s.tx l x }
def State.tim (s : State) (i : Nat) : TimRec := Sparse.get (fun _ => {}) s.timing i
def State.setTim (s : State) (i : Nat) (x : TimRec) : State :=
  { s with timing := Sparse.set (fun _ => {}) s.timing i x }
def State.port (s : State) (p : Nat) : PortRec := Sparse.get (fun _ => {}) s.ports p
def State.setPort (s : State) (p : Nat) (x : PortRec) : State :=
  { s with ports := Sparse.set (fun _ => {}) s.ports p x }
def State.engine (s : State) (e : Nat) : EngRec := Sparse.get (fun _ => {}) s.engines e
def State.setEngine (s : State) (e : Nat) (x : EngRec) : State :=
  { s with engines := Sparse.set (fun _ => {}) s.engines e x }
def State.kernel (s : State) (k : Nat) : KernelRec := Sparse.get (fun _ => {}) s.kernels k
def State.setKernel (s : State) (k : Nat) (x : KernelRec) : State :=
  { s with kernels := Sparse.set (fun _ => {}) s.kernels k x }
def State.mailbox (s : State) (m : Nat) : MailboxRec := Sparse.get (fun _ => {}) s.mailboxes m
def State.setMailbox (s : State) (m : Nat) (x : MailboxRec) : State :=
  { s with mailboxes := Sparse.set (fun _ => {}) s.mailboxes m x }
def State.canCh (s : State) (c : Nat) : CanRec := Sparse.get (fun _ => {}) s.can c
def State.setCan (s : State) (c : Nat) (x : CanRec) : State :=
  { s with can := Sparse.set (fun _ => {}) s.can c x }
def State.dom (s : State) (d : Nat) : DomainRec := Sparse.get (fun _ => {}) s.domains d
def State.setDom (s : State) (d : Nat) (x : DomainRec) : State :=
  { s with domains := Sparse.set (fun _ => {}) s.domains d x }
/-- Domain state: 0 stopped, 1 running, 2 switching, 3 held. -/
def State.domSt (s : State) (d : Nat) : Nat := s.rd (0x2040 + d) 0x01
def State.domSrc (s : State) (d : Nat) : Nat := s.rd (0x2040 + d) 0x02
/-- The domain has run, and does not run now (R444). -/
def State.domWaits (s : State) (d : Nat) : Bool := (s.dom d).started && s.domSt d ≠ 1
/-- New work of block b of domain d opens its gate (R445). -/
def State.work (s : State) (d b : Nat) : State := { s with gates := s.gates.filter (fun g => g ≠ (d, b)) }
/-- What is sealed or wrapped under a derived key, while the device holds it (R498). -/
def State.unseal {α : Type} (s : State) (x : Sealed α) : Option α :=
  if s.security.derived.contains x.key then some x.content else none

/-- The entries that stand in the keep store with the images, the journal and the repair map. -/
def keepKey (k : Nat) : Bool :=
  let idx := k / 256
  let sub := k % 256
  (0x2510 ≤ idx && idx ≤ 0x2512 && sub ≤ 5) || (idx = 0x2520 && (sub = 3 || sub = 5)) || (idx = 0x5111 && sub = 4)

/-- A write of the keep store: it opens the gate of the keep link (R445). While domain KEEP is stopped it waits
(R444): the device goes on with the new contents, and the store keeps the old ones until the domain runs again (log
entry 229). -/
def State.toKeep (s : State) : State :=
  let s := s.work 3 0
  if s.domWaits 3 ∧ s.keepCopy.isNone then
    { s with keepCopy := some {
        ownerKeys := s.security.ownerKeys
        keys := s.security.keys
        images := s.security.images
        areas := s.security.areas
        journal := s.security.journal
        storedMap := s.storedMap
        log := s.collector.log
        entries := s.dict.filter (fun c => keepKey c.1)
        lines := s.keepLines } }
  else s

/-- Domain KEEP runs again: the writes that waited are made. -/
def State.keepRelease (s : State) : State := if s.domSt 3 = 1 then { s with keepCopy := none } else s

/-- The area that a line of the keep store lies in, and the first line of it (Table 17-5, R509). -/
def keepArea (line : Nat) : KeepArea × Nat :=
  let table : List (Nat × KeepArea) := [(0x9000_0000, .image 2 1), (0x2000_0000, .image 2 0), (0x0240_0000, .spare),
    (0x0230_0000, .record), (0x0220_0000, .journal), (0x0210_0000, .log), (0x0200_0000, .repairMap),
    (0x01C0_0000, .settings 1), (0x0180_0000, .settings 0), (0x0140_0000, .image 1 1), (0x0100_0000, .image 1 0),
    (0x0080_0000, .image 0 1)]
  match table.find? (fun x => x.1 ≤ 64 * line) with
  | some (at_, area) => (area, at_ / 64)
  | none => (.image 0 0, 0)

/-- The device writes an area of the keep store: what the network wrote there stands no longer (log entries 90, 231).
-/
def State.areaWritten (s : State) (area : KeepArea) : State :=
  { s.toKeep with keepLines := Sparse.drop s.toKeep.keepLines (fun n => (keepArea n).1 = area) }

/-- An area holds what the device wrote there: the network has written none of its lines since. -/
def State.intact (s : State) (area : KeepArea) : Bool := s.keepLines.all (fun c => (keepArea c.1).1 ≠ area)

/-- The straps, and what is read from them. -/
def strapKey (k : Nat) : Bool :=
  let idx := k / 256
  let sub := k % 256
  (idx = 0x1100 && sub = 6) || idx = 0x2000 || (idx = 0x1008 && sub = 2) || (idx = 0x5110 && sub = 2)

/-- Entries that show the fuses (Table 17-1). -/
def fuseKey (k : Nat) : Bool := k / 256 = 0x2400

/-- Entries that stand in the device record, or with an area of the keep store (Table 17-5). -/
def deviceRecordKey (k : Nat) : Bool :=
  let idx := k / 256
  let sub := k % 256
  keepKey k || (idx = 0x1100 && (sub = 2 || sub = 3)) || (0x2410 ≤ idx && idx ≤ 0x241F && sub ≤ 2)
    || (idx = 0x2430 && 2 ≤ sub && sub ≤ 5) || (idx = 0x8100 && sub = 4)

/-- What the device keeps in an area, sealed or plain, but for an image. -/
def State.areaContent (s : State) (area : KeepArea) : List Nat :=
  match area with
  | .settings x => match s.security.areas.lookup x with
    | some set => [set.bundle, set.sfr] ++ set.vals.flatMap (fun c => [c.1, c.2])
        ++ set.users.flatMap (fun u => u.1 :: u.2.map BitVec.toNat)
    | none => []
  | .repairMap => s.storedMap.map BitVec.toNat
  | .log => s.collector.log.flatMap (fun h => [h.w0.toNat, h.w1.toNat, h.w2.toNat])
  | .journal => s.security.journal.flatMap (fun r =>
      [r.seq, r.type, r.part, r.result, r.tid, r.version, r.time, r.order])
  | .record => (s.dict.filter (fun c => deviceRecordKey c.1)).flatMap (fun c => [c.1, c.2])
      ++ s.security.ownerKeys.flatMap (fun k => k.1 :: k.2.content.map BitVec.toNat)
      ++ s.security.keys.flatMap (fun k => [k.1, k.2.content.toNat])
  | _ => []

/-- A reset comes before the writes that wait are made: the keep store holds what it held. -/
def State.keepReset (s : State) : State :=
  match s.keepCopy with
  | none => s
  | some k =>
    { s with
      keepCopy := none
      storedMap := k.storedMap
      keepLines := k.lines
      collector := { s.collector with log := k.log }
      dict := k.entries.foldl (fun d c => Sparse.set dfltKey d c.1 c.2) (s.dict.filter (fun c => !keepKey c.1))
      security := { s.security with
        ownerKeys := k.ownerKeys
        keys := k.keys
        images := k.images
        areas := k.areas
        journal := k.journal } }

/-- The device writes the voltage of a rail, unless it has stopped writing that rail; the write waits while domain AVS
is stopped (R444, R451, R455). -/
def State.avsWrite (s : State) (rail mv : Nat) : State :=
  if s.rdBit 0x2103 0x01 rail then s
  else if s.domSt 6 ≠ 1 then { s with thermal := { s.thermal with avsHeld := s.thermal.avsHeld ++ [(rail, mv)] } }
  else (s.work 6 0).emit (.avsBus rail 0 mv)
/-- The writes that waited for domain AVS are made, in order. -/
def State.avsRelease (s : State) : State :=
  if s.domSt 6 ≠ 1 then s
  else s.thermal.avsHeld.foldl (fun s x => s.avsWrite x.1 x.2) { s with thermal := { s.thermal with avsHeld := [] } }
/-- VC is to return to 0.70 V (R456); it stays where it is once the device has stopped writing it (R455). -/
def State.vcLeave (s : State) : State :=
  if s.rd 0x2102 0x01 = 1 ∧ s.rdBit 0x2103 0x01 2 = false then (s.wr 0x2102 0x01 2).avsWrite 2 700 else s
def State.sensor (s : State) (i : Nat) : SensorRec := Sparse.get (fun _ => {}) s.sensors i
def State.setSensor (s : State) (i : Nat) (x : SensorRec) : State :=
  { s with sensors := Sparse.set (fun _ => {}) s.sensors i x }
/-- An edge event of Table 12-11 becomes pending in kernel k. -/
def State.kernelEdge (s : State) (k bit : Nat) : State :=
  s.setKernel k { s.kernel k with edges := (s.kernel k).edges ||| (1#8 <<< bit) }
/-- Image slot of kind j + 1: x is 0 for A and 1 for B. -/
def State.image (s : State) (j x : Nat) : ImageRec := Sparse.get (fun _ => {}) s.security.images (j * 2 + x)
def State.setImage (s : State) (j x : Nat) (v : ImageRec) : State :=
  { s with security := { s.security with images := Sparse.set (fun _ => {}) s.security.images (j * 2 + x) v } }

/-- A fresh free value, and the state that has drawn it (log entry 13). -/
def State.draw (s : State) : Nat × State :=
  (Config.free s.draws, { s with draws := s.draws + 1 })

/-! ### Numbers that wrap (R12) -/

/-- d of R12: how far b lies after a, modulo 2^n. -/
def serialDiff (n a b : Nat) : Nat := (b % 2 ^ n + 2 ^ n - a % 2 ^ n) % 2 ^ n

/-- b is later than a (R12). -/
def serialLater (n a b : Nat) : Bool := 1 ≤ serialDiff n a b && serialDiff n a b < 2 ^ (n - 1)

/-! ### Crossings and waves -/

def State.xn (s : State) : Nat := s.rd 0x4002 0x01
def State.stepNo (s : State) : Nat := s.rd 0x4002 0x02
def State.era (s : State) : Nat := s.rd 0x4002 0x03
/-- Steps per crossing of the active bundle. -/
def State.S (s : State) : Nat := s.rd 0x4001 0x02
/-- Release latency in steps. -/
def State.L (s : State) : Nat := s.rd 0x4001 0x04
/-- Engine state (Table 2-9): 0 OFF, 1 STOPPED, 2 PRIMING, 3 RUNNING, 4 DRAINING. -/
def State.engineSt (s : State) : Nat := s.rd 0x4000 0x00
/-- The wave engine is in PRIMING, RUNNING or DRAINING. -/
def State.inRun (s : State) : Bool := 2 ≤ s.engineSt && s.engineSt ≤ 4
/-- The continuous crossing count: the era counter above XN (R102, R247, R266). -/
def State.crossing (s : State) : Nat := s.era * 2 ^ 48 + s.xn

/-- A wave designator (Table 5-3). Of a start or stop crossing that is written with bits 63 to 48 set, the low 48 bits
are the XN (DESIGN CHOICE, log entry 217). -/
def mkWave (xn step : Nat) : Nat := step * 2 ^ 48 + xn % 2 ^ 48
def waveXn (w : Nat) : Nat := w % 2 ^ 48
def waveStep (w : Nat) : Nat := w / 2 ^ 48
/-- The current wave. -/
def State.wave (s : State) : Nat := mkWave s.xn s.stepNo
/-- The index of the current wave, counted on without wrapping (R28). -/
def State.waveIdx (s : State) : Nat := s.crossing * s.S + s.stepNo

/-- R28: the wave tag of the current wave is shown. -/
def State.showTag (s : State) : State := s.wr 0x4002 0x04 (s.waveIdx % 256)

/-- The wave k waves after w, with S steps a crossing. -/
def waveAdd (S w k : Nat) : Nat :=
  mkWave (waveXn w + (waveStep w + k) / S) ((waveStep w + k) % S)

/-- The wave k waves before w. -/
def waveSub (S w k : Nat) : Nat :=
  mkWave (((waveXn w + 2 ^ 48) * S + waveStep w - k) / S) (((waveXn w + 2 ^ 48) * S + waveStep w - k) % S)

/-- b comes after a (R11, R12). -/
def waveLater (a b : Nat) : Bool :=
  serialLater 48 (waveXn a) (waveXn b) || (waveXn a = waveXn b && waveStep a < waveStep b)

/-- w is later than cur by at least n crossings (R148, R158; log entry 20). -/
def laterByCrossings (n cur w : Nat) : Bool :=
  let c := mkWave (waveXn cur + n) (waveStep cur)
  waveLater cur w && (w = c || waveLater c w)

/-- Waves from a to b, b not earlier than a. -/
def waveDist (S a b : Nat) : Nat :=
  serialDiff 48 (waveXn a) (waveXn b) * S + waveStep b - waveStep a

/-- The wave tag of a wave of a continuous crossing count: its index modulo 256 (R28). -/
def waveTag (S c step : Nat) : Nat := (c * S + step) % 256

/-- Step period in fs. -/
def State.tStep (s : State) : Nat := s.rd 0x4001 0x03

/-- Less than ns nanoseconds from the current wave to w (R57, R169). -/
def State.within (s : State) (ns w : Nat) : Bool :=
  waveDist s.S s.wave w * s.tStep < ns * 1000000

/-! ### Device time -/

/-- Device time in ns. -/
def State.now (s : State) : Nat := s.rd 0x2030 0x02

/-! ### Requesters, sessions and answers (R396, R407, R504, R514, R558) -/

/-- One requester: for CAN the node, on both channels (R504). -/
def sameRequester (a b : Requester) : Bool :=
  match a, b with
  | .can _ n, .can _ n' => n = n'
  | .mailbox m, .mailbox m' => m = m'
  | .port, .port => true
  | .kernel k, .kernel k' => k = k'
  | _, _ => false

/-- Access path codes (Table 13-5). -/
def pathCode : Requester → Nat
  | .can c _ => if c = 0 then 0 else 1
  | .mailbox _ => 2
  | .port => 3
  | .kernel _ => 4

/-- The rights of a requester's session; 0 without one (R503). -/
def State.rights (s : State) (r : Requester) : BitVec 8 :=
  match s.security.sessions.find? (fun x => sameRequester x.r r) with
  | some x => x.rights
  | none => 0

/-- Check 3 of R558 for a guarded entry: a session with guarded access; for the port the permit list (R423);
vendor kernels need none and user kernels are refused (R387, R504). -/
def State.guardOk (s : State) (r : Requester) (key : Nat) : Bool :=
  match r with
  | .port => match s.bundle with
    | some b => b.portPermit.contains key
    | none => false
  | .kernel k => 80 ≤ k
  | _ => (s.rights r).getLsbD 0

/-- A right of the session (R503): 1 update, 2 debug, 3 fuse. Vendor kernels need no session. -/
def State.rightOk (s : State) (r : Requester) (bit : Nat) : Bool :=
  match r with
  | .port => false
  | .kernel k => 80 ≤ k
  | _ => (s.rights r).getLsbD bit

/-- The busy code, with the owner's path; 0xFF where nobody holds the lock (log entry 21). -/
def State.busyCode (s : State) : Nat :=
  0x08000100 + (match s.security.lock with
    | some o => pathCode o
    | none => 0xFF)

/-- The requester holds the update lock (R514). -/
def State.holdsLock (s : State) (r : Requester) : Bool :=
  match s.security.lock with
  | some o => sameRequester o r
  | none => false

/-- An action that is refused. -/
def refuse (code : Nat) (s : State) : Nat × State := (code, s)

/-- An action that is done. -/
def done (s : State) : Nat × State := (0, s)

/-- The checks of R558 that stand before an action's own: a guarded entry, a right of the session, the update
lock. -/
def State.accessCode (s : State) (r : Requester) (key : Nat) (guarded : Bool) (right : Option Nat) (lock : Bool) :
    Nat :=
  if guarded && !s.guardOk r key then 0x08000021
  else if (match right with
    | some b => !s.rightOk r b
    | none => false) then 0x08000021
  else if lock && !s.holdsLock r then s.busyCode
  else 0

/-- The path of a requester answers: every path once the base firmware runs, and CAN FD while the ROM holds the
start (R424, Table 18-5). -/
def State.answers (s : State) (r : Requester) : Bool :=
  s.startup.firmware || (s.startup.rom && (match r with
    | .can _ _ => true
    | _ => false))

/-- R404: the configuration generation counts one. -/
def State.nextGeneration (s : State) : State :=
  s.wr 0x1002 0x01 ((s.rd 0x1002 0x01 + 1) % 2 ^ 32)

/-- Reserved code of the abort table by name. -/
def abortValue : Nat := 0x06090030
def abortState : Nat := 0x08000020
def abortGuard : Nat := 0x08000021

/-- The low n bits of a list of bytes and back are in Dict.lean; these cut a list of bytes into pieces of n. -/
def chunks {α : Type} (n : Nat) (fuel : Nat) (l : List α) : List (List α) :=
  match fuel with
  | 0 => []
  | fuel + 1 => if l.isEmpty then [] else l.take n :: chunks n fuel (l.drop n)

/-- A byte of a list, 0 past its end. -/
def byteAt (l : List Byte) (i : Nat) : Nat := (l.getD i 0).toNat

/-- The little-endian number in n bytes from offset i (R5). -/
def fieldAt (l : List Byte) (i n : Nat) : Nat := bytesNat ((l.drop i).take n)

end Sys2Proof.Machine
end

