-- ==== Sys2Proof/Machine/Flags.lean ====
section
/-! DEFINITION. Flags.lean: values the device computes from others: F32 encodings (Table 13-1), CRC-8 and CRC-32C,
the frame code (R191), the byte-tag code (R115 to R118), the scrambler (R204). -/

namespace Sys2Proof.Machine

/-! ### F32 -/

/-- num × 2^k / den, and whether a remainder is above, at or below one half: rounded to nearest, ties to even. -/
def scaledQuot (num den : Nat) (k : Int) : Nat :=
  let a := if k ≥ 0 then num * 2 ^ k.toNat else num
  let b := if k ≥ 0 then den else den * 2 ^ (-k).toNat
  let q := a / b
  let r := a % b
  if 2 * r > b ∨ (2 * r = b ∧ q % 2 = 1) then q + 1 else q

/-- The binary32 encoding of num / den, rounded to nearest even (log entry 22); den is not 0. -/
def f32OfRatio (num den : Nat) : Nat :=
  if num = 0 ∨ den = 0 then 0
  else
    let l : Int := (Nat.log2 num : Int) - (Nat.log2 den : Int)
    -- 2^(e) ≤ num / den < 2^(e + 1)
    let e : Int :=
      if l ≥ 0 then (if num < den * 2 ^ l.toNat then l - 1 else l)
      else (if num * 2 ^ (-l).toNat < den then l - 1 else l)
    let e := max e (-126)
    let q := scaledQuot num den (23 - e)
    -- q is below 2^24 + 1; the sum carries into the exponent when rounding reaches 2^24
    if q < 2 ^ 23 then q else ((e + 127).toNat * 2 ^ 23 + (q - 2 ^ 23))

/-- Mantissa and exponent of a finite binary32 number without its sign: m × 2^e. -/
def f32Parts (v : Nat) : Nat × Int :=
  let e : Nat := v / 2 ^ 23 % 256
  let m : Nat := v % 2 ^ 23
  if e = 0 then (m, -149) else (m + 2 ^ 23, (e : Int) - 150)

/-! ### CRC -/

/-- One bit of CRC-8 with polynomial x^8 + x^2 + x + 1 (R206). -/
def crc8Bit (crc : BitVec 8) (b : Bool) : BitVec 8 :=
  let top := crc.getLsbD 7 ^^ b
  if top then (crc <<< 1) ^^^ 0x07 else crc <<< 1

/-- CRC-8 over bits, first bit first. -/
def crc8 (bits : List Bool) : BitVec 8 := bits.foldl crc8Bit 0

/-- One byte of CRC-32C in its reflected form (log entry 23). -/
def crc32cByte (crc : BitVec 32) (b : Byte) : BitVec 32 :=
  (List.range 8).foldl (fun c _ => if c.getLsbD 0 then (c >>> 1) ^^^ 0x82F63B78 else c >>> 1)
    (crc ^^^ (b.setWidth 32))

/-- CRC-32C of bytes (log entry 23). -/
def crc32c (l : List Byte) : BitVec 32 := (l.foldl crc32cByte 0xFFFFFFFF) ^^^ 0xFFFFFFFF

end Sys2Proof.Machine
end

