-- ==== Sys2Proof/Machine/Collector.lean ====
section
/-! DEFINITION. Collector.lean: a raise at the fault collector (R478 to R493): the one operation that every unit's
cause goes through, the event frame it sends (R417), the vector it marks (R349), and the reaction actions it calls
for. The actions wait in the collector record and are taken before the command ends (Settle.lean). -/

namespace Sys2Proof.Machine

/-- Class codes (Table 16-2). -/
abbrev clsLane : Nat := 0
abbrev clsStack : Nat := 1
abbrev clsConfig : Nat := 2
abbrev clsPace : Nat := 3
abbrev clsMemory : Nat := 4
abbrev clsLookback : Nat := 5
abbrev clsNetwork : Nat := 6
abbrev clsClock : Nat := 7
abbrev clsPower : Nat := 8
abbrev clsThermal : Nat := 9
abbrev clsSecurity : Nat := 10
abbrev clsUpdate : Nat := 11
abbrev clsPair : Nat := 12
abbrev clsHost : Nat := 13
abbrev clsKernel : Nat := 14
abbrev clsUser : Nat := 15

/-! ### The field bus's transmit side (R408, R411, R416, R417) -/

/-- The CAN FD data lengths (R411). -/
def canLengths : List Nat := [0, 1, 2, 3, 4, 5, 6, 7, 8, 12, 16, 20, 24, 32, 48, 64]

/-- A payload padded with bytes 0x00 to the next CAN FD length (R411). -/
def canPad (l : List Byte) : List Byte :=
  match canLengths.find? (fun n => l.length ≤ n) with
  | some n => l ++ List.replicate (n - l.length) 0
  | none => l

/-- The identifier of Table 13-6. -/
def canId (prio dest src func : Nat) : BitVec 29 :=
  BitVec.ofNat 29 (prio * 2 ^ 26 + 0x16 * 2 ^ 21 + dest * 2 ^ 14 + src * 2 ^ 7 + func)

/-- Channel c sends: it is error-active or error-passive and its clock domain runs (R416, R444). -/
def State.canSends (s : State) (c : Nat) : Bool :=
  (s.rd (0x100B + c) 0x01 = 1 || s.rd (0x100B + c) 0x01 = 2) && s.domSt 4 = 1

/-- What a frame is sent for (R416, R417). -/
inductive FrameUse where
  | response | event | heartbeat
  deriving DecidableEq, Repr

/-- A frame handed to channel c: sent, or, while the channel is bus-off or its domain is stopped, it waits; an event
frame that finds 32 frames waiting is dropped and counted, a heartbeat is dropped, a response waits for room. A silent channel sends no frame (R413, R416, R444). -/
def State.canSend (s : State) (c : Nat) (use : FrameUse) (id : BitVec 29) (data : List Byte) : State :=
  if !s.rdBit 0x1009 0x03 c then s
  else
    let st := s.rd (0x100B + c) 0x01
    let x := s.canCh c
    if x.silent then s
    else if s.canSends c then ((s.work 4 c).bump 64 (0x100B + c) 0x05).emit (.canFrame c id (canPad data))
    else if 1 ≤ st ∧ st ≤ 3 then
      if use ≠ .response ∧ 32 ≤ x.queue.length then (if use = .event then s.bump 32 (0x100B + c) 0x0A else s)
      else s.setCan c { x with queue := x.queue ++ [(id, canPad data)] }
    else s

/-- The frames that wait are sent, in order, once the channel sends. -/
def State.canFlush (s : State) (c : Nat) : State :=
  let x := s.canCh c
  if !s.canSends c ∨ x.queue.isEmpty then s
  else x.queue.foldl (fun s f => s.canSend c .response f.1 f.2) (s.setCan c { x with queue := [] })

/-- The event frame of a raise, on both channels (R417). -/
def State.eventFrame (s : State) (src level : Nat) : State :=
  let data : List Byte := [0x53, 0x11] ++ natBytes 2 src ++ [BitVec.ofNat 8 level, 0, 0, 0] ++ natBytes 6 s.xn
  let id := canId 1 0 (s.rd 0x1008 0x01) 0x11
  (s.canSend 0 .event id data).canSend 1 .event id data

/-! ### Status, classes and levels (R481, R482, R487, R488) -/

/-- The entry is the open-class mask of some source. -/
def isMaskKey (k : Nat) : Bool := k % 256 = 0x0A && 0x7100 ≤ k / 256 && k / 256 < 0x7280

/-- The entry is the status of some source. -/
def isStatusKey (k : Nat) : Bool := k % 256 = 0x01 && 0x7100 ≤ k / 256 && k / 256 < 0x7280

/-- A class is open while some source's mask holds its bit (R487). -/
def State.classOpen (s : State) (cls : Nat) : Bool :=
  s.dict.any (fun c => isMaskKey c.1 && c.2.testBit cls)

/-- 0x7000:07: the open classes. -/
def State.openClasses (s : State) : Nat := maskOf 16 s.classOpen

/-- 0x7000:01: sources with status set. -/
def State.openSources (s : State) : Nat :=
  (s.dict.filter (fun c => isStatusKey c.1 && c.2 = 1)).length

/-- The level before escalation (R482). -/
def State.confLevel (s : State) (src level : Nat) : Nat :=
  if s.rd (0x7100 + src) 0x03 = 0xFF then level else s.rd (0x7100 + src) 0x03

/-- The raise escalates (R487): alert or higher, not yet halt, its class open, the source's bit set. -/
def State.escalates (s : State) (src cls conf : Nat) : Bool :=
  1 ≤ conf && conf < 3 && s.classOpen cls && s.rd (0x7100 + src) 0x05 = 1

/-- The effective level (R482, R487). -/
def State.effLevel (s : State) (src cls level : Nat) : Nat :=
  let conf := s.confLevel src level
  if s.escalates src cls conf then conf + 1 else conf

/-- The source's and the class's entries of a raise, but for its open-class mask (R481). -/
def State.markEntries (s : State) (src cls code eff : Nat) : State :=
  let s := s.wr (0x7100 + src) 0x01 1
  let s := s.bump 32 (0x7100 + src) 0x06
  let s := s.bump 32 0x7001 (cls + 1)
  let s := s.bump 64 0x7000 0x02
  let s := s.wr (0x7100 + src) 0x07 (s.era % 16 * 2 ^ 48 + s.xn)
  let s := s.wr (0x7100 + src) 0x08 (code % 0x2000)
  s.wr (0x7100 + src) 0x09 eff

/-- A source with an unacknowledged note (R488). -/
def State.addNote (s : State) (src : Nat) : State :=
  { s with collector := { s.collector with
    notes := if s.collector.notes.contains src then s.collector.notes else s.collector.notes ++ [src] } }

/-- The source's and the class's entries of a raise (R481, R488). -/
def State.markRaise (s : State) (src cls code eff : Nat) : State :=
  let s := s.markEntries src cls code eff
  if 1 ≤ eff then s.wrBit (0x7100 + src) 0x0A cls true else s.addNote src

/-- A history entry (Table 16-6). -/
def State.histEntry (s : State) (src code eff conf detail : Nat) (esc forced : Bool) : HistEntry :=
  { w0 := BitVec.ofNat 64 s.now
    w1 := BitVec.ofNat 64 (s.era % 16 * 2 ^ 60 + s.xn)
    w2 := BitVec.ofNat 64 (detail % 2 ^ 32 * 2 ^ 32 + code % 0x2000 * 2 ^ 19 + src * 2 ^ 10 + eff * 2 ^ 8
      + conf * 2 ^ 6 + (if esc then 32 else 0) + (if forced then 16 else 0)) }

/-- R492: 32 raises have written entries within the last 1 µs, so that a further one writes none, whether or not the
history has been cleared since. -/
def State.historyBurst (s : State) : Bool :=
  match s.collector.written[31]? with
  | some t => s.now < t + 1000
  | none => false

/-- The history entry written (R492), and kept for the fault log from level contain on (R493). -/
def State.writeHistory (s : State) (eff : Nat) (h : HistEntry) : State :=
  if s.historyBurst then s.bump 32 0x7010 0x03
  else
    let lost := 32 ≤ s.collector.history.length
    let s := { s with collector := { s.collector with
      history := (h :: s.collector.history).take 32
      written := (s.now :: s.collector.written).take 32
      logPending := if 2 ≤ eff then s.collector.logPending ++ [h] else s.collector.logPending } }
    let s := s.bump 64 0x7010 0x01
    if lost then s.bump 32 0x7010 0x02 else s

/-- A vector becomes pending under a mapping word (R349). -/
def State.pendVector (s : State) (word : Nat) : State :=
  if word.testBit 15 && !s.msixPend.contains (word % 512) then
    { s with msixPend := s.msixPend ++ [word % 512] }
  else s

/-- The actions of a code of Table 16-5 for a source with a reaction word; code 4 acts as the halt level, with which a lead
yields (Table 16-3). -/
def actionOf (src word code : Nat) : List Action :=
  let n := if 64 ≤ src ∧ src ≤ 127 then src - 64 else word % 64
  if code = 1 then [.haltRegion n src]
  else if code = 2 then [.migrate (word % 16) src]
  else if code = 3 then [.throttle]
  else if code = 4 then [.haltFabric src, .yield]
  else if code = 5 then [.yield]
  else if code = 6 then [.warmReset]
  else if code = 7 then [.deviceReset]
  else []

/-- The actions of an effective level, in the order of R486. -/
def actionsOf (src word eff : Nat) : List Action :=
  if eff < 2 then []
  else if eff = 2 then actionOf src word (word / 2 ^ 28 % 16)
  else actionOf src word (word / 2 ^ 28 % 16) ++ [.haltFabric src, .yield]
    ++ actionOf src word (word / 2 ^ 24 % 16)

/-- The actions wait. -/
def State.queueActions (s : State) (l : List Action) : State :=
  { s with collector := { s.collector with actions := s.collector.actions ++ l } }

/-- A raise of a cause: source, class, cause code (R480), default level, DETAIL, forced (R481 to R487, R490). -/
def State.raise (s : State) (src cls code level : Nat) (detail : Nat := 0) (forced : Bool := false) : State :=
  let conf := s.confLevel src level
  let esc := s.escalates src cls conf
  let eff := s.effLevel src cls level
  let word := s.rd (0x7100 + src) 0x04
  let h := s.histEntry src code eff conf detail esc forced
  let s := s.markRaise src cls code eff
  let s := s.writeHistory eff h
  let s := s.pendVector (s.rd (0x6110 + src / 128) (src % 128 + 1))
  let s : State := if 3 ≤ eff then { s with security := { s.security with haltSeen := true } } else s
  let s := if 1 ≤ eff ∧ s.rd 0x7000 0x03 ≤ eff then s.eventFrame src eff else s
  if forced && s.rd 0x7000 0x04 = 0 then s else s.queueActions (actionsOf src word eff)

/-- A line of the keep store has failed its write: a spare takes its place, and source 247 is raised (R510); 248 as the spare
lines fall below 10 % (R527). -/
def State.keepFault (s : State) : State :=
  let left := s.spareLines - 1
  let s := { s with spareLines := left }.raise 247 clsUpdate 0x1110 1 0
  if left * 10 < 7798784 ∧ 7798784 ≤ (left + 1) * 10 then s.raise 248 clsUpdate 0x1111 1 0 else s

/-- A command that writes the keep store, answered with 0x08000050 where a line fails its write, which leaves the former
contents (R510). Which writes fail is the outside's (log entry 214). -/
def State.keepCommand (s : State) (f : State → Nat × State) : Nat × State :=
  let r := f s
  if r.1 = 0 && Config.keepFails s.now then (0x08000050, s.keepFault) else r

/-- A cause raised at most once per crossing (R137, R277, R341, R367). -/
def State.raiseOnce (s : State) (src cls code level : Nat) (detail : Nat := 0) : State :=
  let tag := src * 0x2000 + code
  if s.collector.onceC.contains tag then s
  else
    let t := s.raise src cls code level detail
    { t with collector := { t.collector with onceC := t.collector.onceC ++ [tag] } }

end Sys2Proof.Machine
end

