-- ==== Sys2Proof/Machine/Answers.lean ====
section
/-! DEFINITION. Answers.lean: the answer to a dictionary access on the path that asked (R406, R411, R412, R415, R419,
R421, R425), and the end of transfers (R412, R424). -/

namespace Sys2Proof.Machine

/-- The answer comes later: no abort code, since those have 32 bits. -/
def answerLater : Nat := 2 ^ 32

/-! ### CAN FD (R409, R411, R412) -/

/-- The first eight bytes of a frame of the dictionary protocol (Table 13-8). -/
def canHead (cs tid res key len : Nat) : List Byte :=
  [0x53, BitVec.ofNat 8 cs, BitVec.ofNat 8 tid, BitVec.ofNat 8 res] ++ natBytes 2 (key / 256) ++ natBytes 1 key
    ++ natBytes 1 len

/-- The payload of a response. An aborted one holds the code in bytes 8 to 11. -/
def canResponse (cs tid abort key : Nat) (value : List Byte) : List Byte :=
  if abort = 0 then canHead (cs ||| 0x80) tid 0 key value.length ++ value
  else canHead (cs ||| 0x80) tid 1 key 0 ++ natBytes 4 abort

/-- The response to the initiate of a segmented read: SIZE and WIN. -/
def canInitiated (tid key size win : Nat) : List Byte :=
  canHead 0x83 tid 0 key 0 ++ natBytes 4 size ++ natBytes 1 win

/-- A frame of the dictionary protocol sent to a node. -/
def State.canTo (s : State) (c prio node : Nat) (payload : List Byte) : State :=
  s.canSend c .response (canId prio node (s.rd 0x1008 0x01) 0x02) payload

/-- Segments of 60 bytes in a transfer. -/
def segCount (size : Nat) : Nat := (size + 59) / 60

/-- One segment of a segmented read. -/
def State.sendSegment (s : State) (c node : Nat) (t : Transfer) (i : Nat) : State :=
  s.canTo c t.prio node ([0x53, 0x05, BitVec.ofNat 8 t.tid, BitVec.ofNat 8 i] ++ (t.data.drop (60 * i)).take 60)

/-- The segments that the window lets the device send now; the transfer as it stands then. -/
def State.sendWindow (s : State) (c node : Nat) (t : Transfer) : Transfer × State :=
  let last := min (t.seq + t.win) (segCount t.size)
  ({ t with sent := max t.sent last },
    ((List.range last).filter (fun i => t.sent ≤ i)).foldl (fun s i => s.sendSegment c node t i) s)

/-- The response to an open CAN request, on its channel and, for a request that came on both, on the other too
(R415); kept for 10 ms for a second copy. -/
def State.canAnswer (s : State) (o : CanOpen) (payload : List Byte) : State :=
  let s := { s with canOpen := s.canOpen.erase o }
  let x := s.canCh o.c
  let s := s.setCan o.c { x with recent := x.recent.map (fun y =>
    if y.node = o.node ∧ y.payload = o.req ∧ y.response.isNone then { y with response := some payload }
    else y) }
  let s := s.canTo o.c o.prio o.node payload
  if o.both then s.canTo (1 - o.c) o.prio o.node payload else s

/-- The answer of an open request: a segmented read that is granted begins to send; a broadcast write is not answered,
and counted where it is refused (R414). -/
def State.canDeliver (s : State) (o : CanOpen) (abort : Nat) (value : List Byte) : State :=
  if o.cs = 0 then
    let s := { s with canOpen := s.canOpen.erase o }
    if abort = 0 then s else s.bump 32 (0x100B + o.c) 0x0B
  else if o.cs = 3 ∧ abort = 0 then
    let s := s.canAnswer o (canInitiated o.tid o.key value.length o.win)
    let (t, s) := s.sendWindow o.c o.node {
      r := .can o.c o.node
      tid := o.tid
      key := o.key
      data := value
      size := value.length
      win := o.win
      prio := o.prio
      pair := s.rd 0x4320 0x01 * 8 + s.rd 0x4320 0x02 }
    if value.isEmpty then s else { s with transfers := s.transfers ++ [t] }
  else s.canAnswer o (canResponse o.cs o.tid abort o.key (if o.cs = 1 then value else []))

/-! ### Mailboxes (R418, R419) -/

/-- Bytes of the segment buffer DATA. -/
def mailboxBytes : Nat := 1044480

/-- A mailbox shows that its operation is done: DONE, ERR with the code, MORE and the count of bytes. -/
def State.mailboxDone (s : State) (m abort : Nat) (more : Bool) (count : Nat) : State :=
  let x := s.mailbox m
  s.setMailbox m { x with
    status := BitVec.ofNat 32 (0x40000000 + (if abort = 0 then 0 else 0x20000000)
      + (if more then 0x10000000 else 0) + (if abort = 0 then count else 0))
    abort := abort
    opening := false }

/-- The next part of a segmented read stands in DATA. -/
def State.mailboxPart (s : State) (m : Nat) (t : Transfer) : State :=
  let now := t.data.take mailboxBytes
  let rest := t.data.drop mailboxBytes
  let s := s.setMailbox m { s.mailbox m with data := now }
  let s : State := { s with
    transfers := s.transfers.filter (fun y => y.r ≠ .mailbox m)
      ++ (if rest.isEmpty then [] else [{ t with data := rest }]) }
  s.mailboxDone m 0 (!rest.isEmpty) now.length

/-- The answer of a mailbox's operation. -/
def State.mailboxDeliver (s : State) (m key abort : Nat) (value : List Byte) : State :=
  if (s.mailbox m).opening ∧ abort = 0 then
    s.mailboxPart m {
      r := .mailbox m
      key := key
      data := value
      size := value.length
      pair := s.rd 0x4320 0x01 * 8 + s.rd 0x4320 0x02 }
  else
    let s := if abort = 0 then s.setMailbox m { s.mailbox m with value := value } else s
    s.mailboxDone m abort false value.length

/-! ### The dictionary port (R421, R423) -/

/-- The words of the answer to the design's own request (Table 13-12). -/
def portAnswer (q : PortReq) (abort : Nat) (value : List Byte) : List (Bool × Bool × Word64) :=
  let words := if abort = 0 then chunks 8 (value.length + 1) value else [natBytes 4 abort]
  let head := (q.op + 0x80) * 2 ^ 56 + words.length * 2 ^ 48 + q.tag % 256 * 2 ^ 40
    + (if abort = 0 then 0 else 2 ^ 32) + q.key / 256 * 2 ^ 16 + q.key % 256 * 2 ^ 8
    + (if abort = 0 then value.length else 0)
  (true, true, BitVec.ofNat 64 head) :: words.map (fun w => (false, true, BitVec.ofNat 64 (bytesNat w)))

/-- The words wait for a wave each. -/
def State.portDeliver (s : State) (q : PortReq) (abort : Nat) (value : List Byte) : State :=
  { s with
    portReq := none
    portOut := s.portOut ++ portAnswer q abort value }

/-! ### Every path -/

/-- The answer on the path of the requester, where it waits for one: a mailbox shows it in its registers, a CAN node
gets a response frame, the design words, a kernel its result (R387). -/
def State.deliver (s : State) (r : Requester) (key abort : Nat) (value : List Byte := []) : State :=
  let s : State := match r with
    | .mailbox m => s.mailboxDeliver m key abort value
    | .can c n =>
      match s.canOpen.find? (fun o => o.c = c && o.node = n && o.key = key) with
      | some o => s.canDeliver o abort value
      | none => s
    | .port =>
      match s.portReq with
      | some q => if q.key = key then s.portDeliver q abort value else s
      | none => s
    | .kernel k =>
      if (s.kernel k).dict.isSome ∧ (s.kernel k).dictMade then
        s.setKernel k { s.kernel k with dictDone := some (abort, value) }
      else s
  s.emit (.answer r abort value)

/-- An access counted (R425). -/
def State.countAccess (s : State) (abort : Nat) : State :=
  let s := s.bump 64 0x1011 0x01
  if abort = 0 then s else s.bump 32 0x1011 0x02

/-- An access to the entry of a key answered (R406), and counted. -/
def State.reply (s : State) (r : Requester) (key abort : Nat) (value : List Byte := []) : State :=
  (s.countAccess abort).deliver r key abort value

/-- A transfer ends without being done, and its requester is told (R412, R419, R423). -/
def State.dropTransfer (s : State) (t : Transfer) (code : Nat) : State :=
  let s := { s with transfers := s.transfers.erase t }
  let s := if t.write then s.countAccess code else s.bump 32 0x1011 0x02
  match t.r with
  | .can c n => (s.canTo c t.prio n (canHead 0x07 t.tid 1 t.key 0 ++ natBytes 4 code)).emit (.answer t.r code [])
  | r => s.deliver r t.key code

end Sys2Proof.Machine
end

