-- ==== Sys2Proof/Machine/Frames.lean ====
section
/-! DEFINITION. Frames.lean: where the configuration bits of a cell stand in its frame and the groups they fall into
(R171, R172, Table 3-2), and the design that a region's frames describe. -/

namespace Sys2Proof.Machine

/-- R171: the tile that a frame address names, 64 j + i, and the first of its eight cells. -/
def frameTile (addr : Nat) : Nat := addr / 2 % 4096
def frameCell (addr : Nat) : Nat := addr % 2 * 8

/-- R172: the 256 bits of cell c of a frame, bytes 32 (c mod 8) to 32 (c mod 8) + 31. -/
def cellConfig (data : BitVec 2048) (c : Nat) : BitVec 256 := data.extractLsb' (256 * (c % 8)) 256

/-- R172: the groups that the bits of a cell fall into, from bit 0 up. -/
def cellBits (b : BitVec 256) : CellBits where
  table := b.extractLsb' 0 64
  inputs := b.extractLsb' 64 60
  modes := b.extractLsb' 124 16
  voids := b.extractLsb' 140 8
  spans := b.extractLsb' 148 64
  risers := b.extractLsb' 212 24
  region := b.extractLsb' 236 20

/-- The cells of a frame, by cell number in the region (16 × tile + c). -/
def frameCells (f : Nat × Nat) : List (Nat × CellBits) :=
  (List.range 8).map (fun i =>
    (frameTile f.1 * 16 + frameCell f.1 + i, cellBits (cellConfig (BitVec.ofNat 2048 f.2) (frameCell f.1 + i))))

/-- A cell as its bits set it. -/
def cellOf (id : Nat) (b : CellBits) : CellCfg :=
  { toCellModes := Config.modesOf b.modes
    toCellInputs := Config.inputsOf id b.inputs
    toCellVoids := Config.voidsOf id b.voids b.inputs
    table := Config.tableOf b.table }

/-- The design that the frames of a region describe: the argument lists (frame address, data bits) of the frames that
are not zero (R172). The bits of a frame that is zero are those of a cell that is not in use. -/
def netOf (frames : List (Nat × Nat)) : RegionNet :=
  let cells := frames.flatMap frameCells
  let tiles := (cells.map (fun c => c.1 / 16)).eraseDups
  let of (t : Nat) : List CellBits := (List.range 16).map (fun c => (cells.lookup (16 * t + c)).getD {})
  { toRegionShare := Config.regionOf (cells.map (fun c => (c.1, c.2.region)))
    cells := (cells.map (fun c => (c.1, cellOf c.1 c.2))).filter (fun c => c.2.mode ≠ .off)
    tiles := tiles.map (fun t => { Config.controlsOf t ((of t).map (fun b => b.inputs)) with tile := t })
    groups := Config.groupsOf (cells.map (fun c => (c.1, c.2.voids, c.2.inputs)))
    wires := tiles.flatMap (fun t =>
      (Config.spansOf t ((of t).map (fun b => b.spans))).map (fun w => { w with tile := t }))
    taps := tiles.flatMap (fun t =>
      (Config.tapsOf t ((of t).map (fun b => b.risers))).map (fun x => { x with tile := t })) }

end Sys2Proof.Machine
end

