-- ==== Sys2Proof/Machine/Signals.lean ====
section
/-! DEFINITION. Signals.lean: the values and void flags of the signals of the fabric in one wave, as the synchronous
design computes them (R29 to R31, R35, R36, R66 to R81): tiles and the spans between them, border ports and their
selectors, deep spans and their taps, husks, cells, carry chains, token groups, registers. -/

namespace Sys2Proof.Machine

/-! ### Regions as the fabric sees them -/

/-- Region states (R141, Table 5-1). -/
abbrev rOff : Nat := 0
abbrev rFilling : Nat := 1
abbrev rLoading : Nat := 2
abbrev rActive : Nat := 3
abbrev rHalted : Nat := 4
abbrev rResetting : Nat := 5

/-- State of region n. -/
def State.regState (s : State) (n : Nat) : Nat := s.rd (0x4100 + n) 0x10
/-- Active plane of region n; 0xFF: none. -/
def State.activePlane (s : State) (n : Nat) : Nat := s.rd (0x4100 + n) 0x11
/-- State of plane p of region n: 0 INVALID, 1 LOADING, 2 VALID, 3 DAMAGED (R138). -/
def State.planeState (s : State) (n p : Nat) : Nat := s.rd (0x4100 + n) (0x20 + p)
/-- Table 5-1's state written, with the regions powered (0x2110:02 is read from the states). -/
def State.setRegState (s : State) (n v : Nat) : State := s.wr (0x4100 + n) 0x10 v
/-- The numbers of the 64 regions. -/
def regionNos : List Nat := List.range 64
/-- Entry e of the migration map: one of its fields by sub-index. -/
def State.mig (s : State) (e sub : Nat) : Nat := s.rd (0x4230 + e) sub

/-- The design that region n's active plane describes. -/
def State.activeNet (s : State) (n : Nat) : RegionNet :=
  if s.activePlane n < 8 then (s.plane n (s.activePlane n)).net else {}

/-- Region n's cells run. -/
def State.isActive (s : State) (n : Nat) : Bool := s.regState n = rActive

/-- The plane whose husk values hold region n's signals (R143): its last active plane, or the target of an armed
switch for a region that has never been active. -/
def State.huskPlaneOf (s : State) (n : Nat) : Option Nat :=
  match (s.region n).huskPlane with
  | some p => some p
  | none =>
    match (List.range 16).find? (fun k => s.rd (0x4210 + k) 0x06 = 1 && s.rdBit (0x4210 + k) 0x01 n) with
    | some k => some (s.rd (0x4210 + k) 0x03)
    | none => none

/-- The design whose husk holds region n's signals; none for a region that has never been active (R143). -/
def State.huskNet (s : State) (n : Nat) : RegionNet :=
  match s.huskPlaneOf n with
  | some p => (s.plane n p).net
  | none => {}

/-- Region n's cells drive its tokens: it is ACTIVE, and is not the region whose husk's tokens are asked for (R163). -/
def State.runsFor (s : State) (husked : Option Nat) (n : Nat) : Bool := s.isActive n && husked ≠ some n

/-- The design that drives region n's border ports and taps where the tokens of one region's husk are asked for: its own,
or that of its husk. -/
def State.driveNetAs (s : State) (husked : Option Nat) (n : Nat) : RegionNet :=
  if s.runsFor husked n then s.activeNet n else s.huskNet n

/-- The design that drives region n's border ports, taps and release registers. -/
def State.driveNet (s : State) (n : Nat) : RegionNet := s.driveNetAs none n

/-! ### Geometry (R66, R73, R74, R76, R77) -/

/-- Tiles of each length of span, and how many of each a tile drives in each direction (R73). -/
def spanReach : SpanLen → Nat
  | .one => 1
  | .four => 4
  | .sixteen => 16
def spanCount : SpanLen → Nat
  | .one => 8
  | .four => 4
  | .sixteen => 2

/-- The tile in which a span from a tile ends: its length away, or the edge tile of its region (R73). -/
def wireEnd (tile : Nat) (dir : Dir) (len : SpanLen) : Nat :=
  let i := tile % 64
  let j := tile / 64
  match dir with
  | .east => j * 64 + min (i + spanReach len) 63
  | .west => j * 64 + (i - spanReach len)
  | .north => min (j + spanReach len) 63 * 64 + i
  | .south => (j - spanReach len) * 64 + i

/-- The region across an edge of region n; none at the outside of the grid (R74). -/
def neighbour (n : Nat) (side : Dir) : Option Nat :=
  match side with
  | .east => if n % 8 < 7 then some (n + 1) else none
  | .west => if 0 < n % 8 then some (n - 1) else none
  | .north => if n / 8 < 7 then some (n + 8) else none
  | .south => if 0 < n / 8 then some (n - 8) else none

/-- The tile stands along an edge of its region. -/
def onEdge (tile : Nat) (side : Dir) : Bool :=
  match side with
  | .east => tile % 64 = 63
  | .west => tile % 64 = 0
  | .north => tile / 64 = 63
  | .south => tile / 64 = 0

/-- The tile across an edge from a tile on it. -/
def facingTile (tile : Nat) (side : Dir) : Nat :=
  match side with
  | .east => tile - 63
  | .west => tile + 63
  | .north => tile % 64
  | .south => 63 * 64 + tile % 64

/-- The edge of the neighbour that meets an edge. -/
def opposite : Dir → Dir
  | .east => .west
  | .west => .east
  | .north => .south
  | .south => .north

/-- A number for each direction. -/
def dirNo : Dir → Nat
  | .east => 0
  | .north => 1
  | .west => 2
  | .south => 3

/-- A tile, an edge and an index name a border output of region n: one of 16 at a tile of an edge that is shared. -/
def borderPort (n tile : Nat) (side : Dir) (idx : Nat) : Bool :=
  onEdge tile side && idx < 16 && (neighbour n side).isSome

/-- R76, R77, R79: the deep span that riser r of a tile of region n taps. -/
def riserSpan (n tile r : Nat) : Nat :=
  let x := 64 * (n % 8) + tile % 64
  let y := 64 * (n / 8) + tile / 64
  let k := r % 16
  let at_ := if r < 16 then x else y
  let seg := if k = 0 then at_ / 64 else if at_ < 4 * k then 0 else 1 + (at_ - 4 * k) / 64
  (if r < 16 then 0 else 2 ^ 20) + k * 2 ^ 16 + (if r < 16 then y else x) * 128 + seg

/-- Region owner of a deep span (Table 3-3, R78). -/
def spanOwner (id : Nat) : Nat :=
  let o := id / 2 ^ 20 % 2
  let k := id / 2 ^ 16 % 16
  let line := id / 128 % 512
  let seg := id % 16
  let lo := if k = 0 then 64 * seg else if seg = 0 then 0 else 4 * k + 64 * (seg - 1)
  if o = 0 then line / 64 * 8 + lo / 64 else lo / 64 * 8 + line / 64

/-- First and last position of a deep span along its line, in tiles (R76, Table 3-3). -/
def spanEnds (id : Nat) : Nat × Nat :=
  let k := id / 2 ^ 16 % 16
  let seg := id % 16
  if k = 0 then (64 * seg, 64 * seg + 63)
  else if seg = 0 then (0, 4 * k - 1)
  else (4 * k + 64 * (seg - 1), min 511 (4 * k + 64 * seg - 1))

/-- A deep span passes through region n. -/
def spanTouches (n id : Nat) : Bool :=
  let line := id / 128 % 512
  let (along, across) := if id / 2 ^ 20 % 2 = 0 then (n % 8, n / 8) else (n / 8, n % 8)
  line / 64 = across && (spanEnds id).1 / 64 ≤ along && along ≤ (spanEnds id).2 / 64

/-! ### Taps (R79 to R81) -/

/-- The tap is in drive mode; it drives while its driver enable is set; it is in receive mode. -/
def isDrive (t : TapCfg) : Bool :=
  match t.mode with
  | .drive _ _ _ => true
  | _ => false
def isDriver (t : TapCfg) : Bool :=
  match t.mode with
  | .drive e _ _ => e
  | _ => false
def isReceive (t : TapCfg) : Bool := t.mode = .receive
/-- The signal and the husk value of a tap in drive mode. -/
def tapSrc (t : TapCfg) : Src :=
  match t.mode with
  | .drive _ x _ => x
  | _ => .const false
def tapHusk (t : TapCfg) : Husk :=
  match t.mode with
  | .drive _ _ h => h
  | _ => .zero

/-- The taps of a design: one for each of the 32 risers of a tile, so that it is in one mode (R79). -/
def riserTaps (net : RegionNet) : List TapCfg :=
  net.taps.foldl (fun l t =>
    if t.riser < 32 && !l.any (fun u => u.tile = t.tile && u.riser = t.riser) then l ++ [t] else l) []

/-- The tap of riser r at a tile of a design (R79). -/
def tapAt (net : RegionNet) (tile r : Nat) : Option TapCfg :=
  (riserTaps net).find? (fun t => t.tile = tile && t.riser = r)

/-- The enabled driver taps of a design. -/
def driverTaps (net : RegionNet) : List TapCfg := (riserTaps net).filter isDriver

/-- The enabled driver taps of a span: region, tap. A region that does not run drives its husk's (R81). -/
def State.spanDrivers (s : State) (husked : Option Nat) (span : Nat) : List (Nat × TapCfg) :=
  regionNos.flatMap (fun n =>
    ((driverTaps (s.driveNetAs husked n)).filter (fun t => riserSpan n t.tile t.riser = span)).map (fun t => (n, t)))

/-! ### Husks (R75, R143, R144) -/

/-- Keys of held signals: a border output of region n, and a tap. -/
def borderKey (n tile : Nat) (side : Dir) (idx : Nat) : Nat :=
  ((n * 4 + dirNo side) * 64 + (if side = .east ∨ side = .west then tile / 64 else tile % 64)) * 16 + idx
def tapKey (n tile r : Nat) : Nat := 2 ^ 48 + (n * 4096 + tile) * 32 + r

/-- A husk value (R75, R144). -/
def State.huskValue (s : State) (h : Husk) (key : Nat) : Bool :=
  match h with
  | .zero => false
  | .one => true
  | .holdLast => Sparse.get (fun _ => false) s.huskLast key

/-! ### Border selectors (R162 to R164) -/

/-- The selector of an input that receives work migrated from region f passes the spare's token: the migration from f
is complete, or its revert has not reached its wave (R162, R164). -/
def State.selectorOnSpare (s : State) (f : Nat) : Bool :=
  (List.range 16).any (fun e => s.mig e 0x01 = f &&
    (s.mig e 0x07 = 3 || (s.migReverting && s.rd 0x4240 0x05 = e)))

/-- Until its wave, a migration of a region that was HALTED passes the tokens of that region's husk (R163). -/
def State.selectorHusk (s : State) (f : Nat) : Option Nat :=
  if s.migHalted && s.migOverlap && !s.migReverting && s.rd 0x4240 0x05 < 16 && s.mig (s.rd 0x4240 0x05) 0x01 = f then
    some f
  else none

/-! ### Injection points, by number (log entry 25) -/

/-- Lanes are points 0 to 511, stack ports 512 to 519. -/
def portPoint (p : Nat) : Nat := 512 + p
abbrev dictPoint : Nat := 520
abbrev timingPoint : Nat := 521
abbrev creditPoint : Nat := 522
/-- The scheduled port of a bank (0: A, 1: B). -/
def bankPoint (bank port : Nat) : Nat := 1024 + bank * 2 + port

/-- The region that a point injects into: a lane's (R16), a stack port's (R17), a bank's (R18); the dictionary port,
the timing port and the configuration access port are attached to region 0 (R181, R238, R421). -/
def pointRegion (point : Nat) : Nat :=
  if point < 512 then point / 8
  else if point < 520 then 9 * (point - 512)
  else if point < 1024 then 0
  else (point - 1024) / 2 / 64

/-! ### Signals -/

/-- What is asked of a signal: its data bit, or its void flag, beyond the token groups whose flag is being formed:
(region, group). -/
inductive Ask where
  | data
  | void (seen : List (Nat × Nat))
  deriving DecidableEq, Repr

/-- The answer for a void token with data 0 (R30). -/
def voidAnswer : Ask → Bool
  | .data => false
  | .void _ => true

/-- The answer for a token of data bit d and void flag v. -/
def Ask.of (a : Ask) (d v : Bool) : Bool :=
  match a with
  | .data => d
  | .void _ => v

/-- The table index of five inputs (R68). -/
def tableIndex5 (a0 a1 a2 a3 a4 : Bool) : Nat :=
  a0.toNat + 2 * a1.toNat + 4 * a2.toNat + 8 * a3.toNat + 16 * a4.toNat

/-- The register token that a cell register passes on in this wave: its stored one, or its initial value with
V = 0 (R35). -/
def State.regTok (s : State) (n id q : Nat) (c : CellCfg) : Bit :=
  match Sparse.get (fun _ => none) s.regs ((n * 65536 + id) * 2 + q) with
  | some b => b
  | none => { d := if q = 0 then c.reg0.init else c.reg1.init, v := false }

/-- The void settings of a cell's output (R67). -/
def outVoid (c : CellCfg) (o : CellOut) : OutVoid :=
  match o with
  | .f | .fa => c.vf
  | .fb | .co | .sum => c.vco
  | .q0 => c.vq0
  | .q1 => c.vq1

/-- The token group of a cell output: its number and members (R29). -/
def groupOf (net : RegionNet) (id : Nat) (o : CellOut) : Option (Nat × List (Nat × CellOut)) :=
  (net.groups.zipIdx.find? (fun g => g.1.contains (id, o))).map (fun g => (g.2, g.1))

/-- The carry input of a cell (R72): CO of the cell before it, of cell 15 of the tile below, or BX of cell 0 at a carry
start; as the tile and signal to take it from. -/
def carryIn (tile c : Nat) (x : CellCfg) : Option (Nat × Src) :=
  if c ≠ 0 then some (tile, .cell (c - 1) .co)
  else if x.carryStart then some (tile, x.a5)
  else if 64 ≤ tile then some (tile - 64, .cell 15 .co)
  else none

/-- The signals from which a combinational output of a cell is formed (R68). -/
def outInputs (tile c : Nat) (x : CellCfg) (o : CellOut) : List (Nat × Src) :=
  let five := [x.a0, x.a1, x.a2, x.a3, x.a4].map (fun a => (tile, a))
  match o, x.mode with
  | .f, .six => five ++ [(tile, x.a5)]
  | .co, .carry | .sum, .carry => five ++ (carryIn tile c x).toList
  | _, _ => five

/-- The data bit or void flag of a signal as tile t of region n takes it, in the wave being run (R29 to R31, R68, R72
to R75, R79 to R81, R162). Every member of a token group has one void flag: that which the design sets for a
void-aware group, else the OR of the flags of all that feeds any of its members (R31). A chain that passes through more
signals than the device has ends in a void token (log entry 175). -/
def eval (s : State) (inj : List (Nat × Tok)) : Nat → Ask → Nat → Nat → Src → Bool
  | 0, ask, _, _, _ => voidAnswer ask
  | fuel + 1, ask, n, t, x =>
    let net := s.activeNet n
    let port (p : PortIn) (husked : Option Nat) : Bool :=
      match p with
      | .border side idx =>
        match neighbour n side with
        | none => voidAnswer ask
        | some m =>
          let tile := facingTile t side
          if !borderPort m tile (opposite side) idx || !onEdge t side then voidAnswer ask
          else
            let at_ (d : RegionNet) := d.borders.find? (fun b => b.tile = tile && b.side = opposite side && b.idx = idx)
            if s.runsFor husked m then
              match at_ (s.activeNet m) with
              | some b => eval s inj fuel ask m tile b.src
              | none => voidAnswer ask
            else
              match at_ (s.huskNet m) with
              | some b => ask.of (s.huskValue b.husk (borderKey m tile (opposite side) idx)) true
              | none => voidAnswer ask
      | .riser r =>
        let id := riserSpan n t r
        if s.latched.contains id || !(tapAt net t r).any isReceive then voidAnswer ask
        else
          match s.spanDrivers husked id with
          | [(m, d)] =>
            if s.runsFor husked m then eval s inj fuel ask m d.tile (tapSrc d)
            else ask.of (s.huskValue (tapHusk d) (tapKey m d.tile d.riser)) true
          | _ => voidAnswer ask
    match x with
    | .const b => ask.of b false
    | .voidOf y => ask.of (eval s inj fuel (.void []) n t y) false
    | .inj point bit =>
      match (if pointRegion point = n then inj.lookup point else none) with
      | some k => ask.of (k.data.testBit bit) k.void
      | none => voidAnswer ask
    | .wire dir len idx origin =>
      if wireEnd origin dir len ≠ t || origin = t || spanCount len ≤ idx then voidAnswer ask
      else
        match net.wires.find? (fun w => w.tile = origin && w.dir = dir && w.len = len && w.idx = idx) with
        | none => voidAnswer ask
        | some w =>
          match w.src with
          | .wire _ .one _ _ => voidAnswer ask
          | y => eval s inj fuel ask n origin y
    | .port p alt =>
      match alt with
      | none => port p none
      | some (f, old) => if s.selectorOnSpare f then port p none else port old (s.selectorHusk f)
    | .cell c o =>
      let id := t * 16 + c
      match (if c < 16 then net.cells.lookup id else none) with
      | none => voidAnswer ask
      | some g =>
        match ask with
        | .data =>
          match o with
          | .q0 => (s.regTok n id 0 g).d
          | .q1 => (s.regTok n id 1 g).d
          | _ =>
            let d (y : Src) : Bool := eval s inj fuel .data n t y
            let k := tableIndex5 (d g.a0) (d g.a1) (d g.a2) (d g.a3) (d g.a4)
            let lo := g.table.getLsbD k
            let hi := g.table.getLsbD (32 + k)
            let ci : Unit → Bool := fun _ =>
              match carryIn t c g with
              | some y => eval s inj fuel .data n y.1 y.2
              | none => false
            match o, g.mode with
            | .f, .six => if d g.a5 then hi else lo
            | .fb, _ => hi
            | .co, .carry => if lo then ci () else hi
            | .sum, .carry => lo ^^ ci ()
            | _, _ => lo
        | .void seen =>
          let own (seen : List (Nat × Nat)) (m : Nat × CellOut) : Bool :=
            match net.cells.lookup m.1 with
            | none => true
            | some g =>
              match m.2 with
              | .q0 => (s.regTok n m.1 0 g).v
              | .q1 => (s.regTok n m.1 1 g).v
              | o => (outVoid g o).mask && (outInputs (m.1 / 16) (m.1 % 16) g o).any (fun y =>
                  eval s inj fuel (.void seen) n y.1 y.2)
          match o, groupOf net id o with
          | .q0, _ | .q1, _ => own seen (id, o)
          | _, none =>
            match (outVoid g o).aware with
            | some y => eval s inj fuel .data n t y
            | none => own seen (id, o)
          | _, some (k, l) =>
            if seen.contains (n, k) then false
            else
              match l.findSome? (fun m => (net.cells.lookup m.1).bind (fun g =>
                ((outVoid g m.2).aware).map (fun y => (m.1 / 16, y)))) with
              | some y => eval s inj fuel .data n y.1 y.2
              | none => l.any (own ((n, k) :: seen))

/-- Signals of the whole device: no loop-free chain is longer. -/
abbrev fabricFuel : Nat := 16777216

/-- A signal of a tile of region n in the wave being run. -/
def State.sig (s : State) (inj : List (Nat × Tok)) (n t : Nat) (x : Src) : Bit :=
  { d := eval s inj fabricFuel .data n t x, v := eval s inj fabricFuel (.void []) n t x }

/-! ### Registers (R35, R69 to R71) -/

/-- The data input of register q of cell c (Table 3-1). -/
def regDataSrc (c q : Nat) (x : CellCfg) (sel : BitVec 2) : Src :=
  if sel = 0 then (if q = 0 then .cell c .f else if x.mode = .six then .cell c .f else .cell c .fb)
  else if sel = 1 then (if q = 0 then .cell c .sum else .cell c .co)
  else if sel = 2 then x.a5
  else (if q = 0 then .cell c .q1 else .cell c .q0)

/-- The token that register q of a cell would pass on in the next wave by its own inputs (R70, R71). -/
def State.nextReg (s : State) (inj : List (Nat × Tok)) (n id q : Nat) (c : CellCfg) : Bit :=
  let t := id / 16
  let r := if q = 0 then c.reg0 else c.reg1
  let ov := if q = 0 then c.vq0 else c.vq1
  let ctl := ((s.activeNet n).tiles.find? (fun x => x.tile = t)).getD {}
  let en : Bit := match r.enable with
    | .always => { d := true, v := false }
    | .ce0 => s.sig inj n t ctl.ce0
    | .ce1 => s.sig inj n t ctl.ce1
  let sr : Bit := if r.useSr then s.sig inj n t ctl.sr else { d := false, v := false }
  let forced := ov.aware.isNone && (en.v || sr.v)
  if sr.d && !sr.v then { d := r.init, v := false }
  else if en.d && !en.v then
    let x : Bit := s.sig inj n t (regDataSrc (id % 16) q c r.sel)
    { d := x.d
      v := match ov.aware with
        | some a => (s.sig inj n t a).d
        | none => (ov.mask && x.v) || forced }
  else
    let x := s.regTok n id q c
    { d := x.d, v := x.v || forced }

/-- The key of register q of cell id of region n. -/
def regKey (n id q : Nat) : Nat := (n * 65536 + id) * 2 + q

/-- The registers of one token group take one void flag: that of a void-aware member, else the OR of all (R31). -/
def shareFlags (net : RegionNet) (n : Nat) (l : List (Nat × Bit)) : List (Nat × Bit) :=
  net.groups.foldl (fun l g =>
    let regs := g.filterMap (fun m => match m.2 with
      | .q0 => some (m, regKey n m.1 0)
      | .q1 => some (m, regKey n m.1 1)
      | _ => none)
    let flag (k : Nat) : Bool := (l.lookup k).any (fun b => b.v)
    let v : Bool := match regs.find? (fun x => (net.cells.lookup x.1.1).any (fun c => (outVoid c x.1.2).aware.isSome)) with
      | some x => flag x.2
      | none => regs.any (fun x => flag x.2)
    l.map (fun x => if regs.any (fun r => r.2 = x.1) then (x.1, { x.2 with v := v }) else x)) l

/-- Every used register of every ACTIVE region takes its token (R35): computed from the state before the wave. -/
def State.nextRegs (s : State) (inj : List (Nat × Tok)) : List (Nat × Bit) :=
  regionNos.flatMap (fun n =>
    if s.isActive n then
      shareFlags (s.activeNet n) n ((s.activeNet n).cells.flatMap (fun c =>
        (if c.2.reg0.used then [(regKey n c.1 0, s.nextReg inj n c.1 0 c.2)] else [])
        ++ (if c.2.reg1.used then [(regKey n c.1 1, s.nextReg inj n c.1 1 c.2)] else [])))
    else [])

/-- The register tokens stored. -/
def State.storeRegs (s : State) (l : List (Nat × Bit)) : State :=
  { s with regs := l.foldl (fun m c => Sparse.set (fun _ => none) m c.1 (some c.2)) s.regs }

/-! ### Groups of bits -/

/-- Data bits of a group of signals, bit 0 first. -/
def bitsNat (l : List Bool) : Nat := l.foldr (fun b acc => b.toNat + 2 * acc) 0

/-- The token of a group taken at a tile (R29, R31): its data, void when any of its bits is. -/
def State.groupTok (s : State) (inj : List (Nat × Tok)) (n t : Nat) (l : List Src) (aware : Option Src) : Tok :=
  let bs := l.map (s.sig inj n t)
  { data := bitsNat (bs.map (fun b => b.d))
    void := match aware with
      | some a => (s.sig inj n t a).d
      | none => bs.any (fun b => b.v) }

/-! ### What the husks remember (R144) -/

/-- The data bits of every signal that an ACTIVE region drives across its border. -/
def State.rememberHusks (s : State) (inj : List (Nat × Tok)) : State :=
  let vals : List (Nat × Bool) := regionNos.flatMap (fun n =>
    if s.isActive n then
      (s.activeNet n).borders.map (fun b => (borderKey n b.tile b.side b.idx, (s.sig inj n b.tile b.src).d))
      ++ (driverTaps (s.activeNet n)).map (fun t =>
        (tapKey n t.tile t.riser, (s.sig inj n t.tile (tapSrc t)).d))
    else [])
  { s with huskLast := vals.foldl (fun m c => Sparse.set (fun _ => false) m c.1 c.2) s.huskLast }

/-! ### Delivery to release registers -/

/-- The tokens that the ACTIVE regions deliver to their release registers in this wave (R38). -/
def State.deliveries (s : State) (inj : List (Nat × Tok)) : List Delivered :=
  regionNos.flatMap (fun n =>
    if s.isActive n then
      (s.activeNet n).releases.map (fun r =>
        { cfg := r, region := n, tok := s.groupTok inj n r.tile r.bits r.aware })
    else [])

end Sys2Proof.Machine
end

