-- ==== Sys2Proof/Machine/Regions.lean ====
section
/-! DEFINITION. Regions.lean: region states, halts behind the husk, planes becoming active, the span checks and the
migration bookkeeping that several units share (R84, R142 to R158, R163). -/

namespace Sys2Proof.Machine

/-- The quadrant of a region (R8). -/
def quadrantOf (n : Nat) : Nat := n / 8 / 4 * 2 + n % 8 / 4

/-- The wave that is injected next: step 0 of a crossing that has just opened, else one after the current wave. -/
def State.nextWave (s : State) : Nat := if s.waveDue then s.wave else waveAdd s.S s.wave 1

/-- Continuous index of the wave that is injected next. -/
def State.nextWaveIdx (s : State) : Nat := if s.waveDue then s.waveIdx else s.waveIdx + 1

/-- Continuous index of a named wave near the current one. -/
def State.idxOf (s : State) (w : Nat) : Nat :=
  if waveLater s.wave w then s.waveIdx + waveDist s.S s.wave w
  else s.waveIdx - waveDist s.S w s.wave

/-- Registers of region n at their initial values (R149, R158). -/
def State.initRegs (s : State) (n : Nat) : State :=
  { s with regs := Sparse.drop s.regs (fun k => k / 131072 = n) }

/-- Queue state of region n's banks reset to empty (R103). -/
def State.resetQueues (s : State) (n : Nat) : State :=
  { s with queues := Sparse.drop s.queues (fun k => k / 64 = n) }

/-! ### The access to a user entry that needs region 0 (R424) -/

/-- The accesses that wait for the design and for which p holds end, answered with code; a late answer of the design
finds no access with its TAG (R422, R424). -/
def State.endDesign (s : State) (p : Option Requester → Bool) (code : Nat) : State :=
  let l := (s.design.toList ++ s.designQ).filter (fun d => p d.r)
  l.foldl (fun s d => match d.r with
    | some r => s.reply r d.key code
    | none => s)
    { s with
      design := s.design.filter (fun d => !p d.r)
      designQ := s.designQ.filter (fun d => !p d.r) }

/-- Region 0 has left ACTIVE: every access that waits for the design is aborted with 0x08000031. -/
def State.abortDesign (s : State) : State := s.endDesign (fun _ => true) 0x08000031

/-! ### Planes becoming active -/

/-- The golden designation is cleared, with its cause (R154). -/
def State.clearGolden (s : State) (n : Nat) : State :=
  if s.rd (0x4100 + n) 0x15 = 0xFF then s
  else
    (s.wr (0x4100 + n) 0x15 0xFF).raise (64 + n) clsConfig 0x504 0

/-- Cells in use, registers in use and deep drivers of a design (Table 3-7). -/
def netCells (net : RegionNet) : Nat := (net.cells.filter (fun c => c.2.mode ≠ .off)).length
/-- Taps in drive mode. -/
def netTaps (net : RegionNet) : Nat := ((riserTaps net).filter isDrive).length
def netRegs (net : RegionNet) : Nat :=
  net.cells.foldl (fun a c => a + (if c.2.reg0.used then 1 else 0) + (if c.2.reg1.used then 1 else 0)) 0

/-- 0x4400:01 reads 1 only while every region's active plane was loaded with OBSERVE set (R189). -/
def State.refreshPermit (s : State) : State :=
  let act := regionNos.filter (fun n => decide (s.activePlane n < 8))
  s.wr 0x4400 0x01 (if !act.isEmpty && act.all (fun n => (s.plane n (s.activePlane n)).flags / 2 % 2 = 1) then 1 else 0)

/-- The entries of region n that describe its active plane (Tables 3-7, 4-12, 5-7, 6-11, R140); the depth shown is that of
the active plane, also while the slack counts with the larger one of R151 (DESIGN CHOICE, log entry 180). -/
def State.showPlane (s : State) (n p : Nat) : State :=
  let x := s.plane n p
  let s := s.wr (0x4100 + n) 0x01 (netCells x.net)
  let s := s.wr (0x4100 + n) 0x02 (netRegs x.net)
  let s := s.wr (0x4100 + n) 0x03 (netTaps x.net)
  let s := s.wr (0x4100 + n) 0x18 x.personality
  let s := s.wr (0x4040 + n) 0x01 x.depth
  let s := s.wr (0x4340 + n) 0x06 x.flags
  ((List.range 64).foldl (fun s b => s.wr (0x5000 + n) (0x10 + b) ((x.net.descriptors.getD b 0).toNat)) s).refreshPermit

/-- Region n has no active plane (Table 5-1, R101). -/
def State.noPlane (s : State) (n : Nat) : State :=
  let s := s.wr (0x4100 + n) 0x11 0xFF
  let s := [0x01, 0x02, 0x03, 0x18].foldl (fun s sub => s.wr (0x4100 + n) sub 0) s
  let s := (s.wr (0x4040 + n) 0x01 0).wr (0x4340 + n) 0x06 0
  ((List.range 64).foldl (fun s b => s.wr (0x5000 + n) (0x10 + b) 0) s).refreshPermit

/-- The registers of region n that no wave has written take the initial values that its active plane gives them as
values of their own (R35, R149). -/
def State.fixInit (s : State) (n : Nat) : State :=
  let l := (s.activeNet n).cells.flatMap (fun c =>
    (if c.2.reg0.used then [(regKey n c.1 0, s.regTok n c.1 0 c.2)] else [])
    ++ (if c.2.reg1.used then [(regKey n c.1 1, s.regTok n c.1 1 c.2)] else []))
  s.storeRegs l

/-- The golden plane g of region n guards no longer once plane p is active (R154): it is p itself, or p has another
personality than g or than the active plane. -/
def State.unguards (s : State) (n g p : Nat) : Bool :=
  let other (q : Nat) : Bool := (s.plane n q).personality ≠ (s.plane n p).personality
  g = p || other g || (s.activePlane n < 8 && other (s.activePlane n))

/-- Plane p becomes the active plane of region n from a wave: INIT (mode 1) loads the initial values and resets the
queue state; KEEP keeps every register, those that still hold the old plane's initial values too, and resets the queue
state of the banks whose descriptor changes (R103, R149, R167). The golden designation is cleared where it no longer
guards (R154), and a pending golden switch is dropped by a change away from the damaged plane (R157). -/
def State.activatePlane (s : State) (n p mode wave : Nat) : State :=
  let old := s.activePlane n
  let oldNet := s.activeNet n
  let newNet := (s.plane n p).net
  let golden := s.rd (0x4100 + n) 0x15
  let s :=
    if mode = 1 then (s.initRegs n).resetQueues n
    else { s.fixInit n with queues := Sparse.drop s.queues (fun k =>
      k / 64 = n && oldNet.descriptors.getD (k % 64) 0 ≠ newNet.descriptors.getD (k % 64) 0) }
  let s := if golden < 8 ∧ s.unguards n golden p then s.clearGolden n else s
  let s := if old = p then s else s.setRegion n { s.region n with golden := none }
  let s := (s.wr (0x4100 + n) 0x11 p).showPlane n p
  s.wr (0x4100 + n) 0x1A wave

/-- The active plane of region n sets PA or PB on a bank that is marked failed (R130). -/
def State.portsFailed (s : State) (n : Nat) : Bool :=
  s.activePlane n < 8 && (List.range 64).any (fun b => s.rdBit (0x5000 + n) 0x0B b &&
    (let d := (s.plane n (s.activePlane n)).net.descriptors.getD b 0
    d.getLsbD 60 || d.getLsbD 59))

/-! ### Span checks (R83, R84) -/

/-- Spans on which a design of region n enables a driver (R84's summary). -/
def netDrives (n : Nat) (net : RegionNet) : List Nat :=
  (driverTaps net).map (fun t => riserSpan n t.tile t.riser)

/-- The plane of every region, and whether two drivers meet on one span. -/
def State.spanConflict (s : State) (planeOf : Nat → Nat) : Bool :=
  let drives := regionNos.flatMap (fun n =>
    if planeOf n < 8 then (s.plane n (planeOf n)).summary else [])
  drives.any (fun d => 2 ≤ drives.count d)

/-- Spans owned by region n that are latched off now (0x4100+n:07). -/
def State.latchedOf (s : State) (n : Nat) : Nat := (s.latched.filter (fun id => spanOwner id = n)).length

/-- A request to rearm the latched spans for which p holds; they are rearmed at the next crossing (R86). -/
def State.requestRearm (s : State) (p : Nat → Bool) : State :=
  { s with rearm := s.rearm ++ (s.latched.filter (fun id => p id && !s.rearm.contains id && !s.rearmDue.contains id)) }

/-- A plane switch of region n requests the rearm of every latched span on which it has a tap (R86): each tile has the
taps of all 32 tracks that cross it (R79), whatever their modes. -/
def State.rearmAfterSwitch (s : State) (n : Nat) : State := s.requestRearm (spanTouches n)

/-! ### Migration roles (R160 to R164) -/

/-- The partner and role of a region (0x4100+n:1D). -/
def State.setRole (s : State) (n partner role : Nat) : State :=
  s.wr (0x4100 + n) 0x1D (if role = 0 then 0 else partner * 256 + role)

/-- Region n leaves ACTIVE (R145): its husk emits from the first wave that the region has not accepted, H, on; the waves
that its injection points hold are discarded, and it was not ACTIVE for them (R58). -/
def State.leaveAlone (s : State) (n dst : Nat) : State :=
  let x := s.region n
  let h := if x.held = 0 then s.nextWave else waveSub s.S s.nextWave x.held
  let s := s.setRegion n { x with
    held := 0
    wasActive := x.wasActive && x.held = 0
    huskPlane := some (s.activePlane n)
    lateRun := false }
  let s := (s.setRegState n dst).wr (0x4100 + n) 0x1A h
  let s := if x.held = 0 then s else s.queueActions [.replay n x.held]
  if n = 0 then s.abortDesign else s

/-- A region that a migration made ACTIVE in its donor plane, having been HALTED at arming, is HALTED in its source plane
again (R163; log entry 176). -/
def State.backToSource (s : State) (e : Nat) : State :=
  let f := s.mig e 0x01
  let p := s.mig e 0x02
  let s := if s.regState f = rActive then s.leaveAlone f rHalted else s
  let s := (s.activatePlane f p 1 s.nextWave).rearmAfterSwitch f
  s.setRegion f { s.region f with huskPlane := some p }

/-- A migration is cancelled: f keeps its plane, the selectors stay on f, and the cause is raised (R163). A revert
that is cancelled leaves the migration complete (R164; log entry 27). -/
def State.cancelMigration (s : State) (e : Nat) : State :=
  let f := s.mig e 0x01
  let sp := s.mig e 0x04
  let s := s.wr 0x4240 0x05 0xFF
  let s := if s.migHalted && s.migOverlap && !s.migReverting && s.activePlane f = s.mig e 0x03 then s.backToSource e else s
  let s := if s.migReverting then s.wr (0x4230 + e) 0x07 3
    else ((s.wr (0x4230 + e) 0x07 5).setRole f 0 0).setRole sp 0 0
  { s with
    migReverting := false
    migOverlap := false
    migWave := 0
    migHalted := false
    deferred := s.deferred.filter (fun k => k < 200) }.raise (64 + f) clsConfig 0x507 1 e

/-- Region n has left ACTIVE: a migration in its overlap whose spare it is, is cancelled (R163). In a revert the
roles are exchanged (R164), and f is the spare. -/
def State.spareLeft (s : State) (n : Nat) : State :=
  let e := s.rd 0x4240 0x05
  if e < 16 ∧ s.migOverlap ∧ s.mig e (if s.migReverting then 0x01 else 0x04) = n then s.cancelMigration e
  else s

/-! ### Halts (R142, R145, R463) -/

/-- Region n leaves ACTIVE: a migration whose spare it is ends with it. -/
def State.leaveActive (s : State) (n dst : Nat) : State := (s.leaveAlone n dst).spareLeft n

/-- A halt of region n that records a cause, by the region's state (R142). -/
def State.haltRegion (s : State) (n cause : Nat) : State :=
  if s.regState n = rActive then (s.leaveActive n rHalted).wr (0x4100 + n) 0x19 cause
  else if s.regState n = rResetting then
    let s := s.setRegion n { s.region n with rejoin := none }
    ((s.setRegState n rHalted).wr (0x4100 + n) 0x1A s.nextWave).wr (0x4100 + n) 0x19 cause
  else if s.regState n = rHalted then s.wr (0x4100 + n) 0x19 cause
  else s

/-- Every region halted by the halt level (Table 16-3). -/
def State.haltFabric (s : State) (source : Nat) : State :=
  regionNos.foldl (fun s n => s.haltRegion n source) s

/-- A thermal halt: every ACTIVE region enters HALTED with 203 recorded (R463). -/
def State.thermalHalt (s : State) : State :=
  regionNos.foldl (fun s n => if s.regState n = rActive then s.haltRegion n 203 else s) s

/-! ### Regions becoming ACTIVE -/

/-- Region n becomes ACTIVE at a wave, with no waves held; while the thermal halt holds it enters HALTED instead,
with 203 recorded (R142, R145, R463), and so it does, with nothing recorded, where R130 lets it not be activated (log
entry 135). With init, the release points of R150 are void from there. -/
def State.becomeActive (s : State) (n wave : Nat) (init : Bool) : State :=
  let s := s.wr (0x4100 + n) 0x1A wave
  let x := s.region n
  if s.thermal.haltOn then
    ((s.setRegState n rHalted).setRegion n { x with held := 0, huskPlane := some (s.activePlane n) }).wr
      (0x4100 + n) 0x19 203
  else if s.rd 0x2280 0x0A = 1 then
    ((s.setRegState n rHalted).setRegion n { x with held := 0, huskPlane := some (s.activePlane n) }).wr
      (0x4100 + n) 0x19 208
  else if s.portsFailed n then
    (s.setRegState n rHalted).setRegion n { x with held := 0, huskPlane := some (s.activePlane n) }
  else
    (s.setRegState n rActive).setRegion n
      { x with held := 0, initWave := if init then some (s.idxOf wave) else x.initWave }

/-! ### Resets, and planes that leave VALID -/

/-- Region n is reset by command or by a warm reset: its registers, its queue state, and its latched spans
(R86, R158). It rejoins at the wave given. A power-off that still drains is withdrawn, and the interface opens (log
entry 139). -/
def State.resetRegion (s : State) (n wave : Nat) : State :=
  let s := if (s.region n).closing then s.wr (0x6060 + n) 0x01 0 else s
  let s := if s.regState n = rActive then s.leaveActive n rResetting
    else (s.setRegState n rResetting).wr (0x4100 + n) 0x1A s.nextWave
  let s := (s.initRegs n).resetQueues n
  let s := s.setRegion n { s.region n with rejoin := some wave, resume := none, held := 0, closing := false }
  s.requestRearm (fun id => spanOwner id = n)

/-- R155, R157: a plane of a region leaves VALID; the golden designation that named it is cleared (R154). -/
def State.planeLeavesValid (s : State) (n p dst : Nat) : State :=
  let was := s.planeState n p
  let s := s.wr (0x4100 + n) (0x20 + p) dst
  if was = 2 ∧ dst ≠ 2 ∧ s.rd (0x4100 + n) 0x15 = p then s.clearGolden n else s

end Sys2Proof.Machine
end

