-- ==== Sys2Proof/Machine/Banks.lean ====
section
/-! DEFINITION. Banks.lean: bytes of the memory layer under the byte-tag code (R115 to R121), reads and writes of a
word, the queue modes (R101 to R103), and the open port (R109 to R114, R123). -/

namespace Sys2Proof.Machine

/-! ### The byte-tag code -/

/-- Address tag of a byte address (R115). -/
def byteTag (ba : Nat) : BitVec 8 :=
  BitVec.ofNat 8 ba ^^^ BitVec.ofNat 8 (ba / 256) ^^^ BitVec.ofNat 8 (ba / 65536 % 2)

/-- Columns of the data bits and of the tag bits, bit 0 first (Table 4-4). -/
def dataColumns : List (BitVec 6) := [0x0B, 0x0D, 0x0E, 0x13, 0x15, 0x16, 0x1A, 0x1C]
def tagColumns : List (BitVec 6) := [0x23, 0x25, 0x29, 0x2A, 0x2C, 0x31, 0x32, 0x34]

/-- XOR of the columns of the bits that are 1. -/
def columnSum (cols : List (BitVec 6)) (v : BitVec 8) : BitVec 6 :=
  (List.range 8).foldl (fun acc i => if v.getLsbD i then acc ^^^ cols.getD i 0 else acc) 0

/-- The check field of a data byte at a byte address (R116). -/
def checkField (d : Byte) (ba : Nat) : BitVec 6 := columnSum dataColumns d ^^^ columnSum tagColumns (byteTag ba)

/-- A stored byte: data in [7:0], check field in [13:8]. -/
def storedByte (d : Byte) (c : BitVec 6) : BitVec 14 := c ++ d

/-- What a byte holds after a normal write. -/
def cleanByte (d : Byte) (ba : Nat) : BitVec 14 := storedByte d (checkField d ba)
/-- The blank byte and the void byte of an address (R119). -/
def blankByte (ba : Nat) : BitVec 14 := storedByte 0 (checkField 0 ba ^^^ 0x38)
def voidByte (ba : Nat) : BitVec 14 := storedByte 0 (checkField 0 ba ^^^ 0x07)

/-- Byte statuses (Table 4-5, with the codes of Table 4-6). -/
abbrev bClean : Nat := 0
abbrev bCorrected : Nat := 1
abbrev bVoid : Nat := 2
abbrev bUnwritten : Nat := 3
abbrev bUncorrectable : Nat := 4
abbrev bAddressFault : Nat := 5

/-- A stored byte classified at a byte address (R117): its status, the data returned, and what the byte holds
after the write-back. Data that is not returned reads 0. -/
def classify (x : BitVec 14) (ba : Nat) : Nat × Byte × BitVec 14 :=
  let d : Byte := x.extractLsb' 0 8
  let c : BitVec 6 := x.extractLsb' 8 6
  let syn := c ^^^ checkField d ba
  if syn = 0 then (bClean, d, x)
  else match dataColumns.idxOf? syn with
    | some i =>
      let d' := d ^^^ (1#8 <<< i)
      (bCorrected, d', storedByte d' c)
    | none =>
      if syn = 0x01 ∨ syn = 0x02 ∨ syn = 0x04 ∨ syn = 0x08 ∨ syn = 0x10 ∨ syn = 0x20 then
        (bCorrected, d, cleanByte d ba)
      else if tagColumns.contains syn then (bAddressFault, 0, x)
      else if syn = 0x07 then (bVoid, 0, x)
      else if syn = 0x38 then (bUnwritten, 0, x)
      else (bUncorrectable, 0, x)

/-! ### The array -/

/-- The key of byte lane k of word w of a bank; its remainder by 131,072 is BA. -/
def byteKey (bank w k : Nat) : Nat := bank * 131072 + w * 8 + k

/-- What a byte that nothing has written holds: blank (R119, R120). -/
def bankDflt (key : Nat) : BitVec 14 := blankByte (key % 131072)

def State.bankByte (s : State) (key : Nat) : BitVec 14 := Sparse.get bankDflt s.bankMem key
def State.setBankByte (s : State) (key : Nat) (v : BitVec 14) : State :=
  { s with bankMem := Sparse.set bankDflt s.bankMem key v }

/-- Every byte of a bank blank (R120). -/
def State.blankBank (s : State) (bank : Nat) : State :=
  { s with bankMem := Sparse.drop s.bankMem (fun k => k / 131072 = bank) }

/-- Every byte of region n's banks blank. -/
def State.blankRegion (s : State) (n : Nat) : State :=
  { s with bankMem := Sparse.drop s.bankMem (fun k => k / 131072 / 64 = n) }

/-- Who reads: a scheduled port, an open port, the patrol reader. -/
inductive Reader where
  | scheduled | open_ | patrol
  deriving DecidableEq, Repr

/-- The last error of a region (0x5000+n:05, :06). -/
def State.lastError (s : State) (bank w status : Nat) : State :=
  let n := bank / 64
  (s.wr (0x5000 + n) 0x05 (status * 2 ^ 28 + bank % 64 * 2 ^ 14 + w)).wr (0x5000 + n) 0x06 s.xn

/-- The counts, records and causes of a byte's status (R117, R137). DETAIL holds the bank address as
0x5000+n:05 does (log entry 24). -/
def State.byteFound (s : State) (rd : Reader) (bank w status : Nat) : State :=
  let n := bank / 64
  let q := quadrantOf n
  let det := status * 2 ^ 28 + bank % 64 * 2 ^ 14 + w
  match status with
  | 1 => (s.bump 32 (0x5000 + n) 0x01).raiseOnce (144 + q) clsMemory 0x401 0
  | 4 => ((s.bump 32 (0x5000 + n) 0x02).lastError bank w status).raise (144 + q) clsMemory 0x402 1 det
  | 5 =>
    let s := (s.bump 32 (0x5000 + n) 0x03).lastError bank w status
    if rd = .open_ then s.raise (144 + q) clsMemory 0x404 1 det
    else (s.raise (144 + q) clsMemory 0x403 2 det).haltRegion n (144 + q)
  | _ => s

/-- A scheduled RAM-mode read that finds an unwritten byte among those it reads is counted and raises its cause, once
(R121, Table 4-12). -/
def State.unwrittenFound (s : State) (bank w en : Nat) : State :=
  let n := bank / 64
  if (List.range 8).any (fun k => en.testBit k && (classify (s.bankByte (byteKey bank w k)) (w * 8 + k)).1 = bUnwritten) then
    (s.bump 32 (0x5000 + n) 0x04).raise (144 + quadrantOf n) clsMemory 0x405 1
  else s

/-- One byte read, corrected and written back (R117, R118): its status, its data. -/
def State.readBankByte (s : State) (rd : Reader) (bank w k : Nat) : Nat × Byte × State :=
  let key := byteKey bank w k
  let (st, d, x) := classify (s.bankByte key) (w * 8 + k)
  (st, d, (s.setBankByte key x).byteFound rd bank w st)

/-- The enabled bytes of a word read: the highest status, the eight data bytes (0 where not enabled). -/
def State.readBankWord (s : State) (rd : Reader) (bank w en : Nat) : Nat × List Byte × State :=
  (List.range 8).foldl (fun acc k =>
    if en.testBit k then
      let (st, d, s') := acc.2.2.readBankByte rd bank w k
      (max acc.1 st, acc.2.1 ++ [d], s')
    else (acc.1, acc.2.1 ++ [0], acc.2.2)) (0, [], s)

/-- The enabled bytes of a word written, as void bytes for a void token (R107). -/
def State.writeBankWord (s : State) (bank w en : Nat) (data : List Byte) (void : Bool) : State :=
  (List.range 8).foldl (fun s k =>
    if en.testBit k then
      s.setBankByte (byteKey bank w k)
        (if void then voidByte (w * 8 + k) else cleanByte (data.getD k 0) (w * 8 + k))
    else s) s

/-! ### Descriptors (R99, Table 4-1) -/

/-- The descriptor of a bank in the active plane; a region without one has OPEN and OPW 1, MODE 0 (R101). -/
def State.descriptor (s : State) (bank : Nat) : BitVec 64 :=
  let n := bank / 64
  if s.activePlane n < 8 then (s.plane n (s.activePlane n)).net.descriptors.getD (bank % 64) 0x0600000000000000
  else 0x0600000000000000

def dMode (d : BitVec 64) : Nat := (d.extractLsb' 61 3).toNat
def dPA (d : BitVec 64) : Bool := d.getLsbD 60
def dPB (d : BitVec 64) : Bool := d.getLsbD 59
def dOPW (d : BitVec 64) : Bool := d.getLsbD 58
def dOpen (d : BitVec 64) : Bool := d.getLsbD 57
def dDir (d : BitVec 64) : Bool := d.getLsbD 56
def dPatrol (d : BitVec 64) : Bool := d.getLsbD 55
def dParam1 (d : BitVec 64) : Nat := (d.extractLsb' 16 14).toNat
def dParam2 (d : BitVec 64) : Nat := (d.extractLsb' 0 14).toNat

/-- A descriptor keeps the rules of Table 4-1 and R100. -/
def descriptorOk (d : BitVec 64) : Bool :=
  let m := dMode d
  let writerSched := if dDir d then dPB d else dPA d
  let readerSched := if dDir d then dPA d else dPB d
  m ≤ 4 && (!dOPW d || m ≤ 1) && (m ≠ 0 || dOpen d) && (d.extractLsb' 30 25 = 0) && (d.extractLsb' 14 2 = 0)
    && (2 ≤ m || dParam1 d = 0) && (m = 4 || dParam2 d = 0)
    && (m ≠ 4 || (dParam1 d + 1) * (dParam2 d + 1) ≤ 16384)
    && (m < 2 || writerSched) && (m < 2 || m = 3 || readerSched || dOpen d) && (m ≠ 3 || readerSched)

/-- The ring counter: crossings since the run boundary, of era and XN (R102). R103 names it among what a warm reset and
a switch reset too, where R102 still gives its value: DESIGN CHOICE (log entry 146), they reset the written-slot flags
and leave the count to R102. -/
def State.ringCount (s : State) : Nat :=
  s.crossing - (s.runEra * 2 ^ 48 + s.rd 0x4003 0x04)

/-! ### The open port -/

/-- The open port reads by popping: a FIFO whose reading side is not a scheduled port (R100, R101). -/
def openPops (d : BitVec 64) : Bool := dMode d = 2 && !(if dDir d then dPA d else dPB d)

/-- What stands against an open access as a whole (R114, R120, R123, R130): 0 where nothing does. The spec does not say
which code is given where several apply: DESIGN CHOICE (log entry 147), the view 0b11, not ready, failed, then OPEN and
OPW. Every bank that a destructive march has still to test is not ready, from the command on (DESIGN CHOICE, log entry
184). -/
def State.openBlock (s : State) (bank : Nat) (write : Bool) (view : Nat) : Nat :=
  let n := bank / 64
  let d := s.descriptor bank
  let q := quadrantOf n
  let marched : Bool := match Sparse.get (fun _ => none) s.march q with
    | some (w, l) => !w.getLsbD 29 && l.contains bank
    | none => false
  if view = 3 then 6
  else if s.rd (0x5000 + n) 0x0C ≠ 0 ∨ marched then 9
  else if s.rdBit (0x5000 + n) 0x0B (bank % 64) then 11
  else if !dOpen d ∨ (write && !dOPW d) then 6
  else 0

/-- An open read of m words: a status and the data of each (R101, R109, R112, R123). First and last byte enables
are given. -/
def State.openRead (s : State) (bank w m first last view : Nat) : List (Nat × List Byte) × State :=
  let zero : List Byte := List.replicate 8 0
  let b := s.openBlock bank false view
  if b ≠ 0 then (List.replicate m (b, zero), s)
  else
    let d := s.descriptor bank
    (List.range m).foldl (fun acc i =>
      let s := acc.2
      let en := (if i = 0 then first else 255) &&& (if i + 1 = m then last else 255)
      if openPops d then
        let x := s.queue bank
        if x.count = 0 then (acc.1 ++ [(8, zero)], s)
        else
          let (st, data, s) := s.readBankWord .open_ bank x.rd en
          (acc.1 ++ [(st, data)],
            s.setQueue bank { x with count := x.count - 1, rd := (x.rd + 1) % (dParam1 d + 1) })
      else
        let (st, data, s) := s.readBankWord .open_ bank ((w + i) % 16384) en
        (acc.1 ++ [(st, data)], s)) ([], s)

/-- One word of an open write or an alias write (R112, R113). -/
def State.openWriteWord (s : State) (bank w en view : Nat) (data : List Byte) : Nat × State :=
  if view = 0 then (0, s.writeBankWord bank w en data false)
  else
    (List.range 8).foldl (fun acc k =>
      if en.testBit k then
        let (st, d, s) := acc.2.readBankByte .open_ bank w k
        if 2 ≤ st then (max acc.1 st, s)
        else
          let v := if view = 1 then d ||| data.getD k 0 else d &&& ~~~(data.getD k 0)
          (max acc.1 st, s.setBankByte (byteKey bank w k) (cleanByte v (w * 8 + k)))
      else acc) (0, s)

/-- An open write or alias write of words: a status of each (R109, R112 to R114, R123). -/
def State.openWrite (s : State) (bank w first last view : Nat) (data : List Word64) : List Nat × State :=
  let b := s.openBlock bank true view
  if b ≠ 0 then (List.replicate data.length b, s)
  else
    (List.range data.length).foldl (fun acc i =>
      let en := (if i = 0 then first else 255) &&& (if i + 1 = data.length then last else 255)
      let (st, s) := acc.2.openWriteWord bank ((w + i) % 16384) en view (natBytes 8 (data.getD i 0).toNat)
      (acc.1 ++ [st], s)) ([], s)

/-- Words of a master that waited because another master took the slot are counted, up to the greatest count
(R110). -/
def State.countConflicts (s : State) (q master waits : Nat) : State :=
  if master < 7 then s.bumpSat 32 (0x51F0 + q) (master + 1) waits else s

/-! ### Scheduled accesses of the queue modes (R101) -/

/-- The tokens of a scheduled read: void, with data bits 0, when any byte it reads is not clean or corrected
(R121). -/
def readTok (st : Nat) (data : List Byte) : Tok :=
  if 2 ≤ st then { data := 0, void := true } else { data := bytesNat data, void := false }

/-- A scheduled pop of a FIFO: a void token and an underflow when it is empty. -/
def State.fifoPop (s : State) (bank : Nat) (d : BitVec 64) : Tok × State :=
  let x := s.queue bank
  let n := bank / 64
  if x.count = 0 then
    ({}, (s.bump 32 (0x5000 + n) 0x08).raise (144 + quadrantOf n) clsMemory 0x407 0)
  else
    let (st, data, s) := s.readBankWord .scheduled bank x.rd 255
    (readTok st data, s.setQueue bank { x with count := x.count - 1, rd := (x.rd + 1) % (dParam1 d + 1) })

/-- A scheduled push of a FIFO, of the enabled bytes (R107): discarded, an overflow, when it is full. -/
def State.fifoPush (s : State) (bank : Nat) (d : BitVec 64) (en : Nat) (data : List Byte) (void : Bool) : State :=
  let x := s.queue bank
  let n := bank / 64
  if dParam1 d + 1 ≤ x.count then
    (s.bump 32 (0x5000 + n) 0x07).raise (144 + quadrantOf n) clsMemory 0x407 0
  else
    (s.writeBankWord bank x.wr en data void).setQueue bank
      { x with count := x.count + 1, wr := (x.wr + 1) % (dParam1 d + 1) }

/-- The delay line's reader: the token stored Dl waves earlier, void for the first Dl waves. -/
def State.delayRead (s : State) (bank : Nat) : Tok × State :=
  let x := s.queue bank
  if x.fill < dParam1 (s.descriptor bank) + 1 then ({}, s)
  else
    let (st, data, s) := s.readBankWord .scheduled bank x.wr 255
    (readTok st data, s)

/-- The delay line's writer stores a token, of the enabled bytes (R107). -/
def State.delayWrite (s : State) (bank : Nat) (d : BitVec 64) (en : Nat) (data : List Byte) (void : Bool) : State :=
  let x := s.queue bank
  (s.writeBankWord bank x.wr en data void).setQueue bank
    { x with wr := (x.wr + 1) % (dParam1 d + 1), fill := min (x.fill + 1) (dParam1 d + 1) }

/-- The ring's slot of a crossing, by its count since the run boundary. -/
def ringSlot (d : BitVec 64) (c : Nat) : Nat := c % (dParam1 d + 1)

/-- A ring write with offset o. -/
def State.ringWrite (s : State) (bank : Nat) (d : BitVec 64) (o en : Nat) (data : List Byte) (void : Bool) : State :=
  let c := s.ringCount
  let x := s.queue bank
  let slot := ringSlot d c
  (s.writeBankWord bank ((slot * (dParam2 d + 1) + o) % 16384) en data void).setQueue bank
    { x with written := if x.written.contains slot then x.written else slot :: x.written }

/-- A ring read with offset o, dist crossings back: void, an expired read, when that crossing's slot has not been
written since the queue state was last reset (R101): its written-slot flag is not set (R103). -/
def State.ringRead (s : State) (bank : Nat) (d : BitVec 64) (o dist : Nat) : Tok × State :=
  let c := s.ringCount
  let x := s.queue bank
  let n := bank / 64
  let slot := ringSlot d (c + (dParam1 d + 1) - dist % (dParam1 d + 1))
  if !x.written.contains slot then ({}, s.bump 32 (0x5000 + n) 0x09)
  else
    let (st, data, s) := s.readBankWord .scheduled bank ((slot * (dParam2 d + 1) + o) % 16384) 255
    (readTok st data, s)

end Sys2Proof.Machine
end

