-- ==== Sys2Proof/Machine/Fabric.lean ====
section
/-! DEFINITION. Fabric.lean: span contention (R85) and the scheduled accesses of the memory banks (R104 to R107) in one
wave. The signals themselves are in Signals.lean. -/

namespace Sys2Proof.Machine

/-! ### Span contention (R85) -/

/-- Spans on which two or more taps drive in this wave. -/
def State.contended (s : State) : List Nat :=
  let ids := (regionNos.flatMap (fun n =>
    (driverTaps (s.driveNet n)).map (fun t => riserSpan n t.tile t.riser))).eraseDups
  ids.filter (fun id => !s.latched.contains id && 2 ≤ (s.spanDrivers none id).length)

/-- One contended span is latched off, counted and recorded, and its cause raised with the span in DETAIL. -/
def State.latchSpan (s : State) (id : Nat) : State :=
  let n := spanOwner id
  let s := { s with latched := s.latched ++ [id], latchXn := Sparse.set (fun _ => 0) s.latchXn id (s.crossing + 1) }
  let s := s.bump 32 (0x4100 + n) 0x04
  let s := (s.wr (0x4100 + n) 0x05 id).wr (0x4100 + n) 0x06 s.xn
  s.raise (64 + n) clsConfig 0x301 1 id

/-! ### What waves write -/

/-- Every key of which a and b give different values takes b's value. -/
def Sparse.carry {α : Type} [DecidableEq α] (d : Nat → α) (a b m : Sparse α) : Sparse α :=
  ((a ++ b).map (fun c => c.1)).foldl (fun m k =>
    if Sparse.get d a k = Sparse.get d b k then m else Sparse.set d m k (Sparse.get d b k)) m

/-- What changed from a to b changed in m. -/
def FabMem.carry (a b m : FabMem) : FabMem where
  regs := Sparse.carry (fun _ => none) a.regs b.regs m.regs
  huskLast := Sparse.carry (fun _ => false) a.huskLast b.huskLast m.huskLast
  bankMem := Sparse.carry bankDflt a.bankMem b.bankMem m.bankMem
  queues := Sparse.carry (fun _ => {}) a.queues b.queues m.queues

/-- The memories that waves write. -/
def State.fabMem (s : State) : FabMem where
  regs := s.regs
  huskLast := s.huskLast
  bankMem := s.bankMem
  queues := s.queues
def State.withFabMem (s : State) (m : FabMem) : State :=
  { s with regs := m.regs, huskLast := m.huskLast, bankMem := m.bankMem, queues := m.queues }

/-! ### Bank accesses -/

/-- A descriptor has its schedule use a port (PA, PB of Table 4-1). -/
def portUsed (d : BitVec 64) (port : Fin 2) : Bool := if port = 0 then dPA d else dPB d

/-- A port writes or pushes, by DIR (Table 4-1). -/
def portWrites (d : BitVec 64) (port : Fin 2) : Bool := (port = 0) != dDir d

/-- The scheduled accesses that the ACTIVE regions make in a wave of index w (R104, R105), through the ports that the
banks' descriptors use (R99), slot 0 first; a delay line is read before it is written. -/
def State.accessesOf (s : State) (w slot : Nat) (delay write : Bool) : List (Nat × SchedAcc) :=
  regionNos.flatMap (fun n =>
    if s.isActive n then
      ((s.activeNet n).accesses.filter (fun a =>
        let d := s.descriptor (bankKey n a.bank)
        a.slot = slot && w % (max a.every 1) = a.phase && portUsed d a.port &&
        (!delay || portWrites d a.port = write) &&
        ((dMode d = 3) = delay))).map (fun a => (n, a))
    else [])

/-- The word address, distance, enables and data that an access presents. -/
def State.accWord (s : State) (inj : List (Nat × Tok)) (n t : Nat) (l : List Src) : Tok := s.groupTok inj n t l none

/-- One scheduled access that is made, a write or a read by DIR (R99): the token that a read injects in the next wave
(R101, R105, R107). -/
def State.makeAccess (s : State) (pre : State) (inj : List (Nat × Tok)) (n : Nat) (a : SchedAcc) : Tok × State :=
  let bank := bankKey n a.bank
  let d := s.descriptor bank
  let addr := pre.accWord inj n a.tile a.addr
  let dat := pre.accWord inj n a.tile a.data
  let ens := pre.accWord inj n a.tile a.enables
  let en := if a.enables.isEmpty then 255 else ens.data
  let dist := pre.accWord inj n a.tile a.dist
  let bytes := natBytes 8 dat.data
  if portWrites d a.port then
    ({}, match dMode d with
      | 1 => s.writeBankWord bank (addr.data % 16384) en bytes dat.void
      | 2 => s.fifoPush bank d en bytes dat.void
      | 3 => s.delayWrite bank d en bytes dat.void
      | 4 => s.ringWrite bank d addr.data en bytes dat.void
      | _ => s)
  else
    match dMode d with
    | 1 =>
      let w := addr.data % 16384
      let (st, data, s) := (s.unwrittenFound bank w en).readBankWord .scheduled bank w en
      (readTok st data, s)
    | 2 => s.fifoPop bank d
    | 3 => s.delayRead bank
    | 4 => s.ringRead bank d addr.data dist.data
    | _ => ({}, s)

/-- One scheduled access (R101, R105 to R107, R121). An access whose valid signal is 0 is not made, but for those of a
delay line, whose writer stores one token every wave and whose reader takes one (R101); one that did not
complete in time injects void, is counted, raises the overrun cause and halts the region (R106, Table 4-9), and whether
it takes place all the same is a free value (log entry 134). -/
def State.schedAccess (s : State) (pre : State) (inj : List (Nat × Tok)) (overruns : List Nat) (n : Nat)
    (a : SchedAcc) : List (Nat × Tok) × State :=
  let bank := bankKey n a.bank
  let tok (t : Tok) : List (Nat × Tok) := if portWrites (s.descriptor bank) a.port then [] else [(bankPoint bank a.port, t)]
  let valid := pre.sig inj n a.tile a.valid
  if (!valid.d || valid.v) && dMode (s.descriptor bank) ≠ 3 then (tok {}, s)
  else if overruns.contains bank then
    let (f, s) := s.draw
    let s := if f % 2 = 1 then (s.makeAccess pre inj n a).2 else s
    (tok {}, ((s.bump 32 (0x5000 + n) 0x0A).raise (144 + quadrantOf n) clsMemory 0x406 2).haltRegion n
      (144 + quadrantOf n))
  else
    let (t, s) := s.makeAccess pre inj n a
    (tok t, s)

/-- The scheduled accesses of a wave, in slot order. -/
def State.runAccesses (s : State) (inj : List (Nat × Tok)) (overruns : List Nat) (w : Nat) : State :=
  let order := s.accessesOf w 0 true false ++ s.accessesOf w 1 true false
    ++ s.accessesOf w 0 true true ++ s.accessesOf w 1 true true
    ++ s.accessesOf w 0 false false ++ s.accessesOf w 1 false false
  order.foldl (fun st x =>
    let (ts, t) := st.schedAccess s inj overruns x.1 x.2
    { t with readTokens := t.readTokens ++ ts }) { s with readTokens := [] }

end Sys2Proof.Machine
end

