-- ==== Sys2Proof/Machine/LaneCore.lean ====
section
/-! DEFINITION. LaneCore.lean: receive lanes (R203 to R224): descrambling, control blocks, crossings, admission,
strangers, the deskew buffer and the lane token of a wave; transmit lanes (R225 to R229). -/

namespace Sys2Proof.Machine

/-! ### Lane entries -/

/-- An entry of lane l's status (Table 7-12), of its group (Table 7-10), and its configuration word. -/
def State.ln (s : State) (l sub : Nat) : Nat := s.rd (0x3100 + l) sub
def State.laneSt (s : State) (l : Nat) : Nat := s.ln l 0x01
def State.grp (s : State) (l sub : Nat) : Nat := s.rd (0x3000 + l / 8) sub
/-- A lane's state written; a change sets the LANE event of the group's lane kernel (Table 12-11). -/
def State.setLaneSt (s : State) (l v : Nat) : State :=
  if s.laneSt l = v then s else (s.wr (0x3100 + l) 0x01 v).kernelEdge (l / 8) 5
def State.laneCfg (s : State) (l : Nat) : Nat := s.grp l (l % 8)
def State.rxEn (s : State) (l : Nat) : Bool := (s.laneCfg l).testBit 63
def State.txEn (s : State) (l : Nat) : Bool := (s.laneCfg l).testBit 62
/-- Line rates in kb/s (Table 7-11). -/
def State.rxRate (s : State) (l : Nat) : Nat := s.laneCfg l % 2 ^ 25
def State.txRate (s : State) (l : Nat) : Nat := s.laneCfg l / 2 ^ 25 % 2 ^ 25

/-- Lane l may receive: it is enabled in the active bundle, and the device is not in warm-up (R210, R460). -/
def State.mayReceive (s : State) (l : Nat) : Bool := s.rxEn l && s.bundle.isSome && s.rd 0x2280 0x0A ≠ 1

/-- The bits of an equaliser byte that adaptation or a write sets, in long-reach or in standard mode (R201, Table 12-10).
-/
def eqMask (longReach : Bool) (f : Nat) : Nat :=
  if f = 0 then 31 else if f = 1 then 15 else if f = 2 then 63 else if f = 3 then 1 else if f = 31 then 0
  else if 16 ≤ f && f < 28 && !longReach then 0 else 255

/-- Lane kernel g runs Dellarin's standard program, which adapts its lanes (R202, R389). -/
def State.adapts (s : State) (g : Nat) : Bool := (s.kernel g).std && s.rd (0x6810 + g) 0x01 = 1

/-- Equaliser bytes without taps 13 to 24, which standard mode does not have (R201, Table 12-10). -/
def stdTaps (v : Nat) : Nat := v - v / 2 ^ 128 % 2 ^ 96 * 2 ^ 128

/-- The setting of a lane's equaliser (Table 12-10) without the mode bit. What adaptation has found is not in the spec:
a free value (log entry 162). -/
def State.eqSetting (s : State) (l : Nat) : Nat :=
  let v := s.ln l 0x15
  let found := Config.outsideValue (ent (0x3100 + l) 0x15) s.now
  if s.adapts (l / 8) then
    bytesNat ((List.range 32).map (fun f =>
      BitVec.ofNat 8 (if f = 3 then v / 256 ^ 3 % 256 else found / 256 ^ f % 256 &&& eqMask ((s.laneCfg l).testBit 61) f)))
  else if (s.laneCfg l).testBit 61 then v
  else stdTaps v

/-- The equaliser state of a lane as it reads (Table 12-10): bit 1 of FLAGS is the mode. -/
def State.eqState (s : State) (l : Nat) : Nat :=
  let v := s.eqSetting l
  if (s.laneCfg l).testBit 61 && !v.testBit 25 then v + 2 ^ 25 else v

/-- The equalisers of group g hold their setting: adaptation ends or pauses (R202, R391). -/
def State.holdEq (s : State) (g : Nat) : State :=
  if g < 64 && s.adapts g then
    ((List.range 8).map (fun p => (8 * g + p, s.eqSetting (8 * g + p)))).foldl
      (fun s x => s.wr (0x3100 + x.1) 0x15 x.2) s
  else s

/-- Lane states (Table 7-7). -/
abbrev lOff : Nat := 0
abbrev lTraining : Nat := 1
abbrev lLocking : Nat := 2
abbrev lAligning : Nat := 3
abbrev lAdmitted : Nat := 4
abbrev lStranger : Nat := 5
abbrev lLost : Nat := 6

/-- The fields of a lane configuration word (Table 7-11). -/
def cfgRx (w : Nat) : Nat := w % 2 ^ 25
def cfgTx (w : Nat) : Nat := w / 2 ^ 25 % 2 ^ 25
def lineRateOk (r : Nat) : Bool := 4800000 ≤ r && r ≤ 32000000
def laneFieldsOk (w : Nat) : Bool := w / 2 ^ 50 % 2 ^ 8 = 0 && lineRateOk (cfgRx w) && lineRateOk (cfgTx w)

/-- The enabled transmit lanes of a group use at most two line rates (R200). -/
def groupRatesOk (words : List Nat) : Bool :=
  ((words.filter (fun x => x.testBit 62)).map cfgTx).eraseDups.length ≤ 2

/-- The lane schedule of a lane (R44). -/
def bundleLane (b : Bundle) (l : Nat) : LaneSchedule := (b.lanes.find? (fun x => x.lane = l)).getD {}
def State.laneSchedule (s : State) (l : Nat) : LaneSchedule :=
  match s.bundle with
  | some b => bundleLane b l
  | none => {}

/-- The positions bonded with position p under a bond mask (R216): the largest aligned set of 8, 4 or 2 whose bits
are all set (log entry 26). -/
def bondOf (mask p : Nat) : List Nat :=
  if mask % 256 = 255 then List.range 8
  else if mask / 2 ^ (p / 4 * 4) % 16 = 15 then (List.range 4).map (fun i => p / 4 * 4 + i)
  else if mask / 2 ^ (p / 2 * 2) % 4 = 3 then (List.range 2).map (fun i => p / 2 * 2 + i)
  else [p]

/-- The members of lane l's bond, l among them. -/
def State.bondMembers (s : State) (l : Nat) : List Nat :=
  (bondOf (s.grp l 0x10) (l % 8)).map (fun p => l / 8 * 8 + p)

/-- Block positions of a lane slot (R252): SIZE × 4 − 1 of them, at most 1,024. -/
def State.slotPositions (s : State) (l : Nat) : Nat :=
  min (s.rd (0x5820 + l / 128) (l % 128 + 1) / 2 ^ 40 % 256 * 4 - 1) 1024

/-! ### Descrambling (R204) -/

/-- One line bit through the descrambler: the state after it, the data bit. -/
def descrambleBit (st : BitVec 58) (b : Bool) : BitVec 58 × Bool :=
  ((st <<< 1) ||| (BitVec.ofBool b).setWidth 58, b ^^ st.getLsbD 38 ^^ st.getLsbD 57)

/-- A payload descrambled, bit 0 first. -/
def descramble (st : BitVec 58) (raw : Word64) : BitVec 58 × Word64 :=
  (List.range 64).foldl (fun acc i =>
    let (st, d) := descrambleBit acc.1 (raw.getLsbD i)
    (st, if d then acc.2 ||| (1#64 <<< i) else acc.2)) (st, 0)

/-- A payload scrambled, bit 0 first (R204). -/
def scramble (st : BitVec 58) (d : Word64) : BitVec 58 × Word64 :=
  (List.range 64).foldl (fun acc i =>
    let b := d.getLsbD i ^^ acc.1.getLsbD 38 ^^ acc.1.getLsbD 57
    ((acc.1 <<< 1) ||| (BitVec.ofBool b).setWidth 58, if b then acc.2 ||| (1#64 <<< i) else acc.2)) (st, 0)

/-- TYPE and BODY of a control block (R205), and its CHK (R206). -/
def ctlType (p : Word64) : Nat := p.toNat % 256
def ctlBody (p : Word64) : BitVec 56 := p.extractLsb' 8 56
def bodyChk (b : BitVec 56) : BitVec 8 := crc8 ((List.range 48).map (fun i => b.getLsbD (55 - i)))
def chkOk (b : BitVec 56) : Bool := b.extractLsb' 0 8 = bodyChk b
/-- A block through the receive side of the block code (R203, R204). The header stands in transmission order, its first
bit in bit 1. A block is taken as an alignment marker in clear only at a whole multiple of 16,384 blocks after the
last one taken. -/
def decodeBlock (x : CodeRec) (header : BitVec 2) (raw : Word64) : CodeRec × RxBlock :=
  let x := { x with
    sinceAm := x.sinceAm.map (· + 1)
    hdrs := ((header = 0b01 || header = 0b10) :: x.hdrs).take 64 }
  if header = 0b10 ∧ ctlType raw = 0x4B ∧ chkOk (ctlBody raw) ∧ x.sinceAm.all (fun k => k % 16384 = 0) then
    ({ x with sinceAm := some 0 }, .marker (ctlBody raw))
  else
    let (st, d) := descramble x.descr raw
    ({ x with descr := st },
      if header = 0b01 then .data d else if header = 0b10 then .control d else .headerError)

/-- 64 consecutive valid headers at one bit position (R210). -/
def headersLock (x : CodeRec) : Bool := x.hdrs.length = 64 && x.hdrs.all id

/-- 16 invalid headers among 64 consecutive blocks (R210). -/
def headersLost (x : CodeRec) : Bool := 16 ≤ x.hdrs.countP (fun h => !h)

/-- A body field [hi:lo]. -/
def bodyField (b : BitVec 56) (hi lo : Nat) : Nat := b.toNat / 2 ^ lo % 2 ^ (hi - lo + 1)
/-- A control block of a type with a body whose bits [55:8] are given; CHK is filled in (R206). -/
def markerBlock (type : Nat) (upper : Nat) : Word64 :=
  let b := BitVec.ofNat 56 (upper * 256)
  BitVec.ofNat 64 ((b.toNat + (bodyChk b).toNat) * 256 + type)

/-! ### Blocks of a crossing (R213, R214, R252) -/

/-- The status of the slot open for a crossing changed to data with drops. -/
def markDrop (x : LaneRec) (c : Nat) : LaneRec :=
  { x with slots := x.slots.map (fun o => if o.c = c ∧ o.st = 0 then { o with st := 3 } else o) }

/-- The input deadline of the last wave that lane l's schedule gives crossing c has passed (R255). -/
def State.slotPast (s : State) (l c : Nat) : Bool :=
  let x := s.laneSchedule l
  let w := c + x.offset
  w < s.crossing || (w = s.crossing && !s.waveDue && x.steps.foldl max 0 ≤ s.stepNo)

/-- A block offered to the slot of its crossing (R252): the slot's blocks, and whether it was left out because no
position was free. -/
def offerSlot (positions : Nat) (x : LaneRec) (c : Nat) (payload : Word64) (uc : Bool) : LaneRec × Bool :=
  match x.slots.find? (fun o => o.c = c) with
  | none => (x, false)
  | some o =>
    if positions ≤ o.blocks.length then (markDrop x c, true)
    else if o.closed then (x, false)
    else if uc && 24 ≤ o.blocks.length then (markDrop x c, false)
    else
      let o' := { o with blocks := o.blocks ++ [(payload, uc)] }
      ({ x with slots := x.slots.map (fun y => if y.c = c ∧ !y.closed then o' else y) }, false)

/-- The slot of a crossing has closed with positions left (R45, R255). -/
def slotGone (positions : Nat) (x : LaneRec) (c : Nat) : Bool :=
  x.slots.any (fun o => o.c = c && o.closed && o.blocks.length < positions)

/-- The current crossing of a lane ends: fewer blocks than NB is a count mismatch (R214). -/
def State.endCrossing (s : State) (l : Nat) : State :=
  let x := s.lane l
  match x.cur with
  | none => s
  | some (_, received, nb) =>
    let s := s.setLane l { x with cur := none }
    if nb ≠ 1023 ∧ received < nb then (s.bumpSat 32 (0x3100 + l) 0x0E 1).raise (l / 8) clsLane 0x704 0 l
    else s

/-- The slot of a crossing has all its block positions filled (R252). -/
def slotFull (positions : Nat) (x : LaneRec) (c : Nat) : Bool :=
  x.slots.any (fun o => o.c = c && positions ≤ o.blocks.length)

/-- A payload block beyond NB or beyond the lane schedule is dropped (R214): a count mismatch, counted once for the
crossing, an overrun, or both. A block beyond the slot's last position counts as one beyond the schedule does (R252). -/
def State.dropBlock (s : State) (l c received nb : Nat) (beyond overrun : Bool) : State :=
  let miscount := beyond && received = nb
  let overrun := overrun || slotFull (s.slotPositions l) (s.lane l) c
  let s := s.setLane l (markDrop (s.lane l) c)
  let s := if overrun then s.bumpSat 32 (0x3100 + l) 0x0D 1 else s
  let s := if miscount then s.bumpSat 32 (0x3100 + l) 0x0E 1 else s
  if overrun || miscount then s.raise (l / 8) clsLane 0x704 0 l else s

/-- The blocks of crossing c have an input deadline on lane l: they enter a wave from the start wave up to the stop
wave (R45). -/
def State.deadlineRuns (s : State) (l c : Nat) : Bool :=
  let w := mkWave (c + (s.laneSchedule l).offset) 0
  ((s.engineSt = 2 || s.engineSt = 3) && (!s.stopPending || waveLater w (s.rd 0x4003 0x03)))
    || (s.startPending && !waveLater w (s.rd 0x4003 0x02))

/-- The least margin since the run boundary (R224). -/
def State.noteMargin (s : State) (l : Nat) (m : Int) : State :=
  let least := !(s.lane l).marginSet || decide (m < toI32 (s.ln l 0x0F))
  let s := s.setLane l { s.lane l with marginSet := true }
  if least then s.wrI32 (0x3100 + l) 0x0F m else s

/-- A payload block: placed as the next block of the current crossing, or dropped (R214). A block whose margin is
negative has missed its deadline and does not enter the fabric; after its slot has closed it does not enter the store
either, and its crossing brings a block fewer (R45). No block of a stranger enters the fabric (R220). -/
def State.placeBlock (s : State) (l : Nat) (payload : Word64) (uc : Bool) (marginPs : Option Int) : State :=
  let x := s.lane l
  match x.cur with
  | none => s
  | some (c, received, nb) =>
    let positions := s.slotPositions l
    let past := s.slotPast l c
    let x := if past then { x with slots := x.slots.map (fun o => if o.c = c then { o with closed := true } else o) } else x
    let beyond : Bool := nb ≠ 1023 && decide (nb ≤ received)
    let overrun : Bool := (s.laneSchedule l).steps.length ≤ received
    let late := marginPs.any (fun m => decide (m < 0))
    let admitted : Bool := s.laneSt l ≠ lStranger
    if !(beyond || overrun) && (late || past) && slotGone positions x c then s
    else
      let s := s.setLane l { x with cur := some (c, received + 1, nb) }
      if beyond || overrun then s.dropBlock l c received nb beyond overrun
      else
        let (y, full) := offerSlot positions (s.lane l) c payload uc
        let y := if late || !admitted then y
          else { y with deskew := y.deskew ++ [{ c := c, j := received, payload := payload, uc := uc }] }
        let s := s.setLane l y
        let s := if admitted && s.deadlineRuns l c then (marginPs.map (s.noteMargin l)).getD s else s
        if full then (s.bumpSat 32 (0x3100 + l) 0x0D 1).raise (l / 8) clsLane 0x704 0 l else s

/-! ### Leaving ADMITTED, strangers, admission -/

/-- Lane l leaves its state; the other members of its bond that are ADMITTED go back to ALIGNING, and keep the
blocks for which keep holds: those of waves before the one from which every member is void (R218). -/
def State.laneLeaveKeeping (s : State) (l dst : Nat) (keep : DeskewBlock → Bool) : State :=
  let was := s.laneSt l
  let s := (s.endCrossing l).setLaneSt l dst
  let s := s.setLane l { s.lane l with
    refC := none
    lostC := []
    lostRun := false }
  if was = lAdmitted then
    (s.bondMembers l).foldl (fun s m =>
      if m ≠ l ∧ s.laneSt m = lAdmitted then
        let s := (s.endCrossing m).setLaneSt m lAligning
        s.setLane m { s.lane m with
          refC := none
          lostC := []
          lostRun := false
          deskew := (s.lane m).deskew.filter keep }
      else s) s
  else s

/-- A block's wave is not later than that of the last block that lane l still injects (R211, R218). -/
def State.notAfter (s : State) (l : Nat) (b : DeskewBlock) : Bool :=
  let step (x : DeskewBlock) : Nat := (s.laneSchedule l).steps.getD x.j 64
  (s.lane l).deskew.any (fun a => b.c < a.c || (b.c = a.c && step b ≤ step a))

/-- Lane l leaves its state, and its bond with it. -/
def State.laneLeave (s : State) (l dst : Nat) : State := s.laneLeaveKeeping l dst (s.notAfter l)

/-- Entry into LOCKING: the marker spacing and the matches start afresh (R204, R217). -/
def State.enterLocking (s : State) (l : Nat) : State :=
  let s := s.laneLeave l lLocking
  s.setLane l { s.lane l with
    sinceAm := none
    hdrs := []
    amcs := []
    pendSi := false
    matched := false
    mismatch := false
    matches_ := 0 }

/-- An ADMITTED lane has lost lock or signal (R244). -/
def State.laneLost (s : State) (l dst : Nat) : State :=
  let was := s.laneSt l
  let s := if dst = lLocking then s.enterLocking l else s.laneLeave l dst
  if was = lAdmitted then s.raise (l / 8) clsLane 0x701 1 l else s

/-- A loss of lock (R210). -/
def State.laneLockLost (s : State) (l : Nat) : State := (s.bumpSat 32 (0x3100 + l) 0x04 1).laneLost l lLocking

/-- Block lock: the count of headers starts afresh, at the position found (R210). -/
def State.laneLocked (s : State) (l : Nat) : State :=
  (s.setLaneSt l lAligning).setLane l { s.lane l with hdrs := [] }

/-- A marker or a source-identifier block that does not match (R220, R222). -/
def State.laneMismatch (s : State) (l : Nat) : State :=
  let x := s.lane l
  let st := s.laneSt l
  s.setLane l { x with
    matched := false
    pendSi := false
    matches_ := 0
    mismatch := x.mismatch || (st = lAligning || st = lAdmitted) }

/-- A stranger whose matches have reached N, and which may be readmitted, returns to ALIGNING (R222). -/
def State.tryReadmit (s : State) (l : Nat) : State :=
  let x := s.lane l
  if s.laneSt l = lStranger ∧ s.grp l 0x12 ≤ x.matches_ ∧ (s.rdBit (0x3000 + l / 8) 0x11 1 ∨ x.permit) then
    let s := s.laneLeave l lAligning
    s.setLane l { s.lane l with
      permit := false
      mismatch := false
      matches_ := 0 }
  else s

/-- A skew of so many ps lies above 64 block times of lane l (R217); a block lasts 66 / rate. -/
def State.skewTooLarge (s : State) (l skewPs : Nat) : Bool := 64 * 66 * 1000000000 < skewPs * s.rxRate l

/-- The last AMC that every member of lane l's bond has taken (R216). -/
def State.bondAmc (s : State) (l : Nat) : Option Nat :=
  ((s.lane l).amcs.map (fun a => a.1)).find? (fun a => (s.bondMembers l).all (fun m => ((s.lane m).amcs.lookup a).isSome))

/-- The members' markers with this AMC lie more than 64 block times apart (R217). -/
def State.bondSkewed (s : State) (l amc : Nat) : Bool :=
  (s.bondMembers l).any (fun m => s.skewTooLarge m (((s.lane m).amcs.lookup amc).getD 0))

/-- What lane l last saw, LANE and SID of its alignment marker and FREV, meets what is expected now (R217, R219). -/
def State.seenMatches (s : State) (l : Nat) : Bool :=
  let frev := s.ln l 0x09
  s.ln l 0x08 = l && s.ln l 0x07 = s.grp l (0x08 + l % 8) && s.grp l 0x16 ≤ frev && frev ≤ s.grp l 0x17

/-- The conditions of R217 for the bond of lane l, against the values expected now. -/
def State.admissible (s : State) (l : Nat) : Bool :=
  (s.bondMembers l).all (fun m =>
      s.laneSt m = lAligning && (s.lane m).matched && !(s.lane m).mismatch && s.seenMatches m)
    && ((s.bondMembers l).length = 1 || (s.bondAmc l).any (fun a => !s.bondSkewed l a))

/-- The continuous count of the crossing d before the current one: 16 bits of era, 48 of XN. -/
def State.crossingBefore (s : State) (d : Nat) : Nat := (s.crossing + 2 ^ 64 - d) % 2 ^ 64

/-- The crossing that a marker's XC names, by its continuous count, and its lag (R213). -/
def State.namedCrossing (s : State) (xc : Nat) : Nat × Nat :=
  let d := (s.xn + 2 ^ 16 - xc % 2 ^ 16) % 2 ^ 16
  (s.crossingBefore d, d)

/-- The lane enters STRANGER at this marker (R220). -/
def State.enterStranger (s : State) (l xc : Nat) : State :=
  let c := (s.namedCrossing xc).1
  let named := c % 2 ^ 48
  let s := s.laneLeaveKeeping l lStranger (fun b => b.c < c)
  let s := s.setLane l { s.lane l with
    mismatch := false
    matched := false
    matches_ := 0
    permit := false }
  let s := (s.bumpSat 32 (0x3100 + l) 0x0A 1).wr (0x3100 + l) 0x0B named
  s.raise (l / 8) clsLane 0x702 1 l

/-- k crossings of the lane are lost, and counted: the cause is raised once for each run (R213, R244). -/
def State.crossingsLost (s : State) (l k : Nat) : State :=
  let s := s.bumpSat 64 (0x3100 + l) 0x0C k
  if (s.lane l).lostRun then s
  else (s.setLane l { s.lane l with lostRun := true }).raise (l / 8) clsLane 0x703 0 l

/-- Crossing c lies after the last accepted one of the lane, by the continuous count; before any it does so whatever it
is. -/
def afterRef (x : LaneRec) (c : Nat) : Bool :=
  match x.refC with
  | some r => serialLater 64 r c
  | none => true

/-- The crossing that a rejected marker names is lost: it counts once, whether or not an accepted marker skips it later,
and not at all where it is not later than the last accepted one (R213, Table 7-12). -/
def State.rejectedMarker (s : State) (l c : Nat) : State :=
  let x := s.lane l
  if !afterRef x c || x.lostC.contains c then s else (s.setLane l { x with lostC := c :: x.lostC }).crossingsLost l 1

/-- Crossings that an accepted marker of crossing c skips and that no rejected marker has counted. -/
def skippedBy (x : LaneRec) (c : Nat) : Nat :=
  match x.refC with
  | some r =>
    if serialLater 64 r c then
      serialDiff 64 r c - 1 - (x.lostC.filter (fun y => serialLater 64 r y && serialLater 64 y c)).length
    else 0
  | none => 0

/-- Lane l has a slot in the look-back store: its entry is enabled (R248, R252). -/
def State.hasSlot (s : State) (l : Nat) : Bool := (s.rd (0x5820 + l / 128) (l % 128 + 1)).testBit 63

/-- An accepted marker opens crossing c on the lane, and its slot where it has one; the slots before it close (R214,
R255). -/
def State.openCrossing (s : State) (l c nb st : Nat) : State :=
  let x := s.lane l
  let s := s.setLane l { x with
    cur := some (c, 0, nb)
    refC := some c
    lostC := x.lostC.filter (fun y => serialLater 64 c y)
    lostRun := false
    slots := x.slots.map (fun o => { o with closed := true }) ++ (if s.hasSlot l then [{ c := c, st := st }] else []) }
  if st = 0 then s.wr (0x3100 + l) 0x12 (c % 2 ^ 48) else s

/-- A crossing marker with valid CHK (R213, R217, R220). A rejected one counts as a lost crossing on an ADMITTED lane
only (DESIGN CHOICE, log entry 206). -/
def State.crossingMarker (s : State) (l xc nb : Nat) : State :=
  let s := s.endCrossing l
  let st := s.laneSt l
  let s := if (s.lane l).mismatch && (st = lAligning || st = lAdmitted) then s.enterStranger l xc else s
  let (c, d) := s.namedCrossing xc
  let x := s.lane l
  let later := match x.refC with
    | some r => serialLater 16 r xc
    | none => true
  let accepted := decide (d ≤ (s.laneSchedule l).offset) && later
  match s.laneSt l with
  | 3 =>
    if accepted && s.admissible l then
      let s := (s.bondMembers l).foldl (fun s m => s.setLaneSt m lAdmitted) s
      s.openCrossing l c nb 0
    else s
  | 4 =>
    if accepted then
      let gap := skippedBy x c
      let s := if gap = 0 then s else s.crossingsLost l gap
      s.openCrossing l c nb 0
    else s.rejectedMarker l c
  | 5 =>
    if accepted && s.rdBit (0x3000 + l / 8) 0x11 0 then s.openCrossing l c nb 2 else s
  | _ => s

/-- An alignment marker taken in clear (R204, R216, R217, R219). It matches only with the source-identifier block that
follows it at once. skewPs is its arrival after the bond's earliest marker with the same AMC. -/
def State.alignmentMarker (s : State) (l : Nat) (b : BitVec 56) (skewPs : Nat) : State :=
  let lane := bodyField b 55 47
  let sid := bodyField b 46 23
  let amc := bodyField b 22 8
  let s := ((s.wr (0x3100 + l) 0x07 sid).wr (0x3100 + l) 0x08 lane).wr (0x3100 + l) 0x11 skewPs
  let s := s.setLane l { s.lane l with amcs := ((amc, skewPs) :: (s.lane l).amcs).take 2 }
  let s := if s.laneSt l = lAligning ∧ (s.bondMembers l).length ≠ 1 ∧ s.bondAmc l = some amc ∧ s.bondSkewed l amc then
      s.raise (l / 8) clsLane 0x705 1 l
    else s
  if lane = l ∧ sid = s.grp l (0x08 + l % 8) then
    s.setLane l { s.lane l with
      pendSi := true
      matched := false }
  else s.laneMismatch l

/-- A source-identifier block (R219, R222); after is true when it follows its alignment marker at once. -/
def State.sourceIdentifier (s : State) (l : Nat) (b : BitVec 56) (after : Bool) : State :=
  let sid := bodyField b 55 32
  let frev := bodyField b 31 16
  let s := s.wr (0x3100 + l) 0x09 frev
  if sid = s.grp l (0x08 + l % 8) ∧ s.grp l 0x16 ≤ frev ∧ frev ≤ s.grp l 0x17 then
    if after then
      let x := s.lane l
      (s.setLane l { x with matched := true, matches_ := x.matches_ + 1 }).tryReadmit l
    else s
  else s.laneMismatch l

/-- A type or marker error: the block is dropped and counted (R205, R206). -/
def State.markerError (s : State) (l : Nat) : State := s.bumpSat 32 (0x3100 + l) 0x03 1

/-- A control block that was descrambled, by its TYPE (R205 to R207, R212). -/
def State.controlBlock (s : State) (l : Nat) (p : Word64) (after : Bool) (marginPs : Option Int) : State :=
  let b := ctlBody p
  match ctlType p with
  | 0x1E => s
  | 0x33 =>
    if chkOk b then s.crossingMarker l (bodyField b 55 40) (bodyField b 39 30)
    else (s.markerError l).endCrossing l
  | 0x55 => if chkOk b then s.sourceIdentifier l b after else s.markerError l
  | 0x66 => s.placeBlock l p true marginPs
  | 0x78 => if chkOk b then s.placeBlock l p true marginPs else s.markerError l
  | _ => s.markerError l

/-- The lane holds block lock, so that it sees blocks: ALIGNING, ADMITTED or STRANGER. -/
def State.seesBlocks (s : State) (l : Nat) : Bool :=
  s.laneSt l = lAligning || s.laneSt l = lAdmitted || s.laneSt l = lStranger

/-- A block on the line of lane l as it was sent: RXINV inverts every bit (Table 7-11). -/
def State.rxPolarity (s : State) (l : Nat) (header : BitVec 2) (raw : Word64) : BitVec 2 × Word64 :=
  if (s.laneCfg l).testBit 60 then (~~~header, ~~~raw) else (header, raw)

/-- The header of a control block on the line of receiver r: RXINV of a lane inverts it there. -/
def State.controlHeader (s : State) (r : Nat) : BitVec 2 := if r < 512 then (s.rxPolarity r 0b10 0).1 else 0b10

/-- A header error: the block is dropped and counted, and ends the current crossing (R203, R214). -/
def State.headerError (s : State) (l : Nat) : State :=
  let s := s.bumpSat 64 (0x3100 + l) 0x02 1
  (s.setLane l { s.lane l with hdrErr := ((s.lane l).hdrErr + 1) % 2 ^ 64 }).endCrossing l

/-- A block that the receive side has decoded (R203 to R214); after: it follows an alignment marker at once. -/
def State.takeBlock (s : State) (l : Nat) (b : RxBlock) (after : Bool) (skewPs : Nat) (marginPs : Option Int) : State :=
  match b with
  | .marker body => s.alignmentMarker l body skewPs
  | .data d => s.placeBlock l d false marginPs
  | .control d => s.controlBlock l d after marginPs
  | .headerError => s.headerError l

/-- The lane kernel's error estimate, and the cause of R223: raised once above the threshold, and armed again below
a tenth of it. -/
def State.setEstimate (s : State) (l num den : Nat) : State :=
  let est := f32OfRatio num den
  let thr := s.grp l 0x20
  let (m, e) := f32Parts thr
  let s := s.wr (0x3100 + l) 0x06 est
  let x := s.lane l
  if thr < est ∧ x.estArmed then
    (s.setLane l { x with estArmed := false }).raise (l / 8) clsLane 0x706 1 l
  else
    -- num / den < m × 2^e / 10
    let below := if e ≥ 0 then 10 * num < m * 2 ^ e.toNat * den else 10 * num * 2 ^ (-e).toNat < m * den
    if below then s.setLane l { x with estArmed := true } else s

/-- The error estimate of the standard lane program (R223, R389): header errors over twice the blocks, over the last
2^32 blocks or since the lane was trained. -/
def State.noteBlock (s : State) (l : Nat) (bad : Bool) : State :=
  if !s.adapts (l / 8) then s
  else
    let x := s.lane l
    let n := x.estBlocks + 1
    let errs := ((if bad then [n] else []) ++ x.errAt).filter (fun i => n < i + 2 ^ 32)
    (s.setLane l { x with estBlocks := n, errAt := errs }).setEstimate l errs.length (2 * min n (2 ^ 32))

/-- A block as it arrives at the receiver of lane l: header (transmission order, first bit in bit 1), scrambled payload,
skew of an alignment marker and margin of a payload block as the device measures them (R203 to R214). Headers alone are
looked at in LOCKING. -/
def State.lineBlock (s : State) (l : Nat) (header : BitVec 2) (raw : Word64) (skewPs : Nat)
    (marginPs : Option Int) : State :=
  let (header, raw) := s.rxPolarity l header raw
  let x := s.lane l
  let (code, b) := decodeBlock x.toCodeRec header raw
  if s.laneSt l = lLocking then
    let code := { code with sinceAm := none, hdrs := if b = .headerError then [] else code.hdrs }
    let s := s.setLane l { x with toCodeRec := code }
    if headersLock code then s.laneLocked l else s
  else if !s.seesBlocks l then s
  else
    let s := s.setLane l { x with toCodeRec := code, pendSi := false, blocks := (x.blocks + 1) % 2 ^ 64 }
    let s := s.noteBlock l (b = .headerError)
    let s := s.takeBlock l b x.pendSi skewPs marginPs
    if b = .headerError ∧ headersLost code then s.laneLockLost l else s

/-- The near-end loopback of lane l is on (Table 7-11): its receiver sees its own transmitter alone. -/
def State.looped (s : State) (l : Nat) : Bool := (s.laneCfg l).testBit 58

/-- A block that arrives from outside. -/
def State.receiveBlock (s : State) (l : Nat) (header : BitVec 2) (raw : Word64) (skewPs : Nat)
    (marginPs : Option Int) : State :=
  if s.looped l then s else s.lineBlock l header raw skewPs marginPs

/-! ### The lane token of a wave (R33, R44, R45, R211) -/

/-- The continuous crossing whose blocks lane l injects in the current crossing. -/
def State.dueCrossing (s : State) (l : Nat) : Nat := s.crossingBefore (s.laneSchedule l).offset

/-- The blocks of the schedule that are due at a step, by number. -/
def State.dueBlocks (s : State) (l step : Nat) : List Nat :=
  let st := (s.laneSchedule l).steps
  (List.range st.length).filter (fun j => st.getD j 64 = step)

/-- The width w of the tokens of a lane's group, in blocks (R33). -/
def State.laneWidth (s : State) (l : Nat) : Nat := max (s.grp l 0x15) 1

/-- A lane token over its block positions: 67 bits for each, then the flags (Table 2-1). -/
def laneTokenOf (c : Nat) (found : List (Option DeskewBlock)) : Tok :=
  let data := found.zipIdx.foldl (fun acc x =>
    acc + (match x.1 with
      | some b => b.payload.toNat + (if b.uc then 2 ^ 64 else 0) + (if b.j = 0 then 2 ^ 65 else 0)
      | none => 2 ^ 66) * 2 ^ (67 * x.2)) 0
  let void := found.all (fun b => b.isNone)
  { data := data + (if void then 1 else 2 * (c % 256)) * 2 ^ (67 * found.length), void := void }

/-- The lane token of a wave that carries no blocks: every position empty (R33). -/
def State.emptyToken (s : State) (l : Nat) : Tok := laneTokenOf 0 (List.replicate (s.laneWidth l) none)

/-- The lane's token in the current wave: the blocks of its schedule due at this step. -/
def State.laneToken (s : State) (l : Nat) : Tok :=
  let c := s.dueCrossing l
  let due := s.dueBlocks l s.stepNo
  laneTokenOf c ((List.range (s.laneWidth l)).map (fun i =>
    match due[i]? with
    | some j => (s.lane l).deskew.find? (fun b => b.c = c && b.j = j)
    | none => none))

/-- Blocks whose wave has passed leave the deskew buffer. -/
def State.dropInjected (s : State) (l : Nat) : State :=
  let c := s.dueCrossing l
  let x := s.lane l
  let st := (s.laneSchedule l).steps
  if x.deskew.isEmpty then s
  else s.setLane l { x with deskew := x.deskew.filter (fun b => c < b.c || (b.c = c && s.stepNo < st.getD b.j 0)) }

/-! ### Transmit lanes (R225 to R229) -/

/-- The lane sends blocks: enabled, out of electrical idle. -/
def State.txSends (s : State) (l : Nat) : Bool := s.ln l 0x13 ≠ 0 && !(s.txLane l).relock

/-- A transmit lane's state (0x3100+l:13): idle until enabled, after the first activation, with its loops locked;
2 on a probe lane (R91, R225). -/
def State.txRefresh (s : State) (l : Nat) : State :=
  let probe := s.rdBit 0x4400 0x04 1 && (s.rd 0x4400 0x05 = l || s.rd 0x4400 0x06 = l)
  if !s.txEn l ∨ s.bundle.isNone ∨ (s.txLane l).relock ∨ s.rd 0x2280 0x0A = 1 then
    (s.wr (0x3100 + l) 0x13 0).setTx l { s.txLane l with sent := none }
  else s.wr (0x3100 + l) 0x13 (if probe then 2 else 1)

/-- A block leaves on the line of lane l: payload before scrambling, payload on the line. TXINV inverts every bit, and
LOOP takes the block to the lane's own receiver (Table 7-11). -/
def State.txLine (s : State) (l : Nat) (header : BitVec 2) (payload raw : Word64) : State :=
  let (h, r) := if (s.laneCfg l).testBit 59 then (~~~header, ~~~raw) else (header, raw)
  let x := s.txLane l
  let s := (s.setTx l { x with sent := x.sent.map (· + 1) }).emit (.block l h payload r)
  if s.looped l then s.lineBlock l h r 0 none else s

/-- A scrambled block sent (R204). -/
def State.txScrambled (s : State) (l : Nat) (header : BitVec 2) (payload : Word64) : State :=
  let x := s.txLane l
  let (st, raw) := scramble x.scr payload
  (s.setTx l { x with scr := st }).txLine l header payload raw

/-- An alignment marker in clear, then its source-identifier block; a new emphasis table takes effect here
(R208, R225, R229). -/
def State.txAlignment (s : State) (l : Nat) : State :=
  let x := s.txLane l
  let amc := (x.amc + 1) % 2 ^ 15
  let sid := s.grp l (0x18 + l % 8) % 2 ^ 24
  let am := markerBlock 0x4B (l * 2 ^ 39 + sid * 2 ^ 15 + amc)
  let (frev, kind) := match s.bundle with
    | some b => (b.txFrev, b.txKind)
    | none => (0, 0)
  let s := (s.setTx l { x with amc := amc, band := x.nextBand, sent := some 0 }).txLine l 0b10 am am
  s.txScrambled l 0b10 (markerBlock 0x55 (sid * 2 ^ 24 + frev % 2 ^ 16 * 2 ^ 8 + kind % 256))

/-- A block sent; an alignment marker goes before it where 16,384 blocks have been sent since the last (R208). -/
def State.txBlock (s : State) (l : Nat) (header : BitVec 2) (payload : Word64) : State :=
  if !s.txSends l then s
  else
    let s := if (s.txLane l).sent.any (fun k => 16384 ≤ k) then s.txAlignment l else s
    s.txScrambled l header payload

/-- Plain idle fill of n blocks (R225, R226). -/
def State.txFill (s : State) (l n : Nat) : State :=
  (List.range n).foldl (fun s _ => s.txBlock l 0b10 0x1E) s

/-- The next alignment marker falls due: the lane has filled the line with idle up to its place (R208, R225). -/
def State.txMarker (s : State) (l : Nat) : State :=
  if !s.txSends l then s
  else (s.txFill l (((s.txLane l).sent.map (fun k => 16384 - k)).getD 0)).txAlignment l

/-- The lane is a release lane of the active bundle (R226). -/
def State.isReleaseLane (s : State) (l : Nat) : Bool :=
  match s.bundle with
  | some b => b.releaseLanes.contains l
  | none => false

/-- The pair-role block of the device (R228, R309, Table 7-6): ROLE 1 for a lead, 2 for another half of a pair, 0
for a single device. -/
def State.roleBlock (s : State) : Word64 :=
  let st := s.rd 0x8100 0x01
  let role := if st = 0 then 0 else if st = 4 then 1 else 2
  markerBlock 0x78 (role * 2 ^ 46 + s.rd 0x8000 0x03 % 16 * 2 ^ 40 + s.rd 0x8100 0x04 % 2 ^ 16 * 2 ^ 24
    + s.rd 0x8100 0x03 % 2 ^ 16 * 2 ^ 8)

/-- The crossing marker of a release lane, and the pair-role block after it on a decision lane (R226, R228). -/
def State.txCrossing (s : State) (l : Nat) : State :=
  if s.isReleaseLane l ∧ s.engineSt ≠ 0 then
    let s := s.txBlock l 0b10 (markerBlock 0x33 (s.xn % 2 ^ 16 * 2 ^ 32 + 1023 * 2 ^ 22))
    if (s.grp l 0x14).testBit (l % 8) then s.txBlock l 0b10 s.roleBlock else s
  else s

/-- The idle block that stands for a void token (R226, Table 7-2). -/
def voidIdle (late : Bool) (wtag : Nat) : Word64 :=
  BitVec.ofNat 64 (((if late then 512 else 0) + 256 + wtag % 256) * 256 + 0x1E)

/-- A release token sent on its lane (R226). -/
def State.txRelease (s : State) (l wtag : Nat) (void late : Bool) (data : Nat) : State :=
  if !s.txSends l ∨ !s.isReleaseLane l then s
  else if void then (s.txBlock l 0b10 (voidIdle late wtag)).bump 64 (0x3100 + l) 0x14
  else
    (List.range (max (s.grp l (0x21 + l % 8)) 1)).foldl (fun s i =>
      let b := data / 2 ^ (67 * i) % 2 ^ 67
      if b.testBit 66 then s
      else if b.testBit 64 then
        if b % 256 = 0x66 then s.txBlock l 0b10 (BitVec.ofNat 64 b)
        else (s.txBlock l 0b10 0x1E).bump 32 (0x3100 + l) 0x17
      else s.txBlock l 0b01 (BitVec.ofNat 64 b)) s

end Sys2Proof.Machine
end

