-- ==== Sys2Proof/Machine/TimingCore.lean ====
section
/-! DEFINITION. TimingCore.lean: the timing inputs and the crossing source (R230 to R238). -/

namespace Sys2Proof.Machine

/-- State of a timing input: 0 DOWN, 1 LOCKING, 2 QUALIFYING, 3 TRACKING (R232). -/
def State.timSt (s : State) (i : Nat) : Nat := s.rd 0x3300 (0x03 + i)

/-- The active crossing source: 0 TIMA, 1 TIMB, 2 field lane, 3 flywheel, 0xFF none. -/
def State.source (s : State) : Nat := s.rd 0x3300 0x02

/-- The line rate of the timing inputs lies from 2.0 to 10.3125 Gb/s, once f_x is known (R230). -/
def State.timRateOk (s : State) : Bool :=
  let rate := 66 * s.rd 0x3300 0x08 * s.rd 0x4001 0x01
  rate = 0 || (2000000000 ≤ rate && rate ≤ 10312500000)

/-- Edge of the last crossing marker of a source less the kept edge, after compensation and, on a timing input, the
flock trim, in ps (R231, R234, R293). -/
def State.sourceEdgePs (s : State) (i : Nat) : Int :=
  (s.tim i).edgePs + (if i < 2 then (s.rd 0x3300 (0x05 + i) : Int) + toI32 (s.rd 0x8000 0x07) else 0)

/-- R236: the field lane of mode 4 can be the source: ADMITTED, its rate 66 × k × f_x for a whole k from 4 to 64,
1,024 good markers in a row (R232 applied to it). -/
def State.laneSourceOk (s : State) : Bool :=
  let l := s.rd 0x3300 0x07
  let unit := 66 * s.rd 0x4001 0x01
  let rate := s.rxRate l * 1000
  l < 512 && s.laneSt l = lAdmitted && unit ≠ 0 && rate % unit = 0 && 4 ≤ rate / unit && rate / unit ≤ 64
    && 1024 ≤ (s.tim 2).good

/-- An input is in TRACKING. -/
def State.tracking (s : State) (src : Nat) : Bool :=
  match src with
  | 0 => s.timSt 0 = 3
  | 1 => s.timSt 1 = 3
  | 2 => s.laneSourceOk
  | 3 => true
  | _ => false

/-- The source that the mode selects now (R233). fresh: the mode has just been written, so that the preference
counts; otherwise an active input that is in TRACKING is kept. Once PLL_X has gone into holdover on an input, it is the flywheel
(R435). -/
def State.wantedSource (s : State) (fresh : Bool) : Nat :=
  let auto (a b : Nat) : Nat :=
    if !fresh && (s.source = 0 || s.source = 1) && s.tracking s.source then s.source
    else if s.tracking a then a else if s.tracking b then b else if s.source = 0xFF then 0xFF else 3
  let only (a : Nat) : Nat := if s.tracking a then a else if s.source = 0xFF then 0xFF else 3
  if s.rd 0x2020 0x01 = 3 ∧ s.source < 3 then 3
  else match s.rd 0x3300 0x01 with
  | 0 => only 0
  | 1 => only 1
  | 2 => auto 0 1
  | 3 => auto 1 0
  | 4 => only 2
  | _ => 3

/-- A move falls due at the next crossing edge when the mode selects another source (R233). -/
def State.checkSource (s : State) (fresh : Bool) : State :=
  let w := s.wantedSource fresh
  { s with sourceDue := if w = s.source then none else some w }

/-- PLL_X in holdover locks again once an input is adopted (R434; log entry 35). -/
def State.relock (s : State) : State := if s.rd 0x2020 0x01 = 3 then s.wr 0x2020 0x01 1 else s

/-- The crossing source becomes the flywheel (R235). -/
def State.toFlywheel (s : State) : State :=
  let s := if s.rd 0x2020 0x01 = 2 then s.wr 0x2020 0x01 3 else s
  ((s.wr 0x3300 0x02 3).bump 32 0x3300 0x0A).raise 190 clsClock 0x708 1

/-- The move that is due (R233 to R235). In a run an input is adopted only when its next XN is the device's and its
edge lies within 200 ps, and otherwise the device stays on its source, or goes to the flywheel where that is lost; in
OFF and STOPPED its XN is adopted as it is. -/
def State.moveSource (s : State) : State :=
  match s.sourceDue with
  | none => s
  | some w =>
    let s := { s with sourceDue := none }
    let x := s.tim w
    if w = 3 then s.toFlywheel
    else
      let next := if w = 2 then s.xn / 2 ^ 16 * 2 ^ 16 + x.lastXn % 2 ^ 16 else x.lastXn
      if s.inRun then
        if next % 2 ^ 48 = s.xn ∧ -200 ≤ s.sourceEdgePs w ∧ s.sourceEdgePs w ≤ 200 then
          ((s.wr 0x3300 0x02 w).bump 32 0x3300 0x0A).relock
        else
          let s := (s.bump 32 0x3300 0x0B).raise 190 clsClock 0x709 1
          if s.tracking s.source then s else s.toFlywheel
      else ((((s.wr 0x4002 0x01 next).showTag).wr 0x3300 0x02 w).bump 32 0x3300 0x0A).relock

/-- An input falls to DOWN, with its cause (R232). -/
def State.timingLost (s : State) (i : Nat) : State :=
  let s := (s.wr 0x3300 (0x03 + i) 0).setTim i { dropped := (s.tim i).dropped, edgePs := (s.tim i).edgePs }
  (s.raise (188 + i) clsClock 0x707 1).checkSource false

/-- Block lock: the input enters QUALIFYING (R232). -/
def State.timingLocked (s : State) (i : Nat) : State :=
  (s.wr 0x3300 (0x03 + i) 2).setTim i { s.tim i with good := 0, bad := 0, pos := none, sinceAm := none, hdrs := [] }

/-- A crossing marker, or block 0 of a frame that is none: n is the number of bits of XN that it names (48, or 16 on a
field lane). A good one names the crossing after the one before (R232). -/
def countMarker (n : Nat) (x : TimRec) (ok : Bool) (xn : Nat) (edgePs : Int) : TimRec × Bool :=
  let good := ok && xn % 2 ^ n = (x.lastXn + 1) % 2 ^ n
  let last := if ok then xn else (x.lastXn + 1) % 2 ^ n
  if good then ({ x with good := x.good + 1, bad := 0, lastXn := last, edgePs := edgePs }, true)
  else ({ x with good := 0, bad := x.bad + 1, lastXn := last, edgePs := edgePs }, false)

/-- The TYPE and BODY of a control block of a source's stream; other blocks have none. -/
def controlOf (b : RxBlock) : Option (Nat × BitVec 56) :=
  match b with
  | .control p => some (ctlType p, ctlBody p)
  | _ => none

/-- A block in a source's frames of k blocks (R230, R232, R236). The first crossing marker gives the place of block 0;
from there on block 0 of every frame must be a crossing marker, one elsewhere is not good, and one that does not come
is missing. -/
def frameBlock (n k : Nat) (x : TimRec) (b : RxBlock) (edgePs : Int) : TimRec :=
  let named (body : BitVec 56) : Nat := if n = 16 then bodyField body 55 40 else bodyField body 55 8
  let marker : Option (BitVec 56) := match controlOf b with
    | some (0x33, body) => some body
    | _ => none
  match x.pos, marker with
  | none, some body => if chkOk body then { x with pos := some 0, lastXn := named body, edgePs := edgePs } else x
  | none, none => x
  | some p, m =>
    let pos := if k ≤ p + 1 then 0 else p + 1
    let y := { x with pos := some pos }
    match m with
    | some body => (countMarker n y (chkOk body && pos = 0) (named body) edgePs).1
    | none => if pos = 0 then (countMarker n y false 0 x.edgePs).1 else y

/-- A user-control block on a timing input (R238). -/
def State.timingControl (s : State) (inp : Nat) (payload : Nat) : State :=
  if s.source = inp then { s.wr 0x3300 0x0C payload with timingNew := true }
  else s.setTim inp { s.tim inp with dropped := (s.tim inp).dropped + 1 }

/-- A block on TIMA or TIMB (R230 to R232, R238); offsetPs: the edge of a crossing marker, with the fixed internal delay,
less the kept edge. 0x3300:0D shows that of the last marker of an input that is not active, of either where neither is
(DESIGN CHOICE, log entry 189). -/
def State.timingBlock (s : State) (i : Nat) (header : BitVec 2) (raw : Word64) (offsetPs : Int) : State :=
  let (code, b) := decodeBlock (s.tim i).toCodeRec header raw
  if s.timSt i = 0 then s
  else if s.timSt i = 1 then
    let code := { code with sinceAm := none, hdrs := if b = .headerError then [] else code.hdrs }
    let s := s.setTim i { s.tim i with toCodeRec := code }
    if headersLock code then s.timingLocked i else s
  else
    let x := frameBlock 48 (s.rd 0x3300 0x08) { s.tim i with toCodeRec := code } b offsetPs
    let s := s.setTim i x
    let s := match controlOf b with
      | some (0x66, body) => s.timingControl i body.toNat
      | some (0x33, _) => if s.source ≠ i then s.wrI32 0x3300 0x0D (s.sourceEdgePs i) else s
      | _ => s
    if 2 ≤ x.bad ∨ headersLost code then s.timingLost i
    else if s.timSt i = 2 ∧ 1024 ≤ x.good then (s.wr 0x3300 (0x03 + i) 3).checkSource false
    else s

/-- A block of the field lane that mode 4 names, as the timing source sees it: R232 applies to the lane, with XC in place
of XN (R236). It leaves TRACKING on the second marker that is missing or not good. -/
def State.laneTimingBlock (s : State) (l : Nat) (b : RxBlock) (offsetPs : Int) : State :=
  if s.rd 0x3300 0x01 = 4 ∧ s.rd 0x3300 0x07 = l then
    let was := s.laneSourceOk
    let unit := 66 * s.rd 0x4001 0x01
    let x := frameBlock 16 (if unit = 0 then 1 else s.rxRate l * 1000 / unit) (s.tim 2) b offsetPs
    let keep := was && x.bad = 1
    let s := s.setTim 2 (if 2 ≤ x.bad then { dropped := x.dropped }
      else { x with good := if keep then (s.tim 2).good else x.good })
    if s.laneSourceOk ≠ was then s.checkSource false else s
  else s

/-- After an event at a lane, a source that it was may be lost (R233, R236). -/
def State.afterLane (s : State) : State :=
  if s.source = 2 ∧ !s.laneSourceOk then s.checkSource false else s

/-- A block at a receiver: lane r, or timing input r - 520 (log entry 40). -/
def State.blockRow (s : State) (r : Nat) (header : BitVec 2) (raw : Word64) (skewPs : Nat) (marginPs : Option Int)
    (offsetPs : Int) : State :=
  if r < 512 then
    let (h, w) := s.rxPolarity r header raw
    let b := (decodeBlock (s.lane r).toCodeRec h w).2
    let seen : Bool := s.seesBlocks r && !s.looped r
    let s := s.receiveBlock r header raw skewPs marginPs
    (if seen then s.laneTimingBlock r b offsetPs else s).afterLane
  else s.timingBlock (r - 520) header raw offsetPs

end Sys2Proof.Machine
end

