-- ==== Sys2Proof/Machine/LookbackCore.lean ====
section
/-! DEFINITION. LookbackCore.lean: the look-back store (R245 to R277): the line code, the slot map, slots as they are
written, the skip logs, and retrievals. -/

namespace Sys2Proof.Machine

/-! ### The line code (R260 to R262) -/

/-- A field element times α (R260). -/
def gfDouble (a : BitVec 8) : BitVec 8 := (a <<< 1) ^^^ (if a.getLsbD 7 then 0x1D else 0)

/-- A product in GF(2^8). -/
def gfMul (a b : BitVec 8) : BitVec 8 :=
  ((List.range 8).foldl (fun acc i => (if b.getLsbD i then acc.1 ^^^ acc.2 else acc.1, gfDouble acc.2)) (0, a)).1

/-- A power in GF(2^8). -/
def gfPow (a : BitVec 8) : Nat → BitVec 8
  | 0 => 1
  | n + 1 => gfMul a (gfPow a n)

/-- The inverse of a nonzero element. -/
def gfInv (a : BitVec 8) : BitVec 8 := gfPow a 254

/-- α^n. -/
def alpha (n : Nat) : BitVec 8 := gfPow 2 (n % 255)

/-- Coefficients of g(x) below x^8, x^0 first: the product of (x − α^i) for i from 0 to 7. -/
def lineGen : List (BitVec 8) :=
  ((List.range 8).foldl (fun p i =>
    (List.range 9).map (fun j => (if j = 0 then 0 else p.getD (j - 1) 0) ^^^ gfMul (alpha i) (p.getD j 0)))
    [1]).take 8

/-- The virtual symbols A0, A1 of a line address (R261). -/
def lineTag (la : Nat) : List (BitVec 8) :=
  let a : BitVec 16 := BitVec.ofNat 16 la ^^^ BitVec.ofNat 16 (la / 65536)
  [a.extractLsb' 0 8, a.extractLsb' 8 8]

/-- One step of the division by g(x), the highest symbol first. -/
def genStep (rem : List (BitVec 8)) (m : BitVec 8) : List (BitVec 8) :=
  let f := m ^^^ rem.getD 7 0
  (List.range 8).map (fun j => (if j = 0 then 0 else rem.getD (j - 1) 0) ^^^ gfMul f (lineGen.getD j 0))

/-- The check bytes P0 to P7 of 64 data bytes at a line address. -/
def lineCheck (la : Nat) (data : List Byte) : List (BitVec 8) :=
  (data ++ lineTag la).reverse.foldl genStep (List.replicate 8 0)

/-- The 72 bytes of a line as one value, byte 0 least significant. -/
def packLine (bytes : List Byte) : BitVec 576 := BitVec.ofNat 576 (bytesNat bytes)
def lineBytes (x : BitVec 576) : List Byte := natBytes 72 x.toNat

/-- A line as it is written. -/
def encodeLine (la : Nat) (data : List Byte) : BitVec 576 := packLine (data ++ lineCheck la data)

/-- The codeword of a stored line: check bytes, data bytes, virtual symbols (R260). -/
def codeword (la : Nat) (x : BitVec 576) : List (BitVec 8) :=
  let b := lineBytes x
  b.drop 64 ++ b.take 64 ++ lineTag la

/-- Syndrome S_i. -/
def syndrome (c : List (BitVec 8)) (i : Nat) : BitVec 8 :=
  c.foldr (fun cj acc => cj ^^^ gfMul (alpha i) acc) 0

/-- Errors (position, value) fit syndromes 0 to 7. -/
def fitsErrors (syn : List (BitVec 8)) (errs : List (Nat × BitVec 8)) : Bool :=
  (List.range 8).all (fun i =>
    syn.getD i 0 = errs.foldl (fun acc e => acc ^^^ gfMul e.2 (alpha (i * e.1))) 0)

/-- One or two symbol errors that explain the syndromes; they are the only such (distance 9). -/
def locate (syn : List (BitVec 8)) : Option (List (Nat × BitVec 8)) :=
  let s0 := syn.getD 0 0
  let s1 := syn.getD 1 0
  match (List.range 74).find? (fun j => s0 ≠ 0 && fitsErrors syn [(j, s0)]) with
  | some j => some [(j, s0)]
  | none =>
    (List.range 74).findSome? (fun j =>
      (List.range j).findSome? (fun i =>
        let xi := alpha i
        let xj := alpha j
        let ej := gfMul (s1 ^^^ gfMul xi s0) (gfInv (xi ^^^ xj))
        let ei := s0 ^^^ ej
        if ei ≠ 0 ∧ ej ≠ 0 ∧ fitsErrors syn [(i, ei), (j, ej)] then some [(i, ei), (j, ej)] else none))

/-- Line classes (Table 8-4). -/
abbrev lnClean : Nat := 0
abbrev lnCorrected : Nat := 1
abbrev lnUncorrectable : Nat := 2
abbrev lnAddressFault : Nat := 3

/-- A stored line classified at a line address: its class, its 64 data bytes, and the corrected line. -/
def classifyLine (la : Nat) (x : BitVec 576) : Nat × List Byte × BitVec 576 :=
  let c := codeword la x
  let syn := (List.range 8).map (syndrome c)
  if syn.all (fun v => v = 0) then (lnClean, (lineBytes x).take 64, x)
  else
    match locate syn with
    | none => (lnUncorrectable, [], x)
    | some errs =>
      if errs.any (fun e => 72 ≤ e.1) then (lnAddressFault, [], x)
      else
        let fixed := (List.range 74).map (fun j =>
          errs.foldl (fun v e => if e.1 = j then v ^^^ e.2 else v) (c.getD j 0))
        let data := (fixed.drop 8).take 64
        (lnCorrected, data, packLine (data ++ fixed.take 8))

/-! ### The slot map (R247 to R250) -/

/-- The slot-map entry of a stream (Table 8-2), its fields. -/
def State.slotEntry (s : State) (st : Nat) : Nat := s.rd (0x5820 + st / 128) (st % 128 + 1)
def seEn (e : Nat) : Bool := e.testBit 63
def seStack (e : Nat) : Nat := e / 2 ^ 60 % 8
def seClass (e : Nat) : Nat := e / 2 ^ 58 % 4
def seSize (e : Nat) : Nat := e / 2 ^ 40 % 256
def seOffset (e : Nat) : Nat := e % 2 ^ 32

/-- Stream numbers (Table 8-1). -/
abbrev probeStream : Nat := 576
def streamNos : List Nat := List.range 577

/-- The greatest odd number that does not exceed n. -/
def oddFloor (n : Nat) : Nat := if n % 2 = 1 then n else n - 1

/-- Frame stride, depth, first byte of a slot (R249). -/
def State.stride (s : State) (k : Nat) : Nat := s.rd 0x5802 (k + 1)
def State.depth (s : State) : Nat := s.rd 0x5800 0x02
def State.slotByte (s : State) (e c : Nat) : Nat :=
  64 * s.stride (seStack e) * (c % max s.depth 1) + 32 * seOffset e

/-- Lines of a slot from first to last. -/
def State.slotLines (s : State) (e c : Nat) : List Nat :=
  let a := s.slotByte e c
  (List.range ((a + 32 * seSize e - 1) / 64 + 1 - a / 64)).map (fun i => a / 64 + i)

/-- The depth that strides give for the streams enabled. -/
def depthOf (entry : Nat → Nat) (stride : Nat → Nat) : Nat :=
  let used := (streamNos.filter (fun st => seEn (entry st))).map (fun st => seStack (entry st))
  let ds := (used.map (fun k => 2 ^ 32 / max (stride k) 1))
  match ds.min? with
  | some d => oddFloor d
  | none => 0

/-- Two slots may share a line (R250); same: two lanes have the same lane schedule. -/
def mayShare (same : Nat → Nat → Bool) (a b ea eb : Nat) : Bool :=
  ((a < 512 && b < 512 && a / 8 = b / 8 && same a b) || (512 ≤ a && 512 ≤ b)) && seClass ea = seClass eb

/-- The slot map keeps R250 and R253. -/
def slotMapOk (entry stride width bits : Nat → Nat) (same : Nat → Nat → Bool) (fx : Nat) : Bool :=
  let on := streamNos.filter (fun st => seEn (entry st))
  on.all (fun a =>
    let ea := entry a
    seClass ea ≠ 3 && seOffset ea + seSize ea ≤ 2 * stride (seStack ea)
    && (a < 512 || a = probeStream || bits (a - 512) ≤ 8 * width (a - 512))
    && on.all (fun b =>
      let eb := entry b
      b ≤ a || seStack ea ≠ seStack eb ||
        ((seOffset ea + seSize ea ≤ seOffset eb || seOffset eb + seSize eb ≤ seOffset ea)
          && ((seOffset ea + seSize ea - 1) / 2 < seOffset eb / 2 || (seOffset eb + seSize eb - 1) / 2 < seOffset ea / 2
            || mayShare same a b ea eb))))
  && (List.range 8).all (fun k => 72 * stride k * fx ≤ 307200000000)

/-! ### Lines -/

/-- The key of line LA of stack k, and the stored line; a line not written since power-up holds a free value. -/
def lineKey (k la : Nat) : Nat := k * 2 ^ 32 + la
def State.line (s : State) (k la : Nat) : BitVec 576 :=
  match Sparse.get (fun _ => none) s.lines (lineKey k la) with
  | some x => x
  | none => Config.unwrittenLine k la
def State.setLine (s : State) (k la : Nat) (x : BitVec 576) : State :=
  { s with lines := Sparse.set (fun _ => none) s.lines (lineKey k la) (some x) }

/-- The slot index key of a stream at a crossing, and 1 + the crossing whose slot stands there. -/
def State.slotKey (s : State) (st c : Nat) : Nat := st * 2 ^ 32 + c % max s.depth 1
def State.slotHolds (s : State) (st c : Nat) : Nat := Sparse.get (fun _ => 0) s.slotC (s.slotKey st c)

/-- A line holds a slot that is due to be overwritten within 1,024 crossings (R263). -/
def State.lineDue (s : State) (k la : Nat) : Bool :=
  let f := la / max (s.stride k) 1
  streamNos.any (fun st =>
    let e := s.slotEntry st
    seEn e && seStack e = k && (s.slotLines e f).contains la &&
      (let h := s.slotHolds st f
       h ≠ 0 && h - 1 + s.depth ≤ s.crossing + 1024))

/-- An error at a line: the last error entries (Table 8-9). -/
def State.lineError (s : State) (k la : Nat) : State :=
  (s.wr (0x5810 + k) 0x08 la).wr (0x5810 + k) 0x09 s.xn

/-- A line read through its controller (R262, R263, R277): class, data, state. -/
def State.readLine (s : State) (k la : Nat) : Nat × List Byte × State :=
  let (cls, data, fixed) := classifyLine la (s.line k la)
  let s := match cls with
    | 1 =>
      let s := ((s.bump 64 (0x5810 + k) 0x01).lineError k la).raiseOnce (136 + k) clsLookback 0x801 0
      if s.lineDue k la then s.bump 32 (0x5810 + k) 0x04 else s.setLine k la fixed
    | 2 => ((s.bump 32 (0x5810 + k) 0x02).lineError k la).raise (136 + k) clsLookback 0x802 1 la
    | 3 => ((s.bump 32 (0x5810 + k) 0x03).lineError k la).raise (136 + k) clsLookback 0x803 1 la
    | _ => s
  (cls, data, s)

/-! ### Slots as they are written (R251 to R256) -/

/-- The key of the entries of a derived stream in a crossing. -/
def derivedKey (st c : Nat) : Nat := c * 1024 + st

/-- The entry of a step without a release: void (R256), as is each output of the probe stream (R254). -/
def voidEntry (st : Nat) : Bool × Bool × Nat := (true, false, if st = probeStream then (2 ^ 32 - 1) * 2 ^ 32 else 0)

/-- The entries (V, LATE, data) of a derived stream in a crossing. -/
def State.derivedEntries (s : State) (st c : Nat) : List (Bool × Bool × Nat) :=
  Sparse.get (fun _ => []) s.derived (derivedKey st c)

/-- The slot word (Table 8-3). -/
def slotWord (c st count uc : Nat) : Nat :=
  c / 2 ^ 48 % 16 * 2 ^ 60 + c % 2 ^ 24 * 2 ^ 36 + st % 4 * 2 ^ 34 + count % 1024 * 2 ^ 24 + uc % 2 ^ 24

/-- Bytes cut or filled with 0 to a length. -/
def padBytes (n : Nat) (l : List Byte) : List Byte := (l ++ List.replicate n 0).take n

/-- A lane slot (R252). -/
def State.laneSlot (s : State) (l c : Nat) : List Byte :=
  match (s.lane l).slots.find? (fun o => o.c = c) with
  | some o =>
    let uc := maskOf 24 (fun j => match o.blocks[j]? with
      | some b => b.2
      | none => false)
    natBytes 8 (slotWord c o.st o.blocks.length uc) ++ o.blocks.flatMap (fun b => natBytes 8 b.1.toNat)
  | none => natBytes 8 (slotWord c 1 0 0)

/-- Entry width of a derived stream or the probe stream (R253, R254). -/
def State.derivedWidth (s : State) (st : Nat) : Nat := if st = probeStream then 16 else s.rd 0x5830 (st - 511)

/-- A derived slot (R253, R254). -/
def State.derivedSlot (s : State) (st c : Nat) : List Byte :=
  let l := s.derivedEntries st c
  let at_ (i : Nat) : Bool × Bool × Nat := l.getD i (voidEntry st)
  let flags := maskOf (2 * s.S) (fun i => if i % 2 = 0 then (at_ (i / 2)).1 else (at_ (i / 2)).2.1)
  natBytes 8 (slotWord c 0 s.S 0) ++ natBytes (8 * ((s.S + 31) / 32)) flags
    ++ (List.range s.S).flatMap (fun i => natBytes (s.derivedWidth st) (at_ i).2.2)

/-- The bytes of a stream's slot at a crossing. -/
def State.slotBytes (s : State) (st c : Nat) : List Byte :=
  padBytes (32 * seSize (s.slotEntry st)) (if st < 512 then s.laneSlot st c else s.derivedSlot st c)

/-- The 64 data bytes of a line of the frame of crossing c (R256). -/
def State.frameLine (s : State) (k la c : Nat) : List Byte :=
  streamNos.foldl (fun acc st =>
    let e := s.slotEntry st
    if seEn e && seStack e = k && (s.slotLines e c).contains la then
      let a := s.slotByte e c
      let b := s.slotBytes st c
      (List.range 64).map (fun i =>
        if a ≤ la * 64 + i ∧ la * 64 + i < a + b.length then b.getD (la * 64 + i - a) 0 else acc.getD i 0)
    else acc) (List.replicate 64 0)

/-- A stop covers crossing c of stack k's streams of a class (R257, R258, R444). The skip log is not asked: its merged
intervals cover more than was stopped (R259). -/
def State.skipped (s : State) (k cls c : Nat) : Bool :=
  (Sparse.get (fun _ => []) s.storeStops k).any (fun i =>
    i.classes.testBit cls && i.first ≤ c && (match i.last with
      | some l => decide (c ≤ l)
      | none => true))

/-- The stream's slot of crossing c is written: it is enabled, its stack works, no stop covers it. -/
def State.stored (s : State) (st c : Nat) : Bool :=
  let e := s.slotEntry st
  seEn e && s.rd 0x5801 (seStack e + 1) = 2 && !s.skipped (seStack e) (seClass e) c

/-- The slot of a stream and a crossing has closed (R255): a lane slot on the next accepted marker, also where its own
crossing was lost, on its last position, or at the last input deadline of its crossing; a derived slot once its wave XN:(S − 1) is released. -/
def State.slotClosed (s : State) (st c : Nat) : Bool :=
  if st < 512 then
    s.slotPast st c || (match (s.lane st).slots.find? (fun o => o.c = c) with
      | some o => o.closed || s.slotPositions st ≤ o.blocks.length
      | none => (s.lane st).slots.any (fun o => c < o.c))
  else c < s.crossing || (c = s.crossing && !s.waveDue && s.S ≤ s.stepNo + 1)

/-- The enabled streams of stack k. -/
def State.stackStreams (s : State) (k : Nat) : List Nat :=
  streamNos.filter (fun st => seEn (s.slotEntry st) && seStack (s.slotEntry st) = k)

/-- The slots that share lines with a stream's slot have closed, that slot among them (R255). -/
def State.slotReady (s : State) (st c : Nat) : Bool :=
  let lines := s.slotLines (s.slotEntry st) c
  s.slotClosed st c && (s.stackStreams (seStack (s.slotEntry st))).all (fun x =>
    s.slotClosed x c || !(s.slotLines (s.slotEntry x) c).any (fun la => lines.contains la))

/-- Crossings for which the entries of open slots are kept: more than those of R21's microsecond and of a stop of LBIF of
2 µs (Table 14-4) at any crossing rate. -/
abbrev slotWindow : Nat := 512

/-- The lines of a stream's slot written (R255, R256), not while domain LBIF is stopped (R444). -/
def State.writeSlot (s : State) (st c : Nat) : State :=
  if s.bundle.isSome && s.lbif.isNone && s.stored st c && s.slotReady st c then
    let e := s.slotEntry st
    let k := seStack e
    let s := (s.slotLines e c).foldl (fun s la => s.setLine k la (encodeLine la (s.frameLine k la c))) s
    let s := { s with slotC := Sparse.set (fun _ => 0) s.slotC (s.slotKey st c) (c + 1) }
    if st < 512 then
      let x := s.lane st
      s.setLane st { x with
        slots := (x.slots.filter (fun o => c < o.c + slotWindow)).map (fun o => if o.c = c then { o with closed := true } else o) }
    else s
  else s

/-- The lines of stack k's frame of crossing c that hold no slot are written as 0 (R256). -/
def State.blankLines (s : State) (k c : Nat) : State :=
  if s.bundle.isNone || s.lbif.isSome || s.rd 0x5801 (k + 1) ≠ 2 || s.skipped k 0 c then s
  else
    let used := (s.stackStreams k).flatMap (fun st => s.slotLines (s.slotEntry st) c)
    let base := s.stride k * (c % max s.depth 1)
    (List.range (s.stride k)).foldl (fun s i =>
      let la := base + i
      if used.contains la then s else s.setLine k la (encodeLine la (List.replicate 64 0))) s

/-- Those lines of every stack, for one crossing. -/
def State.blankFrames (s : State) (c : Nat) : State := (List.range 8).foldl (fun s k => s.blankLines k c) s

/-! ### Skip logs and classes (R257 to R259) -/

/-- The two oldest intervals merged. -/
def mergeOldest (l : List SkipRec) : List SkipRec :=
  match l with
  | a :: b :: rest =>
    { holders := a.holders ||| b.holders
      first := min a.first b.first
      last := match a.last, b.last with
        | some x, some y => some (max x y)
        | _, _ => none
      classes := a.classes ||| b.classes } :: rest
  | _ => l

/-- Intervals that lie wholly before the store's window dropped. -/
def State.dropSkips (s : State) (k : Nat) : List SkipRec :=
  (Sparse.get (fun _ => []) s.skips k).filter (fun i => match i.last with
    | some l => decide (s.crossing < l + s.depth)
    | none => true)

/-- The stops of stack k that are open, or that a slot still to be written can lie in. -/
def State.recentStops (s : State) (k : Nat) : List SkipRec :=
  (Sparse.get (fun _ => []) s.storeStops k).filter (fun i => match i.last with
    | some l => decide (s.crossing < l + slotWindow)
    | none => true)

/-- An interval opened on stack k by a stop (a bit of SkipRec.holders), from crossing c. -/
def State.openSkip (s : State) (k classes holder c : Nat) : State :=
  let l := s.dropSkips k
  let l := if 64 ≤ l.length then mergeOldest l else l
  let i : SkipRec := { first := c, classes := classes, holders := 2 ^ holder }
  { s with
    skips := Sparse.set (fun _ => []) s.skips k (l ++ [i])
    storeStops := Sparse.set (fun _ => []) s.storeStops k (s.recentStops k ++ [i]) }

/-- The intervals of a list once a stop ends with crossing c: the one that nothing else holds open closes; one that held
no crossing goes. -/
def endStop (l : List SkipRec) (holder c : Nat) : List SkipRec :=
  (l.map (fun i =>
    if i.last.isNone ∧ i.holders.testBit holder then
      let rest := withBit i.holders holder false
      { i with holders := rest, last := if rest = 0 then some c else none }
    else i)).filter (fun i => match i.last with
      | some x => decide (i.first ≤ x)
      | none => true)

/-- A stop ends on stack k with crossing c. -/
def State.closeSkip (s : State) (k holder c : Nat) : State :=
  { s with
    skips := Sparse.set (fun _ => []) s.skips k (endStop (s.dropSkips k) holder c)
    storeStops := Sparse.set (fun _ => []) s.storeStops k (endStop (s.recentStops k) holder c) }

/-- A class stops (1: B, 2: C) or restarts, from the next crossing on, with its cause (R258, R277). -/
def State.stopClass (s : State) (cls : Nat) : State :=
  if s.rdBit 0x5800 0x06 cls then
    let s := (List.range 8).foldl (fun s k => s.openSkip k (2 ^ cls) cls (s.crossing + 1)) s
    let s := s.wrBit 0x5800 0x06 cls false
    s.raise 136 clsLookback 0x807 0 (s.rd 0x5800 0x06)
  else s
def State.restartClass (s : State) (cls : Nat) : State :=
  if s.rdBit 0x5800 0x06 cls then s
  else
    let s := (List.range 8).foldl (fun s k => s.closeSkip k cls s.crossing) s
    let s := s.wrBit 0x5800 0x06 cls true
    s.raise 136 clsLookback 0x807 0 (s.rd 0x5800 0x06)

/-- The first crossing, of the last 64, with a slot of stack k that has not closed. -/
def State.firstOpen (s : State) (k : Nat) : Nat :=
  let l := s.stackStreams k
  ((List.range 64).map (fun i => s.crossing - (63 - i))).find? (fun c => l.any (fun st => !s.slotClosed st c))
    |>.getD s.crossing

/-- The last crossing, of the last 64, with a slot of stack k that has closed. -/
def State.lastClosed (s : State) (k : Nat) : Nat :=
  let l := s.stackStreams k
  ((List.range 64).map (fun i => s.crossing - i)).find? (fun c => l.any (fun st => s.slotClosed st c))
    |>.getD (s.crossing - 1)

/-- Domain LBIF stops: its blocks wait (R444). -/
def State.lbifStops (s : State) : State :=
  if s.lbif.isSome ∨ !(s.dom 2).started then s
  else { s with lbif := some { since := s.now, crossing := s.crossing, firsts := (List.range 8).map s.firstOpen } }

/-- The stop has lasted longer than 2 µs: on each stack an interval that covers every stream opens at the first crossing
with a slot that closes during the stop (R259, R444). -/
def State.lbifLong (s : State) (x : LbifStop) : State :=
  if x.long then s
  else (List.range 8).foldl (fun s k => s.openSkip k 7 3 (x.firsts.getD k s.crossing))
    { s with lbif := some { x with long := true } }

/-- Domain LBIF runs again after a stop of stopUs µs: the interval ends with the last crossing with a slot that closed
during the stop (R259). The writes that a shorter stop held up are made (Table 14-4): those of the lines without a slot
of the crossings that opened in it here, those of slots as their slots are written. -/
def State.lbifRuns (s : State) (stopUs : Nat) : State :=
  match s.lbif with
  | none => s
  | some x =>
    let s := if 2 < stopUs then s.lbifLong x else s
    let s := (List.range 8).foldl (fun s k => s.closeSkip k 3 (s.lastClosed k)) s
    let opened := (List.range slotWindow).filter (fun i => i < s.crossing - x.crossing)
    opened.foldl (fun s i => s.blankFrames (s.crossing - i)) { s with lbif := none }

/-- A stop of domain LBIF is measured against device time. -/
def State.lbifTick (s : State) : State :=
  match s.lbif with
  | none => s
  | some x => if x.since + 2000 < s.now then s.lbifLong x else s

/-! ### Retrievals (R267 to R274) -/

/-- The crossing that a request names, by its continuous count; none: before crossing 0 (R267). -/
def State.resolve (s : State) (xn : Nat) : Int :=
  if serialLater 48 s.xn xn then s.crossing + (serialDiff 48 s.xn xn : Nat)
  else (s.crossing : Int) - (serialDiff 48 xn s.xn : Nat)

/-- A closed interval of the skip log holds crossing c of a stream, or an open one does and c is not later than the
current crossing (R258, R259). -/
def State.skipKnown (s : State) (st c : Nat) : Bool :=
  let e := s.slotEntry st
  (Sparse.get (fun _ => []) s.skips (seStack e)).any (fun i =>
    i.classes.testBit (seClass e) && i.first ≤ c && (match i.last with
      | some l => decide (c ≤ l)
      | none => decide (c ≤ s.crossing)))

/-- One stream's retrieval as it is served: none while it is held, for its slot or for domain LBIF (R444); else its
status and its slot (R268, R271). A slot that has closed and is not to be written is answered "not stored" (R21). -/
def State.retrieve (s : State) (st xn era : Nat) : Option (Nat × List Byte) × State :=
  let c := s.resolve xn
  let now : Int := s.crossing
  if 577 ≤ st ∨ c > now + 64 then (some (9, []), s)
  else if c < 0 ∨ (c / 2 ^ 48 % 16 ≠ (era % 16 : Nat)) ∨ now - c ≥ (s.depth : Nat) ∨ c < (s.activationC : Nat) then
    (some (8, []), s)
  else
    let c := c.toNat
    let e := s.slotEntry st
    if !seEn e then (some (5, []), s)
    else if s.lbif.isSome then (none, s)
    else if s.skipKnown st c then (some (5, []), s)
    else if c + 1 < s.slotHolds st c then (some (8, []), s)
    else if s.slotHolds st c ≠ c + 1 then
      (if s.slotClosed st c ∧ !s.stored st c then some (5, []) else none, s)
    else if !s.stored st c then (some (5, []), s)
    else
      let k := seStack e
      let (worst, bytes, s) := (s.slotLines e c).foldl (fun acc la =>
        let (cls, data, s) := acc.2.2.readLine k la
        (max acc.1 cls, acc.2.1 ++ data, s)) ((0, [], s) : Nat × List Byte × State)
      if worst = lnAddressFault then (some (7, []), s)
      else if worst = lnUncorrectable then (some (6, []), s)
      else
        let slot := (bytes.drop (s.slotByte e c % 64)).take (32 * seSize e)
        let w := fieldAt slot 0 8
        if w / 2 ^ 60 ≠ c / 2 ^ 48 % 16 ∨ w / 2 ^ 36 % 2 ^ 24 ≠ c % 2 ^ 24 then (some (5, []), s)
        else
          let status := match w / 2 ^ 34 % 4 with
            | 1 => 2
            | 2 => 3
            | 3 => 4
            | _ => if worst = lnCorrected then 1 else 0
          (some (status, slot), s)

/-- A status counted (Table 8-9), for every path but BAR2. -/
def State.countStatus (s : State) (status : Nat) : State :=
  if status ≤ 4 then s.bump 64 0x5850 0x01
  else if status = 8 then s.bump 64 0x5850 0x02
  else if status = 5 then s.bump 64 0x5850 0x04
  else s

/-- The status word of a response (R271). -/
def State.statusWord (s : State) (st status : Nat) : Nat :=
  status * 2 ^ 56 + (if st < 577 then seSize (s.slotEntry st) else 0) * 2 ^ 40 + st % 1024

/-- A stream's retrieval at look-back controller j, which has stack j alone (R19): a stream of another stack is not
stored there (log entry 88), where nothing above that applies (R271). -/
def State.retrieveAt (s : State) (j st xn era : Nat) : Option (Nat × List Byte) × State :=
  match s.retrieve st xn era with
  | (some (9, b), t) => (some (9, b), t)
  | (some (8, b), t) => (some (8, b), t)
  | r => if seEn (s.slotEntry st) && seStack (s.slotEntry st) ≠ j then (some (5, []), s) else r

/-- Every stream of a request to controller j is served, or the request is held (R22, R270): its response bytes. An
invalid request is answered for each stream that it names, or once for FIRST where it names none (log entry 136). -/
def State.retrieveAll (s : State) (j xn era first count : Nat) : Option (List Byte) × State :=
  if count = 0 then (some (natBytes 8 (s.statusWord first 9)), s)
  else if 577 < first + count then
    (some ((List.range count).flatMap (fun i => natBytes 8 (s.statusWord (first + i) 9))), s)
  else
    let res := (List.range count).foldl (fun (acc : Option (List Byte) × State) i =>
      match acc.1 with
      | none => acc
      | some b =>
        match acc.2.retrieveAt j (first + i) xn era with
        | (some (status, slot), t) =>
          (some (b ++ natBytes 8 (t.statusWord (first + i) status) ++ slot), t.countStatus status)
        | (none, t) => (none, t)) (some [], s)
    match res.1 with
    | some b => (some b, res.2)
    | none => (none, s)

/-! ### Activation of a slot map (R249, R269), stack states -/

/-- The store's state by its stacks' (0x5800:01). -/
def State.storeState (s : State) : State :=
  let st := (List.range 8).map (fun k => s.rd 0x5801 (k + 1))
  s.wr 0x5800 0x01
    (if st.all (fun v => v = 0) then 0 else if st.contains 1 then 1 else if st.all (fun v => v = 3) then 4
     else if st.contains 3 then 3 else 2)

/-- The oldest retrievable crossing, as 0x5800:03 shows it; 0 before an activation. -/
def State.oldest (s : State) : Nat :=
  let c := max s.activationC (s.crossing + 1 - s.depth)
  if s.depth = 0 then 0 else c / 2 ^ 48 % 16 * 2 ^ 48 + c % 2 ^ 48

/-- A slot map comes into force with a bundle's activation (R249, R269). -/
def State.activateMap (s : State) (b : Bundle) : State :=
  let s := (List.range 8).foldl (fun s k => s.wr 0x5802 (k + 1) (b.strides.getD k 0)) s
  let s := s.wr 0x5800 0x02 (depthOf s.slotEntry s.stride)
  let s := s.wr 0x5800 0x05 b.slotMapId
  let s := if s.startup.lastSlotMap = some b.slotMapId then s
    else
      { s with
        activationC := s.crossing
        slotC := [] }.wr 0x5800 0x04 (s.era % 16 * 2 ^ 48 + s.xn)
  { s with startup := { s.startup with lastSlotMap := some b.slotMapId } }

/-! ### Refresh (R264) -/

/-- Refresh window of a band, in ms (Table 8-5). -/
def windowOf (band : Nat) : Nat := if band ≤ 2 then 64 else if band = 3 then 32 else if band = 4 then 16 else 8

/-- The band of stack k: a shorter window applies at once, a longer one at the next window (R264, R277). -/
def State.setStackBand (s : State) (k band : Nat) : State :=
  let was := s.rd (0x5810 + k) 0x06
  let s := s.wr (0x5810 + k) 0x06 band
  let w := windowOf band
  let s := if w < s.rd (0x5810 + k) 0x05 then
      { s.wr (0x5810 + k) 0x05 w with nextWindow := Sparse.set (fun _ => 0) s.nextWindow k 0 }
    else { s with nextWindow := Sparse.set (fun _ => 0) s.nextWindow k (if w = s.rd (0x5810 + k) 0x05 then 0 else w) }
  if band = 5 ∧ was ≠ 5 then s.raise (136 + k) clsLookback 0x806 1 else s

/-- The window that waits begins (R264), but not in warm-up mode (R460). -/
def State.startWindow (s : State) (k : Nat) : State :=
  let w := Sparse.get (fun _ => 0) s.nextWindow k
  if w = 0 ∨ s.rd 0x2280 0x0A = 1 then s
  else { s.wr (0x5810 + k) 0x05 w with nextWindow := Sparse.set (fun _ => 0) s.nextWindow k 0 }

/-- The look-back kernel's next scrub read (R265), not while domain LBIF is stopped (R444). -/
def State.scrubLine (s : State) (k : Nat) : State :=
  if s.lbif.isSome then s
  else
    let la := Sparse.get (fun _ => 0) s.scrubPos k
    let s := if s.lineDue k la then s else (s.readLine k la).2.2
    let s := { s with scrubPos := Sparse.set (fun _ => 0) s.scrubPos k ((la + 1) % 2 ^ 32) }
    if la + 1 = 2 ^ 32 then s.bump 32 (0x5810 + k) 0x07 else s

/-- A mask applied to one stored symbol of a line (0x5860:00): position j of the codeword. -/
def State.injectLine (s : State) (k j mask la : Nat) : State :=
  let b := if j < 8 then 64 + j else j - 8
  s.setLine k la (s.line k la ^^^ BitVec.ofNat 576 (mask % 256 * 256 ^ b))

end Sys2Proof.Machine
end

