-- ==== Sys2Proof/Machine/NocCore.lean ====
section
/-! DEFINITION. NocCore.lean: the network-on-chip (chapter 10): paths, routes, interfaces, the targets' answers,
routers out of service, the closing of a region. -/

namespace Sys2Proof.Machine

/-! ### Nodes and paths (R323 to R327) -/

/-- The spine switch (0 to 3: SQ, 4: SC) and port at which a node meets the spine (Tables 10-1 and 10-2). -/
def attach (d : Nat) : Option (Nat × Nat) :=
  if d < 64 then some (quadrantOf d, 0)
  else if d = 0x050 then some (4, 4)
  else if 0x060 ≤ d ∧ d ≤ 0x06F then some (4, 5)
  else if 0x080 ≤ d ∧ d ≤ 0x087 then some ((d - 0x080) / 2, 2 + d % 2)
  else if d = 0x090 then some (4, 8)
  else if 0x100 ≤ d ∧ d ≤ 0x13F then some (quadrantOf (d - 0x100), 4)
  else if 0x140 ≤ d ∧ d ≤ 0x14F then some (4, 6)
  else if 0x150 ≤ d ∧ d ≤ 0x157 then some ((d - 0x150) / 2, 5 + d % 2)
  else if (0x158 ≤ d ∧ d ≤ 0x15C) ∨ d = 0x15F then some (4, 7)
  else none

/-- The switch that a port leads to, and the port on which a packet arrives there; none: an endpoint, a gateway
or no port (Table 10-2). The ring runs SQ0, SQ1, SQ3, SQ2, SQ0. -/
def nextSwitch (sw port : Nat) : Option (Nat × Nat) :=
  let ringNext : Nat := [1, 3, 0, 2].getD sw 0
  let ringPrev : Nat := [2, 0, 3, 1].getD sw 0
  if sw = 4 then (if port ≤ 3 then some (port, 1) else none)
  else if port = 1 then some (4, sw)
  else if port = 7 then some (ringNext, 8)
  else if port = 8 then some (ringPrev, 7)
  else none

/-- One switch takes its output port from ROUTE[3:0], shifts ROUTE right by 4 and writes the port of arrival into
ROUTE[31:28] (R327). -/
def routeShift (route : BitVec 32) (arrival : Nat) : BitVec 32 :=
  (route >>> 4) ||| (BitVec.ofNat 32 arrival <<< 28)

/-- A packet as it leaves a switch that it reached on port arrival: one hop more (R327). -/
def throughSwitch (p : Packet) (arrival : Nat) : Packet :=
  { p with
    route := routeShift p.route arrival
    hops := p.hops + 1 }

/-- The router number of a spine switch. -/
def switchRouter (sw : Nat) : Nat := 64 + sw

/-- A packet's way over the spine: the switches that it passes, the packet as it stands after the last of them, and
whether that one's port does not exist (R327). -/
structure Journey where
  routers : List Nat := []
  packet : Packet := {}
  noPort : Bool := false
  deriving DecidableEq, Repr, Inhabited

/-- The way from a switch that the packet reaches on port arrival. -/
def spineFrom : Nat → Nat → Nat → Packet → Journey
  | 0, _, _, p => { packet := p, noPort := true }
  | fuel + 1, sw, arrival, p =>
    let port := p.route.toNat % 16
    let q := throughSwitch p arrival
    match nextSwitch sw port with
    | some (sw', arr) =>
      let j := spineFrom fuel sw' arr q
      { j with routers := switchRouter sw :: j.routers }
    | none => { routers := [switchRouter sw], packet := q, noPort := 8 < port }

/-- The switches that a route passes from one. -/
def walkSpine (fuel sw : Nat) (route : BitVec 32) : List Nat := (spineFrom fuel sw 0 { route := route }).routers

/-- The inner-column region of the row of region n (R324). -/
def innerRegion (n : Nat) : Nat := n / 8 * 8 + (if n % 8 / 4 = 0 then 3 else 4)

/-- The regions from a to b along one axis, in order, step apart. -/
def lineTo (a b step : Nat) : List Nat :=
  (List.range ((max a b - min a b) / step + 1)).map (fun i => if a ≤ b then a + i * step else a - i * step)

/-- The mesh routers between two regions of one quadrant, in order: along X, then along Y (R325). -/
def meshPath (a b : Nat) : List Nat :=
  let mid := a / 8 * 8 + b % 8
  lineTo a mid 1 ++ (lineTo mid b 8).drop 1

/-- The mesh routers between a region and the gateway of its quadrant, outward and inward. -/
def outward (n : Nat) : List Nat := lineTo n (innerRegion n) 1
def inward (n : Nat) : List Nat := lineTo (innerRegion n) n 1

/-- The routers that a packet passes from one node to another on a spine route (R325, R327). -/
def routersOn (src dest : Nat) (route : BitVec 32) : List Nat :=
  if src < 64 ∧ dest < 64 ∧ quadrantOf src = quadrantOf dest then meshPath src dest
  else
    (if src < 64 then outward src else [])
    ++ (match attach src with
      | some (sw, _) => walkSpine 8 sw route
      | none => [])
    ++ (if dest < 64 then inward dest else [])

/-- The packet needs no spine route. -/
def inQuadrant (src dest : Nat) : Bool := src < 64 && dest < 64 && quadrantOf src = quadrantOf dest

/-- The route back that a packet has gathered: nibble i is nibble 7 - i of its ROUTE, for i below HOPS, the others
0xF (R327, R335). -/
def routeBack (route : BitVec 32) (hops : Nat) : BitVec 32 :=
  (List.range 8).foldl (fun acc i =>
    acc ||| (BitVec.ofNat 32 (if i < hops then (route >>> (4 * (7 - i))).toNat % 16 else 15) <<< (4 * i))) 0

/-! ### Route tables and masks (R328, R334, R336) -/

/-- The routes that an interface holds for a destination; none named: neither. -/
def State.routesOf (s : State) (node dest : Nat) : Route :=
  match s.bundle with
  | some b => (b.routes.find? (fun r => r.node = node && r.dest = dest)).getD {}
  | none => { primary := Config.bootRoute node dest }

/-- Router state: 0 IN, 1 DRAINING, 2 OUT. -/
def State.routerSt (s : State) (x : Nat) : Nat := s.rd (0x6010 + x) 0x01

/-- The routers that every way between two nodes passes: the mesh path inside a quadrant; else the mesh rows of its
regions and the switches at which its nodes meet the spine. -/
def surelyOn (src dest : Nat) : List Nat :=
  let ends (n : Nat) : List Nat := (if n < 64 then outward n else []) ++ (match attach n with
    | some (sw, _) => [switchRouter sw]
    | none => [])
  if inQuadrant src dest then meshPath src dest else ends src ++ ends dest

/-- No mask bit is set on the way (R336). The spec does not give the routes before the first bundle, and gives open
accesses an answer from power-up on (R120): until then only the routers that every way passes can cut it (log entry
53). -/
def State.routeClear (s : State) (src dest : Nat) (route : BitVec 32) : Bool :=
  let clear (l : List Nat) : Bool := l.all (fun x => s.routerSt x = 0)
  if inQuadrant src dest || s.bundle.isNone then clear (surelyOn src dest)
  else route ≠ 0xFFFFFFFF && clear (routersOn src dest route)

/-- What an interface does with a new request to a destination: network status 0 and the route it takes; 2 for a
region whose bit is set in the closed-region mask (R338); 1 when neither route is clear (R336). -/
def State.requestStatus (s : State) (node dest : Nat) : Nat × BitVec 32 :=
  let r := s.routesOf node dest
  if dest < 64 ∧ s.rd (0x6060 + dest) 0x01 ≠ 0 then (2, 0)
  else if s.routeClear node dest r.primary then (0, r.primary)
  else if s.routeClear node dest r.alternate then (0, r.alternate)
  else (1, 0)

/-- The route of a response: routers that drain or are out still accept it (R334). An interface with a request to that
destination unanswered keeps the route of that request, for all its packets there (R328). -/
def State.responseRoute (s : State) (node dest : Nat) : BitVec 32 :=
  let r := s.routesOf node dest
  match s.outReqs.find? (fun x => x.node = node && x.dest = dest && x.sent) with
  | some x => x.route
  | none =>
  if s.routeClear node dest r.primary ∨ r.alternate = 0xFFFFFFFF then r.primary
  else if s.routeClear node dest r.alternate then r.alternate
  else r.primary

/-- Units that pass routers are counted (Table 10-8). -/
def State.carry (s : State) (routers : List Nat) (units : Nat) : State :=
  routers.foldl (fun s x => s.bumpBy 64 (0x6010 + x) 0x05 units) s

/-- A network status other than 0 given by an interface is counted, and its cause raised (Table 10-8, R341). -/
def State.countNstat (s : State) (nstat : Nat) : State :=
  if nstat = 1 then (s.bump 64 0x6003 0x01).raiseOnce 165 clsNetwork 0xA03 0
  else if nstat = 2 then s.bump 64 0x6003 0x02
  else if nstat = 3 then (s.bump 32 0x6003 0x03).raiseOnce 167 clsNetwork 0xA05 1
  else s

/-! ### Packets -/

/-- The memory-layer address of a packet (Table 4-3). -/
def addrView (a : Nat) : Nat := a / 2 ^ 29 % 4
def addrBank (a : Nat) : Nat := a / 2 ^ 17 % 4096
def addrWord (a : Nat) : Nat := a / 8 % 16384
def addrLane (a : Nat) : Nat := a % 8

/-- Enabled bytes of the first and of the last word of an access (R330). -/
def firstMask (lane : Nat) : Nat := 256 - 2 ^ lane
def lastMask (last : Nat) : Nat := 2 ^ (last + 1) - 1

/-- The data words of a packet (R330). -/
def packetWords (p : Packet) : List Word64 :=
  p.units.flatMap (fun u => [u.extractLsb' 0 64, u.extractLsb' 64 64])

/-- Two words form a data unit. -/
def wordUnits : List Nat → List (BitVec 128)
  | [] => []
  | [a] => [BitVec.ofNat 128 a]
  | a :: b :: l => BitVec.ofNat 128 (a + b * 2 ^ 64) :: wordUnits l

/-- The status unit: bits [4i + 3:4i] hold the status of word i (R330). -/
def statusUnit (l : List Nat) : BitVec 128 :=
  BitVec.ofNat 128 (l.foldr (fun st acc => st % 16 + 16 * acc) 0)

/-- A response packet of a target to the requester (Table 10-3). -/
def responseTo (p : Packet) (route : BitVec 32) (lp : Bool) (nstat addr : Nat) (units : List (BitVec 128)) : Packet :=
  { route := route
    dest := p.src
    src := p.dest
    cmd := p.cmd + 0x80
    tag := p.tag
    hops := 0
    last := if lp then 4 else 0
    wcnt := nstat
    addr := addr
    units := units }

/-- The response header that a router makes of a request that it bounces, as the request stands there (R335, R327). -/
def bounceOf (p : Packet) (nstat : Nat) : Packet :=
  { route := routeBack p.route p.hops
    dest := p.src
    src := p.dest
    cmd := p.cmd + 0x80
    tag := p.tag
    hops := 0
    last := 4
    wcnt := nstat
    addr := 0
    units := [] }

/-- The way over the spine of a packet as its sender hands it to the network; none needed: no switch, no missing
port. -/
def spineOf (p : Packet) : Journey :=
  if inQuadrant p.src p.dest then { packet := p }
  else match attach p.src with
    | some (sw, port) => spineFrom 8 sw port p
    | none => { packet := p }

/-- A packet handed to the network by an interface. Its units are counted as it arrives. One that meets a switch
whose port does not exist goes no further (R327): a request is bounced there with NSTAT 4, a response is
discarded there. -/
def State.sendPacket (s : State) (p : Packet) : State :=
  let j := spineOf p
  if !j.noPort then s.emit (.packet p)
  else
    let s := s.carry ((if p.src < 64 then outward p.src else []) ++ j.routers) (1 + p.units.length)
    if 0x80 ≤ p.cmd then s.bump 32 (0x6010 + j.routers.getLastD 0) 0x04
    else s.emit (.packet (bounceOf j.packet 4))

/-- The target answers with packets: addresses and units, the last with LP = 1. -/
def State.respond (s : State) (p : Packet) (trains : List (Nat × List (BitVec 128))) : State :=
  let route := s.responseRoute p.dest p.src
  (List.range trains.length).foldl (fun s i =>
    let x := trains.getD i (0, [])
    s.sendPacket (responseTo p route (i + 1 = trains.length) 0 x.1 x.2)) s

/-- A request that the target does not serve (R331, R338). -/
def State.respondBad (s : State) (p : Packet) (nstat : Nat) : State :=
  (s.countNstat nstat).sendPacket (responseTo p (s.responseRoute p.dest p.src) true nstat 0 [])

/-- Response trains: up to 16 words a packet, whose ADDR is that of its first word, step on from packet to packet
(Tables 10-3 and 10-4). -/
def trainsBy (step addr : Nat) (words : List (Nat × List Byte)) : List (Nat × List (BitVec 128)) :=
  let parts := chunks 16 (words.length + 1) words
  (List.range parts.length).map (fun i =>
    let l := parts.getD i []
    (addr + step * i, statusUnit (l.map Prod.fst) :: wordUnits (l.map (fun w => bytesNat w.2))))

/-- The trains of a read at a byte address. -/
def readTrains (addr : Nat) (words : List (Nat × List Byte)) : List (Nat × List (BitVec 128)) := trainsBy 128 addr words

/-- The trains of a keep-store read: ADDR is a line number, and 16 words are two lines (R330). -/
def keepTrains (line : Nat) (words : List (Nat × List Byte)) : List (Nat × List (BitVec 128)) := trainsBy 2 line words

/-- The open-port master of a requester's node (Table 4-2). -/
def masterOf (src : Nat) : Nat :=
  if src < 64 then 5
  else if src = 0x050 then 0
  else if src < 0x080 then 1
  else if 0x100 ≤ src ∧ src ≤ 0x13F then 3
  else if 0x140 ≤ src ∧ src ≤ 0x14F then 2
  else 4

/-- R109, R330: the words of an open access are well named: 1 to 32 of them, a single one enables LANE up to LAST, and
a bank's last word is not passed. -/
def wordsOk (addr wcnt last : Nat) : Bool :=
  wcnt < 32 && last < 8 && (wcnt ≠ 0 || addrLane addr ≤ last) && addrWord addr + wcnt ≤ 16383

/-- The words of a read or write request to a region are well named. -/
def packetRangeOk (p : Packet) : Bool := wordsOk p.addr p.wcnt p.last

/-- WCNT and LAST of a request are values of their fields (R329). -/
def fieldsOk (p : Packet) : Bool := p.wcnt < 32 && p.last < 8

/-- A read of a look-back controller ends inside its stack, of 2^38 bytes (R19, R245, R330). -/
def stackRangeOk (p : Packet) : Bool := fieldsOk p && p.addr % 2 ^ 38 / 8 + p.wcnt < 2 ^ 35

/-- The lines of a keep-store request exist: the keep die holds 4 GiB in 64-byte lines (R1, R330), and its controller
is the one way to them (R20). Spare lines are not addressable (Table 17-5). A line that does not exist is answered with NSTAT 4: DESIGN CHOICE (log entry 148). -/
def keepRangeOk (p : Packet) : Bool :=
  fieldsOk p && p.addr % 2 ^ 32 + p.wcnt / 8 < 2 ^ 26
    && (List.range (p.wcnt / 8 + 1)).all (fun i => (keepArea (p.addr % 2 ^ 32 + i)).1 ≠ .spare)

/-! ### What an interface holds (R328, R332, R333) -/

/-- Response slots of an interface: each has at least one (R332). -/
def responseSlots (node : Nat) : Nat := Config.responseSlots node + 1

/-- Requests of an interface that await their last response packet: each holds one response slot. -/
def State.outstanding (s : State) (node : Nat) : Nat := (s.outReqs.filter (fun x => x.node = node)).length

/-- Those of them to one destination: each holds one credit. -/
def State.creditsUsed (s : State) (node dest : Nat) : Nat :=
  (s.outReqs.filter (fun x => x.node = node ∧ x.dest = dest)).length

/-- Credits that the bundle gives an interface for a destination. -/
def State.creditsFor (s : State) (node dest : Nat) : Nat :=
  match s.bundle with
  | some b => ((b.credits.find? (fun c => c.node = node && c.dest = dest)).map Credit.count).getD 0
  | none => 0

/-- The interface has requests to the destination that are not answered on another route, or that wait: it sends all
packets to one destination on one route, in order (R328). -/
def State.otherRoute (s : State) (node dest : Nat) (route : BitVec 32) : Bool :=
  s.outReqs.any (fun x => x.node = node && x.dest = dest && (!x.sent || x.route ≠ route))

/-- The routers that a packet passed to where it arrives. -/
def passedBy (p : Packet) : List Nat :=
  if inQuadrant p.src p.dest then meshPath p.src p.dest else routersOn p.dest p.src (routeBack p.route p.hops)

/-- A node whose requests its own commands account for: a user kernel (R384). -/
def accountsItself (node : Nat) : Bool :=
  (0x100 ≤ node && node ≤ 0x13F) || (0x140 ≤ node && node ≤ 0x14F)

/-- A request that arrives has been sent: its interface holds a slot and a credit for it until its last response packet
(R332). A user kernel's SEND has taken them. -/
def State.heard (s : State) (p : Packet) : State :=
  if accountsItself p.src || s.outReqs.any (fun x => x.node = p.src && x.tag = p.tag && x.dest = p.dest) then s
  else { s with outReqs := s.outReqs ++ [{
    node := p.src
    dest := p.dest
    tag := p.tag
    cmd := p.cmd
    packet := p
    route := (s.requestStatus p.src p.dest).2 }] }

/-- A request has come to its target. -/
def State.arrived (s : State) (p : Packet) : State := (s.carry (passedBy p) (1 + p.units.length)).heard p

/-- The words of a network read of look-back lines (R272): each line is read once (R277). -/
def State.lineWords (s : State) (k addr m : Nat) : List (Nat × List Byte) × State :=
  if s.rd 0x5801 (k + 1) ≠ 2 then (List.replicate m (9, List.replicate 8 0), s)
  else
    let first := addr / 64
    let last := (addr / 8 + m - 1) / 8
    let (lines, s) := (List.range (last + 1 - first)).foldl (fun acc i =>
      let (cls, data, s) := acc.2.readLine k (first + i)
      (acc.1 ++ [(cls, data)], s)) (([], s) : List (Nat × List Byte) × State)
    ((List.range m).map (fun i =>
      let a := addr / 8 * 8 + 8 * i
      let (cls, data) := lines.getD (a / 64 - first) (0, [])
      let st := if cls = lnUncorrectable then 4 else if cls = lnAddressFault then 5 else cls
      (st, if 2 ≤ cls then List.replicate 8 0 else (data.drop (a % 64)).take 8)), s)

/-- A line of an image slot, as the image was received (R510); what stands past its end is an outside value. -/
def State.imageLine (s : State) (j x first a : Nat) : BitVec 512 :=
  let rest := ((s.image j x).bytes.drop (64 * (a - first))).take 64
  if rest.isEmpty then Config.keepLine a
  else BitVec.ofNat 512 (bytesNat (rest ++ (natBytes 64 (Config.keepLine a).toNat).drop rest.length))

/-- A line of the keep store, in raw mode (R330, R509): what the network wrote to it, else what the device keeps in its
area. -/
def State.keepLine (s : State) (a : Nat) : BitVec 512 :=
  match Sparse.get (fun _ => none) s.keepLines a with
  | some v => v
  | none => match keepArea a with
    | (.image j x, first) => s.imageLine j x first a
    | (.spare, _) => Config.keepLine a
    | (area, _) => Config.areaLine a (s.areaContent area)

/-- Keep-store words. -/
def State.keepWords (s : State) (line m : Nat) : List (Nat × List Byte) :=
  (List.range m).map (fun i =>
    (0, (natBytes 64 (s.keepLine (line + i / 8)).toNat).drop (i % 8 * 8) |>.take 8))

/-- A read of a look-back controller is answered (R330, R272). -/
def State.serveLines (s : State) (p : Packet) : State :=
  let (words, s) := s.lineWords (p.dest - 0x080) (p.addr % 2 ^ 38) (p.wcnt + 1)
  s.respond p (readTrains p.addr words)

/-- The nodes whose requests the keep-store controller accepts: 0x158 to 0x15F (R330). -/
def systemNode (n : Nat) : Bool := 0x158 ≤ n && n ≤ 0x15F

/-- Words written into keep-store lines. -/
def State.keepWrite (s : State) (line : Nat) (words : List Word64) (last : Nat) : State :=
  (List.range words.length).foldl (fun s i =>
    let a := line + i / 8
    let en := if i + 1 = words.length then lastMask last else 255
    let old := natBytes 64 (s.keepLine a).toNat
    let new := natBytes 8 (words.getD i 0).toNat
    let bytes := (List.range 64).map (fun j =>
      if j / 8 = i % 8 ∧ en.testBit (j % 8) then new.getD (j % 8) 0 else old.getD j 0)
    { s with keepLines := Sparse.set (fun _ => none) s.keepLines a (some (BitVec.ofNat 512 (bytesNat bytes))) }) s

/-- A keep-store access that reaches its target, and is legal, is done (R330). -/
def State.serveKeep (s : State) (p : Packet) : State :=
  let s := s.work 3 0
  if p.cmd = 0x02 then
    let data := (packetWords p).take (p.wcnt + 1)
    (s.keepWrite (p.addr % 2 ^ 32) data p.last).respond p [(0, [statusUnit (List.replicate data.length 0)])]
  else s.respond p (keepTrains p.addr (s.keepWords (p.addr % 2 ^ 32) (p.wcnt + 1)))

/-- A request is refused by the interface that it reached: with NSTAT 2 where that is the interface of a region that is
CLOSING or CLOSED (R338), else with 4 (R331). -/
def State.refuseAt (s : State) (p : Packet) : State :=
  s.respondBad p (if p.dest < 64 ∧ s.rd (0x6060 + p.dest) 0x01 ≠ 0 then 2 else 4)

/-- Request x, which is held, holds up request p: one of the same requester to the same target (R328), or an earlier
retrieval of it (R274). -/
def holdsUp (x : HeldReq) (p : Packet) : Bool :=
  x.who.isNone && x.packet.src = p.src && (x.packet.dest = p.dest || (x.packet.cmd = 0x04 && p.cmd = 0x04))

/-- Request p must wait behind one that is held. -/
def State.mustWait (s : State) (p : Packet) : Bool := s.heldReqs.any (fun x => holdsUp x p)

/-- A request that its target holds. -/
def State.holdReq (s : State) (p : Packet) : State := { s with heldReqs := s.heldReqs ++ [{ packet := p }] }

/-- A keep-store access waits while domain KEEP is stopped (R444). -/
def State.keepAccess (s : State) (p : Packet) : State :=
  if s.domSt 3 = 1 && !s.mustWait p then s.serveKeep p else s.holdReq p

/-- A read request at its target (R330). One of a look-back controller waits while domain LBIF is stopped, as a BAR2
read does (R272, R444). -/
def State.nocRead (s : State) (p : Packet) (waits : Nat) : State :=
  let s := s.arrived p
  let d := p.dest
  if d < 64 then
    if s.rd (0x6060 + d) 0x01 ≠ 0 then s.respondBad p 2
    else if !packetRangeOk p ∨ p.units ≠ [] ∨ p.addr / 2 ^ 23 % 64 ≠ d then s.respondBad p 4
    else
      let s := (s.countConflicts (quadrantOf d) (masterOf p.src) waits).bump 64 (0x6060 + d) 0x02
      let (words, s) := s.openRead (addrBank p.addr) (addrWord p.addr) (p.wcnt + 1) (firstMask (addrLane p.addr))
        (lastMask p.last) (addrView p.addr)
      s.respond p (readTrains p.addr words)
  else if 0x080 ≤ d ∧ d ≤ 0x087 then
    if p.units ≠ [] ∨ !stackRangeOk p then s.respondBad p 4
    else if s.lbif.isSome || s.mustWait p then s.holdReq p
    else s.serveLines p
  else if d = 0x090 ∧ systemNode p.src ∧ p.units = [] ∧ keepRangeOk p then
    s.keepAccess p
  else s.respondBad p 4

/-- A write request at its target (R330). -/
def State.nocWrite (s : State) (p : Packet) (waits : Nat) : State :=
  let s := s.arrived p
  let d := p.dest
  let lenOk : Bool := p.units.length = (p.wcnt + 2) / 2
  let data := (packetWords p).take (p.wcnt + 1)
  if d < 64 then
    if s.rd (0x6060 + d) 0x01 ≠ 0 then s.respondBad p 2
    else if !packetRangeOk p ∨ !lenOk ∨ p.addr / 2 ^ 23 % 64 ≠ d then s.respondBad p 4
    else
      let s := (s.countConflicts (quadrantOf d) (masterOf p.src) waits).bump 64 (0x6060 + d) 0x02
      let (sts, s) := s.openWrite (addrBank p.addr) (addrWord p.addr) (firstMask (addrLane p.addr)) (lastMask p.last)
        (addrView p.addr) data
      s.respond p [(0, [statusUnit sts])]
  else if d = 0x090 ∧ systemNode p.src ∧ lenOk ∧ keepRangeOk p then
    s.keepAccess p
  else s.respondBad p 4

/-- Fields of a retrieval request (Table 8-6). -/
def reqCount (u : BitVec 128) : Nat := (u.extractLsb' 96 10).toNat
def reqFirst (u : BitVec 128) : Nat := (u.extractLsb' 64 10).toNat
def reqEra (u : BitVec 128) : Nat := (u.extractLsb' 48 4).toNat
def reqXn (u : BitVec 128) : Nat := (u.extractLsb' 0 48).toNat

/-- The response of a retrieval as packets of 16 units (Table 10-4). -/
def retrievalTrains (bytes : List Byte) : List (Nat × List (BitVec 128)) :=
  (chunks 256 (bytes.length + 1) bytes).map (fun l =>
    (0, (chunks 16 17 l).map (fun u => BitVec.ofNat 128 (bytesNat u))))

/-- The node of a kernel (R368, Table 12-1). -/
def kernelNode (k : Nat) : Nat :=
  if k < 64 then 0x100 + k else if k < 80 then 0x140 + (k - 64) else if k < 88 then 0x150 + (k - 80)
  else if k < 93 then 0x158 + (k - 88) else 0x15F

/-- The kernel of a node. -/
def nodeKernel (d : Nat) : Option Nat := (List.range 94).find? (fun k => kernelNode k = d)

/-- A message is taken into the inbox of kernel k, and answered; none while the inbox holds 16 (R385). -/
def State.takeMessage (s : State) (k : Nat) (p : Packet) : Bool × State :=
  if k < 80 ∧ 16 ≤ (s.kernel k).inbox.length then (false, s)
  else
    let s := s.bump 64 (0x6810 + k) 0x0A
    let s := if k < 80 then s.setKernel k { s.kernel k with inbox := (s.kernel k).inbox ++ [p] } else s
    (true, s.respond p [(0, [])])

/-- A held retrieval is tried: answered and dropped, or still held (R22). A message waits for room in its inbox. A held look-back
read waits for domain LBIF only, a keep-store access for domain KEEP (R444). -/
def State.tryHeld (s : State) (h : HeldReq) : Bool × State :=
  let u := h.packet.units.headD 0
  if h.packet.cmd = 0x03 then s.takeMessage ((nodeKernel h.packet.dest).getD 0) h.packet
  else if h.packet.dest = 0x090 then (if s.domSt 3 = 1 then (true, s.serveKeep h.packet) else (false, s))
  else if h.packet.cmd = 0x01 then (if s.lbif.isSome then (false, s) else (true, s.serveLines h.packet))
  else match s.retrieveAll (h.packet.dest - 0x080) (reqXn u) (reqEra u) (reqFirst u) (reqCount u) with
  | (some bytes, t) => (true, t.respond h.packet (retrievalTrains bytes))
  | (none, _) => (false, s)

/-- A retrieval request reaches a look-back controller (R270, R22). It waits behind requests of its requester that are
held (R274, R328). -/
def State.nocRetrieve (s : State) (p : Packet) : State :=
  let s := s.arrived p
  if p.dest < 0x080 ∨ 0x087 < p.dest ∨ p.units.length ≠ 1 then s.refuseAt p
  else
    match s.tryHeld { packet := p } with
    | (true, t) => if s.mustWait p then s.holdReq p else t
    | (false, t) => (t.bump 64 0x5850 0x03).holdReq p

/-- Held packets are answered as slots are written, each requester's in order (R22, R274, R328); a retrieval held for the
dictionary (R273) is answered by State.serveRecords. -/
def State.serveHeld (s : State) : State :=
  s.heldReqs.foldl (fun s h =>
    if h.who.isSome ∨ s.mustWait h.packet then { s with heldReqs := s.heldReqs ++ [h] }
    else match s.tryHeld h with
      | (true, t) => t
      | (false, t) => { t with heldReqs := t.heldReqs ++ [h] }) { s with heldReqs := [] }

/-! ### Routers out of service (R334, R335) -/

/-- Router masks as 0x6004 shows them. -/
def State.showMasks (s : State) : State :=
  let s := s.wr 0x6004 0x01 (maskOf 64 (fun r => s.routerSt r ≠ 0))
  s.wr 0x6004 0x02 (maskOf 5 (fun r => s.routerSt (64 + r) ≠ 0))

def State.setRouter (s : State) (x st : Nat) : State := (s.wr (0x6010 + x) 0x01 st).showMasks

/-- Router command 1: a drain. -/
def State.drainRouter (s : State) (x : Nat) : State := if s.routerSt x = 0 then s.setRouter x 1 else s

/-- The drain timeout: forced OUT, the packets held are discarded. -/
def State.forceOut (s : State) (x held : Nat) : State :=
  if s.routerSt x ≠ 1 then s
  else
    let s := (s.setRouter x 2).bumpBy 32 (0x6010 + x) 0x04 held
    if x < 64 then s.raise (160 + quadrantOf x) clsNetwork 0xA01 1 else s.raise 164 clsNetwork 0xA02 1

/-- The element before x in a list. -/
def before (x : Nat) (l : List Nat) : Option Nat := ((l.zip (l.drop 1)).find? (fun y => y.2 = x)).map Prod.fst

/-- The way back to its sender of a request that stands at switch sw: the switches, then the sender's mesh row. -/
def backFrom (sw : Nat) (p : Packet) : List Nat :=
  walkSpine p.hops sw (routeBack p.route p.hops) ++ (if p.src < 64 then inward p.src else [])

/-- The router at whose output port a request waits that router x refuses; none: no router, the sender's own
interface (R335). -/
def waitsAt (x port : Nat) (p : Packet) : Option Nat :=
  if inQuadrant p.src p.dest then before x (meshPath p.src p.dest)
  else if p.hops = 0 then (if p.src < 64 then before x (outward p.src ++ [64 + quadrantOf p.src]) else none)
  else if x < 64 then before x ((64 + quadrantOf x) :: inward p.dest)
  else ((List.range 5).find? (fun w => (nextSwitch w port).map Prod.fst = some (x - 64)
    && (backFrom w p).contains ((attach p.src).elim 0 (fun a => switchRouter a.1)))).map switchRouter

/-- The routers that a bounce passes, the waiting one first (R325, R335). -/
def bouncePath (x port : Nat) (p : Packet) : List Nat :=
  match waitsAt x port p with
  | none => []
  | some w =>
    if 64 ≤ w then backFrom (w - 64) p
    else if p.src < 64 ∧ quadrantOf p.src = quadrantOf w then meshPath w p.src
    else outward w ++ backFrom (quadrantOf w) p

/-- A packet refused for 2 µs by router x: the router before it, at whose port it waits, bounces a request, and the
bounce is a response; a response is discarded (R335). Only a router that is OUT refuses a response (R334). -/
def State.bounce (s : State) (x port : Nat) (p : Packet) : State :=
  if 0x80 ≤ p.cmd then (if s.routerSt x = 2 then s.bump 32 (0x6010 + x) 0x04 else s)
  else if s.routerSt x = 0 then s
  else
    let path := bouncePath x port p
    let s := s.carry (if inQuadrant p.src p.dest then (meshPath p.src p.dest).takeWhile (fun y => y ≠ x) else path)
      (1 + p.units.length)
    let s := (s.bump 32 (0x6010 + x) 0x03).countNstat 1
    match (path.drop 1).find? (fun y => s.routerSt y = 2) with
    | some y => (s.carry (path.takeWhile (fun z => z ≠ y)) 1).bump 32 (0x6010 + y) 0x04
    | none => (s.carry path 1).emit (.packet (bounceOf p 1))

/-! ### Closing a region (R338) -/

/-- CLOSING begins. -/
def State.closeRegion (s : State) (n : Nat) : State := s.wr (0x6060 + n) 0x01 1

/-- CLOSED. -/
def State.regionClosed (s : State) (n durationNs : Nat) : State :=
  (s.wr (0x6060 + n) 0x01 2).wr (0x6060 + n) 0x03 (durationNs % 2 ^ 32)

/-- A ROUTE value of a table: at most 7 hops, its unused nibbles 0xF (R328). -/
def routeFormOk (route : BitVec 32) : Bool :=
  let nibs := (List.range 8).map (fun i => (route >>> (4 * i)).toNat % 16)
  (nibs.dropWhile (fun x => x ≠ 15)).all (fun x => x = 15) && nibs.getD 7 0 = 15

/-- The routes of a table one by one: node, destination, primary or alternate, ROUTE; "none" is no route. -/
def routeList (l : List Route) : List (Nat × Nat × Bool × BitVec 32) :=
  (l.flatMap (fun r => [(r.node, r.dest, false, r.primary), (r.node, r.dest, true, r.alternate)])).filter
    (fun r => r.2.2.2 ≠ 0xFFFFFFFF)

/-- R337: the route tables of a bundle differ from the active ones on a route through a router that is IN. -/
def State.tablesRefused (s : State) (b : Bundle) : Bool :=
  match s.bundle with
  | none => false
  | some a =>
    let old := routeList a.routes
    let new := routeList b.routes
    let through (r : Nat × Nat × Bool × BitVec 32) : Bool :=
      (routersOn r.1 r.2.1 r.2.2.2).any (fun x => s.routerSt x = 0)
    old.any (fun r => !new.contains r && through r) || new.any (fun r => !old.contains r && through r)

end Sys2Proof.Machine
end

