-- ==== Sys2Proof/Machine/SwitchCore.lean ====
section
/-! DEFINITION. SwitchCore.lean: switch slots, golden switches, migrations, and the power states of regions
(R142 to R170, R84, R120, R452). -/

namespace Sys2Proof.Machine

/-! ### The step of the start (R529, R530) -/

/-- The step in progress. -/
def State.startStep (s : State) : Nat := s.rd 0x1100 0x04
def State.atStep (s : State) (n : Nat) : State := s.wr 0x1100 0x04 n

/-- A step fails: the device stops at it (R530). -/
def State.stopAt (s : State) (n : Nat) : State :=
  ((s.wr 0x1100 0x04 0xFE).wr 0x1100 0x07 n).raise 336 clsConfig 0x1201 1 n

/-! ### Switch slots -/

/-- A field of switch slot k (Table 5-8). -/
def State.slot (s : State) (k sub : Nat) : Nat := s.rd (0x4210 + k) sub
def State.slotArmed (s : State) (k : Nat) : Bool := s.slot k 0x06 = 1
/-- Slot k is armed, or its arm waits for the mirror's confirmation (R165, R304). -/
def State.slotTaken (s : State) (k : Nat) : Bool := s.slotArmed k || s.pair.confirm.any (fun c => c.1 = k)
def State.slotNames (s : State) (k n : Nat) : Bool := s.rdBit (0x4210 + k) 0x01 n
/-- Regions that a slot names. -/
def State.slotRegions (s : State) (k : Nat) : List Nat := bitsOf 64 (s.slot k 0x01)
/-- The 16 slots and the 16 entries of the migration map. -/
def slotNos : List Nat := List.range 16

/-- Migration entry e is armed, in its overlap or reverting. -/
def State.migOpen (s : State) (e : Nat) : Bool := s.mig e 0x01 ≠ 0xFF && s.rd 0x4240 0x05 = e
/-- Migration entry e names region n. -/
def State.migNames (s : State) (e n : Nat) : Bool := s.mig e 0x01 = n || s.mig e 0x04 = n

/-- Planes of region n that the open migration switches to. -/
def State.migTargets (s : State) (n : Nat) : List Nat :=
  slotNos.flatMap (fun e =>
    if s.migOpen e then
      if s.mig e 0x01 = n then [if s.migReverting then s.mig e 0x02 else s.mig e 0x03]
      else if s.mig e 0x04 = n then
        (if s.migReverting then (s.region n).beforeMigration.toList else [s.mig e 0x05])
      else []
    else [])

/-- Planes to which slots other than k that are armed, or are about to be, switch region n. -/
def State.slotTargets (s : State) (k n : Nat) : List Nat :=
  (slotNos.filter (fun j => j ≠ k && s.slotTaken j && s.slotNames j n)).map (fun j => s.slot j 0x03)

/-- R84 at arming: some span would have two enabled drivers, over the plane of every region after the switch and
the targets of every other armed switch and migration in flight. -/
def State.armConflict (s : State) (k : Nat) (planeOf : Nat → Nat) : Bool :=
  let cand (n : Nat) : List Nat := (planeOf n :: s.slotTargets k n ++ s.migTargets n).filter (fun p => p < 8)
  let drives (n : Nat) : List Nat := ((cand n).flatMap (fun p => (s.plane n p).summary)).eraseDups
  s.spanConflict planeOf ||
    regionNos.any (fun n => (drives n).any (fun d => regionNos.any (fun m => m < n && (drives m).contains d)))

/-- The banks of the marches that run, and whether each is marched. -/
def State.marching (s : State) (bank : Nat) : Bool :=
  match Sparse.get (fun _ => none) s.march (quadrantOf (bank / 64)) with
  | some (_, l) => l.contains bank
  | none => false

/-- Plane p of region n sets PA or PB on bank b. -/
def State.planePorts (s : State) (n p b : Nat) : Bool :=
  let d := (s.plane n p).net.descriptors.getD b 0
  dPA d || dPB d

/-- A stream in progress initialises banks of region n. -/
def State.loadInits (s : State) (n : Nat) : Bool :=
  s.load.active && (fieldAt s.load.header 12 4).testBit 2 && (fieldAt s.load.header 16 8).testBit n

/-- Continuous wave indices of two waves lie less than 16 crossings apart. -/
def State.tooClose (s : State) (a b : Nat) : Bool :=
  let x := s.idxOf a
  let y := s.idxOf b
  x < y + 16 * s.S && y < x + 16 * s.S

/-- Entry e of the migration map is completed, and has not been reverted (R164). -/
def State.unreverted (s : State) (e : Nat) : Bool := s.mig e 0x07 = 3 || s.mig e 0x07 = 4

/-- The reason for which R148 refuses a switch of a set of regions to planes at a wave, 0 for none; others gives the
planes of the other regions then, k is the slot (16: none), lead whether the switch lead is checked, power whether a
region that is OFF is allowed (R160). A region whose power-off is accepted is in no state for a switch (DESIGN CHOICE,
log entry 139). While a migration that the device times has no W yet, a slot that names one of its regions has reason
5 (DESIGN CHOICE, log entry 140). Where several conditions hold, the lowest reason code is given (DESIGN CHOICE, log
entry 224). -/
def State.armReason (s : State) (k : Nat) (named : List Nat) (target others : Nat → Nat) (keep : Nat → Bool) (w : Nat)
    (lead power : Bool) : Nat :=
  let planeOf (n : Nat) : Nat := if named.contains n then target n else others n
  if waveStep w ≥ s.S ∨ 2 ^ 54 ≤ w ∨ !waveLater s.wave w ∨ (lead ∧ !laterByCrossings (s.rd 0x4200 0x02) s.wave w) then 1
  else if named.isEmpty then 2
  else if named.any (fun n => (s.regState n = rOff && !power) || s.regState n = rFilling || s.loadInits n
      || (s.region n).closing) then 2
  else if named.any (fun n => s.planeState n (target n) ≠ 2) then 3
  else if named.any (fun n => keep n && s.activePlane n < 8
      && (s.plane n (s.activePlane n)).layout ≠ (s.plane n (target n)).layout) then 4
  else if slotNos.any (fun j => j ≠ k && s.slotTaken j && named.any (s.slotNames j) && s.tooClose w (s.slot j 0x02))
      ∨ (k < 16 ∧ slotNos.any (fun e => s.migOpen e && named.any (s.migNames e)
          && (s.migWave = 0 || s.tooClose w s.migWave || s.tooClose w (waveSub s.S s.migWave (s.mig e 0x06))))) then 5
  else if s.armConflict k planeOf then 6
  else if named.any (fun n => (List.range 64).any (fun b => s.planePorts n (target n) b && s.marching (bankKey n b))) then 7
  else if named.any (fun n => (List.range 64).any (fun b =>
      s.planePorts n (target n) b && s.rdBit (0x5000 + n) 0x0B b)) then 8
  else if k < 16 ∧ slotNos.any (fun e => s.unreverted e && named.any (s.migNames e)) then 9
  else 0

/-- A slot decided: armed, or refused with its reason (R148); a span conflict raises its cause (R84). -/
def State.setArmed (s : State) (k origin reason : Nat) : State :=
  let s := ((s.wr (0x4210 + k) 0x07 origin).wr (0x4210 + k) 0x08 reason).wr (0x4210 + k) 0x06
    (if reason = 0 then 1 else 3)
  if reason = 6 then s.raise (64 + (s.slotRegions k).headD 0) clsConfig 0x302 0 else s

/-- The reason for which slot k cannot be armed. -/
def State.slotReason (s : State) (k : Nat) (lead : Bool) : Nat :=
  s.armReason k (s.slotRegions k) (fun _ => s.slot k 0x03) s.activePlane (fun _ => s.slot k 0x04 = 0) (s.slot k 0x02) lead false

/-- Slot k armed, or refused. -/
def State.armSlot (s : State) (k origin : Nat) (lead : Bool) : State :=
  s.setArmed k origin (s.slotReason k lead)

/-- The lowest-numbered slot that is not armed (R169). -/
def State.freeSlot (s : State) : Option Nat := slotNos.find? (fun k => !s.slotTaken k)

/-- The fields of a slot that the device arms itself. -/
def State.fillSlot (s : State) (k mask w p mode : Nat) : State :=
  (((s.wr (0x4210 + k) 0x01 mask).wr (0x4210 + k) 0x02 w).wr (0x4210 + k) 0x03 p).wr (0x4210 + k) 0x04 mode

/-- An armed slot is cancelled. Where it holds the start-up switch, step 9 fails (R530, R531). -/
def State.cancelSlot (s : State) (k : Nat) : State :=
  let s : State := { s.wr (0x4210 + k) 0x06 4 with deferred := s.deferred.filter (fun x => x ≠ k) }
  if s.slot k 0x07 = 3 ∧ s.startStep = 9 then s.stopAt 9 else s

/-- An armed switch is cancelled by the device (R84: reason 6; R152: reason 0), with its cause. -/
def State.cancelSwitch (s : State) (k reason : Nat) : State :=
  let n := (s.slotRegions k).headD 0
  let s := ((s.cancelSlot k).wr (0x4210 + k) 0x08 reason).bump 32 0x4200 0x04
  let s := if reason = 6 then s.raise (64 + n) clsConfig 0x302 0 else s
  s.raise (64 + n) clsConfig 0x505 1

/-- Region n takes plane p at the wave w of a switch, as its state has it (Tables 5-2 and 5-6). A region whose new
plane sets PA or PB on a failed bank does not run it (R130; log entry 135). -/
def State.switchRegion (s : State) (n p mode w : Nat) : State :=
  let st := s.regState n
  let m := if st = rLoading then 1 else mode
  let s := s.activatePlane n p m w
  if st = rLoading then s.becomeActive n w true
  else if st = rActive ∧ s.portsFailed n then s.leaveActive n rHalted
  else if st = rActive ∧ m = 1 then s.setRegion n { s.region n with initWave := some (s.idxOf w) }
  else if st = rActive then s
  else s.setRegion n { s.region n with huskPlane := some p }

/-- Some region of a list has scrub passes to complete before a switch or resume of it takes effect (R195). -/
def State.mustDefer (s : State) (l : List Nat) : List Nat := l.filter (fun n => (s.region n).holdPasses ≠ 0)

/-- A switch or resume deferred, by its key; each deferral is recorded once. -/
def State.defer (s : State) (key : Nat) (regions : List Nat) : State :=
  if s.deferred.contains key then s
  else
    let s := { s with deferred := s.deferred ++ [key] }
    regions.foldl (fun s n => s.bump 32 (0x4340 + n) 0x07) s

/-- Wave w has come: it is the one injected next. In OFF, where there is no step clock, every wave of a crossing comes as
the crossing opens (DESIGN CHOICE, log entry 205). -/
def State.waveCome (s : State) (w : Nat) : Bool := s.nextWave = w || (s.engineSt = 0 && waveXn w = s.xn)

/-- The wave of a pending action has come, or the action was deferred past it. -/
def State.isDue (s : State) (key w : Nat) : Bool := s.waveCome w || s.deferred.contains key

/-- A deferred action taken. -/
def State.undefer (s : State) (key : Nat) : State := { s with deferred := s.deferred.filter (fun x => x ≠ key) }

/-- Slot k switches its regions from the wave injected next: it is armed, its wave has come, and nothing defers it. -/
def State.slotDue (s : State) (k : Nat) : Bool :=
  s.slotArmed k && s.isDue k (s.slot k 0x02) && (s.mustDefer (s.slotRegions k)).isEmpty

/-- Plane p of region n sets PA or PB on a bank that is under a march (R129), or that is marked failed (R130). -/
def State.planeBarred (s : State) (n p : Nat) : Bool :=
  (List.range 64).any (fun b => s.planePorts n p b && (s.marching (bankKey n b) || s.rdBit (0x5000 + n) 0x0B b))

/-- A golden switch of region n to plane g is not made, whatever the other planes are: the plane is not VALID, is barred,
or the region is in a completed migration that has not been reverted (R129, R130, R138, R164). -/
def State.goldenStopped (s : State) (n g : Nat) : Bool :=
  s.planeState n g ≠ 2 || s.planeBarred n g || slotNos.any (fun e => s.unreverted e && s.migNames e n)

/-- The golden plane of region n, where the wave of its golden switch is the one injected next (R155, Table 5-6). -/
def State.goldenComes (s : State) (n : Nat) : Option Nat :=
  match (s.region n).golden with
  | some (w, g, _) =>
    if s.isDue (96 + n) w && (s.region n).holdPasses = 0 && s.regState n ≠ rOff && s.regState n ≠ rFilling then some g
    else none
  | none => none

/-- The plane of region n's golden switch, where that is made from the wave injected next. -/
def State.goldenDue (s : State) (n : Nat) : Option Nat := (s.goldenComes n).filter (fun g => !s.goldenStopped n g)

/-- The region of migration entry e that runs both placements' work from W − k on: s, or f in a revert; and the one
that switches at W. -/
def State.migComing (s : State) (e : Nat) : Nat := s.mig e (if s.migReverting then 0x01 else 0x04)
def State.migLeaving (s : State) (e : Nat) : Nat := s.mig e (if s.migReverting then 0x04 else 0x01)

/-- The plane that region n runs once the migration in flight, entry e, is done. -/
def State.migAfter (s : State) (e n : Nat) : Nat :=
  if n = s.mig e 0x01 then (if s.migReverting then s.mig e 0x02 else s.mig e 0x03)
  else if n = s.mig e 0x04 then
    (if s.migReverting then (s.region n).beforeMigration.getD 0xFF else s.mig e 0x05)
  else s.activePlane n

/-- The regions that the next switch of the migration in flight names: at W − k also f, where it was HALTED at arming and
is so still (R163). -/
def State.migMovers (s : State) (e : Nat) : List Nat :=
  if s.migOverlap then [s.migLeaving e]
  else s.migComing e :: (if s.migHalted ∧ s.regState (s.migLeaving e) = rHalted then [s.migLeaving e] else [])

/-- Region n is switched by the migration in flight from the wave injected next. -/
def State.migDue (s : State) (n : Nat) : Bool :=
  let e := s.rd 0x4240 0x05
  e < 16 && s.migWave ≠ 0 && (s.migMovers e).contains n && (s.mustDefer (s.migMovers e)).isEmpty
    && (if s.migOverlap then s.isDue 201 s.migWave else s.isDue 200 (waveSub s.S s.migWave (s.mig e 0x06)))

/-- The plane that is active in region n from the wave injected next, every switch that takes place at that wave made
(R84). A switch that is itself cancelled at that wave counts until it is (DESIGN CHOICE, log entry 177). -/
def State.planeFrom (s : State) (n : Nat) : Nat :=
  match slotNos.find? (fun k => s.slotDue k && s.slotNames k n) with
  | some k => s.slot k 0x03
  | none =>
    match s.goldenDue n with
    | some g => g
    | none => if s.migDue n then s.migAfter (s.rd 0x4240 0x05) n else s.activePlane n

/-- A golden switch that the same wave brings is dropped by an armed switch (Table 5-6). -/
def State.dropGolden (s : State) (n : Nat) : State :=
  if (s.goldenComes n).isSome then (s.undefer (96 + n)).setRegion n { s.region n with golden := none } else s

/-- An armed switch at its wave (R149, R84). Of R195, only the passes owed after the return defer it: a wave that comes
before VC is back at 0.70 V does not wait (DESIGN CHOICE, log entry 186). -/
def State.performSwitch (s : State) (k : Nat) : State :=
  let named := s.slotRegions k
  let p := s.slot k 0x03
  let wait := s.mustDefer named
  if !s.slotArmed k ∨ !s.isDue k (s.slot k 0x02) then s
  else if !wait.isEmpty then s.defer k wait
  else if s.spanConflict s.planeFrom then s.cancelSwitch k 6
  else
    let s := s.undefer k
    let w := s.nextWave
    let s := named.foldl (fun s n => (s.dropGolden n).rearmAfterSwitch n) s
    let s := named.foldl (fun s n => s.switchRegion n p (s.slot k 0x04) w) s
    (s.wr (0x4210 + k) 0x06 2).bump 32 0x4200 0x03

/-! ### Golden planes and damage (R155 to R157, R194) -/

/-- A halt under R156, with the last crossing of the suspect window. -/
def State.damageHalt (s : State) (n dst : Nat) : State :=
  (s.wr (0x4100 + n) 0x1C dst).haltRegion n (64 + n)

/-- An uncorrectable frame that makes plane p of region n DAMAGED; clean is the crossing of the last read that found
the frame clean or corrected it, or that in which the plane's stream was accepted (R155 to R157, R152). -/
def State.planeDamaged (s : State) (n p clean : Nat) : State :=
  let active := s.activePlane n = p
  let golden := s.rd (0x4100 + n) 0x15
  let s := s.wr (0x4100 + n) (0x20 + p) 3
  if active then
    let s := s.wr (0x4100 + n) 0x1B (clean % 2 ^ 48)
    if s.rd (0x4100 + n) 0x17 = 1 ∧ golden ≠ 0xFF then
      let s := s.wr (0x4100 + n) 0x1C ((s.crossing + 1) % 2 ^ 48)
      let s := s.setRegion n { s.region n with
        golden := some (mkWave (s.crossing + 2) 0, golden, s.rd (0x4100 + n) 0x16) }
      (s.clearGolden n).raise (64 + n) clsConfig 0x501 1
    else (s.damageHalt n (s.crossing % 2 ^ 48)).raise (64 + n) clsConfig 0x502 2
  else
    let s := s.raise (64 + n) clsConfig 0x503 0
    let s := slotNos.foldl (fun s k =>
      if s.slotArmed k && s.slotNames k n && s.slot k 0x03 = p then s.cancelSwitch k 0 else s) s
    if golden = p then s.clearGolden n else s

/-- The golden switch of region n at its wave (R155, R84, R129, R130, R164). Where it is not made, the halt raises no
cause of its own (DESIGN CHOICE, log entry 141). A golden plane that has left VALID before the golden wave halts the
region at that wave (DESIGN CHOICE, log entry 226). -/
def State.goldenSwitch (s : State) (n : Nat) : State :=
  match (s.region n).golden with
  | none => s
  | some (w, g, mode) =>
    if !s.isDue (96 + n) w then s
    else if (s.region n).holdPasses ≠ 0 then s.defer (96 + n) [n]
    else
      let s := (s.undefer (96 + n)).setRegion n { s.region n with golden := none }
      if s.regState n = rOff ∨ s.regState n = rFilling then s
      else if slotNos.any (fun k => s.slotDue k && s.slotNames k n) && !s.spanConflict s.planeFrom then s
      else if s.goldenStopped n g ∨ s.spanConflict (fun m => if m = n then g else s.planeFrom m) then
        s.damageHalt n (s.crossing % 2 ^ 48)
      else
        ((s.rearmAfterSwitch n).switchRegion n g mode s.nextWave).bump 32 (0x4100 + n) 0x1E

/-! ### Power states (R142, R120, R452) -/

/-- A region that is OFF joins the queue of those to be switched on (R452); 0x2110:03 counts it. -/
def State.queuePower (s : State) (n : Nat) : State :=
  if s.regState n = rOff ∧ !s.thermal.queue.contains n then
    { s with thermal := { s.thermal with queue := s.thermal.queue ++ [n] } }
  else s

/-- The region at the head of the queue is switched on and begins its blank fill (R452, R120). -/
def State.switchOn (s : State) (n : Nat) : State :=
  let s := { s with thermal := { s.thermal with
    queue := s.thermal.queue.filter (fun x => x ≠ n)
    switched := (s.thermal.switched ++ [s.now]).drop (s.thermal.switched.length - 3) } }
  let s := (s.blankRegion n).resetQueues n
  let s := (s.setRegState n rFilling).wr (0x5000 + n) 0x0C 1
  s.wr (0x4100 + n) 0x1A s.wave

/-- A region may be switched on now: fewer than four were in the last 100 µs (R452). -/
def State.mayPower (s : State) : Bool :=
  (s.thermal.switched.filter (fun t => s.now < t + 100000)).length < 4

/-- A region is powered off: its banks lose their contents (R98). -/
def State.powerOff (s : State) (n : Nat) : State :=
  let s := s.setRegion n { s.region n with closing := false, resume := none, held := 0 }
  let s := (s.blankRegion n).resetQueues n
  ((s.setRegState n rOff).wr (0x5000 + n) 0x0C 2).wr (0x4100 + n) 0x1A s.nextWave

/-- A region enters LOADING, with no active plane. -/
def State.enterLoading (s : State) (n : Nat) : State :=
  ((s.noPlane n).setRegState n rLoading).wr (0x4100 + n) 0x1A s.wave

/-! ### Migration (R159 to R164) -/

/-- Overlap k of entry e, and its wave W − k. -/
def State.migEarly (s : State) (e : Nat) : Nat := waveSub s.S s.migWave (s.mig e 0x06)

/-- The first wave XN:0 at or after a wave. -/
def ceilCrossing (w : Nat) : Nat := if waveStep w = 0 then w else mkWave (waveXn w + 1) 0

/-- The earliest W that the device may choose: four crossings and 50 µs after the decision (R160). -/
def State.earliestW (s : State) : Nat :=
  let far := waveAdd s.S s.wave (max (4 * s.S) ((50000000000 + s.tStep - 1) / max s.tStep 1))
  ceilCrossing far

/-- W as the device chooses it, once s runs: not before the earliest, and W − k still to come. -/
def State.chosenW (s : State) (e : Nat) : Nat :=
  let soon := ceilCrossing (waveAdd s.S s.nextWave (s.mig e 0x06 + 1))
  if waveLater s.migMin soon then soon else s.migMin

/-- The two switches of a migration against R148, that of region x to plane p at W − k and that of region y to plane q
at W, when x runs p: the first reason against it, 0 for none, and the region that it names. -/
def State.pairReason (s : State) (x p y q : Nat) (keep : Bool) (early w : Nat) : Nat × Nat :=
  let a := s.armReason 16 [x] (fun _ => p) s.activePlane (fun _ => false) early false true
  if a ≠ 0 then (a, x)
  else if 8 ≤ q then (0, y)
  else (s.armReason 16 [y] (fun _ => q) (fun n => if n = x then p else s.activePlane n) (fun _ => keep) w false false, y)

/-- R161: the migration of entry e at W is refused; its reason as R148 counts it, 10 for R161's own, and the region
whose switch it stands against. -/
def State.migReason (s : State) (e w : Nat) (chosen : Bool) : Nat × Nat :=
  let f := s.mig e 0x01
  let sp := s.mig e 0x04
  let early := waveSub s.S w (s.mig e 0x06)
  if f ≥ 64 ∨ sp ≥ 64 ∨ s.rd 0x4240 0x05 < 16 ∨ s.mig e 0x07 = 3 then (10, f)
  else if s.activePlane f ≠ s.mig e 0x02 ∨ s.planeState f (s.mig e 0x03) ≠ 2 ∨ s.planeState sp (s.mig e 0x05) ≠ 2
      ∨ s.regState sp = rHalted ∨ s.regState sp = rResetting
      ∨ slotNos.any (fun j => s.mig j 0x07 = 3 && (s.migNames j sp || s.migNames j f)) then (10, f)
  else if !chosen ∧ !laterByCrossings (s.rd 0x4200 0x02) s.wave early then (1, f)
  else s.pairReason sp (s.mig e 0x05) f (s.mig e 0x03) true early w

/-- The migration of entry e armed: roles, state, the waves; s is powered on when it is OFF (R160). The plane that the
spare returns to is the one active now (DESIGN CHOICE, log entry 225). -/
def State.armMigration (s : State) (e w : Nat) (chosen : Bool) : State :=
  let f := s.mig e 0x01
  let sp := s.mig e 0x04
  let s := (s.wr (0x4230 + e) 0x07 1).wr 0x4240 0x05 e
  let s := (s.setRole f sp 1).setRole sp f 2
  let s := { s with migReverting := false, migOverlap := false, migMin := s.earliestW, migHalted := s.regState f = rHalted }
  let s := s.setRegion sp { s.region sp with beforeMigration := some (s.activePlane sp) }
  let off : Bool := s.regState sp = rOff
  let s := { s with migWave := if !chosen then w else if off then 0 else s.chosenW e }
  if off then s.queuePower sp else s

/-- A span conflict against a switch raises its cause on the region that it names (R84). -/
def State.raiseConflict (s : State) (reason n : Nat) : State :=
  if reason = 6 then s.raise (64 + n) clsConfig 0x302 0 else s

/-- A migration started by command, by a reaction or by the thermal manager: 0 where it is armed, else the reason;
a refused entry shows state 6 (R161). -/
def State.startMigration (s : State) (e w : Nat) (chosen : Bool) : Nat × State :=
  let w' := if chosen then s.earliestW else w
  let (r, n) := s.migReason e w' chosen
  let s := s.raiseConflict r n
  if r = 0 then
    let s := s.armMigration e w chosen
    (0, { s with collector := { s.collector with migRaised := none } })
  else (r, if s.rd 0x4240 0x05 = e ∨ s.mig e 0x07 = 3 ∨ s.mig e 0x01 = 0xFF then s else s.wr (0x4230 + e) 0x07 6)

/-- A completed migration is to be reverted at W (R164): the reason for a refusal, 0 for none, and the region. -/
def State.revertReason (s : State) (e w : Nat) (chosen : Bool) : Nat × Nat :=
  let f := s.mig e 0x01
  let sp := s.mig e 0x04
  let back := (s.region sp).beforeMigration.getD 0xFF
  let early := waveSub s.S w (s.mig e 0x06)
  if s.mig e 0x07 ≠ 3 ∨ s.rd 0x4240 0x05 < 16 then (10, f)
  else if s.planeState f (s.mig e 0x02) ≠ 2 ∨ s.regState f = rHalted ∨ s.regState f = rResetting then (10, f)
  else if !chosen ∧ !laterByCrossings (s.rd 0x4200 0x02) s.wave early then (1, f)
  else s.pairReason f (s.mig e 0x02) sp back false early w

/-- The revert armed; f is powered on when it is OFF (R160 with the roles exchanged). -/
def State.armRevert (s : State) (e w : Nat) (chosen : Bool) : State :=
  let f := s.mig e 0x01
  let s := (s.wr (0x4230 + e) 0x07 4).wr 0x4240 0x05 e
  let s := { s with migReverting := true, migOverlap := false, migMin := s.earliestW, migHalted := false }
  let off : Bool := s.regState f = rOff
  let s := { s with migWave := if !chosen then w else if off then 0 else s.chosenW e }
  if off then s.queuePower f else s

/-- R84 for the two switches of the migration in flight, at W − k: over the planes from W − k on, and over those from W
on. -/
def State.migConflict (s : State) (e : Nat) : Bool :=
  s.spanConflict (fun n => if n = s.migComing e then s.migAfter e n else s.planeFrom n)
    || s.spanConflict (fun n => if n = s.migComing e ∨ n = s.migLeaving e then s.migAfter e n else s.planeFrom n)

/-- A plane that the migration in flight still switches region n to is not VALID (R138). -/
def State.migSpoilt (s : State) (e n : Nat) : Bool := s.migAfter e n < 8 && s.planeState n (s.migAfter e n) ≠ 2

/-- The wave W − k of the migration in flight (Table 5-4 step 2, R84, R163, R164). A plane that is VALID no longer
cancels it (R138; log entry 142). -/
def State.overlapWave (s : State) : State :=
  let e := s.rd 0x4240 0x05
  if 16 ≤ e ∨ s.migOverlap ∨ s.migWave = 0 then s
  else
    let f := s.mig e 0x01
    let sp := s.mig e 0x04
    let reverting := s.migReverting
    let halted := s.migHalted
    let coming := s.migComing e
    let plane := s.migAfter e coming
    if !s.isDue 200 (s.migEarly e) then s
    else if s.mustDefer (s.migMovers e) ≠ [] then s.defer 200 (s.mustDefer (s.migMovers e))
    else
      let conflict := s.migConflict e
      let s := s.undefer 200
      if conflict ∨ s.migSpoilt e f ∨ s.migSpoilt e sp
          ∨ (s.regState coming ≠ rActive ∧ s.regState coming ≠ rLoading) then s.cancelMigration e
      else
        let s := (s.rearmAfterSwitch coming).switchRegion coming plane 1 s.nextWave
        let s : State := { s with migOverlap := true }
        let s : State := if reverting then s else s.wr (0x4230 + e) 0x07 2
        if halted ∧ s.regState f = rHalted then
          ((s.rearmAfterSwitch f).activatePlane f (s.mig e 0x03) 1 s.nextWave).becomeActive f s.nextWave true
        else s

/-- The wave W of the migration in flight (Table 5-4 step 4, R163, R164); with a plane that is VALID no longer it is
cancelled (R138; log entry 142). A spare that ran no plane before its migration stays in its spare plane when that is
reverted (DESIGN CHOICE, log entry 185). -/
def State.migrationWave (s : State) : State :=
  let e := s.rd 0x4240 0x05
  if 16 ≤ e ∨ !s.migOverlap then s
  else
    let f := s.mig e 0x01
    let sp := s.mig e 0x04
    let leaving := s.migLeaving e
    if !s.isDue 201 s.migWave then s
    else if (s.region leaving).holdPasses ≠ 0 then s.defer 201 [leaving]
    else if s.migSpoilt e leaving ∧ s.activePlane leaving ≠ s.migAfter e leaving then (s.undefer 201).cancelMigration e
    else
      let s := s.undefer 201
      let w := s.nextWave
      let s := if s.migReverting then
          let s := match (s.region sp).beforeMigration with
            | some p => if p < 8 then (s.rearmAfterSwitch sp).switchRegion sp p 1 w else s
            | none => s
          let s := s.setRegion sp { s.region sp with beforeMigration := none }
          ((s.setRole f 0 0).setRole sp 0 0).wr (0x4230 + e) 0x07 0
        else
          let s := if s.activePlane f = s.mig e 0x03 then s
            else (s.rearmAfterSwitch f).switchRegion f (s.mig e 0x03) 0 w
          ((s.wr (0x4230 + e) 0x07 3).bump 32 0x4240 0x04).raise (64 + f) clsConfig 0x506 0 e
      { s with migReverting := false, migOverlap := false, migWave := 0, migHalted := false }.wr 0x4240 0x05 0xFF

/-- The blank fill of region n ends (R120, R142); the region that a migration in flight has powered on
becomes ACTIVE in the plane it had (Table 5-4). -/
def State.fillEnd (s : State) (n : Nat) : State :=
  if s.regState n ≠ rFilling then s
  else
    let s := s.wr (0x5000 + n) 0x0C 0
    let e := s.rd 0x4240 0x05
    if e < 16 ∧ s.migComing e = n ∧ !s.migOverlap then
      let p := s.activePlane n
      let s := if p < 8 ∧ s.planeState n p = 2 then
          (s.activatePlane n p 1 s.nextWave).becomeActive n s.nextWave true
        else s.enterLoading n
      if s.migWave = 0 then { s with migWave := s.chosenW e } else s
    else s.enterLoading n

end Sys2Proof.Machine
end

