-- ==== Sys2Proof/Machine/StreamsCore.lean ====
section
/-! DEFINITION. StreamsCore.lean: configuration streams, the load engine, the frame validator, readback and scrubbing
(R171 to R199), and the rearm of spans after a clean scrub (R86). -/

namespace Sys2Proof.Machine

/-! ### Frames and their code (R171, R172, R191, R192) -/

/-- The positions 3, 5, 6, 7, 9, … of the data bits: those from 1 to 2,060 that are no power of two. -/
def dataPositions : List Nat :=
  (List.range 2061).filter (fun i => i ≠ 0 && !(List.range 12).any (fun e => i = 2 ^ e))

/-- Check bits C0 to C11 of a frame's data (R191). -/
def frameCheck (d : BitVec 2048) : BitVec 12 :=
  dataPositions.zipIdx.foldl (fun acc x => if d.getLsbD x.2 then acc ^^^ BitVec.ofNat 12 x.1 else acc) 0

/-- Parity of a number's low n bits. -/
def parityOf (n v : Nat) : Bool := (List.range n).foldl (fun acc i => acc ^^ v.testBit i) false

/-- A frame with its code: C0 to C11 in [11:0], P in [12]. -/
def encodeFrame (d : BitVec 2048) : Frame :=
  let c := frameCheck d
  { data := d
    code := c.setWidth 13 ||| (if parityOf 2048 d.toNat ^^ parityOf 12 c.toNat then 0x1000 else 0) }

/-- One stored bit of a frame inverted, by its position; 0 means P. -/
def flipFrame (f : Frame) (pos : Nat) : Frame :=
  if pos = 0 then { f with code := f.code ^^^ 0x1000 }
  else
    match (List.range 12).find? (fun e => pos = 2 ^ e) with
    | some e => { f with code := f.code ^^^ (1#13 <<< e) }
    | none =>
      match dataPositions.idxOf? pos with
      | some d => { f with data := f.data ^^^ (1#2048 <<< d) }
      | none => f

/-- What a scrub read of a frame finds (R192): 0 clean, 1 corrected, 2 uncorrectable; and the frame after it. -/
def decodeFrame (f : Frame) : Nat × Frame :=
  let s := (frameCheck f.data ^^^ f.code.setWidth 12).toNat
  let e := parityOf 2048 f.data.toNat ^^ parityOf 13 f.code.toNat
  if s = 0 ∧ !e then (0, f)
  else if e ∧ s = 0 then (1, flipFrame f 0)
  else if e ∧ s ≤ 2060 then (1, flipFrame f s)
  else (2, f)

/-- The frames of a pair that are not all 0, by address. -/
def State.framesOf (s : State) (n p : Nat) : List (Nat × Nat) :=
  (s.frames.filter (fun c => c.1 / 8192 = planeKey n p && c.2.data ≠ 0)).map (fun c => (c.1 % 8192, c.2.data.toNat))

/-- What a pair's frames describe is taken again from them, after one has changed (R172). -/
def State.reread (s : State) (n p : Nat) : State :=
  let x := s.plane n p
  s.setPlane n p { x with net := netOf (s.framesOf n p) }

/-- Every frame of a pair and its code 0 (R187). -/
def State.zeroPair (s : State) (n p : Nat) : State :=
  { s with frames := Sparse.drop s.frames (fun k => k / 8192 = planeKey n p) }.setPlane n p {}

/-! ### The header (R173, R174, R184) -/

/-- Fields of Table 6-2. -/
def hFlags (h : List Byte) : Nat := fieldAt h 12 4
def hRegions (h : List Byte) : Nat := fieldAt h 16 8
def hPlanes (h : List Byte) : Nat := fieldAt h 24 1
def hSlot (h : List Byte) : Nat := fieldAt h 25 1
def hFrames (h : List Byte) : Nat := fieldAt h 28 4
def hRecords (h : List Byte) : Nat := fieldAt h 32 4
def hPersonality (h : List Byte) : Nat := fieldAt h 36 4
def hBase (h : List Byte) : Nat := fieldAt h 40 4
def hLength (h : List Byte) : Nat := fieldAt h 48 8
def hNonce (h : List Byte) : BitVec 96 := BitVec.ofNat 96 (fieldAt h 56 12)
def hSig (h : List Byte) : Bool := (hFlags h).testBit 0
def hPartial (h : List Byte) : Bool := (hFlags h).testBit 1
def hMemInit (h : List Byte) : Bool := (hFlags h).testBit 2

/-- Target pairs of a stream. -/
def targetPairs (regions planes : Nat) : List (Nat × Nat) :=
  (bitsOf 64 regions).flatMap (fun n => (bitsOf 8 planes).map (fun p => (n, p)))

/-- Who sends the bytes of a stream: a path of Table 6-5 by its number, and on paths 2 and 3 a mailbox or a node that writes
0x4310:00, each a sender of its own (R180). -/
def streamSender : Requester → Nat
  | .mailbox m => 16 + m
  | .can c node => 256 + 128 * c + node
  | .port => 5
  | _ => 3

/-- The path of a sender. -/
def senderPath (sender : Nat) : Nat := if sender < 16 then sender else if sender < 256 then 2 else 3

/-- The longest stream of a path (Table 6-5). -/
def longest (path : Nat) : Nat := if path = 0 then 1879048192 else if path = 3 ∨ path = 5 then 1048576 else 2147483648

/-- Bytes of the trailer. -/
def trailerLen (h : List Byte) : Nat := if hSig h then 120 else 24

/-- The device's or another's DEVICE word is one that the device accepts: 0, or 0x12, 0x13 (R184, R512). -/
def deviceCheck (v : Nat) : Nat :=
  if v / 65536 ≠ deviceWord / 65536 then 0x12
  else if v / 256 % 256 ≠ deviceWord / 256 % 256 ∨ deviceWord % 256 < v % 256 then 0x13
  else 0

/-- Plane p of region n is the target of an armed switch, or of a migration armed or not finished (R153). -/
def State.isTarget (s : State) (n p : Nat) : Bool := (s.slotTargets 16 n ++ s.migTargets n).contains p

/-- The key of a slot that streams and images of owners may name (R501). -/
def State.slotKey_ (s : State) (k : Nat) : Option (BitVec 256) :=
  if s.security.duk ∧ k < 15 ∧ s.rd (0x2410 + k) 0x01 = 1 then s.security.slotKeys.lookup k else none

/-- The load engine holds a stream: it loads, or its header waits for VC (R180, R456). -/
def State.loadBusy (s : State) : Bool := s.load.active || s.load.waiting.isSome

/-- R184: the result of a header from a sender, named by path here and below, 0 where the stream is accepted. While another stream loads it is 0x18
whatever else holds (R180); of the other checks the first in the rule's order gives the result (DESIGN CHOICE, log
entry 150). A full stream with a BASE that is not 0 breaks Table 6-2 (log entry 28). -/
def State.headerCheck (s : State) (path : Nat) (h : List Byte) : Nat :=
  let pairs := targetPairs (hRegions h) (hPlanes h)
  let regions := bitsOf 64 (hRegions h)
  let d := deviceCheck (fieldAt h 8 4)
  if s.loadBusy then 0x18
  else if fieldAt h 0 4 ≠ 0x53434647 ∨ fieldAt h 4 2 ≠ 1 ∨ fieldAt h 6 2 ≠ 128 ∨ 64 ≤ hFlags h ∨ fieldAt h 26 2 ≠ 0
      ∨ fieldAt h 44 4 ≠ 0 ∨ fieldAt h 68 56 ≠ 0 ∨ (!hPartial h ∧ hBase h ≠ 0) then 0x10
  else if fieldAt h 124 4 ≠ (crc32c (h.take 124)).toNat then 0x11
  else if d ≠ 0 then d
  else if pairs.any (fun x => s.activePlane x.1 = x.2) then 0x14
  else if pairs.any (fun x => s.isTarget x.1 x.2) then 0x15
  else if (s.slotKey_ (hSlot h)).isNone then 0x16
  else if !hSig h ∧ s.rd 0x4300 0x07 = 1 then 0x17
  else if hMemInit h ∧ regions.any (fun n => s.regState n ≠ rLoading || slotNos.any (fun k => s.slotArmed k && s.slotNames k n))
    then 0x19
  else if hPartial h ∧ pairs.any (fun x => s.planeState x.1 x.2 ≠ 2 || (s.plane x.1 x.2).personality ≠ hBase h) then 0x1A
  else if longest (senderPath path) < hLength h then 0x1B
  else if hLength h ≠ 128 + 268 * hRecords h + trailerLen h
      ∨ (if hPartial h then hFrames h = 0 ∨ 8192 * pairs.length < hFrames h else hFrames h ≠ 8192 * pairs.length) then 0x1C
  else 0

/-! ### States and results of a load -/

/-- Entries of Table 6-11. -/
def State.setLoad (s : State) (sub v : Nat) : State := s.wr 0x4301 sub v
/-- The source of a stream's causes: the lowest target region's (R199). -/
def loadSource (regions : Nat) : Nat := 64 + (bitsOf 64 regions).headD 0

/-- The entries of Table 6-11 at a header that is the current load's: state, result, failing record. -/
def State.showHeader (s : State) (state result failing path : Nat) (h : List Byte) : State :=
  (((((((s.setLoad 0x01 state).setLoad 0x02 result).setLoad 0x03 (senderPath path)).setLoad 0x04 0).setLoad 0x05 failing).setLoad 0x06 128).setLoad
    0x07 (hRegions h)).setLoad 0x08 (hPlanes h)

/-- A header refused (R184): its result, its cause, and the rest of the stream discarded. While another stream loads,
its entries stand (log entry 29); otherwise the load state is 0 (DESIGN CHOICE, log entry 150). -/
def State.refuseHeader (s : State) (path code : Nat) (h : List Byte) : State :=
  let src := if code = 0x10 ∨ code = 0x11 then 64 else loadSource (hRegions h)
  let s := if s.loadBusy then s else s.showHeader 0 code 0xFFFFFFFF path h
  let s := (s.bump 32 0x4301 0x0A).raise src clsConfig 0x602 0 code
  let rest := hLength h - 128
  { s with load := { s.load with
      discards := s.load.discards.filter (fun d => d.1 ≠ path) ++ (if rest = 0 then [] else [(path, rest)]) } }

/-- A header accepted: every target pair enters LOADING (R183 step 2). -/
def State.acceptHeader (s : State) (path : Nat) (h : List Byte) : State :=
  let pairs := targetPairs (hRegions h) (hPlanes h)
  let s := s.showHeader 2 2 0 path h
  let s : State := { s with load := { s.load with
    active := true
    path := path
    header := h
    cipher := []
    seen := []
    memSeen := []
    metas := []
    roles := []
    dupMeta := false
    banks := []
    trailer := []
    pairs := pairs } }
  pairs.foldl (fun s x => s.planeLeavesValid x.1 x.2 1) s

/-- A header of 128 bytes arrives on a path (R180, R183, R184, R456): the answer to the path, and the state. While VC
is in hold mode or returns from it, the header waits, in state HEADER. -/
def State.streamHeader (s : State) (path : Nat) (h : List Byte) : Nat × State :=
  if s.rd 0x2102 0x01 ≠ 0 ∧ !s.loadBusy then
    let s : State := { s.showHeader 1 2 0 path h with load := { s.load with waiting := some (path, h) } }
    (0, s.vcLeave)
  else
    let code := s.headerCheck path h
    if code = 0 then (0, s.acceptHeader path h) else (abortState, s.refuseHeader path code h)

/-- Bytes of a path that are not yet a whole piece. -/
def State.partialOf (s : State) (path : Nat) : List Byte := (s.load.partials.lookup path).getD []
def State.setPartial (s : State) (path : Nat) (l : List Byte) : State :=
  { s with load := { s.load with
      partials := s.load.partials.filter (fun x => x.1 ≠ path) ++ (if l.isEmpty then [] else [(path, l)]) } }

/-- Bytes still to be discarded on a path. -/
def State.discardOf (s : State) (path : Nat) : Nat := (s.load.discards.lookup path).getD 0
def State.setDiscard (s : State) (path v : Nat) : State :=
  { s with load := { s.load with
      discards := s.load.discards.filter (fun x => x.1 ≠ path) ++ (if v = 0 then [] else [(path, v)]) } }

/-- The path's stream is loading. -/
def State.ownsLoad (s : State) (path : Nat) : Bool := s.load.active && s.load.path = path

/-- A load fails (R185 to R187): its result and failing record; zeroising begins. What its path still sends of the
stream is discarded, as that of a refused stream is. -/
def State.failLoad (s : State) (code num : Nat) : State :=
  if !s.load.active ∨ s.rd 0x4301 0x01 = 5 then s
  else
    let sec := code = 0x25 ∨ code = 0x26
    let s := (s.setPartial s.load.path []).setDiscard s.load.path (hLength s.load.header - s.rd 0x4301 0x06)
    let s := (((s.setLoad 0x01 5).setLoad 0x02 code).setLoad 0x05 num).bump 32 0x4301 0x0A
    if sec then s.raise (loadSource (hRegions s.load.header)) clsSecurity 0x604 1 code
    else s.raise (loadSource (hRegions s.load.header)) clsConfig 0x603 1 code

/-- Number of the record that a stream is at; header and trailer read 0xFFFFFFFF (0x4301:05). -/
def State.recordNo (s : State) : Nat :=
  if s.rd 0x4301 0x04 < hRecords s.load.header then s.rd 0x4301 0x04 else 0xFFFFFFFF

/-- Zeroising ends (R187): the pairs enter INVALID, and the banks that the stream wrote are blank. -/
def State.zeroiseDone (s : State) : State :=
  if s.load.active ∧ s.rd 0x4301 0x01 = 5 then
    let s := s.load.pairs.foldl (fun s x => (s.zeroPair x.1 x.2).wr (0x4100 + x.1) (0x20 + x.2) 0) s
    let s := s.load.banks.foldl (fun s b => s.blankBank b) s
    { s with load := { s.load with active := false } }.setLoad 0x01 0
  else s

/-- The path's stream ends while its header waits for VC, before its pairs are claimed: nothing is zeroised. -/
def State.dropWaiting (s : State) (path code : Nat) : State :=
  match s.load.waiting with
  | some (q, h) =>
    if q ≠ path then s
    else
      let s : State := { s.setPartial path [] with load := { (s.setPartial path []).load with waiting := none } }
      ((((s.setLoad 0x01 0).setLoad 0x02 code).setLoad 0x05 0xFFFFFFFF).bump 32 0x4301 0x0A).raise
        (loadSource (hRegions h)) clsConfig 0x603 1 code
  | none => s

/-- A reset ends the load in progress, with its pairs zeroised before the reset completes (R196); a stream whose header
waits for VC is one. -/
def State.resetLoad (s : State) : State :=
  let s := (s.failLoad 0x2E s.recordNo).zeroiseDone
  let s := match s.load.waiting with
    | some (path, _) => s.dropWaiting path 0x2E
    | none => s
  { s with load := { s.load with partials := [], discards := [] }, loadHeld := none }

/-! ### Records (R175, R176, R185) -/

/-- A record in clear, against the rules: its result code (0: sound) and the state with it written. -/
def State.applyRecord (s : State) (r : List Byte) : Nat × State :=
  let h := s.load.header
  let type := fieldAt r 0 1
  let n := fieldAt r 1 1
  let sub := fieldAt r 2 1
  let kind := fieldAt r 3 1
  let addr := fieldAt r 4 4
  let payload := (r.drop 8).take 256
  let x := s.load
  if fieldAt r 264 4 ≠ (crc32c (r.take 264)).toNat then (0x22, s)
  else if type = 1 then
    let key := frameKey n sub addr
    if kind ≠ 0 ∨ !x.pairs.contains (n, sub) ∨ 8192 ≤ addr then (0x23, s)
    else if x.seen.contains key then (0x24, s)
    else
      (0, { s.setFrame n sub addr (encodeFrame (BitVec.ofNat 2048 (bytesNat payload))) with
        load := { x with seen := key :: x.seen } })
  else if type = 2 then
    let bank := bankKey n sub
    let words := (List.range 32).map (fun i => bank * 16384 + addr + i)
    if !hMemInit h ∨ kind ≠ 0 ∨ !(hRegions h).testBit n ∨ 64 ≤ n ∨ 64 ≤ sub ∨ addr % 32 ≠ 0 ∨ 16352 < addr then (0x23, s)
    else if words.any (fun w => x.memSeen.contains w) then (0x24, s)
    else
      let s := (List.range 32).foldl (fun s i =>
        s.writeBankWord bank (addr + i) 255 ((payload.drop (8 * i)).take 8) false) s
      (0, { s with load := { x with
        memSeen := words ++ x.memSeen
        banks := if x.banks.contains bank then x.banks else x.banks ++ [bank] } })
  else if type = 3 then
    if 0x80 ≤ kind then (0, s)
    else if kind = 1 then
      if addr ≠ 0 ∨ !x.pairs.contains (n, sub) ∨ fieldAt payload 6 250 ≠ 0 then (0x23, s)
      else
        (0, { s with load := { x with
          dupMeta := x.dupMeta || x.metas.any (fun m => m.1 = n && m.2.1 = sub)
          metas := x.metas ++ [(n, sub, fieldAt payload 0 4, fieldAt payload 4 2)] } })
    else if kind = 2 then
      if addr ≠ 0 ∨ n ≠ 0xFF ∨ 8 ≤ sub ∨ !(hPlanes h).testBit sub ∨ fieldAt payload 1 255 ≠ 0 ∨ 7 < fieldAt payload 0 1 then (0x23, s)
      else
        (0, { s with load := { x with
          dupMeta := x.dupMeta || x.roles.any (fun m => m.1 = sub)
          roles := x.roles ++ [(sub, fieldAt payload 0 1)] } })
    else (0x23, s)
  else (0x23, s)

/-- The stream in progress has arrived whole, and is checked or validated. -/
def State.beyondEnd (s : State) : Bool := s.load.active && (s.rd 0x4301 0x01 = 3 || s.rd 0x4301 0x01 = 4)

/-- A record of 268 bytes as sent (R183 step 3): decrypted, checked, written. One beyond LENGTH fails the stream
(R185). -/
def State.streamRecord (s : State) (bytes : List Byte) : State :=
  if s.beyondEnd then s.failLoad 0x2C 0xFFFFFFFF
  else if !s.load.active ∨ s.rd 0x4301 0x01 ≠ 2 then s
  else
    let h := s.load.header
    let num := s.rd 0x4301 0x04
    let key := (s.security.slotKeys.lookup (hSlot h)).getD 0
    let plain := Config.gcmDecrypt key (hNonce h) s.load.cipher.length bytes
    let s := s.setLoad 0x06 (s.rd 0x4301 0x06 + bytes.length)
    if hRecords h ≤ num then s.failLoad 0x2C 0xFFFFFFFF
    else
      let s : State := { s with load := { s.load with cipher := s.load.cipher ++ bytes } }
      let (code, s) := s.applyRecord plain
      if code = 0 then s.setLoad 0x04 (num + 1) else s.failLoad code num

/-- The trailer (R177, R183 step 4, R186). -/
def State.streamTrailer (s : State) (bytes : List Byte) : State :=
  if s.beyondEnd then s.failLoad 0x2C 0xFFFFFFFF
  else if !s.load.active ∨ s.rd 0x4301 0x01 ≠ 2 then s
  else
    let h := s.load.header
    let key := (s.security.slotKeys.lookup (hSlot h)).getD 0
    let s := s.setLoad 0x06 (s.rd 0x4301 0x06 + bytes.length)
    if trailerLen h < bytes.length then s.failLoad 0x2C 0xFFFFFFFF
    else if bytes.length < trailerLen h ∨ s.rd 0x4301 0x04 < hRecords h then s.failLoad 0x20 s.recordNo
    else
      let s : State := { s.setLoad 0x01 3 with load := { s.load with trailer := bytes } }
      let tag := Config.gcmTag key (hNonce h) h s.load.cipher
      if fieldAt bytes 0 4 ≠ 0x45434647 ∨ fieldAt bytes 4 4 ≠ hRecords h
          ∨ (!hPartial h ∧ s.load.seen.length ≠ 8192 * s.load.pairs.length) then s.failLoad 0x20 0xFFFFFFFF
      else if (bytes.drop 8).take 16 ≠ natBytes 16 tag.toNat then s.failLoad 0x25 0xFFFFFFFF
      else if hSig h then s
      else s.setLoad 0x01 4

/-- Owner keys that are programmed and not revoked (R500). -/
def State.ownerKeysOk (s : State) : List (List Byte) :=
  (List.range 2).filterMap (fun k =>
    if s.rdBit 0x2400 0x01 k && !s.rdBit 0x2400 0x01 (2 + k) && !s.security.badKeys.contains k then
      (s.security.ownerKeys.lookup k).bind s.unseal else none)

/-- The signature check ends (R178, R183 step 4). -/
def State.signatureDone (s : State) : State :=
  if !s.load.active ∨ s.rd 0x4301 0x01 ≠ 3 ∨ !hSig s.load.header then s
  else
    let digest := Config.sha384 (s.load.header ++ s.load.cipher ++ s.load.trailer.take 24)
    if s.ownerKeysOk.any (fun k => Config.ecdsaOk k digest (s.load.trailer.drop 24)) then s.setLoad 0x01 4
    else s.failLoad 0x26 0xFFFFFFFF

/-! ### Validation and acceptance (R188, R189) -/

/-- The spans that two or more drivers would drive in the planes a stream writes; nets gives the design of each
target pair (R83). -/
def State.loadConflict (s : State) (pairs : List (Nat × Nat)) (nets : List ((Nat × Nat) × RegionNet)) : Option Nat :=
  ((pairs.map (fun x => x.2)).eraseDups).findSome? (fun p =>
    let drives := regionNos.flatMap (fun m =>
      match nets.lookup (m, p) with
      | some net => netDrives m net
      | none => if s.planeState m p = 2 then (s.plane m p).summary else [])
    drives.find? (fun d => 2 ≤ drives.count d))

/-- The pairs of an accepted stream take what it brought, and become VALID (R189). -/
def State.acceptPairs (s : State) (pairs : List (Nat × Nat)) (personality flags : Nat)
    (metas : List (Nat × Nat × Nat × Nat)) (roles : List (Nat × Nat)) : State :=
  let s := pairs.foldl (fun s x =>
    let (n, p) := x
    let old := s.plane n p
    let net := netOf (s.framesOf n p)
    let (layout, depth) := match metas.find? (fun m => m.1 = n && m.2.1 = p) with
      | some m => (m.2.2.1, m.2.2.2)
      | none => (old.layout, old.depth)
    (s.setPlane n p { old with
      personality := personality
      layout := layout
      depth := depth
      flags := flags / 8 % 8
      acceptedXn := s.crossing
      net := net
      summary := netDrives n net
      cleanXn := [] }).wr (0x4100 + n) (0x20 + p) 2) s
  let planes := (pairs.map (fun x => x.2)).eraseDups
  let s := planes.foldl (fun s p => s.wr 0x4202 (p + 1) personality) s
  roles.foldl (fun s r => s.wr 0x4201 (r.1 + 1) r.2) s

/-- A cell breaks R69 or R72: a register selects BX in six-input mode, or S or CO outside carry mode; or the chain of
cell 0 in tile row 0 does not start there. A cell 0 that is not in carry mode need not select a carry start (DESIGN
CHOICE, log entry 187). -/
def cellBroken (x : Nat × CellCfg) : Bool :=
  let bad (r : RegCfg) : Bool := (r.sel = 2 && x.2.mode = .six) || (r.sel = 1 && x.2.mode ≠ .carry)
  bad x.2.reg0 || bad x.2.reg1 || (x.2.mode = .carry && x.1 < 1024 && x.1 % 16 = 0 && !x.2.carryStart)

/-- The frame validator ends (R188): its first finding, or acceptance. -/
def State.validationDone (s : State) : State :=
  if !s.load.active ∨ s.rd 0x4301 0x01 ≠ 4 then s
  else
    let x := s.load
    let h := x.header
    let nets := x.pairs.map (fun q => (q, netOf (s.framesOf q.1 q.2)))
    let missing : Bool := !hPartial h &&
      (x.pairs.any (fun q => !x.metas.any (fun m => m.1 = q.1 && m.2.1 = q.2))
        || (bitsOf 8 (hPlanes h)).any (fun p => !x.roles.any (fun m => m.1 = p)))
    match s.loadConflict x.pairs nets with
    | some d => (s.setLoad 0x0C d).failLoad 0x27 0xFFFFFFFF
    | none =>
      if nets.any (fun q => q.2.descriptors.any (fun d => !descriptorOk d)) then s.failLoad 0x28 0xFFFFFFFF
      else if nets.any (fun q => q.2.cells.any cellBroken) then s.failLoad 0x29 0xFFFFFFFF
      else if missing ∨ x.dupMeta then s.failLoad 0x2A 0xFFFFFFFF
      else
        let s := s.acceptPairs x.pairs (hPersonality h) (hFlags h) x.metas x.roles
        let s : State := { s with load := { s.load with active := false } }
        (((s.setLoad 0x01 6).setLoad 0x02 1).bump 32 0x4301 0x09).raise (loadSource (hRegions h)) clsConfig 0x601 0 1

/-! ### Bytes of a path (R180 to R185) -/

/-- Bytes that are not yet a whole piece of the stream in progress wait, and count as received. -/
def State.holdBytes (s : State) (path : Nat) (l : List Byte) : State :=
  (s.setPartial path l).setLoad 0x06 (s.rd 0x4301 0x06 + l.length)

/-- The header of the path's stream waits for VC. -/
def State.headerWaits (s : State) (path : Nat) : Bool := s.load.waiting.any (fun w => w.1 = path)

/-- Bytes that arrive on a path are cut into a header, records and a trailer; the answer to the path. -/
def State.feedBytes (s : State) (path : Nat) (bytes : List Byte) : Nat → Nat × State
  | 0 => (0, s.setPartial path bytes)
  | fuel + 1 =>
    if bytes.isEmpty then (0, s.setPartial path [])
    else if s.headerWaits path then (0, (s.setPartial path bytes).setLoad 0x06 (128 + bytes.length))
    else if s.ownsLoad path ∧ s.rd 0x4301 0x01 = 5 then
      (abortState, (s.setPartial path []).setDiscard path (s.discardOf path - bytes.length))
    else if s.ownsLoad path then
      if s.rd 0x4301 0x01 ≠ 2 then
        (abortState, ((s.setPartial path []).setLoad 0x06 (s.rd 0x4301 0x06 + bytes.length)).failLoad 0x2C 0xFFFFFFFF)
      else
        let want := if s.rd 0x4301 0x04 < hRecords s.load.header then 268 else trailerLen s.load.header
        if bytes.length < want then (0, s.holdBytes path bytes)
        else if want = 268 then (s.streamRecord (bytes.take 268)).feedBytes path (bytes.drop 268) fuel
        else (s.streamTrailer (bytes.take want)).feedBytes path (bytes.drop want) fuel
    else if 0 < s.discardOf path then
      (0, (s.setPartial path []).setDiscard path (s.discardOf path - bytes.length))
    else if bytes.length < 128 then (0, s.setPartial path bytes)
    else
      let (code, t) := s.streamHeader path (bytes.take 128)
      if code ≠ 0 then (code, (t.setPartial path []).setDiscard path (t.discardOf path - (bytes.length - 128)))
      else t.feedBytes path (bytes.drop 128) fuel

/-- Bytes arrive on a path, after those that wait. -/
def State.feed (s : State) (path : Nat) (bytes : List Byte) : Nat × State :=
  let held := s.partialOf path
  let s := if s.ownsLoad path then s.setLoad 0x06 (s.rd 0x4301 0x06 - held.length) else s
  s.feedBytes path (held ++ bytes) ((held ++ bytes).length + 1)

/-- The sender on a path whose stream loads or whose header waits, else the path's own. -/
def State.senderOn (s : State) (path : Nat) : Nat :=
  if s.load.active ∧ senderPath s.load.path = path then s.load.path
  else match s.load.waiting with
    | some (q, _) => if senderPath q = path then q else path
    | none => path

/-- What a path sends of a stream that is refused or failed, or a header that is not whole, ends with it. -/
def State.forgetPath (s : State) (path : Nat) : State := (s.setPartial path []).setDiscard path 0

/-- The header that waits has all the bytes of its stream behind it. -/
def State.wholeWaits (s : State) (path : Nat) : Bool :=
  s.load.waiting.any (fun w => w.1 = path && hLength w.2 ≤ 128 + (s.partialOf path).length)

/-- The path signals the end of its stream (R185). A stream of which the header waits keeps its place if all of its
bytes have come. -/
def State.pathEnd (s : State) (path : Nat) : State :=
  if s.headerWaits path then (if s.wholeWaits path then s else s.dropWaiting path 0x20)
  else if s.ownsLoad path ∧ s.rd 0x4301 0x01 = 2 then (s.failLoad 0x20 s.recordNo).forgetPath path
  else s.forgetPath path

/-- No byte has come on a path for the inactivity time (R184, R185). -/
def State.streamInactive (s : State) (path : Nat) : State :=
  if s.headerWaits path then s
  else if s.ownsLoad path ∧ s.rd 0x4301 0x01 = 2 then (s.failLoad 0x21 s.recordNo).forgetPath path
  else if s.ownsLoad path then s
  else s.forgetPath path

/-! ### The configuration access port (R181, R182) -/

/-- The port is enabled: region 0's active plane was loaded with CAPEN. -/
def State.capOn (s : State) : Bool :=
  s.activePlane 0 < 8 && (s.plane 0 (s.activePlane 0)).flags / 4 % 2 = 1

/-- The token of a wave (Table 6-6), and the credit that it grants. Credits stand while the port is disabled: DESIGN
CHOICE (log entry 152). -/
def State.capToken (s : State) : Tok × State :=
  let grant := s.capOn && s.load.credits < 8192
  let data := s.rd 0x4301 0x02 * 256 + (if s.loadBusy then 0 else 4) + (if s.ownsLoad 4 || s.headerWaits 4 then 2 else 0)
    + (if grant then 1 else 0)
  ({ data := data, void := false },
    if grant then { s with load := { s.load with credits := s.load.credits + 1 } } else s)

/-- LENGTH of the port's stream, from its header, accepted or waiting for VC. -/
def State.capLength (s : State) : Option Nat :=
  if s.ownsLoad 4 then some (hLength s.load.header)
  else s.load.waiting.bind (fun w => if w.1 = 4 then some (hLength w.2) else none)

/-- A word that the design releases to the port: 64 bits and LAST; of the last word, the bytes up to LENGTH count. -/
def State.capWord (s : State) (word : Word64) (last : Bool) : State :=
  if !s.capOn then s
  else if s.load.credits = 0 then
    if s.ownsLoad 4 then s.failLoad 0x2D s.recordNo else (s.dropWaiting 4 0x2D).setPartial 4 []
  else
    let s : State := { s with load := { s.load with credits := s.load.credits - 1 } }
    let left := match s.capLength with
      | some n => n - s.rd 0x4301 0x06
      | none => 8
    let bytes := natBytes 8 word.toNat
    let s := (s.feed 4 (if last then bytes.take (max left 1) else bytes)).2
    if last then s.pathEnd 4 else s

/-! ### Readback and scrubbing (R190 to R195) -/

/-- The frames of a pair as readback returns them (R190). -/
def State.readbackBytes (s : State) (n p : Nat) : List Byte :=
  (List.range 8192).flatMap (fun a =>
    let (st, f) := decodeFrame (s.frame n p a)
    if st = 2 then List.replicate 256 0 else natBytes 256 f.data.toNat)

/-- The pair may be read back. -/
def State.readbackOk (s : State) (n p : Nat) : Bool :=
  (s.plane n p).flags % 2 = 1 && (s.planeState n p = 2 || s.planeState n p = 3)

/-- Every tile of a span, by region and tile address (X, Y over the die); a tile's two frames are those of its
region's plane at J, I (R76, R77, R171). -/
def spanTiles (id : Nat) : List (Nat × Nat) :=
  let o := id / 2 ^ 20 % 2
  let k := id / 2 ^ 16 % 16
  let line := id / 128 % 512
  let seg := id % 16
  let lo := if k = 0 then 64 * seg else if seg = 0 then 0 else 4 * k + 64 * (seg - 1)
  let hi := if k = 0 then 64 * seg + 63 else if seg = 0 then 4 * k - 1 else min (4 * k + 64 * seg - 1) 511
  (List.range (hi + 1 - lo)).map (fun i =>
    let (x, y) := if o = 0 then (lo + i, line) else (line, lo + i)
    (y / 64 * 8 + x / 64, y % 64 * 64 + x % 64))

/-- Every frame that holds a driver enable of the span has been reported clean or corrected in every active plane
since the span was latched (R86). -/
def State.spanClean (s : State) (id : Nat) : Bool :=
  let since := Sparse.get (fun _ => 0) s.latchXn id
  (spanTiles id).all (fun t =>
    let p := s.activePlane t.1
    !(p < 8) || (List.range 2).all (fun h =>
      since ≤ Sparse.get (fun _ => 0) (s.plane t.1 p).cleanXn (t.2 * 2 + h)))

/-- A frame of region n reported clean or corrected: spans with automatic rearm may be rearmed (R86). -/
def State.reportFrame (s : State) (n p a : Nat) : State :=
  let x := s.plane n p
  let s := s.setPlane n p { x with cleanXn := Sparse.set (fun _ => 0) x.cleanXn a (s.crossing + 1) }
  s.requestRearm (fun id => s.rd (0x4100 + spanOwner id) 0x09 = 1 && (spanTiles id).any (fun t => t.1 = n) && s.spanClean id)

/-- A scrub read of a frame is part of the pass that region n is in (R193), and no hold stops it (R195). -/
def State.scrubReads (s : State) (n p : Nat) : Bool :=
  s.rd 0x2102 0x01 = 0 && (s.planeState n p = 2 || s.planeState n p = 3)
    && (p = s.activePlane n || p = (s.region n).pass % 8)

/-- R152: no correction begins in the old or the new plane of an armed switch in the 2 µs before its wave. -/
def State.correctionHeld (s : State) (n p : Nat) : Bool :=
  slotNos.any (fun k => s.slotArmed k && s.slotNames k n && (s.slot k 0x03 = p || s.activePlane n = p)
    && s.within 2000 (s.slot k 0x02))

/-- The scrubber of region n reads a frame (R192, R194). -/
def State.scrubFrame (s : State) (n p a : Nat) : State :=
  if !s.scrubReads n p then s
  else
    let (st, f) := decodeFrame (s.frame n p a)
    let record (s : State) : State := (s.wr (0x4340 + n) 0x04 (p * 8192 + a)).wr (0x4340 + n) 0x05 s.xn
    match st with
    | 0 => s.reportFrame n p a
    | 1 =>
      if s.correctionHeld n p then s
      else
        let s := (((record s).setFrame n p a f).reread n p).bump 32 (0x4340 + n) 0x01
        let x := s.region n
        let s := if x.correctedInPass then s
          else (s.setRegion n { x with correctedInPass := true }).raise (64 + n) clsConfig 0x605 0
        s.reportFrame n p a
    | _ =>
      let s := (record s).bump 32 (0x4340 + n) 0x02
      if s.planeState n p = 2 then
        let c := Sparse.get (fun _ => 0) (s.plane n p).cleanXn a
        s.planeDamaged n p (if c = 0 then (s.plane n p).acceptedXn else c - 1)
      else s

/-- A scrub pass of region n ends and the next begins (R193, R195). -/
def State.scrubPass (s : State) (n : Nat) : State :=
  if s.rd 0x2102 0x01 ≠ 0 then s
  else
    let x := s.region n
    (s.setRegion n { x with
      pass := x.pass + 1
      correctedInPass := false
      holdPasses := x.holdPasses - 1 }).bump 32 (0x4340 + n) 0x03

/-- One stored bit of a frame inverted by command (0x4330:00). -/
def State.injectFrame (s : State) (n p a pos : Nat) : State :=
  (s.setFrame n p a (flipFrame (s.frame n p a) pos)).reread n p

end Sys2Proof.Machine
end

