-- ==== Sys2Proof/Machine/HostCore.lean ====
section
/-! DEFINITION. HostCore.lean: the PCI Express endpoint, BAR accesses, interrupts, readout triggers, DMA engines and
readout lanes (chapter 11). -/

namespace Sys2Proof.Machine

/-! ### BAR4 (R345, R346) -/

/-- Byte enables of the DW number i of a request of dws DWs. -/
def dwEnable (firstBe lastBe : BitVec 4) (dws i : Nat) : Nat :=
  if i = 0 then firstBe.toNat else if i + 1 = dws then lastBe.toNat else 15

/-- The memory-layer words of a request: address and byte lanes enabled (byte enables map onto lanes one to one). -/
def bar4Words (offset : Nat) (firstBe lastBe : BitVec 4) (dws : Nat) : List (Nat × Nat) :=
  let d0 := offset / 4
  (List.range ((d0 + dws - 1) / 2 - d0 / 2 + 1)).map (fun j =>
    let w := d0 / 2 + j
    let en (d : Nat) : Nat := if d0 ≤ d ∧ d < d0 + dws then dwEnable firstBe lastBe dws (d - d0) else 0
    (w * 8, en (2 * w) + 16 * en (2 * w + 1)))

/-- The contiguous runs of a lane mask. -/
def laneRuns (mask : Nat) : List Nat :=
  let res := (List.range 9).foldl (fun (acc : List Nat × Nat) k =>
    if k < 8 && mask.testBit k then (acc.1, acc.2 + 2 ^ k)
    else if acc.2 = 0 then acc else (acc.1 ++ [acc.2], 0)) ([], 0)
  res.1

/-- A request split into open accesses: at every bank boundary and after every 32 words (R345). -/
def splitAccesses (words : List (Nat × Nat)) : List (List (Nat × Nat)) :=
  words.foldl (fun acc w =>
    match acc.getLast? with
    | some l => if l.length < 32 ∧ w.1 % 131072 ≠ 0 then acc.dropLast ++ [l ++ [w]] else acc ++ [[w]]
    | none => [[w]]) []

/-- The open-port accesses that one of these makes: a word alone is split into the contiguous runs of its enabled
bytes (R345). They read or write that one word together: a FIFO gives or takes one word. -/
def runCount (acc : List (Nat × Nat)) : Nat :=
  match acc with
  | [(_, m)] => max 1 (laneRuns m).length
  | _ => 1

/-- A word outcome other than 0 and 1 is counted and recorded, and raises the host-access cause (R346): a refusal with the
aborts, every other one with the poisoned completions (DESIGN CHOICE, log entry 193). -/
def State.barError (s : State) (code offset : Nat) : State :=
  let s := s.bump 32 0x6101 (if 6 ≤ code then 0x02 else 0x01)
  let s := s.wr 0x6101 0x04 (code % 16 * 2 ^ 60 + offset % 2 ^ 31)
  s.raiseOnce 275 clsHost 0xB04 0 (offset % 2 ^ 31)

/-- The outcomes of the words of one access, in address order, up to the first refusal: whether it was refused. -/
def State.barOutcomes (s : State) (l : List (Nat × Nat)) : Bool × State :=
  l.foldl (fun acc x =>
    if acc.1 then acc
    else if x.2 ≤ 1 then acc
    else (6 ≤ x.2, acc.2.barError x.2 x.1)) (false, s)

/-- The enabled bytes of a word. -/
def enabledBytes (en : Nat) (data : List Byte) : List Byte :=
  (List.range 8).filterMap (fun k => if en.testBit k then some (data.getD k 0) else none)

/-- The words of a BAR4 read with their statuses become completions (Table 11-2): whether one was refused. -/
def State.bar4Answer (s : State) (acc : List (Nat × Nat)) (words : List (Nat × List Byte)) : Bool × State :=
  let (bad, s) := s.barOutcomes ((List.range words.length).map (fun i =>
    ((acc.getD i (0, 0)).1, (words.getD i (0, [])).1)))
  let good := words.takeWhile (fun w => w.1 < 6)
  let data := (List.range good.length).flatMap (fun i =>
    let w := good.getD i (0, [])
    enabledBytes (acc.getD i (0, 0)).2 (if 4 ≤ w.1 then List.replicate 8 0 else w.2))
  let poisoned : Bool := good.any (fun w => 4 ≤ w.1)
  let s := if good.isEmpty then s else s.emit (.completion (if poisoned then 2 else 0) data)
  (bad, if bad then s.emit (.completion 1 []) else s)

/-- A BAR4 access that ends with a network status: a read ends with a Completer Abort (Table 11-2). -/
def State.hostRefused (s : State) (write : Bool) (nstat addr : Nat) : State :=
  let s := s.barError (12 + nstat) addr
  if write then s else s.emit (.completion 1 [])

/-- A response packet for the PCI Express endpoint's own request q (R346). -/
def State.hostAnswer (s : State) (q : OutReq) (p : Packet) : State :=
  let write : Bool := q.cmd = 0x02
  let nstat := p.wcnt % 16
  let first := p.addr / 8
  let enabled (i : Nat) : Nat :=
    let w := first + i
    (if w = q.packet.addr / 8 then firstMask (addrLane q.packet.addr) else 255)
      &&& (if w = q.packet.addr / 8 + q.packet.wcnt then lastMask q.packet.last else 255)
  let status (i : Nat) : Nat := (p.units.headD 0).toNat / 16 ^ i % 16
  if nstat ≠ 0 then s.hostRefused write nstat (q.packet.addr % 2 ^ 31)
  else if write then
    (s.barOutcomes ((List.range (q.packet.wcnt + 1)).map (fun i => (q.packet.addr / 8 * 8 + 8 * i, status i)))).2
  else
    let data := packetWords { p with units := p.units.drop 1 }
    let n := min data.length (q.packet.wcnt + 1 - (first - q.packet.addr / 8))
    (s.bar4Answer ((List.range n).map (fun i => ((first + i) * 8, enabled i)))
      ((List.range n).map (fun i => (status i, natBytes 8 (data.getD i 0).toNat)))).2

/-- The endpoint may send the next access to region n: it holds a free response slot and a credit, and no request of its
own on another route is unanswered (R328, R332). Before the first bundle there are no credits, and none are asked for
(log entry 53). -/
def State.bar4May (s : State) (n : Nat) : Bool :=
  s.outstanding 0x050 < responseSlots 0x050 && (s.bundle.isNone || s.creditsUsed 0x050 n < s.creditsFor 0x050 n)
    && !s.otherRoute 0x050 n (s.requestStatus 0x050 n).2

/-- The spine journey of a packet of an access, by a bundle's route, on which a switch has no port of the number that the
route names (R327). -/
def State.missesPort (s : State) (src dest : Nat) (route : BitVec 32) : Option Journey :=
  let j := spineOf { src := src, dest := dest, route := route }
  if s.bundle.isSome && j.noPort then some j else none

/-- The responses of an access are discarded at a switch (R327): it ends at the response timeout, with NSTAT 3 (R333). -/
def State.answerLost (s : State) (write : Bool) (n : Nat) (j : Journey) (packets units addr : Nat) : Bool × State :=
  let s := (s.carry (outward n ++ j.routers) units).bumpBy 32 (0x6010 + j.routers.getLastD 0) 0x04 packets
  (true, (s.countNstat 3).hostRefused write 3 addr)

/-- One open access of a BAR4 read: whether it was refused. A request whose route meets a missing port is bounced there
with NSTAT 4 (R327). -/
def State.bar4ReadAccess (s : State) (acc : List (Nat × Nat)) (waits : Nat) : Bool × State :=
  let a := (acc.headD (0, 0)).1
  let n := a / 2 ^ 23 % 64
  let (nst, route) := s.requestStatus 0x050 n
  if nst ≠ 0 then (true, (s.countNstat nst).hostRefused false nst a)
  else if let some j := s.missesPort 0x050 n route then (true, (s.carry j.routers 1).hostRefused false 4 a)
  else
    let runs := runCount acc
    let s := (s.carry (routersOn 0x050 n route) runs).bumpBy 64 (0x6060 + n) 0x02 runs
    let s := s.countConflicts (quadrantOf n) 0 waits
    let (words, s) := s.openRead (addrBank a) (addrWord a) acc.length (acc.headD (0, 0)).2 (acc.getLastD (0, 0)).2
      (addrView a)
    let trains := readTrains a words
    let units := trains.foldl (fun n t => n + 1 + t.2.length) 0
    let back := s.responseRoute n 0x050
    match s.missesPort n 0x050 back with
    | some j => s.answerLost false n j (runs * trains.length) (runs * units) a
    | none => (s.carry (routersOn n 0x050 back) (runs * units)).bar4Answer acc words

/-- The word of a request's data at a memory-layer address. -/
def bar4Data (offset : Nat) (data : List (BitVec 32)) (a : Nat) : Word64 :=
  let d0 := offset / 4
  let dw (d : Nat) : BitVec 32 := if d < d0 then 0 else data.getD (d - d0) 0
  dw (a / 4 + 1) ++ dw (a / 4)

/-- One open access of a BAR4 write: whether it was refused. -/
def State.bar4WriteAccess (s : State) (acc : List (Nat × Nat)) (data : Nat → Word64) (waits : Nat) : Bool × State :=
  let a := (acc.headD (0, 0)).1
  let n := a / 2 ^ 23 % 64
  let (nst, route) := s.requestStatus 0x050 n
  if nst ≠ 0 then (true, (s.countNstat nst).hostRefused true nst a)
  else if let some j := s.missesPort 0x050 n route then
    (true, (s.carry j.routers (1 + (acc.length + 1) / 2)).hostRefused true 4 a)
  else
    let runs := runCount acc
    let s := (s.carry (routersOn 0x050 n route) (runs * (1 + (acc.length + 1) / 2))).bumpBy 64 (0x6060 + n) 0x02 runs
    let s := s.countConflicts (quadrantOf n) 0 waits
    let (sts, s) := s.openWrite (addrBank a) (addrWord a) (acc.headD (0, 0)).2 (acc.getLastD (0, 0)).2 (addrView a)
      (acc.map (fun w => data w.1))
    let back := s.responseRoute n 0x050
    match s.missesPort n 0x050 back with
    | some j => s.answerLost true n j runs (2 * runs) a
    | none =>
    let s := s.carry (routersOn n 0x050 back) (2 * runs)
    s.barOutcomes ((List.range sts.length).map (fun i => ((acc.getD i (0, 0)).1, sts.getD i 0)))

/-- The accesses of a request in address order: one that may not be sent yet waits with those after it; a refusal ends
the request (R346). An access holds its response slot and its credit until it is answered (R332), which here is within
the command. -/
def State.bar4Run (s : State) (r : BarReq) : Nat → State
  | 0 => s
  | fuel + 1 =>
    match r.accs with
    | [] => s
    | x :: rest =>
      let n := (x.headD (0, 0)).1 / 2 ^ 23 % 64
      if (s.requestStatus 0x050 n).1 = 0 ∧ !s.bar4May n then { s with bar4Held := s.bar4Held ++ [r] }
      else
        let q : OutReq := { node := 0x050, dest := n, cmd := if r.write then 0x02 else 0x01
                            route := (s.requestStatus 0x050 n).2 }
        let s := { s with outReqs := q :: s.outReqs }
        let (bad, t) := if r.write then s.bar4WriteAccess x (bar4Data r.offset r.data) r.waits
          else s.bar4ReadAccess x r.waits
        let t := { t with outReqs := t.outReqs.erase q }
        if bad then t
        else t.bar4Run { r with
          accs := rest
          waits := 0 } fuel

/-- A request of the host: behind those that wait. -/
def State.bar4Ask (s : State) (r : BarReq) : State :=
  if s.bar4Held.isEmpty then s.bar4Run r (r.accs.length + 1) else { s with bar4Held := s.bar4Held ++ [r] }

/-- The requests that wait are tried in order. -/
def State.bar4Resume (s : State) : State :=
  s.bar4Held.foldl (fun s r => s.bar4Ask r) { s with bar4Held := [] }

/-- A BAR4 read (R345, R346). -/
def State.bar4Read (s : State) (offset : Nat) (firstBe lastBe : BitVec 4) (dws waits : Nat) : State :=
  if dws = 1 ∧ firstBe = 0 then s.emit (.completion 0 [0, 0, 0, 0])
  else s.bar4Ask { accs := splitAccesses (bar4Words offset firstBe lastBe dws), waits := waits }

/-- A BAR4 write (R345, R346). -/
def State.bar4Write (s : State) (offset : Nat) (firstBe lastBe : BitVec 4) (data : List (BitVec 32)) (waits : Nat) :
    State :=
  let words := (bar4Words offset firstBe lastBe data.length).filter (fun w => w.2 ≠ 0)
  s.bar4Ask { write := true, accs := splitAccesses words, offset := offset, data := data, waits := waits }

/-! ### BAR2 (R272, R347) -/

/-- The lines of a BAR2 read: stack, line, first byte, bytes. -/
def bar2Lines (offset length : Nat) : List (Nat × Nat × Nat × Nat) :=
  (List.range ((offset + length + 63) / 64 - offset / 64)).map (fun i =>
    let l := offset / 64 + i
    let lo := max offset (l * 64)
    (l * 64 / 2 ^ 38, l % 2 ^ 32, lo - l * 64, min (offset + length) (l * 64 + 64) - lo))

/-- A BAR2 read: a completion for each line; a stack that is not ready ends it with a Completer Abort. -/
def State.bar2Serve (s : State) (offset length : Nat) : State :=
  ((bar2Lines offset length).foldl (fun (acc : Bool × State) x =>
    if acc.1 then acc
    else if acc.2.rd 0x5801 (x.1 + 1) ≠ 2 then
      (true, (acc.2.bump 32 0x6101 0x02).emit (.completion 1 []))
    else
      let (cls, data, s) := acc.2.readLine x.1 x.2.1
      if cls = lnUncorrectable ∨ cls = lnAddressFault then
        (false, (s.bump 32 0x6101 0x01).emit (.completion 2 (List.replicate x.2.2.2 0)))
      else (false, s.emit (.completion 0 ((data.drop x.2.2.1).take x.2.2.2)))) (false, s)).2

/-- A BAR2 read waits while domain LBIF is stopped (R444). -/
def State.bar2Read (s : State) (offset length : Nat) : State :=
  if s.lbif.isSome then { s with bar2Held := s.bar2Held ++ [(offset, length)] } else s.bar2Serve offset length

/-- BAR2 reads that waited are served in order. -/
def State.bar2Resume (s : State) : State :=
  if s.lbif.isSome then s
  else s.bar2Held.foldl (fun s x => s.bar2Serve x.1 x.2) { s with bar2Held := [] }

/-! ### Interrupts (R349, R350) -/

/-- A vector's table entry, masked until written (R364). -/
def msixDflt : Nat → BitVec 128 := fun _ => 1#128 <<< 96
def State.msixEntry (s : State) (v : Nat) : BitVec 128 := Sparse.get msixDflt s.msixTable v
def State.setMsix (s : State) (v : Nat) (x : BitVec 128) : State :=
  { s with msixTable := Sparse.set msixDflt s.msixTable v x }

/-- A pending vector that is not masked and not in its holdoff sends its message; the holdoff then runs. -/
def State.msixTry (s : State) (v : Nat) : State :=
  if s.msixPend.contains v && !s.msixHold.contains v && !(s.msixEntry v).getLsbD 96 then
    let s := { s with
      msixPend := s.msixPend.filter (fun x => x ≠ v)
      msixHold := if s.rd 0x6113 0x01 = 0 then s.msixHold else s.msixHold ++ [v] }
    s.emit (.msix v)
  else s

/-! ### Readout triggers (R351 to R354) -/

/-- Something has come to readout kernel k that the standard program waits for (R389). -/
def State.readoutCall (s : State) (k : Nat) : State :=
  if (s.kernel k).std && !s.readoutDue.contains k then { s with readoutDue := s.readoutDue ++ [k] } else s

/-- A trigger message reaches readout kernel r. -/
def State.pushTrigger (s : State) (r : Nat) (w0 w1 : Word64) : State :=
  let k := 64 + r
  let x := s.kernel k
  let s := s.bump 64 (0x6140 + r) 0x01
  if 64 ≤ x.triggers.length then (s.bump 32 (0x6140 + r) 0x03).raiseOnce 280 clsHost 0xB09 1
  else
    let s := s.setKernel k { x with triggers := x.triggers ++ [(w0, w1)] }
    (s.wr (0x6140 + r) 0x05 (x.triggers.length + 1)).readoutCall k

/-- The token of a readout-trigger release register (R352): xn is the crossing of the input wave. -/
def State.readoutToken (s : State) (r xn : Nat) (void late : Bool) (data : Nat) : State :=
  if late then
    let s := s.bump 32 (0x6140 + r) 0x02
    (s.pushTrigger r 0 (BitVec.ofNat 64 (2 ^ 63 + xn % 2 ^ 48))).raiseOnce 281 clsHost 0xB0A 0
  else if void then s
  else s.pushTrigger r (BitVec.ofNat 64 data) (BitVec.ofNat 64 (xn % 2 ^ 48))

/-- A software trigger (R354). -/
def State.softTrigger (s : State) (r : Nat) (token : Word64) : Nat × State :=
  if token.extractLsb' 48 4 ≠ 0 then refuse abortValue s
  else done (s.pushTrigger r token (BitVec.ofNat 64 (2 ^ 62 + token.toNat % 2 ^ 48)))

/-! ### DMA engines (R357 to R361) -/

def State.engState (s : State) (e : Nat) : Nat := s.rd (0x6120 + e) 0x06
def State.engN (s : State) (e : Nat) : Nat := s.rd (0x6120 + e) 0x02
def State.engP (s : State) (e : Nat) : Nat := s.rd (0x6120 + e) 0x03
def State.engC (s : State) (e : Nat) : Nat := s.rd (0x6120 + e) 0x04
/-- Descriptors that the host has passed and no buffer has closed. -/
def State.engOpen (s : State) (e : Nat) : Nat := (s.engP e + 2 ^ 32 - s.engC e) % 2 ^ 32
/-- A descriptor is free: one beyond the current buffer's. -/
def State.engFree (s : State) (e : Nat) : Bool :=
  (if (s.engine e).buf.isSome then 1 else 0) < s.engOpen e
/-- The ring may be used: N is a power of two from 16 to 65,536 (R357). -/
def ringSizeOk (n : Nat) : Bool := (List.range 13).any (fun i => n = 2 ^ (i + 4))

/-- The current buffer closes with a RESULT: STATUS is written, then the vector is sent, and C advances (R359). -/
def State.closeBuffer (s : State) (e result : Nat) : State :=
  let x := s.engine e
  match x.buf with
  | none => s
  | some (_, _, fill) =>
    let slot := s.engC e % max (s.engN e) 1
    let status := 2 ^ 31 + result * 2 ^ 27 + fill / 8
    let s := s.emit (.hostWrite (s.rd (0x6120 + e) 0x01 + 16 * slot + 12) (natBytes 4 status))
    let s := s.pendVector (s.rd (0x6120 + e) 0x08)
    let s := s.wr (0x6120 + e) 0x04 ((s.engC e + 1) % 2 ^ 32)
    s.setEngine e { x with buf := none }

/-- The fragment at the head of the queue does not fit in the rest of the current buffer, and is not larger than it
(R358). -/
def State.bufferFull (s : State) (e : Nat) : Bool :=
  match (s.engine e).held, (s.engine e).buf with
  | f :: _, some (_, size, fill) => size < fill + f.length && f.length ≤ size
  | _, _ => false

/-- Running or starved, as a fragment waits for a descriptor; a fragment that does not fit in the rest of the current
buffer closes it (R358), and a free descriptor ends a period without one (R360). -/
def State.engRefresh (s : State) (e : Nat) : State :=
  if s.engState e = 1 ∨ s.engState e = 2 then
    let x := s.engine e
    let s := if s.bufferFull e then s.closeBuffer e 0 else s
    let x := s.engine e
    let waits : Bool := !x.held.isEmpty && x.buf.isNone && !s.engFree e
    let s := s.wr (0x6120 + e) 0x06 (if waits then 2 else 1)
    if s.engFree e then s.setEngine e { x with starvedRaised := false } else s
  else s

/-- A fragment dropped (R358, R360). -/
def State.dropFragment (s : State) (e : Nat) : State := s.bump 32 (0x6120 + e) 0x0B

/-- Staging space comes back to the readout kernel (R386). -/
def State.freeStage (s : State) (e len : Nat) : State :=
  let k := 64 + e
  let x := s.kernel k
  ((s.setKernel k { x with stageOwned := x.stageOwned - len }).kernelEdge k 6).readoutCall k

/-- A fragment is submitted (R360, R361, R386): 0 accepted, 2 the engine is stopped. -/
def State.submitFragment (s : State) (e : Nat) (bytes : List Byte) : Nat × State :=
  if s.engState e ≠ 1 ∧ s.engState e ≠ 2 then
    (2, (s.dropFragment e).raise 277 clsHost 0xB06 1)
  else
    let x := s.engine e
    let f := bytes.take 4 ++ natBytes 4 x.seq ++ (bytes.drop 8).take 8 ++ natBytes 8 s.now ++ bytes.drop 24
    let used := (x.held.map List.length).foldl (fun a b => a + b) 0
    if !s.engFree e ∧ 1048576 < used + bytes.length then
      let s := s.dropFragment e
      (0, if x.starvedRaised then s
        else (s.raise 276 clsHost 0xB05 1).setEngine e { x with starvedRaised := true })
    else
      let s := s.setEngine e { x with held := x.held ++ [f], seq := (x.seq + 1) % 2 ^ 32 }
      let k := s.kernel (64 + e)
      (0, (s.setKernel (64 + e) { k with stageOwned := k.stageOwned + bytes.length }).engRefresh e)

/-- The engine opens the next buffer by the descriptor it reads from host memory; a bad one is closed with RESULT 3
and FILL 0 (R358). -/
def State.openBuffer (s : State) (e addr size : Nat) : State :=
  let x := s.engine e
  let s := s.setEngine e { x with buf := some (addr, size, 0) }
  if addr % 64 ≠ 0 ∨ size % 64 ≠ 0 ∨ size < 4096 ∨ 16777216 < size then s.closeBuffer e 3 else s

/-- The engine writes the fragment at the head of its queue (R358, R359): into the current buffer, or, where that
cannot take it, into the next one, whose descriptor the host memory gives. -/
def State.writeFragment (s : State) (e addr size : Nat) : State :=
  if s.engState e ≠ 1 ∧ s.engState e ≠ 2 then s
  else
    match (s.engine e).held with
    | [] => s
    | f :: rest =>
      let s := if s.bufferFull e then s.closeBuffer e 0 else s
      let s := if (s.engine e).buf.isNone ∧ s.engFree e then s.openBuffer e addr size else s
      match (s.engine e).buf with
      | none => s.engRefresh e
      | some (a, sz, fill) =>
        let x := s.engine e
        if fill + f.length ≤ sz then
          let s := s.emit (.hostWrite (a + fill) f)
          let s := s.setEngine e { x with buf := some (a, sz, fill + f.length), held := rest }
          let s := (s.bump 64 (0x6120 + e) 0x09).bumpBy 64 (0x6120 + e) 0x0A f.length
          (s.freeStage e f.length).engRefresh e
        else if sz < f.length then
          let s := ((s.dropFragment e).raise 277 clsHost 0xB06 1).setEngine e { x with held := rest }
          (s.freeStage e f.length).engRefresh e
        else s.engRefresh e

/-- A buffer that holds a fragment and has received none for the flush time (R358). -/
def State.flushBuffer (s : State) (e : Nat) : State :=
  match (s.engine e).buf with
  | some (_, _, fill) => if 0 < fill then (s.closeBuffer e 1).engRefresh e else s
  | none => s

/-- The engine enters stopped: the buffer closes with RESULT 2, and fragments it still holds are dropped (R360, R365). -/
def State.haltEngine (s : State) (e : Nat) : State :=
  let s := s.closeBuffer e 2
  let x := s.engine e
  let s := s.setEngine e { x with held := [], starvedRaised := false }
  let s := x.held.foldl (fun s f => (s.dropFragment e).freeStage e f.length) s
  s.wr (0x6120 + e) 0x06 0

/-- Engine command 2. -/
def State.stopEngine (s : State) (e : Nat) : State :=
  if s.engState e ≠ 1 ∧ s.engState e ≠ 2 then s else s.haltEngine e

/-- Engine command 1. -/
def State.startEngine (s : State) (e : Nat) : Nat × State :=
  if s.engState e = 3 ∨ (s.engState e = 0 ∧ !ringSizeOk (s.engN e)) then refuse abortState s
  else if s.engState e ≠ 0 then done s
  else
    let s := s.setEngine e {}
    done ((s.wr (0x6120 + e) 0x06 1).engRefresh e)

/-- A write of the producer index (R357). -/
def State.writeProducer (s : State) (e p : Nat) : Nat × State :=
  if s.engN e < (p + 2 ^ 32 - s.engC e) % 2 ^ 32 then refuse abortValue s
  else done ((s.wr (0x6120 + e) 0x03 p).engRefresh e)

/-! ### Readout lanes (R363) -/

/-- The blocks of a fragment on a transmit lane. -/
def fragmentBlocks (f : List Byte) : List (BitVec 2 × Word64) :=
  let uc (body : Nat) : BitVec 2 × Word64 := (0b10, BitVec.ofNat 64 (body * 256 + 0x66))
  [uc (1 * 2 ^ 48 + f.length / 8 % 2 ^ 24 * 2 ^ 24 + fieldAt f 4 3)]
  ++ (chunks 8 (f.length + 1) f).map (fun l => (0b01, BitVec.ofNat 64 (bytesNat l)))
  ++ [uc (2 * 2 ^ 48 + (crc32c f).toNat * 2 ^ 16)]

/-- Queued fragments leave while the lane sends. -/
def State.drainReadout (s : State) (i : Nat) : State :=
  let l := s.rd (0x6160 + i) 0x01
  let q := Sparse.get (fun _ => []) s.readoutQueue i
  if l < 512 ∧ s.txSends l then
    q.foldl (fun s f => ((fragmentBlocks f).foldl (fun s b => s.txBlock l b.1 b.2) s).bump 64 (0x6160 + i) 0x02)
      { s with readoutQueue := Sparse.erase s.readoutQueue i }
  else s

/-- Every readout lane sends what is queued for it. -/
def State.drainReadouts (s : State) : State := (s.readoutQueue.map (fun q => q.1)).foldl (fun s i => s.drainReadout i) s

/-- A fragment for readout lane i: queued up to 256 KiB, else dropped. -/
def State.readoutFragment (s : State) (i : Nat) (f : List Byte) : State :=
  if s.rd (0x6160 + i) 0x01 = 0xFFFF then s
  else
    let q := Sparse.get (fun _ => []) s.readoutQueue i
    if 262144 < (q.map List.length).foldl (fun a b => a + b) 0 + f.length then
      (s.bump 32 (0x6160 + i) 0x03).raise 279 clsHost 0xB08 1
    else
      { s with readoutQueue := Sparse.set (fun _ => []) s.readoutQueue i (q ++ [f]) }.drainReadout i

/-! ### The endpoint (R342, R343, R364) -/

/-- The bits of a BAR register that a write sets: 64-bit BARs of 64 MiB, 2 TiB and 2 GiB (Table 11-1), in registers 4
to 9 of the header of PCI Express: PRESUMED (log entry 194). -/
def barMask (reg : Nat) : BitVec 32 :=
  match reg with
  | 4 => 0xFC000000
  | 5 => 0xFFFFFFFF
  | 6 => 0
  | 7 => 0xFFFFFE00
  | 8 => 0x80000000
  | 9 => 0xFFFFFFFF
  | _ => 0

/-- Its fixed bits: 64-bit memory, BAR2 prefetchable. -/
def barFixed (reg : Nat) : BitVec 32 :=
  match reg with
  | 4 => 0x4
  | 6 => 0xC
  | 8 => 0x4
  | _ => 0

/-- The registers of the BARs. -/
def isBarReg (reg : Nat) : Bool := 4 ≤ reg && reg ≤ 9

/-- What a register that no write has set holds: a BAR no base. -/
def cfgDflt (reg : Nat) : BitVec 32 := if isBarReg reg then 0 else Config.cfgReset reg

/-- What R342 states of a register of configuration space, in the layout of PCI Express: PRESUMED (log entry 194): the bits
that it settles, and their values. One function (header type 0), no INTx (interrupt pin 0), a capability list of power
management, PCI Express and MSI-X, and so no MSI; function-level reset, a payload of 512 bytes, 10-bit tags, ASPM L1
only, 32.0 GT/s and ×16 at most, no AtomicOps as a completer, 512 vectors, and Advanced Error Reporting. -/
def cfgStated (reg : Nat) : BitVec 32 × BitVec 32 :=
  let cap (i : Nat) : Nat := Config.capReg i
  if reg = 1 then (0x00100000, 0x00100000)
  else if reg = 3 then (0x00FF0000, 0)
  else if reg = 13 then (0xFF, BitVec.ofNat 32 (cap 0 * 4 % 256))
  else if reg = 15 then (0xFF00, 0)
  else if reg = 64 then (0xFFFF, 0x0001)
  else if reg < 16 then (0, 0)
  else if reg = cap 0 then (0xFFFF, BitVec.ofNat 32 (cap 1 * 4 % 256 * 256 + 0x01))
  else if reg = cap 1 then (0xFFFFFF, BitVec.ofNat 32 (0x020000 + cap 2 * 4 % 256 * 256 + 0x10))
  else if reg = cap 1 + 1 then (0x10000007, 0x10000002)
  else if reg = cap 1 + 3 then (0xFFF, 0x905)
  else if reg = cap 1 + 9 then (0x30380, 0x30000)
  else if reg = cap 1 + 11 then (0xFE, 0x3E)
  else if reg = cap 2 then (0x07FFFFFF, BitVec.ofNat 32 (511 * 65536 + 0x11))
  else if reg = cap 2 + 1 then (0xFFFFFFFF, 0x3800000)
  else if reg = cap 2 + 2 then (0xFFFFFFFF, 0x3802000)
  else (0, 0)

/-- A register of configuration space: device and vendor identifier, class code and revision, the BARs, what R342 states
of the capabilities, the others. -/
def State.cfgReg (s : State) (reg : Nat) : BitVec 32 :=
  if reg = 0 then BitVec.ofNat 32 (s.rd 0x6100 0x09 * 65536 + s.rd 0x6100 0x0A)
  else if reg = 2 then 0x11800000 ||| (Config.cfgReset 2 &&& 0xFF)
  else if isBarReg reg then Sparse.get cfgDflt s.cfgSpace reg ||| barFixed reg
  else
    let (mask, value) := cfgStated reg
    (Sparse.get cfgDflt s.cfgSpace reg &&& ~~~mask) ||| value

/-- A write of a register; identifiers and class are read only. -/
def State.setCfg (s : State) (reg : Nat) (v : BitVec 32) : State :=
  if reg = 0 ∨ reg = 2 then s
  else
    let new := if isBarReg reg then v &&& barMask reg else Config.cfgWritten reg (s.cfgReg reg) v
    { s with cfgSpace := Sparse.set cfgDflt s.cfgSpace reg new }

/-- A configuration request (R342, R343): retry status until the firmware runs. -/
def State.configRequest (s : State) (reg : Nat) (write : Option (BitVec 32)) : State :=
  if !s.startup.firmware then s.emit (.completion 3 [])
  else match write with
    | none => s.emit (.completion 0 (natBytes 4 (s.cfgReg reg).toNat))
    | some v => (s.setCfg reg v).emit (.completion 0 [])

/-- The link finishes training (R343). -/
def State.linkTrained (s : State) (speed width payload correctable uncorrectable : Nat) : State :=
  let s := (s.wr 0x6100 0x01 2).wr 0x6100 0x02 speed
  let s := (s.wr 0x6100 0x03 width).wr 0x6100 0x05 payload
  let s := (s.bumpBy 32 0x6100 0x07 correctable).bumpBy 32 0x6100 0x08 uncorrectable
  let s := if uncorrectable = 0 then s else s.raise 274 clsHost 0xB03 1
  if speed < s.rd 0x6100 0x04 ∨ width < 16 then s.raise 273 clsHost 0xB02 0 else s

/-- The host interface is reset (R364): its table is masked and cleared, its engines stopped and their rings set to
0; a stream on path 2 ends. -/
def State.hostReset (s : State) : State :=
  let s := { s with
    msixTable := []
    msixHold := []
    bar2Held := []
    bar4Held := []
    outReqs := s.outReqs.filter (fun q => q.node ≠ 0x050)
    cfgSpace := [] }
  let s := (List.range 16).foldl (fun s e =>
    let x := s.engine e
    let s := x.held.foldl (fun s f => s.freeStage e f.length) s
    let s := s.setEngine e { buf := none, seq := x.seq, held := [], starvedRaised := false }
    let s := (s.wr (0x6120 + e) 0x06 0).wr (0x6120 + e) 0x01 0
    ((s.wr (0x6120 + e) 0x02 0).wr (0x6120 + e) 0x03 0).wr (0x6120 + e) 0x04 0) s
  s.pathEnd (s.senderOn 2)

/-- The link leaves up (Table 11-9). -/
def State.linkDown (s : State) : State :=
  if s.rd 0x6100 0x01 = 2 then ((s.wr 0x6100 0x01 1).bump 32 0x6100 0x06).raise 272 clsHost 0xB01 1
  else s

end Sys2Proof.Machine
end

