-- ==== Sys2Proof/Machine/KernelWords.lean ====
section
/-! DEFINITION. KernelWords.lean: the encoding of the kernels' instructions (R372 to R376): a decoder from the
halfwords at a kernel's PC, which refuses every encoding the tables call illegal, and an encoder. Bits of a form
that its instruction does not use are ignored (log entry 32). -/

namespace Sys2Proof.Machine

/-- The 16-bit instructions (Table 12-4), of kernel k. -/
def decodeShort (k : Nat) (h : BitVec 16) : Option Instr :=
  let rd := (h.extractLsb' 7 4).toNat
  let rdR := (h.extractLsb' 4 4).toNat
  let rs := (h.extractLsb' 0 4).toNat
  let imm := h.extractLsb' 0 7
  match (h.extractLsb' 13 2).toNat with
  | 0 =>
    match (h.extractLsb' 8 5).toNat with
    | 0 => some (.mv k rdR rs)
    | 1 => some (.add k rdR rs)
    | 2 => some (.sub k rdR rs)
    | 3 => some (.and k rdR rs)
    | 4 => some (.or k rdR rs)
    | 5 => some (.xor k rdR rs)
    | 6 => some (.sll k rdR rs)
    | 7 => some (.srl k rdR rs)
    | 8 => some (.sra k rdR rs)
    | 9 => if rdR = 0 then some (.jr k rs) else none
    | 31 => if rdR = 0 ∧ rs = 0 then some (.nop k) else none
    | _ => none
  | 1 =>
    match (h.extractLsb' 11 2).toNat with
    | 0 => some (.li k rd imm)
    | 1 => some (.cAddi k rd imm)
    | 2 => some (.lws k rd imm)
    | _ => some (.sws k rd imm)
  | 2 =>
    match (h.extractLsb' 11 2).toNat with
    | 0 => some (.beqz k rd imm)
    | 1 => some (.bnez k rd imm)
    | 2 => some (.bltz k rd imm)
    | _ => some (.bgez k rd imm)
  | _ => none

/-- The ALU functions (Table 12-6). -/
def decodeAlu (k rd rs1 rs2 f : Nat) : Option Instr :=
  match f with
  | 0 => some (.aluAdd k rd rs1 rs2)
  | 1 => some (.aluSub k rd rs1 rs2)
  | 2 => some (.aluAnd k rd rs1 rs2)
  | 3 => some (.aluOr k rd rs1 rs2)
  | 4 => some (.aluXor k rd rs1 rs2)
  | 5 => some (.aluSll k rd rs1 rs2)
  | 6 => some (.aluSrl k rd rs1 rs2)
  | 7 => some (.aluSra k rd rs1 rs2)
  | 8 => some (.setlt k rd rs1 rs2)
  | 9 => some (.setlo k rd rs1 rs2)
  | 10 => some (.mul k rd rs1 rs2)
  | 11 => some (.mulhi k rd rs1 rs2)
  | _ => none

/-- The shifts by an immediate (Table 12-5, op 0x05). -/
def decodeShi (k rd rs1 : Nat) (imm : BitVec 17) : Option Instr :=
  if imm.extractLsb' 7 10 ≠ 0 then none
  else
    let sh := imm.extractLsb' 0 5
    match (imm.extractLsb' 5 2).toNat with
    | 0 => some (.shiSll k rd rs1 sh)
    | 1 => some (.shiSrl k rd rs1 sh)
    | 2 => some (.shiSra k rd rs1 sh)
    | _ => none

/-- The 32-bit instructions (Table 12-5). -/
def decodeLong (k : Nat) (i : BitVec 32) : Option Instr :=
  let rd := (i.extractLsb' 21 4).toNat
  let rs1 := (i.extractLsb' 17 4).toNat
  let rs2 := (i.extractLsb' 13 4).toNat
  let f := (i.extractLsb' 0 13).toNat
  let imm := i.extractLsb' 0 17
  let immS : BitVec 17 := i.extractLsb' 21 4 ++ i.extractLsb' 0 13
  let immU := i.extractLsb' 0 21
  let csr := i.extractLsb' 0 12
  match (i.extractLsb' 25 6).toNat with
  | 0x00 => decodeAlu k rd rs1 rs2 f
  | 0x01 => some (.addi k rd rs1 imm)
  | 0x02 => some (.andi k rd rs1 imm)
  | 0x03 => some (.ori k rd rs1 imm)
  | 0x04 => some (.xori k rd rs1 imm)
  | 0x05 => decodeShi k rd rs1 imm
  | 0x06 => some (.setlti k rd rs1 imm)
  | 0x07 => some (.lhi k rd immU)
  | 0x08 => some (.lw k rd rs1 imm)
  | 0x09 => some (.lh k rd rs1 imm)
  | 0x0A => some (.lhu k rd rs1 imm)
  | 0x0B => some (.lb k rd rs1 imm)
  | 0x0C => some (.lbu k rd rs1 imm)
  | 0x0D => some (.sw k rs1 rs2 immS)
  | 0x0E => some (.sh k rs1 rs2 immS)
  | 0x0F => some (.sb k rs1 rs2 immS)
  | 0x10 => some (.beq k rs1 rs2 immS)
  | 0x11 => some (.bne k rs1 rs2 immS)
  | 0x12 => some (.blt k rs1 rs2 immS)
  | 0x13 => some (.bge k rs1 rs2 immS)
  | 0x14 => some (.blo k rs1 rs2 immS)
  | 0x15 => some (.bhs k rs1 rs2 immS)
  | 0x16 => some (.call k rd immU)
  | 0x17 => some (.callr k rd rs1 imm)
  | 0x18 =>
    match f with
    | 0 => some (.send k rd rs1)
    | 1 => some (.recv k rd rs1)
    | 2 => some (.trig k rd rs1)
    | 3 => some (.frag k rd rs1 rs2)
    | _ => none
  | 0x19 => some (.wait k rd rs1)
  | 0x1A =>
    match (imm.extractLsb' 12 5).toNat with
    | 0 => some (.crd k rd csr)
    | 1 => some (.cwr k rs1 csr)
    | 2 => some (.cor k rs1 csr)
    | _ => none
  | 0x1B =>
    match f % 8 with
    | 0 => some (.dictRead k rd rs1 rs2)
    | 1 => some (.dictWrite k rd rs1 rs2)
    | 2 => some (.dictPublish k rd rs1 (f / 8))
    | _ => none
  | 0x1C =>
    match f with
    | 0 => some (.trap k rs1)
    | 1 => some (.sync k)
    | _ => none
  | _ => none

/-- The instruction at a lead halfword and the halfword after it, and its length in bytes (R372). -/
def decodeKernel (k : Nat) (lead next : BitVec 16) : Option (Instr × Nat) :=
  if lead.getLsbD 15 then
    if lead = 0xFFFF then none else (decodeLong k (lead ++ next)).map (fun i => (i, 4))
  else (decodeShort k lead).map (fun i => (i, 2))

/-- The forms of Table 12-3. -/
def formCR (f5 rd rs : Nat) : BitVec 16 := 0b000#3 ++ BitVec.ofNat 5 f5 ++ BitVec.ofNat 4 rd ++ BitVec.ofNat 4 rs
def formCI (op2 rd : Nat) (imm : BitVec 7) : BitVec 16 := 0b001#3 ++ BitVec.ofNat 2 op2 ++ BitVec.ofNat 4 rd ++ imm
def formCB (cond rs : Nat) (off : BitVec 7) : BitVec 16 := 0b010#3 ++ BitVec.ofNat 2 cond ++ BitVec.ofNat 4 rs ++ off

/-- The forms of R373. -/
def formR (op rd rs1 rs2 f13 : Nat) : BitVec 32 :=
  1#1 ++ BitVec.ofNat 6 op ++ BitVec.ofNat 4 rd ++ BitVec.ofNat 4 rs1 ++ BitVec.ofNat 4 rs2 ++ BitVec.ofNat 13 f13
def formI (op rd rs1 : Nat) (imm : BitVec 17) : BitVec 32 :=
  1#1 ++ BitVec.ofNat 6 op ++ BitVec.ofNat 4 rd ++ BitVec.ofNat 4 rs1 ++ imm
def formS (op rs1 rs2 : Nat) (imm : BitVec 17) : BitVec 32 :=
  1#1 ++ BitVec.ofNat 6 op ++ imm.extractLsb' 13 4 ++ BitVec.ofNat 4 rs1 ++ BitVec.ofNat 4 rs2 ++ imm.extractLsb' 0 13
def formU (op rd : Nat) (imm : BitVec 21) : BitVec 32 := 1#1 ++ BitVec.ofNat 6 op ++ BitVec.ofNat 4 rd ++ imm

/-- The word of a 16-bit instruction (Table 12-4). -/
def encodeShort : Instr → Option (BitVec 16)
  | .mv _ rd rs => some (formCR 0 rd rs)
  | .add _ rd rs => some (formCR 1 rd rs)
  | .sub _ rd rs => some (formCR 2 rd rs)
  | .and _ rd rs => some (formCR 3 rd rs)
  | .or _ rd rs => some (formCR 4 rd rs)
  | .xor _ rd rs => some (formCR 5 rd rs)
  | .sll _ rd rs => some (formCR 6 rd rs)
  | .srl _ rd rs => some (formCR 7 rd rs)
  | .sra _ rd rs => some (formCR 8 rd rs)
  | .jr _ rs => some (formCR 9 0 rs)
  | .nop _ => some (formCR 31 0 0)
  | .li _ rd imm => some (formCI 0 rd imm)
  | .cAddi _ rd imm => some (formCI 1 rd imm)
  | .lws _ rd imm => some (formCI 2 rd imm)
  | .sws _ rd imm => some (formCI 3 rd imm)
  | .beqz _ rs off => some (formCB 0 rs off)
  | .bnez _ rs off => some (formCB 1 rs off)
  | .bltz _ rs off => some (formCB 2 rs off)
  | .bgez _ rs off => some (formCB 3 rs off)
  | _ => none

/-- The immediate of a shift: the shift in [4:0], its kind in [6:5]. -/
def shiImm (kind : Nat) (sh : BitVec 5) : BitVec 17 := 0#10 ++ BitVec.ofNat 2 kind ++ sh

/-- The word of a 32-bit instruction (Table 12-5), unused bits 0. -/
def encodeLong : Instr → Option (BitVec 32)
  | .aluAdd _ rd rs1 rs2 => some (formR 0 rd rs1 rs2 0)
  | .aluSub _ rd rs1 rs2 => some (formR 0 rd rs1 rs2 1)
  | .aluAnd _ rd rs1 rs2 => some (formR 0 rd rs1 rs2 2)
  | .aluOr _ rd rs1 rs2 => some (formR 0 rd rs1 rs2 3)
  | .aluXor _ rd rs1 rs2 => some (formR 0 rd rs1 rs2 4)
  | .aluSll _ rd rs1 rs2 => some (formR 0 rd rs1 rs2 5)
  | .aluSrl _ rd rs1 rs2 => some (formR 0 rd rs1 rs2 6)
  | .aluSra _ rd rs1 rs2 => some (formR 0 rd rs1 rs2 7)
  | .setlt _ rd rs1 rs2 => some (formR 0 rd rs1 rs2 8)
  | .setlo _ rd rs1 rs2 => some (formR 0 rd rs1 rs2 9)
  | .mul _ rd rs1 rs2 => some (formR 0 rd rs1 rs2 10)
  | .mulhi _ rd rs1 rs2 => some (formR 0 rd rs1 rs2 11)
  | .addi _ rd rs1 imm => some (formI 0x01 rd rs1 imm)
  | .andi _ rd rs1 imm => some (formI 0x02 rd rs1 imm)
  | .ori _ rd rs1 imm => some (formI 0x03 rd rs1 imm)
  | .xori _ rd rs1 imm => some (formI 0x04 rd rs1 imm)
  | .shiSll _ rd rs1 sh => some (formI 0x05 rd rs1 (shiImm 0 sh))
  | .shiSrl _ rd rs1 sh => some (formI 0x05 rd rs1 (shiImm 1 sh))
  | .shiSra _ rd rs1 sh => some (formI 0x05 rd rs1 (shiImm 2 sh))
  | .setlti _ rd rs1 imm => some (formI 0x06 rd rs1 imm)
  | .lhi _ rd imm => some (formU 0x07 rd imm)
  | .lw _ rd rs1 imm => some (formI 0x08 rd rs1 imm)
  | .lh _ rd rs1 imm => some (formI 0x09 rd rs1 imm)
  | .lhu _ rd rs1 imm => some (formI 0x0A rd rs1 imm)
  | .lb _ rd rs1 imm => some (formI 0x0B rd rs1 imm)
  | .lbu _ rd rs1 imm => some (formI 0x0C rd rs1 imm)
  | .sw _ rs1 rs2 imm => some (formS 0x0D rs1 rs2 imm)
  | .sh _ rs1 rs2 imm => some (formS 0x0E rs1 rs2 imm)
  | .sb _ rs1 rs2 imm => some (formS 0x0F rs1 rs2 imm)
  | .beq _ rs1 rs2 imm => some (formS 0x10 rs1 rs2 imm)
  | .bne _ rs1 rs2 imm => some (formS 0x11 rs1 rs2 imm)
  | .blt _ rs1 rs2 imm => some (formS 0x12 rs1 rs2 imm)
  | .bge _ rs1 rs2 imm => some (formS 0x13 rs1 rs2 imm)
  | .blo _ rs1 rs2 imm => some (formS 0x14 rs1 rs2 imm)
  | .bhs _ rs1 rs2 imm => some (formS 0x15 rs1 rs2 imm)
  | .call _ rd imm => some (formU 0x16 rd imm)
  | .callr _ rd rs1 imm => some (formI 0x17 rd rs1 imm)
  | .send _ rd rs1 => some (formR 0x18 rd rs1 0 0)
  | .recv _ rd rs1 => some (formR 0x18 rd rs1 0 1)
  | .trig _ rd rs1 => some (formR 0x18 rd rs1 0 2)
  | .frag _ rd rs1 rs2 => some (formR 0x18 rd rs1 rs2 3)
  | .wait _ rd rs1 => some (formR 0x19 rd rs1 0 0)
  | .crd _ rd csr => some (formI 0x1A rd 0 (0#5 ++ csr))
  | .cwr _ rs1 csr => some (formI 0x1A 0 rs1 (1#5 ++ csr))
  | .cor _ rs1 csr => some (formI 0x1A 0 rs1 (2#5 ++ csr))
  | .dictRead _ rd rs1 rs2 => some (formR 0x1B rd rs1 rs2 0)
  | .dictWrite _ rd rs1 rs2 => some (formR 0x1B rd rs1 rs2 1)
  | .dictPublish _ rd rs1 v => some (formR 0x1B rd rs1 0 (v * 8 + 2))
  | .trap _ rs1 => some (formR 0x1C 0 rs1 0 0)
  | .sync _ => some (formR 0x1C 0 0 0 1)
  | _ => none


end Sys2Proof.Machine
end

