-- ==== Sys2Proof/Machine/KernelCore.lean ====
section
/-! DEFINITION. KernelCore.lean: the kernels (chapter 12): registers, memory, faults, events, control registers,
the network interface of a kernel, starts and stops. -/

namespace Sys2Proof.Machine

/-! ### Which kernel -/

def isReadoutKernel (k : Nat) : Bool := 64 ≤ k && k < 80
/-- Kernel state: 0 OFF, 1 RUNNING, 2 WAITING, 3 FAULTED, 4 STOPPED. -/
def State.kernelSt (s : State) (k : Nat) : Nat := s.rd (0x6810 + k) 0x01

/-! ### Registers (R370) -/

/-- A general register: g0 reads 0. -/
def State.greg (s : State) (k r : Nat) : Word := if r = 0 then 0 else (s.kernel k).regs.getD r 0

/-- A general register written: g0 discards. -/
def State.setGreg (s : State) (k r : Nat) (v : Word) : State :=
  if r = 0 then s else s.setKernel k { s.kernel k with regs := (s.kernel k).regs.setIfInBounds r v }

/-- The program counter moves. -/
def State.setPc (s : State) (k : Nat) (pc : Word) : State := s.setKernel k { s.kernel k with pc := pc }

/-! ### Faults (R377) -/

/-- Source, class and cause of a kernel's fault (Table 12-19). -/
def kernelSource (k : Nat) : Nat :=
  if k < 64 then 288 + quadrantOf k else if k < 80 then 292 + (k - 64) else if k < 88 then 308 + (k - 80) else 316

def State.raiseKernelFault (s : State) (k : Nat) : State :=
  if k < 64 then s.raise (kernelSource k) clsKernel 0xC01 1
  else if k < 80 then s.raise (kernelSource k) clsKernel 0xC02 1
  else if k < 88 then s.raise (kernelSource k) clsKernel 0xC03 1
  else s.raise (kernelSource k) clsKernel 0xC04 2

/-- The responses to a kernel's requests that have been sent are discarded from now on, and requests that wait in its
interface are not sent (R390, R391). -/
def State.staleRequests (s : State) (k : Nat) : State :=
  let mine (x : OutReq) : Bool := x.node = kernelNode k
  let left := s.outReqs.filter (fun x => !mine x || x.sent)
  { s with outReqs := left.map (fun x => if mine x then ({ x with stale := true } : OutReq) else x) }

/-- The entries of a kernel that faults: code, PC, count, FAULTED. -/
def State.markFault (s : State) (k code : Nat) : State :=
  let s := (s.wr (0x6810 + k) 0x03 code).wr (0x6810 + k) 0x04 (s.kernel k).pc.toNat
  let s := (s.bump 32 (0x6810 + k) 0x06).wr (0x6810 + k) 0x01 3
  (s.setKernel k { s.kernel k with wait := none, dict := none }).staleRequests k

/-- A kernel stops at the faulting instruction. -/
def State.kernelFault (s : State) (k code : Nat) : State := (s.markFault k code).raiseKernelFault k

/-! ### Memory (R379, R380) -/

def codeSize (k : Nat) : Nat := if k < 64 then 65536 else 131072
def dataSize (k : Nat) : Nat := if k < 64 then 65536 else 262144

/-- The parts of a kernel's memory map (Table 12-8). -/
inductive Area where
  | code | data | window | ring | staging | none
  deriving DecidableEq, Repr

/-- The part that an address lies in. -/
def areaOf (k a : Nat) : Area :=
  if a < codeSize k then .code
  else if 0x00100000 ≤ a ∧ a < 0x00100000 + dataSize k then .data
  else if k < 64 ∧ 0x00200000 ≤ a ∧ a < 0x00200800 then .window
  else if 0x00300000 ≤ a ∧ a < 0x00300200 then .ring
  else if 64 ≤ k ∧ 0x00400000 ≤ a ∧ a < 0x00500000 then .staging
  else .none

/-- What an unlisted byte of kernel memory reads as: 0xFF in code memory (R388), else 0. -/
def kernelDflt (a : Nat) : Byte := if a < 131072 then 0xFF else 0

/-- A byte of a kernel's own memory. -/
def State.kbyte (s : State) (k a : Nat) : Byte := Sparse.get kernelDflt (s.kernel k).mem a

/-- A byte written; one of the staging ring is marked as written (R386). -/
def State.setKbyte (s : State) (k a : Nat) (v : Byte) : State :=
  let x := s.kernel k
  s.setKernel k { x with
    mem := Sparse.set kernelDflt x.mem a v
    staged := if areaOf k a = .staging then Sparse.set (fun _ => false) x.staged (a - 0x00400000) true else x.staged }

def State.setKbytes (s : State) (k a : Nat) (l : List Byte) : State :=
  (List.range l.length).foldl (fun s i => s.setKbyte k (a + i) (l.getD i 0)) s

/-- A byte of the lane window that a field of its own keeps. -/
def winDflt : Nat → Byte := fun _ => 0
def State.winByte (s : State) (k o : Nat) : Byte := Sparse.get winDflt (s.kernel k).window o
def State.setWinByte (s : State) (k o : Nat) (v : Byte) : State :=
  s.setKernel k { s.kernel k with window := Sparse.set winDflt (s.kernel k).window o v }

/-- Bytes of a lane window (Table 12-9) at offset f, as a read gives them: an unlisted offset reads 0, a write-only
field gives a free value (log entry 33). -/
def State.winRead (s : State) (k o : Nat) : Byte × State :=
  let l := 8 * k + o / 256
  let f := o % 256
  if f < 0x20 then ((natBytes 32 (s.eqState l)).getD f 0, s)
  else if f = 0x20 then (BitVec.ofNat 8 (s.laneSt l), s)
  else if 0x28 ≤ f ∧ f < 0x30 then ((natBytes 8 (s.lane l).blocks).getD (f - 0x28) 0, s)
  else if 0x30 ≤ f ∧ f < 0x38 then ((natBytes 8 (s.lane l).hdrErr).getD (f - 0x30) 0, s)
  else if 0x38 ≤ f ∧ f < 0x40 then
    let (v, s) := s.draw
    (BitVec.ofNat 8 v, s)
  else if 0x40 ≤ f ∧ f < 0x48 then (s.winByte k o, s)
  else if 0x48 ≤ f ∧ f < 0x4B then ((natBytes 4 (s.rd (0x3100 + l) 0x07)).getD (f - 0x48) 0, s)
  else (0, s)

/-- The field at an offset is read only. -/
def winReadOnly (f : Nat) : Bool :=
  (0x20 ≤ f && f < 0x24) || (0x28 ≤ f && f < 0x38) || (0x44 ≤ f && f < 0x4C)

/-- A byte of the equaliser state written; read-only bits keep their value (Table 12-10). -/
def State.setEqByte (s : State) (l f : Nat) (v : Byte) : State :=
  let old := s.rd (0x3100 + l) 0x15
  let b := old / 256 ^ f % 256
  let m := eqMask ((s.laneCfg l).testBit 61) f
  let new := (v.toNat &&& m) + (b - (b &&& m))
  s.wr (0x3100 + l) 0x15 (old - b * 256 ^ f + new * 256 ^ f)

/-- A 32-bit field of the window that the kernel's own bytes hold. -/
def State.winWord (s : State) (k o : Nat) : Nat := bytesNat ((List.range 4).map (fun i => s.winByte k (o + i)))

/-- A store of bytes to the lane window (R380): the equaliser applies at once; a write of ESTD gives the error
estimate; a write of EYECTL with start set begins an eye measurement. -/
def State.winWrite (s : State) (k o : Nat) (l : List Byte) : State :=
  let p := o / 256
  let f := o % 256
  let ln := 8 * k + p
  if f < 0x20 then (List.range l.length).foldl (fun s i => s.setEqByte ln (f + i) (l.getD i 0)) s
  else if 0x38 ≤ f ∧ f < 0x44 then
    let s := (List.range l.length).foldl (fun s i => s.setWinByte k (o + i) (l.getD i 0)) s
    if 0x3C ≤ f ∧ f < 0x40 then
      s.setEstimate ln (s.winWord k (p * 256 + 0x38)) (512 * s.winWord k (p * 256 + 0x3C))
    else if 0x40 ≤ f ∧ f + l.length = 0x44 ∧ (l.getLastD 0).getLsbD 7 then
      let s := (List.range 4).foldl (fun s i => s.setWinByte k (p * 256 + 0x44 + i) 0) s
      let x := s.kernel k
      s.setKernel k { x with eyeRun := if x.eyeRun.contains p then x.eyeRun else x.eyeRun ++ [p] }
    else s
  else s

/-- A load of n bytes: the fault code, or the bytes. -/
def State.kload (s : State) (k a n : Nat) : Except Nat (List Byte × State) :=
  if a % n ≠ 0 then .error 2
  else
    match areaOf k a with
    | .none => .error 3
    | .window =>
      .ok ((List.range n).foldl (fun (acc : List Byte × State) i =>
        let (b, s) := acc.2.winRead k (a - 0x00200000 + i)
        (acc.1 ++ [b], s)) ([], s))
    | _ => .ok ((List.range n).map (fun i => s.kbyte k (a + i)), s)

/-- A store: the fault code, or the state. -/
def State.kstore (s : State) (k a : Nat) (l : List Byte) : Except Nat State :=
  if a % l.length ≠ 0 then .error 2
  else
    match areaOf k a with
    | .none => .error 3
    | .ring => .error 4
    | .window => if winReadOnly ((a - 0x00200000) % 256) then .error 4 else .ok (s.winWrite k (a - 0x00200000) l)
    | _ => .ok (s.setKbytes k a l)

/-- Bytes at an address of kernel memory. -/
def State.kbytes (s : State) (k a n : Nat) : List Byte := (List.range n).map (fun i => s.kbyte k (a + i))

/-- The fault of n bytes at a (Table 12-6), which lie in one part of the memory map (Table 12-8) or fault with 3; a write
of the completion ring, or of a read-only field of the lane window, faults with 4. -/
def bufferFault (k a n : Nat) (write : Bool) : Nat :=
  let area := areaOf k a
  if area = .none ∨ areaOf k (a + n - 1) ≠ area then 3
  else if write ∧ (area = .ring ∨
      (area = .window ∧ (List.range n).any (fun i => winReadOnly ((a - 0x00200000 + i) % 256)))) then 4
  else 0

/-- That of a block that an instruction copies, which is aligned to 16 bytes (R383). -/
def blockFault (k a n : Nat) (write : Bool) : Nat := if a % 16 ≠ 0 then 2 else bufferFault k a n write

/-- Bytes that an instruction reads: of the lane window as a load reads them, of other memory as they stand. -/
def State.readBlock (s : State) (k a n : Nat) : List Byte × State :=
  if areaOf k a = .window then
    (List.range n).foldl (fun (acc : List Byte × State) i =>
      let (b, s) := acc.2.winRead k (a - 0x00200000 + i)
      (acc.1 ++ [b], s)) ([], s)
  else (s.kbytes k a n, s)

/-- Bytes at an address, cut where a 32-bit word ends. -/
def wordPieces (a : Nat) (l : List Byte) : List (Nat × List Byte) :=
  (List.range ((a + l.length + 3) / 4 - a / 4)).map (fun i =>
    let w := 4 * (a / 4 + i)
    let lo := max a w
    (lo, (l.drop (lo - a)).take (min (a + l.length) (w + 4) - lo)))

/-- A piece written where it lies: in the lane window as a store of it (R380), in memory of the kernel, or nowhere. -/
def State.putPiece (s : State) (k a : Nat) (l : List Byte) : State :=
  match areaOf k a with
  | .code | .data | .staging => s.setKbytes k a l
  | .window => s.winWrite k (a - 0x00200000) l
  | .ring | .none => s

/-- Bytes that an instruction or the interface writes, a word at a time where they lie in the lane window. -/
def State.writeBlock (s : State) (k a : Nat) (l : List Byte) : State :=
  if areaOf k a = .window then (wordPieces a l).foldl (fun s x => s.putPiece k x.1 x.2) s else s.setKbytes k a l

/-! ### Instructions -/

/-- A halfword of code memory as fetch sees it (R376). -/
def State.fetchHalf (s : State) (k a : Nat) : BitVec 16 :=
  Sparse.get kernelDflt (s.kernel k).code (a + 1) ++ Sparse.get kernelDflt (s.kernel k).code a

/-- The kernel runs single instructions: it is not stalled in a DICT, and its program is a user's. The code of the standard
programs is not in the spec; what they do is modelled as a whole (R389, log entry 11). -/
def State.canRun (s : State) (k : Nat) : Bool :=
  k < 80 && s.kernelSt k = 1 && (s.kernel k).dict.isNone && !(s.kernel k).std

/-- The instruction at the kernel's PC. -/
def State.fetched (s : State) (k : Nat) : Option (Instr × Nat) :=
  let pc := (s.kernel k).pc.toNat
  decodeKernel k (s.fetchHalf k pc) (s.fetchHalf k (pc + 2))

/-- The instruction at the PC lies in code memory, the second halfword of a 32-bit one too (R372, R377). The lead halfword
0xFFFF is illegal by itself. -/
def State.pcOk (s : State) (k : Nat) : Bool :=
  let pc := (s.kernel k).pc.toNat
  let lead := s.fetchHalf k pc
  pc + (if lead.getLsbD 15 && lead ≠ 0xFFFF then 4 else 2) ≤ codeSize k

/-- An instruction of kernel k that stands at its PC runs: f gives a fault code, or the state with the PC moved; a
PC outside code memory faults with code 3. A command that names another instruction than the one at the PC, or a
kernel that does not run, changes nothing (log entry 34). -/
def State.instr (s : State) (k : Nat) (i : Instr) (f : State → Except Nat State) : State :=
  let s := s.fresh
  if !s.canRun k then s
  else if !s.pcOk k then s.kernelFault k 3
  else
    match s.fetched k with
    | some (j, _) =>
      if j = i then
        match f s with
        | .ok t => t
        | .error code => s.kernelFault k code
      else s
    | none => s

/-- An instruction that writes rd and goes on after n bytes. -/
def State.writeReg (s : State) (k rd : Nat) (v : Word) (n : Nat) : State :=
  (s.setGreg k rd v).setPc k ((s.kernel k).pc + BitVec.ofNat 32 n)

/-- A branch to PC + 2 × off, or on. -/
def State.branch (s : State) (k : Nat) (taken : Bool) (off : Word) (n : Nat) : State :=
  s.setPc k ((s.kernel k).pc + (if taken then off + off else BitVec.ofNat 32 n))

/-- sext and zext of immediates (R373). -/
def sext {w : Nat} (x : BitVec w) : Word := x.signExtend 32
def zext {w : Nat} (x : BitVec w) : Word := x.setWidth 32

/-- Shifts by the low five bits. -/
def shiftLeft (a b : Word) : Word := a <<< (b.toNat % 32)
def shiftRight (a b : Word) : Word := a >>> (b.toNat % 32)
def shiftArith (a b : Word) : Word := a.sshiftRight (b.toNat % 32)

/-- 1 or 0. -/
def flagWord (b : Bool) : Word := if b then 1 else 0

/-- The high 32 bits of the unsigned product. -/
def mulHigh (a b : Word) : Word := BitVec.ofNat 32 (a.toNat * b.toNat / 2 ^ 32)

/-- A load instruction: n bytes, sign-extended or not. -/
def State.loadReg (s : State) (k rd : Nat) (a : Word) (n : Nat) (signed : Bool) (len : Nat) : Except Nat State :=
  match s.kload k a.toNat n with
  | .error c => .error c
  | .ok (l, t) =>
    let v := bytesNat l
    let w : Word := if signed then (BitVec.ofNat (8 * n) v).signExtend 32 else BitVec.ofNat 32 v
    .ok (t.writeReg k rd w len)

/-- A store instruction of the low n bytes. -/
def State.storeReg (s : State) (k : Nat) (a v : Word) (n len : Nat) : Except Nat State :=
  match s.kstore k a.toNat (natBytes n v.toNat) with
  | .error c => .error c
  | .ok t => .ok (t.setPc k ((t.kernel k).pc + BitVec.ofNat 32 len))

/-! ### Events (R381, Table 12-11) -/

/-- EVPEND. -/
def State.evPend (s : State) (k : Nat) : BitVec 8 :=
  let x := s.kernel k
  (x.edges &&& 0x78)
    ||| (if x.inbox.isEmpty then 0 else 1)
    ||| (if isReadoutKernel k && !x.triggers.isEmpty then 2 else 0)
    ||| (if x.cqHead = x.cqTail then 0 else 4)

/-- WAIT: completes at once, or the kernel enters WAITING. -/
def State.waitEvent (s : State) (k rd : Nat) (mask : BitVec 8) : Except Nat State :=
  if mask = 0 then .error 6
  else
    let hit := s.evPend k &&& mask
    if hit ≠ 0 then .ok (s.writeReg k rd (hit.setWidth 32) 4)
    else .ok ((s.setKernel k { s.kernel k with wait := some (rd, mask) }).wr (0x6810 + k) 0x01 2)

/-- A waiting kernel goes on once a masked event is pending. -/
def State.wakeUp (s : State) (k : Nat) : State :=
  if s.kernelSt k ≠ 2 then s
  else
    match (s.kernel k).wait with
    | none => s
    | some (rd, mask) =>
      let hit := s.evPend k &&& mask
      if hit = 0 then s
      else
        let s := (s.setKernel k { s.kernel k with wait := none }).wr (0x6810 + k) 0x01 1
        s.writeReg k rd (hit.setWidth 32) 4

/-- The timer reaches 0; it pauses while domain SYS is stopped (R444). -/
def State.timerEnd (s : State) (k : Nat) : State :=
  if (s.kernel k).timer.isSome ∧ s.domSt 0 = 1 then (s.setKernel k { s.kernel k with timer := none }).kernelEdge k 3 else s

/-- A crossing begins: TICK where its XN is a multiple of TICKDIV. -/
def State.tickKernels (s : State) : State :=
  s.kernels.foldl (fun s c =>
    let x := s.kernel c.1
    if x.tickDiv ≠ 0 ∧ s.xn % x.tickDiv.toNat = 0 ∧ (s.kernelSt c.1 = 1 ∨ s.kernelSt c.1 = 2) then s.kernelEdge c.1 4
    else s) s

/-! ### Control and status registers (R382) -/

/-- Bytes of the staging ring that the engine does not own. -/
def State.stageFree (s : State) (k : Nat) : Nat := 1048576 - (s.kernel k).stageOwned

/-- KID (Table 12-12). -/
def kidOf (k : Nat) : Nat :=
  (if k < 64 then 0 else if k < 80 then 1 else if k < 88 then 2 else if k < 93 then 3 else 4) * 4096 + kernelNode k

/-- A control and status register read: none where the kernel has no such register. EVCLR is read for its bits only,
a free value (log entry 33). -/
def State.csrRead (s : State) (k : Nat) (csr : BitVec 12) : Option (Word × State) :=
  let x := s.kernel k
  let w (v : Nat) : Option (Word × State) := some (BitVec.ofNat 32 v, s)
  match csr.toNat with
  | 0x000 => w (kidOf k)
  | 0x001 => w (s.rd (0x6810 + k) 0x02)
  | 0x002 => some (BitVec.ofNat 32 s.now, s.setKernel k { x with timeHi := BitVec.ofNat 32 (s.now / 2 ^ 32) })
  | 0x003 => some (x.timeHi, s)
  | 0x004 =>
    some (BitVec.ofNat 32 s.xn,
      s.setKernel k { x with xnHi := BitVec.ofNat 32 (s.era % 2 ^ 16 * 2 ^ 16 + s.xn / 2 ^ 32) })
  | 0x005 => some (x.xnHi, s)
  | 0x006 => w s.stepNo
  | 0x010 => w (s.evPend k).toNat
  | 0x011 => let (v, t) := s.draw; some (BitVec.ofNat 32 v, t)
  | 0x012 => w (match x.timer with
      | some t => t - s.now
      | none => 0)
  | 0x013 => some (x.tickDiv, s)
  | 0x020 => w x.cqHead
  | 0x021 => w x.cqTail
  | 0x022 => w (responseSlots (kernelNode k) - s.outstanding (kernelNode k))
  | 0x030 => if isReadoutKernel k then w (s.stageFree k) else none
  | _ => none

/-- A control and status register written: the fault code, or the state. -/
def State.csrWrite (s : State) (k : Nat) (csr : BitVec 12) (v : Word) : Except Nat State :=
  let x := s.kernel k
  match csr.toNat with
  | 0x011 => .ok (s.setKernel k { x with edges := x.edges &&& ~~~(v.setWidth 8) })
  | 0x012 => .ok (s.setKernel k { x with timer := if v = 0 then none else some (s.now + v.toNat) })
  | 0x013 => .ok (s.setKernel k { x with tickDiv := v })
  | 0x020 => .ok (s.setKernel k { x with cqHead := v.toNat % 64 })
  | _ => if (s.csrRead k csr).isSome then .error 4 else .error 1

/-- COR: the register OR rs1; on EVCLR it clears the events whose bit is 1 in rs1 (log entry 33). -/
def State.csrOr (s : State) (k : Nat) (csr : BitVec 12) (v : Word) : Except Nat State :=
  match csr.toNat with
  | 0x011 => s.csrWrite k csr v
  | 0x012 | 0x013 | 0x020 =>
    match s.csrRead k csr with
    | some (old, t) => t.csrWrite k csr (old ||| v)
    | none => .error 1
  | _ => s.csrWrite k csr v

/-! ### The kernel's network interface (R384, R385) -/

/-- A packet's header unit (Table 10-3). -/
def headerUnit (p : Packet) : BitVec 128 :=
  p.route ++ BitVec.ofNat 12 p.dest ++ BitVec.ofNat 12 p.src ++ BitVec.ofNat 8 p.cmd ++ BitVec.ofNat 8 p.tag
    ++ BitVec.ofNat 5 p.units.length ++ BitVec.ofNat 3 p.hops ++ BitVec.ofNat 3 p.last ++ BitVec.ofNat 5 p.wcnt
    ++ BitVec.ofNat 40 p.addr

/-- The request that a block names (R384), with its LEN, RBUF and RMAX. -/
def blockRequest (node : Nat) (b : List Byte) : Packet × Nat × Nat × Nat :=
  let h := fieldAt b 0 16
  ({ route := 0
     dest := h / 2 ^ 84 % 4096
     src := node
     cmd := h / 2 ^ 64 % 256
     tag := h / 2 ^ 56 % 256
     hops := 0
     last := h / 2 ^ 45 % 8
     wcnt := h / 2 ^ 40 % 32
     addr := h % 2 ^ 40 }, h / 2 ^ 51 % 32, fieldAt b 16 4, fieldAt b 20 4)

/-- LEN suits the command (Table 10-4). -/
def lenOk (cmd wcnt len : Nat) : Bool :=
  match cmd with
  | 1 => len = 0
  | 2 => len = (wcnt + 2) / 2
  | 3 => 1 ≤ len && len ≤ 16
  | 4 => len = 1
  | _ => false

/-- A completion entry (Table 12-14) is written at CQTAIL. -/
def State.complete (s : State) (k tag nstat : Nat) (excess : Bool) (bytes : Nat) : State :=
  let x := s.kernel k
  let e := tag % 256 * 2 ^ 56 + nstat % 16 * 2 ^ 52 + (if excess then 2 ^ 51 else 0) + bytes % 2 ^ 32
  let s := s.setKbytes k (0x00300000 + 8 * x.cqTail) (natBytes 8 e)
  (s.setKernel k { s.kernel k with cqTail := (x.cqTail + 1) % 64 }).readoutCall k

/-- A request that holds its slot and its credit is answered at once by its interface (R336, R338), or is sent; while
earlier ones to its destination await their answers on the other route, it waits for them (R328): a DESIGN CHOICE of
log entry 192. -/
def State.launch (s : State) (k : Nat) (q : OutReq) : State :=
  let (nst, route) := s.requestStatus q.node q.dest
  if nst ≠ 0 then (s.countNstat nst).complete k q.tag nst false 0
  else if s.otherRoute q.node q.dest route then { s with outReqs := s.outReqs ++ [{ q with sent := false }] }
  else
    let s : State := { s with outReqs := s.outReqs ++ [{ q with
      route := route
      sent := true }] }
    s.sendPacket { q.packet with route := route }

/-- Once every request that was sent to a destination has been answered, those that wait go (R328). -/
def State.launchHeld (s : State) (node dest : Nat) : State :=
  let mine (x : OutReq) : Bool := x.node = node && x.dest = dest
  match nodeKernel node with
  | none => s
  | some k =>
    if s.outReqs.any (fun x => mine x && x.sent) then s
    else (s.outReqs.filter mine).foldl (fun s q => s.launch k q)
      { s with outReqs := s.outReqs.filter (fun x => !mine x) }

/-- A well-formed request leaves through kernel k's interface (R332, R384): 0 sent, 1 no response slot, 2 no credit. -/
def State.sendRequest (s : State) (k : Nat) (p : Packet) (rbuf rmax : Nat) : Nat × State :=
  let node := kernelNode k
  if responseSlots node ≤ s.outstanding node then (1, s)
  else if s.creditsFor node p.dest ≤ s.creditsUsed node p.dest then (2, s)
  else (0, (s.bump 64 (0x6810 + k) 0x0B).launch k
    { node := node, dest := p.dest, tag := p.tag, cmd := p.cmd, rbuf := rbuf, rmax := rmax, packet := p })

/-- SEND (R384). -/
def State.sendBlock (s : State) (k rd a : Nat) : Except Nat State :=
  if a % 16 ≠ 0 then .ok (s.writeReg k rd 3 4)
  else
    match blockFault k a 32 false with
    | 0 =>
      let (block, s) := s.readBlock k a 32
      let (p, len, rbuf, rmax) := blockRequest (kernelNode k) block
      if !lenOk p.cmd p.wcnt len ∨ (attach p.dest).isNone then .ok (s.writeReg k rd 3 4)
      else if areaOf k (a + 31 + 16 * len) ≠ areaOf k a then .error 3
      else
        let (data, s) := s.readBlock k (a + 32) (16 * len)
        let units := (chunks 16 len data).map (fun l => BitVec.ofNat 128 (bytesNat l))
        let (r, s) := s.sendRequest k { p with units := units } rbuf rmax
        .ok (s.writeReg k rd (BitVec.ofNat 32 r) 4)
    | c => .error c

/-- RECV (R385). -/
def State.recvMessage (s : State) (k rd a : Nat) : Except Nat State :=
  match (s.kernel k).inbox with
  | [] => .ok (s.writeReg k rd 0 4)
  | p :: rest =>
    let bytes := natBytes 16 (headerUnit p).toNat ++ p.units.flatMap (fun u => natBytes 16 u.toNat)
    match blockFault k a bytes.length true with
    | 0 =>
      let s := (s.setKernel k { s.kernel k with inbox := rest }).writeBlock k a bytes
      .ok (s.writeReg k rd (BitVec.ofNat 32 bytes.length) 4)
    | c => .error c

/-- TRIG (R386). -/
def State.takeTrigger (s : State) (k rd a : Nat) : Except Nat State :=
  if !isReadoutKernel k then .error 5
  else
    match (s.kernel k).triggers with
    | [] => .ok (s.writeReg k rd 0 4)
    | (w0, w1) :: rest =>
      match blockFault k a 16 true with
      | 0 =>
        let s := (s.setKernel k { s.kernel k with triggers := rest }).writeBlock k a
          (natBytes 8 w0.toNat ++ natBytes 8 w1.toNat)
        let s := s.wr (0x6140 + (k - 64)) 0x05 rest.length
        .ok (s.writeReg k rd 1 4)
      | c => .error c

/-- Bytes of the staging ring from an offset, which wraps at 1 MiB (R386). -/
def State.stageBytes (s : State) (k off len : Nat) : List Byte :=
  (List.range len).map (fun i => s.kbyte k (0x00400000 + (off + i) % 1048576))

/-- Every byte of a range of the staging ring has been written, and not handed over since (log entry 195). -/
def State.stagedAll (s : State) (k off len : Nat) : Bool :=
  len ≤ 1048576 && (List.range len).all (fun i => Sparse.get (fun _ => false) (s.kernel k).staged ((off + i) % 1048576))

/-- The bytes of a range of the staging ring are handed over. -/
def State.handOver (s : State) (k off len : Nat) : State :=
  s.setKernel k { s.kernel k with
    staged := Sparse.drop (s.kernel k).staged (fun o => (o + 1048576 - off) % 1048576 < len) }

/-- FRAG (R386). -/
def State.fragment (s : State) (k rd off len : Nat) : Except Nat State :=
  if !isReadoutKernel k then .error 5
  else if 1048576 ≤ off ∨ len % 8 ≠ 0 ∨ len < 32 ∨ !s.stagedAll k off len then .ok (s.writeReg k rd 1 4)
  else
    let bytes := s.stageBytes k off len
    if fieldAt bytes 0 4 ≠ len then .ok (s.writeReg k rd 1 4)
    else
      let (res, s) := s.submitFragment (k - 64) bytes
      .ok ((if res = 0 then s.handOver k off len else s).writeReg k rd (BitVec.ofNat 32 res) 4)

/-- A message reaches a kernel (R385). It waits in the request queue, unanswered and with its credit held, while the inbox
holds 16 messages or an earlier one waits. -/
def State.nocMessage (s : State) (p : Packet) : State :=
  let s := s.arrived p
  match nodeKernel p.dest with
  | none => s.refuseAt p
  | some k =>
    if p.units.isEmpty ∨ 16 < p.units.length ∨ p.addr / 2 ^ 16 ≠ 0 then s.respondBad p 4
    else if s.heldReqs.any (fun x => x.packet.dest = p.dest) then s.holdReq p
    else match s.takeMessage k p with
      | (true, t) => t
      | (false, _) => s.holdReq p

/-- A request packet reaches its target, which takes it by its CMD; one outside Table 10-4 is answered with NSTAT 4, or
2 where the region is closed (R331, R338). A response is no request. -/
def State.nocRequest (s : State) (p : Packet) (waits : Nat) : State :=
  match p.cmd with
  | 0x01 => s.nocRead p waits
  | 0x02 => s.nocWrite p waits
  | 0x03 => s.nocMessage p
  | 0x04 => s.nocRetrieve p
  | c =>
    if 0x80 ≤ c then s
    else (s.arrived p).refuseAt p

/-- The units of a response were carried to the requester; those of a bounce are counted as it is made (R340). -/
def State.responseCarried (s : State) (p : Packet) : State :=
  if p.wcnt % 16 = 1 then s else s.carry (passedBy p) (1 + p.units.length)

/-- The data units of a response go into its request's buffer (R384). -/
def State.storeResponse (s : State) (k : Nat) (q : OutReq) (p : Packet) : OutReq × State :=
  let bytes := p.units.flatMap (fun u => natBytes 16 u.toNat)
  let keep := bytes.take (q.rmax - q.got)
  ({ q with
      got := q.got + keep.length
      excess := q.excess || keep.length < bytes.length },
    (wordPieces (q.rbuf + q.got) keep).foldl (fun s x => s.putPiece k x.1 x.2) s)

/-- The user kernel of a node. -/
def userKernelOf (node : Nat) : Option Nat := (nodeKernel node).filter (fun k => k < 80)

/-- A request is answered in full: its slot and its credit are free again (R332). -/
def State.release (s : State) (q : OutReq) : State :=
  { s with outReqs := s.outReqs.erase q }.launchHeld q.node q.dest

/-- A response packet reaches the requester's interface (R333, R338, R384): the region interface of a CLOSED region,
and an interface that awaits no such response, discards and counts it. -/
def State.nocResponse (s : State) (p : Packet) : State :=
  if p.cmd < 0x80 then s
  else
    let s := s.responseCarried p
    let lp : Bool := p.last / 4 % 2 = 1
    if p.dest < 64 ∧ s.rd (0x6060 + p.dest) 0x01 = 2 then s.bump 32 0x6003 0x04
    else
      match s.outReqs.find? (fun x => x.node = p.dest ∧ x.tag = p.tag ∧ x.dest = p.src ∧ x.sent) with
      | none => s.bump 32 0x6003 0x04
      | some q =>
        if q.stale then (if lp then s.release q else s)
        else
          match userKernelOf p.dest with
          | none =>
            let s := if p.dest = 0x050 then s.hostAnswer q p else s
            if lp then s.release q else s
          | some k =>
            let (q', s) := s.storeResponse k q p
            if lp then (s.complete k p.tag (p.wcnt % 16) q'.excess q'.got).release q
            else { s with outReqs := s.outReqs.map (fun x => if x = q then q' else x) }

/-- No last packet within the response timeout: the interface completes the request with NSTAT 3 (R333). -/
def State.responseTimeout (s : State) (node tag : Nat) : State :=
  match s.outReqs.find? (fun x => x.node = node ∧ x.tag = tag ∧ x.sent) with
  | none => s
  | some q =>
    let s := s.countNstat 3
    let s := match userKernelOf node with
      | some k => if q.stale then s else s.complete k tag 3 q.excess q.got
      | none => if node = 0x050 then s.hostRefused (q.cmd = 0x02) 3 (q.packet.addr % 2 ^ 31) else s
    s.release q

/-! ### Starts, stops, programs (R371, R378, R388 to R390) -/

/-- The program of a user kernel: the image that names it, else the standard program of its kind. -/
def State.programOf (s : State) (k : Nat) : Program :=
  let kind := if k < 64 then 0 else 1
  let i := if k < 64 then k else k - 64
  match s.bundle with
  | some b => (b.programs.find? (fun p => p.kind = kind ∧ p.mask.getLsbD i)).getD (Config.standardProgram kind)
  | none => Config.standardProgram kind

/-- An image of the bundle names the kernel (R388, R389). -/
def State.imageNames (s : State) (k : Nat) : Bool :=
  match s.bundle with
  | some b => b.programs.any (fun p => p.kind = (if k < 64 then 0 else 1)
      ∧ p.mask.getLsbD (if k < 64 then k else k - 64))
  | none => false

/-- The bytes that a start places at the base of data memory: the image's, or the descriptor tables that the bundle gives
a readout kernel on the standard program (R355, R379, R388). -/
def State.startData (s : State) (k : Nat) : List Byte :=
  if s.imageNames k || k < 64 then (s.programOf k).data
  else ((s.bundle.bind (fun b => b.tables.lookup (k - 64))).getD []).take 8192

/-- The program identifier shown (R389). -/
def State.progId (s : State) (k : Nat) : Nat :=
  if s.imageNames k then (s.programOf k).progId % 2 ^ 32
  else if k < 64 then Config.standardLane.toNat else Config.standardReadout.toNat

/-- Bytes laid out from an address, in the canonical form of kernel memory. -/
def cellsAt (a : Nat) (l : List Byte) : List Host.Cell :=
  (List.range l.length).filterMap (fun i =>
    let b := l.getD i 0
    if b = kernelDflt (a + i) then none else some (a + i, b))

/-- A user kernel starts: memory from its image, PC at ENTRY, g13 at STACK, the rest 0; its queues are empty, and
responses to earlier requests are discarded (R371, R388, R390). Fragments handed over stay the engine's (R391). -/
def State.startKernel (s : State) (k : Nat) : State :=
  let p := s.programOf k
  let data := s.startData k
  let std := !s.imageNames k
  let s := s.holdEq k
  let s := if k < 64 then (List.range 8).foldl (fun s i =>
      if (s.lane (8 * k + i)).estBlocks = 0 then s
      else s.setLane (8 * k + i) { s.lane (8 * k + i) with estBlocks := 0, errAt := [] }) s else s
  let code := cellsAt 0 (p.code.take (codeSize k))
  let s := s.setKernel k
    { regs := (Vector.replicate 16 (0 : Word)).setIfInBounds 13 (BitVec.ofNat 32 p.stack)
      pc := BitVec.ofNat 32 p.entry
      mem := code ++ cellsAt 0x00100000 (data.take (dataSize k))
      code := code
      std := std
      stageOwned := (s.kernel k).stageOwned
      window := (s.kernel k).window
      eyeRun := (s.kernel k).eyeRun }
  let s := s.staleRequests k
  let s := (s.wr (0x6810 + k) 0x01 1).wr (0x6810 + k) 0x02 (s.progId k)
  if isReadoutKernel k then s.wr (0x6140 + (k - 64)) 0x05 0 else s

/-- Every user kernel starts. -/
def State.startKernels (s : State) : State := (List.range 80).foldl (fun s k => s.startKernel k) s

/-- Bytes 0 to 35 of an image's header (Table 12-15). -/
def programHead (p : Program) : List Byte :=
  natBytes 4 p.magic ++ natBytes 2 p.format ++ natBytes 1 p.kind ++ [p.byte7] ++ natBytes 8 p.mask.toNat
    ++ natBytes 4 p.progId ++ natBytes 4 p.entry ++ natBytes 4 p.stack ++ natBytes 4 p.code.length
    ++ natBytes 4 p.data.length

/-- A program image breaks Table 12-15, or its CRC is wrong (R389). -/
def programBad (p : Program) : Bool :=
  let k := if p.kind = 0 then 0 else 64
  p.magic ≠ 0x4B505247 || p.format ≠ 1 || 1 < p.kind || p.entry % 2 ≠ 0 || codeSize k ≤ p.entry
    || p.stack % 4 ≠ 0 || p.stack < 0x00100000 || 0x00100000 + dataSize k < p.stack
    || codeSize k < p.code.length || dataSize k < p.data.length || p.byte7 ≠ 0
    || p.bytes40 ≠ List.replicate 24 0 || p.crc ≠ crc32c (programHead p ++ p.code ++ p.data)
    || (p.kind = 1 && p.mask.toNat ≥ 2 ^ 16)

/-- Two images of one kind name the same kernel (R389). -/
def programsClash : List Program → Bool
  | [] => false
  | p :: l => l.any (fun q => q.kind = p.kind && p.mask &&& q.mask ≠ 0) || programsClash l

/-- The load kernel's check of a bundle's images. -/
def programsOk (b : Bundle) : Bool := !(b.programs.any programBad) && !programsClash b.programs

/-- A faulted user kernel restarts 1 ms after the fault, within its limit; a vendor kernel is restarted by the base
firmware (R378). -/
def State.restartAfterFault (s : State) (k : Nat) : State :=
  if s.kernelSt k ≠ 3 then s
  else if 80 ≤ k then (s.bump 32 (0x6810 + k) 0x07).wr (0x6810 + k) 0x01 1
  else if s.rd (0x6810 + k) 0x09 ≠ 1 then s
  else if s.rd 0x6800 0x04 ≤ s.rd (0x6810 + k) 0x07 then s.raise (kernelSource k) clsKernel 0xC05 2
  else (s.bump 32 (0x6810 + k) 0x07).startKernel k

/-- Kernel command 1: restart. -/
def State.restartKernel (s : State) (k : Nat) : Nat × State :=
  if 80 ≤ k then refuse abortValue s
  else if s.kernelSt k = 0 then refuse abortState s
  else done ((s.bump 32 (0x6810 + k) 0x07).startKernel k)

/-- A kernel stops. -/
def State.stopKernel (s : State) (k : Nat) : State :=
  let s := (s.holdEq k).staleRequests k
  (s.setKernel k { s.kernel k with wait := none, stopAfter := false }).wr (0x6810 + k) 0x01 4

/-- Kernel command 2: stop; during a DICT once it has completed (R391). -/
def State.stopCommand (s : State) (k : Nat) : Nat × State :=
  if 80 ≤ k then refuse abortValue s
  else if s.kernelSt k = 0 then refuse abortState s
  else if (s.kernel k).dict.isSome then done (s.setKernel k { s.kernel k with stopAfter := true })
  else done (s.stopKernel k)

/-- An eye measurement ends (R380). -/
def State.eyeDone (s : State) (k p : Nat) (errors : BitVec 24) : State :=
  let x := s.kernel k
  if !x.eyeRun.contains p then s
  else
    let s := s.setKernel k { x with eyeRun := x.eyeRun.filter (fun i => i ≠ p) }
    let l := natBytes 4 (2 ^ 31 + errors.toNat)
    let s := (List.range 4).foldl (fun s i => s.setWinByte k (p * 256 + 0x44 + i) (l.getD i 0)) s
    s.kernelEdge k 5

/-- SYNC: fetch sees the code memory as it is (R376). -/
def State.syncCode (s : State) (k : Nat) : State :=
  let x := s.kernel k
  (s.setKernel k { x with code := x.mem.filter (fun c => c.1 < codeSize k) }).setPc k (x.pc + 4)

end Sys2Proof.Machine
end

