-- ==== Sys2Proof/Machine/MarchCore.lean ====
section
/-! DEFINITION. MarchCore.lean: the march engines and the repair map (R126 to R137). Which cells a march finds faulty
is an outside fact; what the device makes of it is here. Rows and columns are those of R97. -/

namespace Sys2Proof.Machine

/-- Fields of the march command (Table 4-11). -/
def mOp (w : BitVec 32) : Nat := (w.extractLsb' 30 2).toNat
def mPreserving (w : BitVec 32) : Bool := w.getLsbD 29
def mScope (w : BitVec 32) : Nat := (w.extractLsb' 22 2).toNat
def mRegion (w : BitVec 32) : Nat := (w.extractLsb' 16 6).toNat
def mBank (w : BitVec 32) : Nat := (w.extractLsb' 0 6).toNat

/-- The command keeps Table 4-11, and its REGION lies in quadrant q (R134). -/
def marchWordOk (q : Nat) (w : BitVec 32) : Bool :=
  (mOp w = 1 || mOp w = 2) && (w.extractLsb' 24 5).toNat = 0 && (w.extractLsb' 6 10).toNat = 0 && mScope w ≠ 3
    && (mScope w = 2 || quadrantOf (mRegion w) = q)

/-- The banks in the scope of a command, by one number. -/
def marchScope (q : Nat) (w : BitVec 32) : List Nat :=
  match mScope w with
  | 0 => [bankKey (mRegion w) (mBank w)]
  | 1 => (List.range 64).map (bankKey (mRegion w))
  | _ => (regionNos.filter (fun n => quadrantOf n = q)).flatMap (fun n => (List.range 64).map (bankKey n))

/-- The command of engine q that runs, with the banks still to be tested. -/
def State.marchOf (s : State) (q : Nat) : Option (BitVec 32 × List Nat) := Sparse.get (fun _ => none) s.march q
def State.setMarch (s : State) (q : Nat) (x : Option (BitVec 32 × List Nat)) : State :=
  { s with march := Sparse.set (fun _ => none) s.march q x }

/-- The planes that a scheduled switch, migration or golden switch will make active in a region. -/
def State.scheduled (s : State) (n : Nat) : List Nat :=
  s.slotTargets 16 n ++ s.migTargets n ++ (s.region n).golden.toList.map (fun g => g.2.1)

/-- R129: what refuses a march of one bank. -/
def State.marchBars (s : State) (destructive : Bool) (bank : Nat) : Bool :=
  let n := bank / 64
  let b := bank % 64
  let st := s.regState n
  let d := s.descriptor bank
  let halted := st = rHalted
  st = rOff || st = rFilling || s.marching bank
    || (!halted && (dPA d || dPB d) && s.activePlane n < 8)
    || (s.scheduled n).any (fun p => s.planePorts n p b)
    || (destructive && !halted && dOpen d)

/-- March command OP 0b01. While the engine runs a command on other banks a second one is refused with the code for a
value that conflicts with the device state: DESIGN CHOICE (log entry 143). -/
def State.startMarch (s : State) (q : Nat) (w : BitVec 32) : Nat × State :=
  let l := marchScope q w
  if !marchWordOk q w ∨ mOp w ≠ 1 then refuse abortValue s
  else if (s.marchOf q).isSome || l.any (s.marchBars (!mPreserving w)) then refuse abortState s
  else
    let s := ((s.setMarch q (some (w, l))).wr (0x5100 + q) 0x02 1).wr (0x5100 + q) 0x03 0
    done (((s.wr (0x5100 + q) 0x04 0).wr (0x5100 + q) 0x05 0).wr (0x5100 + q) 0x06 0)

/-- March command OP 0b10: while no command runs it is refused, and whatever its scope it cancels the one that runs:
DESIGN CHOICE (log entry 143). Nothing more is tested; a destructive march blanks the banks of the batch it is in. The
batch is that of the lowest region with banks to be tested: DESIGN CHOICE (log entry 220). -/
def State.cancelMarch (s : State) (q : Nat) (w : BitVec 32) : Nat × State :=
  if !marchWordOk q w ∨ mOp w ≠ 2 then refuse abortValue s
  else
    match s.marchOf q with
    | none => refuse abortState s
    | some (c, l) =>
      let batch := l.filter (fun b => some (b / 64) = l.head?.map (fun x => x / 64))
      let s := if mPreserving c then s else batch.foldl (fun s b => s.blankBank b) s
      done ((s.setMarch q (some (c, []))).wr (0x5100 + q) 0x02 5)

/-! ### Spares (R130, Table 4-10) -/

/-- A record of the repair map. -/
def repairRec (type bank spare target : Nat) : BitVec 32 :=
  BitVec.ofNat 32 (type * 2 ^ 30 + bank * 2 ^ 18 + spare * 2 ^ 13 + target)
def rType (x : BitVec 32) : Nat := (x.extractLsb' 30 2).toNat
def rBank (x : BitVec 32) : Nat := (x.extractLsb' 18 12).toNat
def rSpare (x : BitVec 32) : Nat := (x.extractLsb' 13 5).toNat
def rTarget (x : BitVec 32) : Nat := (x.extractLsb' 0 8).toNat

/-- Numbers below n not in a list. -/
def freeOf (n : Nat) (used : List Nat) : List Nat := (List.range n).filter (fun i => !used.contains i)

/-- Spares of one type given to the targets: an old record stands where its target is named and its spare is sound;
the other targets take the free spares, the lowest first; none where they do not suffice. The spec does not say which
spare a target takes: DESIGN CHOICE (log entry 144). -/
def giveSpares (type bank : Nat) (old : List (BitVec 32)) (targets spares : List Nat) : Option (List (BitVec 32)) :=
  let kept := old.filter (fun x => rType x = type && targets.contains (rTarget x) && spares.contains (rSpare x))
  let new := targets.filter (fun t => !kept.any (fun x => rTarget x = t))
  let free := spares.filter (fun sp => !kept.any (fun x => rSpare x = sp))
  if free.length < new.length then none
  else some (kept ++ List.zipWith (fun t sp => repairRec type bank sp t) new free)

/-- The spares of a bank allocated for the faulty cells found, from its records before; none where they do not suffice
(R130). A faulty spare cell names its spare row in row, or its spare column as 64 + column in col. -/
def allocate (bank : Nat) (old : List (BitVec 32)) (faults : List MarchFault) : Option (List (BitVec 32)) :=
  let cells := (faults.filter (fun f => !f.spare)).map (fun f => (f.row, f.col)) |>.eraseDups
  let badRows := (faults.filter (fun f => f.spare && f.col < 64)).map (fun f => f.row)
  let badCols := (faults.filter (fun f => f.spare && 64 ≤ f.col)).map (fun f => f.col - 64)
  let cols := (List.range 64).filter (fun c => 3 ≤ ((cells.filter (fun x => x.2 = c)).map (fun x => x.1)).eraseDups.length)
  let rows := (List.range 256).filter (fun r => cells.any (fun x => x.1 = r && !cols.contains x.2))
  match giveSpares 1 bank old rows (freeOf 16 badRows), giveSpares 2 bank old cols (freeOf 2 badCols) with
  | some a, some b => some (a ++ b)
  | _, _ => none

/-- The counts of 0x5111 from the repairs in force, and 0x5000+n:0B of the banks they name failed. -/
def State.showRepairs (s : State) : State :=
  let count (t : Nat) : Nat := (s.repairs.filter (fun x => rType x = t)).length
  let s := ((s.wr 0x5111 0x01 (count 1)).wr 0x5111 0x02 (count 2)).wr 0x5111 0x03 (count 3)
  regionNos.foldl (fun s n => s.wr (0x5000 + n) 0x0B
    (maskOf 64 (fun b => s.repairs.any (fun x => rType x = 3 && rBank x = bankKey n b)))) s

/-- The records of a bank replaced. -/
def State.setRepairs (s : State) (bank : Nat) (l : List (BitVec 32)) : State :=
  { s with repairs := s.repairs.filter (fun x => rBank x ≠ bank) ++ l }.showRepairs

/-- The test of one bank ends (R126, R127, R130, R131, R136): cells of its spares count among those found faulty.
waits are the words of a preserving march that waited for a slot (R110, Table 4-2). DETAIL of the bank marked failed
is the bank's number 64 n + b, as Table 4-10 writes a bank: DESIGN CHOICE (log entry 145). A bank that passes loses
its failed mark (log entry 219); source 0x408 comes with each bank for which a spare is newly allocated (log entry
222): DESIGN CHOICES. -/
def State.marchBank (s : State) (q bank : Nat) (faults : List MarchFault) (waits : Nat) : State :=
  match s.marchOf q with
  | none => s
  | some (w, l) =>
    if !l.contains bank then s
    else
      let s := s.setMarch q (some (w, l.filter (fun b => b ≠ bank)))
      let s := (s.bumpBy 16 (0x5100 + q) 0x03 1).bumpBy 32 (0x5100 + q) 0x04 faults.eraseDups.length
      let s := if mPreserving w then s.countConflicts q 6 waits else s.blankBank bank
      let old := s.repairs.filter (fun x => rBank x = bank)
      match allocate bank old faults with
      | none =>
        let kept := old.filter (fun x => rType x ≠ 3)
        (s.setRepairs bank (kept ++ [repairRec 3 bank 0 0])).raise (148 + q) clsMemory 0x409 1 bank
      | some recs =>
        let isNew (t : Nat) (x : BitVec 32) : Bool := rType x = t && !old.contains x
        let newRows := (recs.filter (isNew 1)).length
        let newCols := (recs.filter (isNew 2)).length
        let s := (s.bumpBy 16 (0x5100 + q) 0x05 newRows).bumpBy 16 (0x5100 + q) 0x06 newCols
        let s := s.setRepairs bank recs
        if 0 < newRows + newCols then s.raise (148 + q) clsMemory 0x408 0 0 else s

/-- A march command ends: the map is written to the keep store with a new generation (R131). A write that fails leaves
the stored map, with its cause (R510). The final state where banks have failed and others been repaired is 4, and
where no spare is newly allocated 2 (DESIGN CHOICE, log entry 223). -/
def State.marchEnd (s : State) (q : Nat) (written : Bool) : State :=
  match s.marchOf q with
  | none => s
  | some (w, l) =>
    if l ≠ [] then s
    else
      let s := s.setMarch q none
      let failed := (marchScope q w).any (fun b => (s.rd (0x5000 + b / 64) 0x0B).testBit (b % 64))
      let s := if s.rd (0x5100 + q) 0x02 = 5 then s
        else s.wr (0x5100 + q) 0x02 (if failed then 4
          else if s.rd (0x5100 + q) 0x05 ≠ 0 ∨ s.rd (0x5100 + q) 0x06 ≠ 0 then 3 else 2)
      if written then
        { s.areaWritten .repairMap with storedMap := s.repairs }.wr 0x5111 0x04 ((s.rd 0x5111 0x04 + 1) % 2 ^ 32)
      else s.keepFault

/-- No march runs. -/
def State.marchDone (s : State) : Bool := (List.range 4).all (fun q => (s.marchOf q).isNone)

/-- The start-up march of R133: every engine takes a destructive march of its quadrant. -/
def State.startupMarch (s : State) : State :=
  (List.range 4).foldl (fun s q =>
    let w : BitVec 32 := 0x40800000
    (s.setMarch q (some (w, marchScope q w))).wr (0x5100 + q) 0x02 1) s

/-- Step 4: the stored map is applied, or none with its cause (R132). -/
def State.applyMap (s : State) (ok : Bool) : State :=
  let s := { s with repairs := if ok then s.storedMap else [] }.showRepairs
  if ok then s else s.raise 152 clsMemory 0x40A 1 0

end Sys2Proof.Machine
end

