-- ==== Sys2Proof/Machine/PairCore.lean ====
section
/-! DEFINITION. PairCore.lean: stack ports, the flock and the redundant pair (R278 to R322). -/

namespace Sys2Proof.Machine

/-! ### Ports -/

/-- An entry of port p (Table 9-14). -/
def State.pt (s : State) (p sub : Nat) : Nat := s.rd (0x3400 + p) sub
/-- Port states (Table 9-3). -/
def State.portSt (s : State) (p : Nat) : Nat := s.pt p 0x02
abbrev pAligning : Nat := 3
abbrev pUp : Nat := 4
abbrev pStranger : Nat := 5
abbrev pLost : Nat := 6
/-- Mode (Table 9-13): 0 off, 1 flock, 2 mirror; line rate in kb/s. -/
def State.portMode (s : State) (p : Nat) : Nat := s.pt p 0x01 / 2 ^ 62
def State.portRate (s : State) (p : Nat) : Nat := s.pt p 0x01 % 2 ^ 25
def portNos : List Nat := List.range 8

/-- The flock table of the active bundle, and a port's line of it (R291). -/
def State.flock (s : State) : Option FlockTable := s.bundle.bind (fun b => b.flock)
def State.portPlan (s : State) (p : Nat) : Option PortPlan :=
  s.flock.bind (fun f => f.ports.find? (fun x => x.port = p))
def State.isUpward (s : State) (p : Nat) : Bool :=
  match s.portPlan p with
  | some x => x.upward
  | none => false

/-- Pair states (Table 9-8): 0 NONE, 1 JOINING, 2 CATCHING, 3 TRACKING, 4 LEAD. -/
def State.pairSt (s : State) : Nat := s.rd 0x8100 0x01
def State.setPair (s : State) (f : PairRec → PairRec) : State := { s with pair := f s.pair }
/-- The device is the unpaired bellwether or the lead half (R293, R295). -/
def State.isBellwether (s : State) : Bool :=
  match s.flock with
  | none => true
  | some f => if f.half.isSome then s.pairSt = 4 else f.kind = 1
/-- The partner's state (0x8100:10). -/
def State.partner (s : State) : Nat := s.rd 0x8100 0x10
/-- The port in mirror mode. -/
def State.mirrorPort (s : State) : Option Nat := portNos.find? (fun p => s.portMode p = 2)

/-- The configuration word keeps R283 at S steps and f_x. -/
def portScheduleOk (S fx rateKbps w : Nat) : Bool := 50 + S * (1 + w) ≤ 16 * rateKbps * 1000 / (66 * max fx 1)

/-! ### What ports send (R279 to R282, R289) -/

/-- The near-end loopback of port p is on (Table 9-13): its receivers see its own transmitters alone. -/
def State.portLooped (s : State) (p : Nat) : Bool := (s.pt p 0x01).testBit 61

/-- A block leaves on the next lane of the port. -/
def State.portLine (s : State) (p : Nat) (header : BitVec 2) (payload raw : Word64) : State :=
  let x := s.port p
  let rows := if x.next = 15 then x.rows.map (· + 1) else x.rows
  let loop := if s.portLooped p then x.loop ++ [{ lane := x.next, header := header, raw := raw }] else x.loop
  (s.setPort p { x with next := (x.next + 1) % 16, rows := rows, loop := loop }).emit
    (.portWord p x.next header payload raw)

/-- A scrambled block on the next lane (R204, R279). -/
def State.portScrambled (s : State) (p : Nat) (header : BitVec 2) (payload : Word64) : State :=
  let x := s.port p
  let (st, raw) := scramble (Sparse.get (fun _ => 0) x.scr x.next) payload
  (s.setPort p { x with scr := Sparse.set (fun _ => 0) x.scr x.next st }).portLine p header payload raw

/-- Plain idle on the next n lanes. -/
def State.portIdle (s : State) (p n : Nat) : State := (List.range n).foldl (fun s _ => s.portScrambled p 0b10 0x1E) s

/-- The source identifier that a stack port sends (Table 9-1). -/
def portSid (f : FlockTable) : Nat := f.flock % 2 ^ 16 * 256 + f.member % 16 * 16 + f.half.getD 0 * 8

/-- A row of alignment markers on the 16 lanes of a port, after the rest of the current row, and its row of
source-identifier blocks (R280). -/
def State.portMarkerRows (s : State) (p : Nat) (f : FlockTable) : State :=
  let s := s.portIdle p ((16 - (s.port p).next) % 16)
  let x := s.port p
  let amc := (x.txAmc + 1) % 2 ^ 15
  let s := s.setPort p { x with txAmc := amc, rows := some 0 }
  let frev := if s.portMode p = 2 then s.rd 0x8100 0x0E else 1
  let am (i : Nat) : Word64 := markerBlock 0x4B ((16 * p + i) * 2 ^ 39 + portSid f * 2 ^ 15 + amc)
  let si : Word64 := markerBlock 0x55 (portSid f * 2 ^ 24 + frev % 2 ^ 16 * 2 ^ 8 + f.kind % 256)
  let s := (List.range 16).foldl (fun s i => s.portLine p 0b10 (am i) (am i)) s
  (List.range 16).foldl (fun s _ => s.portScrambled p 0b10 si) s

/-- A word sent on a port; the marker rows go before it where 16,384 rows have been sent since the last (R280). -/
def State.portSend (s : State) (p : Nat) (header : BitVec 2) (payload : Word64) : State :=
  match s.flock with
  | none => s
  | some f =>
    let x := s.port p
    let s := if x.next = 0 && x.rows.any (fun k => 16384 ≤ k) then s.portMarkerRows p f else s
    s.portScrambled p header payload

/-- Idle fill of n words. -/
def State.portFill (s : State) (p n : Nat) : State :=
  if s.portMode p = 0 then s else (List.range n).foldl (fun s _ => s.portSend p 0b10 0x1E) s

/-- The next marker rows fall due: the port has filled its rows with idle up to their place (R280). -/
def State.portMarkers (s : State) (p : Nat) : State :=
  match s.flock with
  | none => s
  | some f =>
    if s.portMode p = 0 then s
    else
      let x := s.port p
      (s.portIdle p ((x.rows.map (fun k => (16384 - k) * 16 - x.next)).getD 0)).portMarkerRows p f

/-- A message on a port: its first block and its continuation blocks (Table 9-4). -/
def State.portMsgNow (s : State) (p : Nat) (m : PairMsg) : State :=
  if s.portMode p = 0 then s
  else
    let first := markerBlock 0x66 (m.op * 2 ^ 40 + m.data.length % 16 * 2 ^ 36 + m.mseq % 2 ^ 16 * 2 ^ 16 + m.arg % 2 ^ 16)
    let s := s.setPort p { s.port p with used := (s.port p).used + 1 + m.data.length }
    m.data.foldl (fun s d => s.portSend p 0b10 (markerBlock 0x66 d.toNat)) (s.portSend p 0b10 first)

/-- The message fits into the 16 message blocks of this crossing (R289). -/
def State.portRoom (s : State) (p : Nat) (m : PairMsg) : Bool := (s.port p).used + 1 + m.data.length ≤ 16

/-- Messages that wait are sent in order while there is room (R289). -/
def State.flushMsgs (s : State) (p : Nat) : List PairMsg → State
  | [] => s.setPort p { s.port p with msgs := [] }
  | m :: rest =>
    if s.portRoom p m then (s.portMsgNow p m).flushMsgs p rest else s.setPort p { s.port p with msgs := m :: rest }

/-- A message for a port, sent at once or as soon as there is room. -/
def State.portMsg (s : State) (p op mseq arg : Nat) (data : List (BitVec 48)) : State :=
  if s.portMode p = 0 then s
  else s.flushMsgs p ((s.port p).msgs ++ [{ mseq := mseq, op := op, arg := arg, data := data }])

/-- The crossing marker and the pair-role block of a port, the first two words of a crossing, on lanes 0 and 1: the row
before is filled with idle, and marker rows that are due go before them (R281; DESIGN CHOICE, log entry 191). -/
def State.portCrossing (s : State) (p : Nat) : State :=
  if s.portMode p = 0 then s
  else
    let s := (s.setPort p { s.port p with used := 0 }).portIdle p ((16 - (s.port p).next) % 16)
    (s.portSend p 0b10 (markerBlock 0x33 s.xn)).portSend p 0b10 s.roleBlock

/-- A release token sent on a port as a wave record; RS is sent as 0 (R282). -/
def State.portRelease (s : State) (p wtag : Nat) (void late : Bool) (data : Nat) : State :=
  if s.portMode p = 0 then s
  else
    let head : Word64 := BitVec.ofNat 64 ((if void then 512 else 0) + (if late then 256 else 0) + wtag % 256)
    let words : List Word64 := (List.range (s.pt p 0x09)).map (fun i =>
      if void then 0 else BitVec.ofNat 64 (data / 2 ^ (64 * i)))
    let s := (head :: words).foldl (fun s w => s.portSend p 0b01 w) s
    if s.portMode p = 2 then s.setPair (fun x => { x with mirrorWords := x.mirrorWords ++ head :: words }) else s

/-! ### Port states (R287, R288, R297) -/

/-- The flock's state and the members that are up (R294, 0x8000:05). -/
def State.flockRefresh (s : State) : State :=
  match s.flock with
  | none => (s.wr 0x8000 0x01 0).wr 0x8000 0x05 0
  | some f =>
    let on := f.ports.filter (fun x => x.mode ≠ 0)
    let allUp := on.all (fun x => s.portSt x.port = pUp)
    let was := s.rd 0x8000 0x01
    let up := maskOf 16 (fun m => f.members.getLsbD m && on.any (fun x => x.peer = m) &&
      on.all (fun x => x.peer ≠ m || s.portSt x.port = pUp))
    let st := if allUp then (if s.isBellwether || s.pair.trimSet then 2 else 1)
      else if was = 2 ∨ was = 3 then 3 else 1
    (s.wr 0x8000 0x01 st).wr 0x8000 0x05 up

/-- The records that wait are dropped, and a run of late records or wave slips ends (R286, R322). -/
def State.dropRecords (s : State) (p : Nat) : State :=
  s.setPort p { s.port p with buffer := [], lateRun := false, slipRun := false }

/-- A port changes state; leaving UP raises its causes (R297, R322). -/
def State.portTo (s : State) (p dst : Nat) : State :=
  let was := s.portSt p
  let s := s.wr (0x3400 + p) 0x02 dst
  let s := if was = pUp ∧ dst ≠ pUp then
      let s := (s.dropRecords p).raise (128 + p) clsStack 0x901 1
      if s.portMode p = 1 then s.raise 256 clsStack 0x906 1 else s
    else s
  s.flockRefresh

/-- Entry into LOCKING or a state before it: what was received and matched starts afresh. -/
def State.portRestart (s : State) (p dst : Nat) : State :=
  let s := s.portTo p dst
  s.setPort p { s.port p with
    toPortRx := {}
    matches_ := 0
    mismatch := false
    identityOk := false
    frevOk := false
    measured := false
    offBad := 0 }

/-- A loss of lock on any lane returns the whole port to LOCKING (R287). -/
def State.portLockLost (s : State) (p : Nat) : State := (s.bump 32 (0x3400 + p) 0x0C).portRestart p 2

/-- Entry into ALIGNING: an echo request is sent (R288). -/
def State.portAligning (s : State) (p : Nat) : State := (s.portTo p pAligning).portMsg p 0x06 0 0 []

/-- The round trip of an echo, in ps: the cable delay, its cause above the budget (R288). -/
def State.cableMeasured (s : State) (p roundTripPs : Nat) : State :=
  let c := (roundTripPs - 60000) / 2 / 10 * 10
  let s := (s.wr (0x3400 + p) 0x07 c).setPort p { s.port p with measured := true }
  if s.pt p 0x06 < c then s.raise (128 + p) clsStack 0x903 1 else s

/-- The bodies that the 16 lanes of a marker row have brought. -/
def rowBodies (l : Sparse (Option (BitVec 56))) : List (Nat × BitVec 56) :=
  (List.range 16).filterMap (fun i => (Sparse.get (fun _ => none) l i).map (fun b => (i, b)))

/-- FREV of a source-identifier block is accepted on a port (R287, R316). -/
def State.portRevOk (s : State) (p f : Nat) : Bool :=
  let v := s.rd 0x8100 0x0E
  if s.portMode p = 2 then decide (f ≤ v + 1 ∧ v ≤ f + 1) else f = 1

/-- A marker that does not match: the port enters STRANGER at its next crossing marker (R287). -/
def State.portMismatch (s : State) (p : Nat) : State :=
  let x := s.port p
  s.setPort p { x with
    identityOk := false
    matches_ := 0
    mismatch := x.mismatch || s.portSt p = pAligning || s.portSt p = pUp }

/-- A marker row and its row of source-identifier blocks are complete (R219, R279, R280, R287, R316): every lane has
the number 16 q + i of one sender's port q. A row with a marker lost matches nothing. -/
def State.portRow (s : State) (p skewPs : Nat) : State :=
  let x := s.port p
  let ams := rowBodies x.ams
  let sis := rowBodies x.sis
  let sid := s.pt p 0x03
  let q := (ams.map (fun a => bodyField a.2 55 47 / 16)).headD 0
  let amc := (ams.map (fun a => bodyField a.2 22 8)).headD 0
  let mirror := s.portMode p = 2
  let frev := (sis.map (fun b => bodyField b.2 31 16)).headD 0
  let frevOk : Bool := sis.all (fun b => s.portRevOk p (bodyField b.2 31 16))
  let amOk : Bool := ams.all (fun a => bodyField a.2 46 23 = sid && bodyField a.2 55 47 = 16 * q + a.1)
  let siOk : Bool := sis.all (fun b => bodyField b.2 55 32 = sid)
  let s := (s.wr (0x3400 + p) 0x0A skewPs).setPort p { x with ams := [], sis := [] }
  let skewOk := decide (skewPs * s.portRate p ≤ 16 * 66 * 1000000000) && ams.all (fun a => bodyField a.2 22 8 = amc)
  let x := s.port p
  if !(amOk && siOk && frevOk) then
    (s.setPort p { x with frevOk := frevOk, skewOk := skewOk }).portMismatch p
  else if ams.length = 16 ∧ sis.length = 16 then
    let s := s.setPort p { x with
      identityOk := true
      frevOk := true
      skewOk := skewOk
      matches_ := x.matches_ + 1 }
    let s := if mirror then s.wr 0x8100 0x0F (min (s.rd 0x8100 0x0E) frev) else s
    if s.portSt p = pStranger ∧ 2 ≤ x.matches_ + 1 then
      (s.setPort p { s.port p with mismatch := false }).portAligning p
    else s
  else s

/-- An alignment marker taken on a lane of a port (R280). -/
def State.portAm (s : State) (p lane : Nat) (b : BitVec 56) : State :=
  let x := s.port p
  let s := (s.wr (0x3400 + p) 0x04 (bodyField b 46 23)).setPort p { x with
    ams := Sparse.set (fun _ => none) x.ams lane (some b)
    sis := Sparse.set (fun _ => none) x.sis lane none }
  if bodyField b 46 23 = s.pt p 0x03 ∧ bodyField b 55 47 % 16 = lane then s else s.portMismatch p

/-- A source-identifier block on a lane of a port; the last lane's ends the row. A revision that a mirror port does not
accept raises its cause once in a row (R316). -/
def State.portSi (s : State) (p lane : Nat) (b : BitVec 56) (skewPs : Nat) : State :=
  let x := s.port p
  let revBad (b : BitVec 56) : Bool := !s.portRevOk p (bodyField b 31 16)
  let first : Bool := revBad b && !(rowBodies x.sis).any (fun a => revBad a.2)
  let s := (s.wr (0x3400 + p) 0x05 (bodyField b 31 16)).setPort p { x with
    sis := Sparse.set (fun _ => none) x.sis lane (some b) }
  let s := if first ∧ s.portMode p = 2 then s.raise 264 clsPair 0x90D 1 else s
  let s := if bodyField b 55 32 = s.pt p 0x03 ∧ !revBad b then s else s.portMismatch p
  if lane = 15 then s.portRow p skewPs else s

/-- The trim after an edge offset e (R293): 10 ps steps, ±500 ns. -/
def trimAfter (trim e : Int) : Int := max (-500000) (min 500000 ((trim - e) / 10 * 10))

/-- The reference port's crossing marker (R293): the crossing it gives the device now, and e in ps. -/
def State.referenceMarker (s : State) (p : Nat) (xn : Nat) (e : Int) : State :=
  let x := s.port p
  if s.engineSt ≤ 1 then
    let s := ((s.wr 0x4002 0x01 xn).showTag).wr 0x8000 0x07 (i32 (trimAfter (toI32 (s.rd 0x8000 0x07)) e))
    ((s.setPort p { x with offBad := 0 }).setPair (fun x => { x with trimSet := true })).flockRefresh
  else
    let bad := decide (e < -200 ∨ 200 < e)
    let n := if bad then x.offBad + 1 else 0
    let s := s.setPort p { x with offBad := n }
    if n = 16 ∨ xn ≠ s.xn then (s.bump 32 0x8000 0x0A).raise 257 clsStack 0x907 1 else s

/-- Crossings by which the device's own edge before an arrival is later than the edge that a marker belongs to: the
marker arrives 18 ns and the cable delay after the sender's edge (R281, R293). -/
def State.edgeLag (s : State) (p : Nat) (arrivalPs : Int) : Nat :=
  let fx := s.rd 0x4001 0x01
  let behind : Int := 18000 + (s.pt p 0x07 : Nat) - arrivalPs
  if fx = 0 then 0 else ((2 * behind * fx + 10 ^ 12) / (2 * 10 ^ 12)).toNat

/-- A crossing marker on a port (R287, R293): arrival of its first bit after the device's own edge, in ps. -/
def State.portCrossingMarker (s : State) (p xn : Nat) (arrivalPs : Int) : State :=
  let st := s.portSt p
  if st < pAligning ∨ st = pLost then s
  else
    let x := s.port p
    let lag := s.edgeLag p arrivalPs
    let fx := s.rd 0x4001 0x01
    let e : Int := arrivalPs - 18000 - (s.pt p 0x07 : Nat) + (if fx = 0 then 0 else (lag * 10 ^ 12 / fx : Nat))
    let s := (s.wrI32 (0x3400 + p) 0x10 e).setPort p { x with rxXn := xn }
    let s := if x.mismatch ∧ (st = pAligning ∨ st = pUp) then
        let s := s.portTo p pStranger
        (s.setPort p { s.port p with mismatch := false, matches_ := 0 }).raise (128 + p) clsStack 0x902 1
      else if st = pAligning ∧ x.identityOk ∧ x.frevOk ∧ x.skewOk ∧ x.measured ∧ s.pt p 0x07 ≤ s.pt p 0x06 then
        let s := s.portTo p pUp
        s.setPort p { s.port p with words := [] }
      else s
    if s.portSt p = pUp ∧ s.rd 0x8000 0x06 = p then s.referenceMarker p ((xn + lag) % 2 ^ 48) e else s

/-! ### Records (R284, R286) -/

/-- A wave record received on a port that is UP waits in its buffer; while no wave runs it has none to meet. -/
def State.waveRecord (s : State) (p : Nat) (head : Word64) (data : List Word64) : State :=
  if s.portSt p = pUp ∧ s.engineSt ≠ 0 then
    s.setPort p { s.port p with buffer := (s.port p).buffer ++ [(head, data)] }
  else s

/-- Records whose deadline has passed are dropped from the front of a buffer (R286). -/
def dropMissed (tag : Nat) (l : List (Word64 × List Word64)) : List (Word64 × List Word64) :=
  l.dropWhile (fun r => serialLater 8 (r.1.toNat % 256) tag)

/-- The wave tag of the record that port p injects in the current wave (R286). -/
def State.portTag (s : State) (p : Nat) : Nat := (s.waveIdx + 256 * 65536 - s.pt p 0x08 - 1) % 256

/-- RS of a port's token: 1 on a mirror port while the half is CATCHING (Table 9-2). -/
def State.portRs (s : State) (p : Nat) : Nat := if s.portMode p = 2 ∧ s.pairSt = 2 then 1024 else 0

/-- The void token of a port: V = 1, LATE and the data bits 0 (R286); WTAG is that of the record it stands for (log
entry 165). -/
def State.portVoid (s : State) (p : Nat) : Tok := { data := s.portRs p + 512 + s.portTag p, void := true }

/-- Outside PRIMING and RUNNING a port's token is void, and a record that meets its wave there is discarded (R286). No run
of late records or wave slips goes on (R322). -/
def State.portPass (s : State) (p : Nat) : State :=
  let buf := dropMissed (s.portTag p) (s.port p).buffer
  s.setPort p { s.port p with
    buffer := buf.dropWhile (fun r => r.1.toNat % 256 = s.portTag p)
    lateRun := false
    slipRun := false }

/-- The token of a port in the wave being injected (R286). -/
def State.portTok (s : State) (p : Nat) : Tok × State :=
  let void := s.portVoid p
  if s.portSt p ≠ pUp then (void, s.dropRecords p)
  else
    let tag := s.portTag p
    let x := s.port p
    let buf := dropMissed tag x.buffer
    match buf with
    | [] =>
      let s := (s.setPort p { x with buffer := [], lateRun := true, slipRun := false }).bump 64 (0x3400 + p) 0x0D
      (void, if x.lateRun then s else s.raise (128 + p) clsStack 0x904 0)
    | (head, data) :: rest =>
      if head.toNat % 256 = tag then
        let d := data.zipIdx.foldl (fun acc w => acc + w.1.toNat * 2 ^ (11 + 64 * w.2)) (head.toNat % 1024)
        ({ data := d + s.portRs p, void := head.getLsbD 9 },
          s.setPort p { x with buffer := rest, lateRun := false, slipRun := false })
      else
        let s := (s.setPort p { x with buffer := buf, slipRun := true, lateRun := false }).bump 32 (0x3400 + p) 0x0E
        (void, if x.slipRun then s else s.raise (128 + p) clsStack 0x905 1)

/-! ### The run of a flock (R295, R296) -/

/-- START and STOP as messages and digests carry them: 0 when none is pending. -/
def State.runStart (s : State) : Nat := if s.startPending then s.rd 0x4003 0x02 % 2 ^ 48 else 0
def State.runStop (s : State) : Nat := if s.stopPending then s.rd 0x4003 0x03 % 2 ^ 48 else 0

/-- JOIN: the first multiple of 4,096 that lies at least 1,024 crossings ahead. -/
def State.joinCrossing (s : State) : Nat := (s.xn + 1024 + 4095) / 4096 * 4096 % 2 ^ 48

/-- A run message on every downward port of the flock. -/
def State.sendRun (s : State) (start stop join : Nat) : State :=
  match s.flock with
  | none => s
  | some f =>
    let s := s.wr 0x8000 0x09 join
    (f.ports.filter (fun x => x.mode = 1 && !x.upward)).foldl (fun s x =>
      s.portMsg x.port 0x04 0 0 [BitVec.ofNat 48 start, BitVec.ofNat 48 stop, BitVec.ofNat 48 join]) s

/-- The bellwether's own run message. -/
def State.sendOwnRun (s : State) : State := s.sendRun s.runStart s.runStop s.joinCrossing

/-- A message on a port that the table does not allow there is dropped and counted (R290). -/
def State.dropMsg (s : State) (p : Nat) : State := s.bump 32 (0x3400 + p) 0x0F
/-- The port takes messages: it is ALIGNING or UP. -/
def State.takesMsgs (s : State) (p : Nat) : Bool := s.portSt p = pAligning || s.portSt p = pUp

/-- A START or STOP applied at a member, as if written to it (R295): a start returns VC from hold (R456). -/
def State.applyRun (s : State) (start stop : Nat) : State :=
  let s := if start ≠ 0 ∧ waveLater s.wave (mkWave start 0) ∧ s.engineSt ≠ 0 then
      { s.wr 0x4003 0x02 start with startPending := true }.vcLeave
    else s
  if stop ≠ 0 ∧ waveLater s.wave (mkWave stop 0) ∧ s.engineSt ≠ 0 then
    { s.wr 0x4003 0x03 stop with stopPending := true }
  else s

/-- The run item at the mirror (R303): a value of 0 is one that is not pending any more. -/
def State.applyRunItem (s : State) (start stop : Nat) : State :=
  let s := s.applyRun start stop
  { s with
    startPending := s.startPending && start ≠ 0
    stopPending := s.stopPending && stop ≠ 0 }

/-- A run message received (R295, R296, Table 9-17). A message with START 0 comes from a bellwether that runs; a member
joins it unless it stops before JOIN. -/
def State.runMessage (s : State) (p start stop join : Nat) : State :=
  if s.portMode p ≠ 1 ∨ !s.isUpward p ∨ s.isBellwether ∨ !s.takesMsgs p then s.dropMsg p
  else
    let s := s.wr 0x8000 0x09 join
    let idle : Bool := s.engineSt = 1 && !s.startPending
    let s := s.applyRun start stop
    let s := if !idle then s
      else if start ≠ 0 then (if s.startPending then s else s.raise 258 clsStack 0x908 1)
      else if s.rd 0x8000 0x01 ≠ 2 ∨ (stop ≠ 0 ∧ !waveLater (mkWave join 0) (mkWave stop 0)) then s
      else if waveLater s.wave (mkWave join 0) then { s.wr 0x4003 0x02 join with startPending := true }.vcLeave
      else s.raise 258 clsStack 0x908 1
    s.sendRun start stop join

/-! ### Items and digests (R302 to R305) -/

/-- Fields (value, width) packed most significant first, padded with 0 to whole DATA fields of 48 bits. -/
def packItem (fields : List (Nat × Nat)) : List (BitVec 48) :=
  let bits := fields.foldl (fun a f => a + f.2) 0
  let v := fields.foldl (fun a f => a * 2 ^ f.2 + f.1 % 2 ^ f.2) 0
  let n := (bits + 47) / 48
  let w := v * 2 ^ (48 * n - bits)
  (List.range n).map (fun i => BitVec.ofNat 48 (w / 2 ^ (48 * (n - 1 - i))))

/-- The bits [hi:lo] of an item's content as the lead packed it, hi counted down from its top bit. -/
def itemField (data : List (BitVec 48)) (skip width : Nat) : Nat :=
  let v := data.foldl (fun a d => a * 2 ^ 48 + d.toNat) 0
  v / 2 ^ (48 * data.length - skip - width) % 2 ^ width

/-- Item codes of a full snapshot (Table 9-10). -/
def itemCodes : List Nat :=
  [1, 2] ++ (List.range 16).map (fun k => 0x10 + k) ++ (List.range 64).map (fun n => 0x100 + n)

/-- The content of a switch slot's item in a state and with an origin. -/
def State.slotItem (s : State) (k state origin : Nat) : List (BitVec 48) :=
  packItem [(s.slot k 0x01, 64), (s.slot k 0x02, 64), (s.slot k 0x03, 8), (s.slot k 0x04, 8), (state, 8), (origin, 8)]

/-- The content of an item now. -/
def State.itemContent (s : State) (code : Nat) : List (BitVec 48) :=
  if code = 1 then packItem [(s.engineSt, 8), (s.runStart, 48), (s.runStop, 48)]
  else if code = 2 then packItem [(s.era, 16), (s.xn, 48), (s.rd 0x5800 0x05, 32), (s.rd 0x5800 0x02, 32)]
  else if code < 0x20 then s.slotItem (code - 0x10) (s.slot (code - 0x10) 0x06) (s.slot (code - 0x10) 0x07)
  else packItem [(s.rd (0x4100 + (code - 0x100)) 0x18, 32)]

/-- The number of the next item or pair-reset message (R302). -/
def State.nextMseq (s : State) : Nat := s.pair.nextSeq

/-- Numbered messages that have not been sent go out in order while there is room (R289), up to 256 that are not
acknowledged, whose place a full snapshot takes (R302). -/
def State.pushNumbered (s : State) : State :=
  match s.mirrorPort with
  | none => s
  | some p =>
    ((s.pair.unacked.take 256).foldl (fun (acc : Bool × State) m =>
      let s := acc.2
      if m.sent || acc.1 then acc
      else if !s.portRoom p m then (true, s)
      else
        let s := s.portMsgNow p m
        let s := if s.pair.sentAny && !serialLater 16 (s.rd 0x8100 0x07) m.mseq then s else s.wr 0x8100 0x07 m.mseq
        (false, s.setPair (fun x => { x with
          sentAny := true
          unacked := x.unacked.map (fun y => if y.mseq = m.mseq then { y with sent := true } else y) })))
      (false, s)).2

/-- A numbered message for the mirror, kept until it is acknowledged. With 256 that are not, a full snapshot takes their
place (R302). -/
def State.sendNumbered (s : State) (op arg : Nat) (data : List (BitVec 48)) : State :=
  if s.mirrorPort.isNone then s
  else
    (s.setPair (fun x => { x with
      nextSeq := (x.nextSeq + 1) % 2 ^ 16
      overrun := x.overrun || 255 ≤ x.unacked.length
      unacked := x.unacked ++ [{ mseq := x.nextSeq, op := op, arg := arg, data := data }] })).pushNumbered

/-- A full snapshot begins: every item is sent again, and the numbers start from 0 (R302, R303; log entry 31). -/
def State.startSnapshot (s : State) : State :=
  s.setPair (fun x => { x with
    sentItems := []
    unacked := []
    nextSeq := 0
    sentAny := false
    ackedAny := false
    overrun := false
    stalled := 0 })

/-- An item sent. -/
def State.sendItem (s : State) (code : Nat) (data : List (BitVec 48)) : State :=
  (s.sendNumbered 0x02 code data).setPair (fun x => { x with
    sentItems := x.sentItems.filter (fun y => y.1 ≠ code) ++ [(code, data)] })

/-- The half is a mirror (R298): JOINING, CATCHING or TRACKING. -/
def State.isMirror (s : State) : Bool := 1 ≤ s.pairSt && s.pairSt ≤ 3

/-- The lead's partner takes items. -/
def State.hasMirror (s : State) : Bool := s.pairSt = 4 && 1 ≤ s.partner && s.partner ≤ 3

/-- The lead sends every item whose content differs from what it sent last; with nothing sent, that is the full
snapshot (R303). -/
def State.syncItems (s : State) : State :=
  if !s.hasMirror || s.pair.overrun then s
  else
    itemCodes.foldl (fun s code =>
      let data := s.itemContent code
      if s.pair.confirm.any (fun c => c.1 + 0x10 = code) || s.pair.sentItems.lookup code = some data then s
      else s.sendItem code data) s

/-- A menu or look-back item of the lead differs from the mirror's own state (R303). -/
def State.itemsDiffer (s : State) : Bool :=
  s.pair.countDiffers || s.pair.leadItems.any (fun y =>
    if y.1 = 2 then itemField y.2 64 64 ≠ s.rd 0x5800 0x05 * 2 ^ 32 + s.rd 0x5800 0x02
    else y.2 ≠ s.itemContent y.1)

/-- The mirror notes a menu or look-back item. The lead's crossing is the device's own, or one of the two before it
while the item was on its way. -/
def State.noteItem (s : State) (code : Nat) (d : List (BitVec 48)) : State :=
  let lag := (s.xn + 2 ^ 48 - itemField d 16 48) % 2 ^ 48
  let off : Bool := 2 < lag || s.crossing < lag || (s.crossing - lag) / 2 ^ 48 ≠ itemField d 0 16
  s.setPair (fun x => { x with
    leadItems := x.leadItems.filter (fun y => y.1 ≠ code) ++ [(code, d)]
    countDiffers := if code = 2 then off else x.countDiffers })

/-- Own digest of the crossing that ends (R305). -/
def State.ownDigest (s : State) (xn era : Nat) : Nat :=
  let slots := (List.range 16).flatMap (fun k =>
    natBytes 8 (s.slot k 0x01) ++ natBytes 8 (s.slot k 0x02) ++ natBytes 1 (s.slot k 0x03) ++ natBytes 1 (s.slot k 0x04)
      ++ natBytes 1 (s.slot k 0x06))
  let bytes := natBytes 6 xn ++ natBytes 2 era ++ natBytes 1 s.engineSt ++ natBytes 6 s.runStart ++ natBytes 6 s.runStop
    ++ (List.range 64).flatMap (fun n => natBytes 4 (s.rd (0x4100 + n) 0x18)) ++ slots ++ natBytes 4 (s.rd 0x5800 0x05)
    ++ s.pair.mirrorWords.flatMap (fun w => natBytes 8 w.toNat)
  (crc32c bytes).toNat

/-! ### Switches that wait for the mirror (R165, R304) -/

/-- The start crossing of an automatic start: the first multiple of 4,096 at least 1,024 crossings after the
switch wave (R531). -/
def autoStart (xn : Nat) : Nat := (xn + 1024 + 4095) / 4096 * 4096 % 2 ^ 48

/-- Slot k holds the start-up switch, armed: step 9 is in progress, and an automatic start is written (R531). -/
def State.startArmed (s : State) (k : Nat) : State :=
  let s := s.atStep 9
  let alone : Bool := (match s.flock with
    | none => true
    | some f => f.kind = 1)
  if s.rd 0x1101 0x01 = 1 ∧ alone then
    { s.wr 0x4003 0x02 (autoStart (waveXn (s.slot k 0x02))) with startPending := true }.sendOwnRun
  else s

/-- A slot whose arm waits for the mirror is decided (R304, R169). What stands against the arm when the confirmation comes
refuses it still (DESIGN CHOICE, log entry 204). -/
def State.confirmSlot (s : State) (c : Nat × Nat × Nat × Option Requester) (reason : Nat) : State :=
  let s := s.setPair (fun x => { x with confirm := x.confirm.filter (fun y => y.1 ≠ c.1) })
  let reason := if reason = 0 then s.slotReason c.1 false else reason
  let s := s.setArmed c.1 c.2.2.1 reason
  match c.2.2.2 with
  | some r => s.reply r (ent (0x4210 + c.1) 0x05) (if reason = 0 then 0 else if reason = 1 then abortValue else abortState)
  | none =>
    if c.2.2.1 = 1 ∧ reason ≠ 0 then s.raise 212 clsThermal 0xF12 1
    else if c.2.2.1 = 3 ∧ s.startStep = 8 then (if reason = 0 then s.startArmed c.1 else s.stopAt 8)
    else s

/-- The partner is absent, or JOINING again: arms that wait are made without confirmation (R304, R313). -/
def State.confirmAll (s : State) : State :=
  s.pair.confirm.foldl (fun s c => s.confirmSlot c 0) s

/-! ### Pair states (R299, R307 to R314) -/

/-- The half enters JOINING (R299, R310); its reference port is its mirror port (R293). Of the arms that wait for a
mirror, the start-up switch is armed all the same, and the others are dropped: their requesters read the slots on the
new lead (R165). What comes of such arms is a DESIGN CHOICE (log entry 228). -/
def State.enterJoining (s : State) : State :=
  let s := (s.pair.confirm.filter (fun c => c.2.2.1 = 3)).foldl (fun s c => s.confirmSlot c 0) s
  (((s.wr 0x8100 0x01 1).wr 0x8100 0x06 0).wr 0x8000 0x06 (s.mirrorPort.getD 0xFF)).setPair (fun x => { x with
    confirm := []
    acceptedAny := false
    snapshot := []
    leadItems := []
    countDiffers := false
    sameDigests := 0
    yieldAccepted := false
    yieldDue := false
    yieldSent := false
    demote := false
    tracks := false
    unacked := []
    sentItems := [] }) |>.flockRefresh

/-- The half becomes LEAD with an epoch, which it stores (R299, R307); a lead has no reference port (R293). -/
def State.becomeLead (s : State) (epoch : Nat) : State :=
  (((((s.wr 0x8100 0x01 4).wr 0x8100 0x04 (epoch % 2 ^ 16)).wr 0x8100 0x06 0).wr 0x8000 0x06 0xFF).startSnapshot.setPair (fun x => { x with
    absent := false
    yieldAccepted := false
    yieldDue := false
    yieldSent := false })).flockRefresh

/-- The later of two epochs (R12 with n = 16). -/
def laterEpoch (a b : Nat) : Nat := if serialLater 16 a b then b else a
/-- The latest epoch stored or received on any port. -/
def State.latestEpoch (s : State) : Nat :=
  portNos.foldl (fun a p => ((s.port p).epoch.map (laterEpoch a)).getD a) (s.rd 0x8100 0x04)

/-- An epoch that a mirror or a member follows: the first that it receives, and then every later one (R309). -/
def State.trackEpoch (s : State) (epoch : Nat) : State :=
  if s.pair.tracks && !serialLater 16 (s.rd 0x8100 0x04) epoch then s
  else (s.wr 0x8100 0x04 epoch).setPair (fun x => { x with tracks := true })

/-- A pair-role block on a stack port (R299, R309, R310). -/
def State.portRole (s : State) (p : Nat) (b : BitVec 56) : State :=
  if !chkOk b ∨ !s.takesMsgs p then s
  else
    let role := bodyField b 55 54
    let epoch := bodyField b 47 32
    let s := (s.setPort p { s.port p with role := role, epoch := some epoch }).setPair (fun x => { x with
      leadSeen := x.leadSeen || role = 1 })
    let own := s.rd 0x8100 0x04
    let st := s.pairSt
    if st = 4 then
      if serialLater 16 own epoch ∨ (s.rd 0x8100 0x02 = 1 ∧ role = 1 ∧ epoch = own) then
        s.setPair (fun x => { x with demote := true })
      else s
    else if st ≠ 0 then (if role = 1 then s.trackEpoch epoch else s)
    else if s.isUpward p then
      let s := s.trackEpoch epoch
      if role = 1 ∧ epoch = s.rd 0x8100 0x04 ∧ !s.isBellwether then s.wr 0x8000 0x06 p else s
    else s

/-- A slot armed on this device (R148, R165, R304): at once, or once the mirror has confirmed it. -/
def State.armMirrored (s : State) (k origin : Nat) (lead : Bool) (who : Option Requester) : Option Nat × State :=
  let reason := s.slotReason k lead
  if reason ≠ 0 ∨ !(s.pairSt = 4 && (s.partner = 2 || s.partner = 3)) then (some reason, s.setArmed k origin reason)
  else
    let m := s.nextMseq
    let s := s.setPair (fun x => { x with confirm := x.confirm ++ [(k, m, origin, who)] })
    (none, s.sendItem (0x10 + k) (s.slotItem k 1 origin))

/-- The lead's messages up to a number are acknowledged (R302, R304). -/
def State.ackTo (s : State) (m : Nat) : State :=
  let x := s.pair
  let acked (n : Nat) : Bool := !serialLater 16 m n
  let rest := x.unacked.filter (fun y => !acked y.mseq)
  if rest.length = x.unacked.length then s
  else
    let waiting := x.confirm.filter (fun c => acked c.2.1)
    let s := (s.wr 0x8100 0x08 m).setPair (fun x => { x with
      unacked := rest
      ackedAny := true
      stalled := 0 })
    (waiting.foldl (fun s c => s.confirmSlot c 0) s).pushNumbered

/-- A heartbeat on the mirror port (R301, R302, R305, R307, R299). Its crossing is that of the marker before it. A mirror
that has become JOINING gets a full snapshot, and so does one that is JOINING and expects number 0 again (R303). -/
def State.heartbeat (s : State) (p mseq arg : Nat) (cont : BitVec 48) : State :=
  if s.portMode p ≠ 2 ∨ s.pairSt = 0 then s.dropMsg p
  else if s.portSt p ≠ pUp ∨ arg % 2 ^ 16 ≠ ((s.port p).rxXn + 2 ^ 48 - 1) % 2 ^ 16 then s
  else
    let digest := cont.toNat / 2 ^ 16
    let theirs := cont.toNat / 2 ^ 8 % 256
    let was := s.partner
    let s := s.wr 0x8100 0x10 theirs
    if s.pairSt = 4 then
      let s := (s.wr 0x8100 0x06 0).setPair (fun x => { x with heard := true, absent := false })
      if theirs = 1 ∧ (was ≠ 1 ∨ (mseq % 2 ^ 16 = 65535 ∧ (s.pair.ackedAny ∨ s.pair.overrun))) then s.startSnapshot.confirmAll
      else s.ackTo mseq
    else if theirs = 4 then
      let s := (s.wr 0x8100 0x06 0).setPair (fun x => { x with heard := true })
      let s := if s.pair.acceptedAny ∧ 256 ≤ serialDiff 16 (s.rd 0x8100 0x08) mseq ∧ serialLater 16 (s.rd 0x8100 0x08) mseq
        then s.enterJoining else s
      match s.pair.digests.lookup (arg % 2 ^ 16) with
      | none => s
      | some own =>
        if own = digest ∧ !s.itemsDiffer then
          let n := s.pair.sameDigests + 1
          let s := s.setPair (fun x => { x with sameDigests := n })
          if s.pairSt = 2 ∧ 16 ≤ n then (s.wr 0x8100 0x01 3).wr 0x8100 0x12 0 else s
        else
          let s := (s.bump 32 0x8100 0x0A).setPair (fun x => { x with sameDigests := 0 })
          if s.pairSt = 3 then (s.wr 0x8100 0x01 2).raise 262 clsPair 0x90B 1 else s
    else if theirs = 1 ∧ s.pairSt = 1 ∧ s.rd 0x8100 0x02 = 0 then s.becomeLead (s.latestEpoch + 1)
    else s

/-- The number is the next in order at the mirror, from 0 (R302). -/
def State.inOrder (s : State) (mseq : Nat) : Bool :=
  mseq % 2 ^ 16 = (if s.pair.acceptedAny then (s.rd 0x8100 0x08 + 1) % 2 ^ 16 else 0)

/-- A numbered message accepted at the mirror. -/
def State.acceptMseq (s : State) (mseq : Nat) : State :=
  (s.wr 0x8100 0x08 (mseq % 2 ^ 16)).setPair (fun x => { x with acceptedAny := true })

/-- The mirror applies a switch slot's item (R303, R304). -/
def State.applySlotItem (s : State) (p k mseq : Nat) (d : List (BitVec 48)) : State :=
  let state := itemField d 144 8
  if state = 1 then
    if s.slotArmed k ∧ s.slot k 0x01 = itemField d 0 64 ∧ s.slot k 0x02 = itemField d 64 64 then s
    else
      let s := s.fillSlot k (itemField d 0 64) (itemField d 64 64) (itemField d 128 8) (itemField d 136 8)
      let reason := s.slotReason k false
      let s := s.setArmed k 2 reason
      if reason = 0 then s else s.portMsg p 0x03 0 mseq [BitVec.ofNat 48 (reason * 2 ^ 40)]
  else if s.slotArmed k ∧ state = 4 then s.cancelSlot k
  else if s.slotArmed k then s
  else s.fillSlot k (itemField d 0 64) (itemField d 64 64) (itemField d 128 8) (itemField d 136 8)

/-- An item received by the mirror (R302, R303, R299). -/
def State.itemMessage (s : State) (p mseq code : Nat) (d : List (BitVec 48)) : State :=
  if s.portMode p ≠ 2 ∨ s.pairSt = 0 ∨ s.pairSt = 4 ∨ s.portSt p ≠ pUp then s.dropMsg p
  else if !s.inOrder mseq then s
  else
    let s := s.acceptMseq mseq
    let s := if code = 1 then s.applyRunItem (itemField d 8 48) (itemField d 56 48)
      else if 0x10 ≤ code ∧ code < 0x20 then s.applySlotItem p (code - 0x10) mseq d
      else s.noteItem code d
    if s.pairSt = 1 then
      let got := if s.pair.snapshot.contains code then s.pair.snapshot else s.pair.snapshot ++ [code]
      let s := s.setPair (fun x => { x with snapshot := got })
      if itemCodes.all (fun c => got.contains c) then
        (s.wr 0x8100 0x01 2).setPair (fun x => { x with sameDigests := 0 })
      else s
    else s

/-- The mirror refuses a slot (R304). -/
def State.refusalMessage (s : State) (p arg reason : Nat) : State :=
  if s.portMode p ≠ 2 ∨ s.pairSt ≠ 4 ∨ s.portSt p ≠ pUp then s.dropMsg p
  else
    match s.pair.confirm.find? (fun c => c.2.1 = arg) with
    | some c => s.confirmSlot c reason
    | none => s

/-- The mirror takes over (R307): the limit of missed heartbeats is reached, or a yield has been accepted. A boundary
without a heartbeat that is about to reach the limit counts as reached. -/
def State.takeoverDue (s : State) : Bool :=
  let n := s.rd 0x8100 0x05
  (s.pairSt = 2 || s.pairSt = 3) &&
    (s.pair.yieldAccepted || n ≤ s.rd 0x8100 0x06 || (!s.pair.heard && n ≤ s.rd 0x8100 0x06 + 1))

/-- Takeover at the boundary that opens crossing xn (R307). -/
def State.takeoverAt (s : State) (xn : Nat) : State :=
  let catching := s.pairSt = 2
  let s := s.becomeLead (s.rd 0x8100 0x04 + 1)
  let s := ((s.bump 32 0x8100 0x0B).wr 0x8100 0x11 (xn % 2 ^ 48)).raise 260 clsPair 0x909 1
  if catching then s.raise 265 clsPair 0x90E 2 else s

/-- A takeover that the coming boundary makes (R307); its markers carry the new role. The new lead counts missed mirror
heartbeats from the boundary after it. -/
def State.takeover (s : State) : State :=
  if s.takeoverDue then (s.takeoverAt (s.xn + 1)).setPair (fun x => { x with heard := true }) else s

/-- A lead whose partner is TRACKING is to send a yield at the next crossing (R308). -/
def State.requestYield (s : State) : State :=
  if s.pairSt = 4 ∧ s.partner = 3 then s.setPair (fun x => { x with yieldDue := true }) else s

/-- Boundaries from the one after whose markers a yield is sent to the first one after the mirror has accepted it: it
arrives 18 ns and the cable delay after the edge (R281, R308). -/
def State.yieldBoundaries (s : State) : Nat :=
  match s.mirrorPort with
  | some p => (18000 + s.pt p 0x07) * s.rd 0x4001 0x01 / 10 ^ 12 + 1
  | none => 1

/-- The pair's part of a crossing boundary: counts of missed heartbeats, digests, takeover, demotion, yields (R301, R305,
R307, R308, R310, R313). xn and era are those of the crossing that ended. -/
def State.pairBoundary (s : State) (xn era : Nat) : State :=
  if s.pairSt = 0 then s.setPair (fun x => { x with mirrorWords := [] })
  else
    let d := s.ownDigest xn era
    let s := (s.wr 0x8100 0x09 d).setPair (fun x => { x with
      digests := ((xn % 2 ^ 16, d) :: x.digests).take 64
      mirrorWords := [] })
    let s := if s.pairSt = 3 then s.bump 32 0x8100 0x12 else s.wr 0x8100 0x12 0
    let s := if 2 ≤ s.pairSt ∧ !s.pair.heard then s.wr 0x8100 0x06 (min (s.rd 0x8100 0x06 + 1) 65535) else s
    let s := if s.pairSt = 4 then s.setPair (fun x => { x with
        stalled := if x.unacked.isEmpty then 0 else x.stalled + 1 }) else s
    let s := s.setPair (fun x => { x with heard := false })
    let s := if (s.pairSt = 2 ∨ s.pairSt = 3) ∧ (s.pair.yieldAccepted ∨ s.rd 0x8100 0x05 ≤ s.rd 0x8100 0x06) then
        s.takeoverAt (xn + 1)
      else if s.pairSt = 4 ∧ s.pair.demote then
        ((s.wr 0x8100 0x04 s.latestEpoch).enterJoining.bump 32 0x8100 0x0C).raise 261 clsPair 0x90A 1
      else if s.pairSt = 4 ∧ s.pair.yieldSent then
        (if s.pair.yieldIn ≤ 1 then s.enterJoining else s.setPair (fun x => { x with yieldIn := x.yieldIn - 1 }))
      else s
    let due : Bool := s.pairSt = 4 && s.pair.yieldDue && s.partner = 3 && s.mirrorPort.isSome
    s.setPair (fun x => { x with
      yieldDue := false
      yieldSent := x.yieldSent || due
      yieldIn := if due then s.yieldBoundaries else x.yieldIn
      yieldNow := due })

/-- The number that a half's heartbeat carries (Table 9-9). A lead that has sent no numbered message, and a mirror that has
accepted none, give the number before 0 (log entry 31). -/
def State.beatSeq (s : State) : Nat :=
  if s.pairSt ≠ 4 then (if s.pair.acceptedAny then s.rd 0x8100 0x08 else 65535)
  else if s.pair.sentAny then s.rd 0x8100 0x07
  else 65535

/-- The heartbeat of a crossing, and a yield that is due in it (R301, R308). -/
def State.sendHeartbeat (s : State) : State :=
  match s.mirrorPort with
  | none => s
  | some p =>
    if s.pairSt = 0 then s
    else
      let s := s.portMsgNow p
        { op := 0x01
          mseq := s.beatSeq
          arg := (s.xn + 2 ^ 48 - 1) % 2 ^ 16
          data := [BitVec.ofNat 48 (s.rd 0x8100 0x09 * 2 ^ 16 + s.pairSt * 2 ^ 8)] }
      if s.pair.yieldNow then (s.portMsgNow p { op := 0x05 }).setPair (fun x => { x with yieldNow := false }) else s

/-- What the ports send when a crossing opens (R281, R289, R301): markers, the heartbeat, then messages that wait. -/
def State.openPorts (s : State) : State :=
  let s := (portNos.foldl (fun s p => s.portCrossing p) s).sendHeartbeat
  (portNos.foldl (fun s p => s.flushMsgs p (s.port p).msgs) s).pushNumbered

/-- The lead resends from the first unacknowledged message, unless a full snapshot is to take the place of all (R302; log
entry 31). -/
def State.mirrorResend (s : State) : State :=
  if s.pairSt ≠ 4 ∨ s.pair.stalled < 4 ∨ s.pair.overrun then s
  else
    (s.setPair (fun x => { x with
      unacked := x.unacked.map (fun y => { y with sent := false })
      stalled := 0 })).pushNumbered

/-- The lead counts N missed mirror heartbeats (R313). What the mirror has not acknowledged is kept for it (R302). -/
def State.partnerAbsent (s : State) : State :=
  if s.pairSt = 4 ∧ !s.pair.absent ∧ s.rd 0x8100 0x05 ≤ s.rd 0x8100 0x06 then
    (((s.wr 0x8100 0x10 0xFF).setPair (fun x => { x with absent := true })).confirmAll).raise
      263 clsPair 0x90C 1
  else s

/-- Two seconds after activation without the mirror port (R299). -/
def State.joinTimeout (s : State) : State :=
  let up : Bool := match s.mirrorPort with
    | some p => decide (s.portSt p = pUp)
    | none => false
  if s.pairSt ≠ 1 ∨ up then s
  else if s.rd 0x8100 0x02 = 0 ∨ !s.pair.leadSeen then s.becomeLead (s.latestEpoch + 1)
  else s

/-- The flock table keeps the rules of R291: a tree of depth two or less, rooted at member 0. expects gives the identity
expected at each port (0x3400+p:03, Table 9-1): that of its peer, with the half of member 0. -/
def flockLegal (f : FlockTable) (expects : Nat → Nat) : Bool :=
  let top := if f.paired then 14 else 15
  let on := f.ports.filter (fun x => x.mode ≠ 0)
  let ups := on.filter (fun x => x.mode = 1 && x.upward)
  let downs := on.filter (fun x => x.mode = 1 && !x.upward)
  let mirrors := on.filter (fun x => x.mode = 2)
  let known (m : Nat) : Bool := m ≤ top && f.members.getLsbD m
  let root : Bool := f.member = 0
  let half (x : PortPlan) : Nat := expects x.port / 8 % 2
  let identity (x : PortPlan) : Bool :=
    expects x.port = f.flock % 2 ^ 16 * 256 + x.peer * 16 + half x * 8 && (half x = 0 || (x.peer = 0 && f.paired))
  f.ports.all (fun x => x.port < 8 && x.mode ≤ 2) && (f.ports.map (fun x => x.port)).Nodup
    && on.all identity && f.members.toNat < 2 ^ (top + 1) && known 0 && known f.member
    && (f.half.isSome = (root && f.paired)) && f.half.getD 0 ≤ 1
    && downs.all (fun x => x.peer ≠ 0 && x.peer ≠ f.member && known x.peer) && (downs.map (fun x => x.peer)).Nodup && ups.all (fun x => known x.peer)
    && (if root then
        ups.isEmpty && f.kind = (if f.paired then 2 else 1) && mirrors.length = (if f.paired then 1 else 0)
          && mirrors.all (fun x => x.peer = 0 && half x = 1 - f.half.getD 0)
      else
        let depth1 : Bool := ups.all (fun x => x.peer = 0) && ups.length = (if f.paired then 2 else 1) && (ups.map half).Nodup
        let depth2 : Bool := ups.all (fun x => x.peer ≠ 0 && x.peer ≠ f.member) && ups.length = 1
        mirrors.isEmpty && ups.countP (fun x => x.reference) = 1
          && ((f.kind = 3 && depth1 && !downs.isEmpty) || (f.kind = 4 && (depth1 || depth2) && downs.isEmpty)))

/-- The flock table and the pair of a bundle come into force (R291, R299). -/
def State.activateFlock (s : State) (b : Bundle) : State :=
  let s := { s with pair := {} }
  match b.flock with
  | none =>
    let s := [(0x8000, 2, 0), (0x8000, 3, 0), (0x8000, 4, 0), (0x8000, 6, 0xFF), (0x8100, 1, 0), (0x8100, 2, 0xFF),
      (0x8100, 3, 0), (0x8100, 0x10, 0xFF)].foldl (fun s e => s.wr e.1 e.2.1 e.2.2) s
    s.flockRefresh
  | some f =>
    let s := ((s.wr 0x8000 0x02 f.flock).wr 0x8000 0x03 f.member).wr 0x8000 0x04 f.members.toNat
    let s := (s.wr 0x8100 0x02 (f.half.getD 0xFF)).wr 0x8100 0x03 f.pair
    let s := s.wr 0x8000 0x06 ((f.ports.find? (fun x => x.reference)).map (fun x => x.port) |>.getD 0xFF)
    let s := (s.wr 0x8000 0x01 1).wr 0x8100 0x10 0xFF
    if f.half.isSome then s.enterJoining else (s.wr 0x8100 0x01 0).flockRefresh

end Sys2Proof.Machine
end

