-- ==== Sys2Proof/Machine/SecurityCore.lean ====
section
/-! DEFINITION. SecurityCore.lean: owner keys and fuses (R499 to R502), sessions (R503, R504), debug and tamper
(R506 to R508), image slots and their verification (R511 to R515), transactions, the journal, trials and fallback
(R516 to R523). -/

namespace Sys2Proof.Machine

/-! ### Fuses and owner keys -/

/-- No owner hash is programmed (R500). -/
def State.unowned (s : State) : Bool := s.rd 0x2400 0x01 % 4 = 0

/-- The bytes of a number of w bits, most significant first, as a signature or a hash is written (Table 17-2). -/
def beBytes (n v : Nat) : List Byte := (natBytes n v).reverse

/-- The owner key that SIGNER 1 or 2 names, programmed, not revoked and sound (R500). -/
def State.signerKey (s : State) (signer : Nat) : Option (List Byte) :=
  if (signer = 1 ∨ signer = 2) && s.rdBit 0x2400 0x01 (signer - 1) && !s.rdBit 0x2400 0x01 (signer + 1)
    && !s.security.badKeys.contains (signer - 1) then (s.security.ownerKeys.lookup (signer - 1)).bind s.unseal
  else none

/-- SIGNER of the requester's open session; 0 without one. -/
def State.sessionSigner (s : State) (r : Requester) : Nat :=
  match s.security.sessions.find? (fun x => sameRequester x.r r) with
  | some x => x.signer
  | none => 0

/-- The security record changed. -/
def State.setSecurity (s : State) (f : SecurityRec → SecurityRec) : State := { s with security := f s.security }

/-- A value of a table by key written, a listed one replaced. -/
def putKey {α : Type} (l : List (Nat × α)) (k : Nat) (v : α) : List (Nat × α) :=
  match l with
  | [] => [(k, v)]
  | (a, x) :: rest => if k < a then (k, v) :: (a, x) :: rest else if k = a then (k, v) :: rest
    else (a, x) :: putKey rest k v

/-- A key leaves a table. -/
def dropKey {α : Type} (l : List (Nat × α)) (k : Nat) : List (Nat × α) := l.filter (fun x => x.1 ≠ k)

/-- Programming owner key i (0 or 1; R500). A key of another length than 97 bytes is no value of the entry. -/
def State.programKey (s : State) (r : Requester) (i : Nat) (bytes : List Byte) : Nat × State :=
  let hash := bytesNat (beBytes 48 (Config.sha384 bytes).toNat)
  if bytes.length ≠ 97 then refuse abortValue s
  else if s.rdBit 0x2400 0x01 i || (s.rdBit 0x2400 0x01 (1 - i) && s.rd 0x2400 (4 - i) = hash)
    || (i = 1 && s.sessionSigner r ≠ 1) then refuse abortState s
  else
    let s := (s.wrBit 0x2400 0x01 i true).wr 0x2400 (3 + i) hash
    done ((s.areaWritten .record).setSecurity (fun x => { x with ownerKeys := putKey x.ownerKeys i { key := .storage, content := bytes } }))

/-- Revoking owner key i: refused without the other key, or from a session that the other has not signed (R500). -/
def State.revokeOwner (s : State) (r : Requester) (i : Nat) : Nat × State :=
  if !s.rdBit 0x2400 0x01 (1 - i) || s.rdBit 0x2400 0x01 (3 - i) || s.sessionSigner r ≠ 2 - i then
    refuse abortState s
  else done (s.wrBit 0x2400 0x01 (2 + i) true)

/-- Fuse command 3: signatures are required of every stream from now on (Table 17-1). -/
def State.requireSignatures (s : State) : State := (s.wrBit 0x2400 0x01 4 true).wr 0x4300 0x07 1

/-- Fuse command 4: no further unlock (R506). An open unlock lasts as R506 says. -/
def State.disableDebug (s : State) : State :=
  let s := s.wrBit 0x2400 0x01 5 true
  if s.rd 0x2430 0x01 = 0 then s.wr 0x2430 0x01 2 else s

/-! ### Key slots (R501, R502) -/

/-- The checks of a key-install blob for slot k, and the slot key in it. -/
def State.installedKey (s : State) (k : Nat) (b : List Byte) : Option (BitVec 256) :=
  let serial := natBytes 8 (s.rd 0x1000 0x03)
  let z := Config.ecdh ((b.drop 8).take 97)
  let kek := Config.hkdf z serial ([0x53, 0x50, 0x4E, 0x2D, 0x4B, 0x45, 0x59] ++ natBytes 1 k)
  let nonce := BitVec.ofNat 96 (fieldAt b 108 12)
  let wkey := (b.drop 120).take 32
  let signed := Config.sha384 (b.take 168 ++ natBytes 1 k ++ serial)
  if b.length ≠ 264 || fieldAt b 5 3 ≠ 0 || fieldAt b 105 3 ≠ 0 then none
  else if s.rd (0x2410 + k) 0x01 = 2 && s.rd (0x2410 + k) 0x02 = fieldAt b 0 4 then none
  else
    match s.signerKey (byteAt b 4) with
    | none => none
    | some key =>
      if Config.ecdsaOk key signed (b.drop 168)
        && (Config.gcmTag kek nonce (b.take 8) wkey).toNat = fieldAt b 152 16 then
        some (BitVec.ofNat 256 (bytesNat (Config.gcmDecrypt kek nonce 0 wkey)))
      else none

/-- A key installed, or refused with its cause. -/
def State.installKey (s : State) (k : Nat) (blob : List Byte) : Nat × State :=
  if k = 15 then refuse abortState s
  else
    match s.installedKey k blob with
    | none => refuse abortValue (s.raise 230 clsSecurity 0x1104 1 k)
    | some key =>
      let s := (s.wr (0x2410 + k) 0x01 1).wr (0x2410 + k) 0x02 (fieldAt blob 0 4)
      done ((s.areaWritten .record).setSecurity (fun x => { x with
        keys := putKey x.keys k { key := .slotWrap, content := key }
        slotKeys := putKey x.slotKeys k key }))

/-- A key revoked; slot 15 cannot be. -/
def State.revokeSlot (s : State) (k : Nat) : Nat × State :=
  if k = 15 then refuse abortState s
  else done (((s.areaWritten .record).wr (0x2410 + k) 0x01 2).setSecurity (fun x => { x with
    keys := dropKey x.keys k
    slotKeys := dropKey x.slotKeys k }))

/-! ### The journal and rollback (R516 to R519) -/

abbrev jBegin : Nat := 1
abbrev jWritten : Nat := 2
abbrev jCommit : Nat := 3
abbrev jActivate : Nat := 4
abbrev jStarted : Nat := 5
abbrev jConfirm : Nat := 6
abbrev jFallback : Nat := 7
abbrev jEnd : Nat := 8
abbrev jAbort : Nat := 9

/-- Image states (R526). -/
abbrev imEmpty : Nat := 0
abbrev imWriting : Nat := 1
abbrev imWritten : Nat := 2
abbrev imActive : Nat := 3
abbrev imTrial : Nat := 4
abbrev imPrevious : Nat := 5
abbrev imInvalid : Nat := 6
abbrev imRejected : Nat := 7

/-- The selected slot of kind j + 1, and the other one. -/
def State.activeSlot (s : State) (j : Nat) : Nat := s.rd (0x2510 + j) 0x01 % 2
def State.otherSlot (s : State) (j : Nat) : Nat := 1 - s.activeSlot j
def State.imageSt (s : State) (j x : Nat) : Nat := s.rd (0x2510 + j) (0x02 + x)
def State.setImageSt (s : State) (j x v : Nat) : State := s.wr (0x2510 + j) (0x02 + x) v
def State.imageVersion (s : State) (j x : Nat) : Nat := s.rd (0x2510 + j) (0x04 + x)

/-- The record that decides (R518): the valid one with the latest SEQ, which is the one written last. -/
def State.decidingRec (s : State) : Option JournalRec := s.security.journal.getLast?

/-- A record is written; the ring holds 16,384 (R518). Where its line fails, a spare takes the record (R510). The first SEQ is 1 (log entry 36). -/
def State.journalAdd (s : State) (type part result order : Nat) : State :=
  let seq := match s.decidingRec with
    | some x => (x.seq + 1) % 2 ^ 32
    | none => 1
  let version := if part = 0 then 0 else s.imageVersion (part - 1)
    (if type = jWritten then s.otherSlot (part - 1) else s.activeSlot (part - 1))
  let rec_ : JournalRec :=
    { seq := seq
      type := type
      part := part
      result := result
      tid := s.rd 0x2520 0x05
      version := version
      time := s.now
      order := order }
  let s := if Config.keepFails s.now then s.keepFault else s
  (s.areaWritten .journal).setSecurity (fun x =>
    let l := x.journal ++ [rec_]
    { x with journal := l.drop (l.length - 16384) })

/-- The 64 bytes of a record (Table 17-7). -/
def journalBytes (x : JournalRec) : List Byte :=
  let b := natBytes 4 x.seq ++ natBytes 1 x.type ++ natBytes 1 x.part ++ natBytes 1 x.result ++ [0]
    ++ natBytes 4 x.tid ++ natBytes 4 x.version ++ natBytes 8 x.time ++ natBytes 2 x.order
    ++ List.replicate 34 0
  b ++ natBytes 4 (crc32c b).toNat

/-- The kinds that an order word names (R516): nibbles up to the first that is 0. -/
def orderParts (w : Nat) : List Nat := [w % 16, w / 16 % 16, w / 256 % 16].takeWhile (fun x => x ≠ 0)

/-- An order word of one to three images, at most one of each kind (R516). -/
def orderWordOk (w : Nat) : Bool :=
  let l := orderParts w
  w < 4096 && l ≠ [] && l.all (fun x => x ≤ 3) && l.eraseDups = l

/-- The records of the transaction that began last. -/
def State.transRecs (s : State) : List JournalRec :=
  match s.security.journal.reverse.findIdx? (fun x => x.type = jBegin) with
  | some i => (s.security.journal.reverse.take (i + 1)).reverse
  | none => []

/-- The parts of that transaction, and those confirmed. -/
def State.transParts (s : State) : List Nat :=
  match s.transRecs with
  | x :: _ => orderParts x.order
  | [] => []
def State.transConfirmed (s : State) : List Nat :=
  (s.transRecs.filter (fun x => x.type = jConfirm)).map (fun x => x.part)
/-- The part to activate next. -/
def State.nextPart (s : State) : Option Nat := s.transParts.find? (fun k => !s.transConfirmed.contains k)

/-- The slots that the open transaction has written, INVALID; ABORT; state rolled back (R519). -/
def State.rollBackSlots (s : State) : State :=
  let s := s.transParts.foldl (fun s k =>
    let x := s.otherSlot (k - 1)
    if s.imageSt (k - 1) x = imWritten ∨ s.imageSt (k - 1) x = imWriting then s.setImageSt (k - 1) x imInvalid
    else s) s
  (s.journalAdd jAbort 0 0 0).wr 0x2520 0x03 5

/-- A transaction before commit is rolled back, with its cause (R519, R524). -/
def State.rollBack (s : State) : State :=
  if s.rd 0x2520 0x03 = 1 then s.rollBackSlots.raise 243 clsUpdate 0x110C 1 0 else s

/-- The update lock is released (R514, R524). -/
def State.releaseLock (s : State) : State :=
  if s.security.lock.isSome then
    ((s.setSecurity (fun x => { x with lock := none })).wr 0x2500 0x02 0xFF).rollBack
  else s

/-! ### Sessions (R503, R504) -/

/-- The requester can hold a session: a CAN node or a mailbox (R504). -/
def hasSession : Requester → Bool
  | .can _ _ => true
  | .mailbox _ => true
  | _ => false

/-- The requester byte of a challenge. -/
def requesterByte : Requester → Nat
  | .can _ n => n
  | .mailbox m => m
  | _ => 0

/-- The session of a requester is closed, and its lock released (R504, R514). -/
def State.closeSession (s : State) (r : Requester) : State :=
  let s := s.setSecurity (fun x => { x with
    sessions := x.sessions.filter (fun y => !sameRequester y.r r)
    challenges := x.challenges.filter (fun y => !sameRequester y.r r) })
  if s.holdsLock r then s.releaseLock else s

/-- The sessions of a set of requesters closed, as by a tamper response or a host-interface reset (R504). -/
def State.closeSessions (s : State) (p : Requester → Bool) : State :=
  let l := s.security.sessions.filter (fun y => p y.r)
  let s := l.foldl (fun s y => s.closeSession y.r) s
  s.setSecurity (fun x => { x with challenges := x.challenges.filter (fun y => !p y.r) })

/-- The challenge for a requester: 32 random bytes, serial number, path, requester byte, zeros (R503). -/
def State.challenge (s : State) (r : Requester) : List Byte × State :=
  let rnd := (Config.random s.draws).take 32
  let bytes := (rnd ++ List.replicate (32 - rnd.length) 0) ++ natBytes 8 (s.rd 0x1000 0x03)
    ++ natBytes 1 (pathCode r) ++ natBytes 1 (requesterByte r) ++ List.replicate 6 0
  let s := { s with draws := s.draws + 1 }
  let s := s.setSecurity (fun x => { x with
    challenges := x.challenges.filter (fun y => !sameRequester y.r r)
      ++ [{ r := r, bytes := bytes, issued := s.now }] })
  (bytes, s)

/-- The response opens a session: the right signature over the challenge, or on an unowned device SIGNER 0 with a
zero signature, which never grants the debug right (R503). The answer is the rights granted. -/
def State.responseRights (s : State) (r : Requester) (bytes : List Byte) : Option (BitVec 8 × Nat) :=
  match s.security.challenges.find? (fun x => sameRequester x.r r) with
  | none => none
  | some c =>
    let rights := BitVec.ofNat 8 (byteAt bytes 0)
    let signer := byteAt bytes 1
    if bytes.length ≠ 100 || !hasSession r || c.issued + 60000000000 < s.now then none
    else if s.unowned && signer = 0 && (bytes.drop 2).all (fun b => b = 0) then some (rights &&& 0xFB, 0)
    else if fieldAt bytes 2 2 ≠ 0 then none
    else
      match s.signerKey signer with
      | some key => if Config.ecdsaOk key (Config.sha384 (c.bytes ++ bytes.take 4)) (bytes.drop 4)
          then some (rights, signer) else none
      | none => none

/-- A response taken: a challenge is valid once (R503). -/
def State.response (s : State) (r : Requester) (bytes : List Byte) : Nat × State :=
  let granted := s.responseRights r bytes
  let s := s.setSecurity (fun x => { x with challenges := x.challenges.filter (fun y => !sameRequester y.r r) })
  match granted with
  | some (rights, signer) =>
    done (s.setSecurity (fun x => { x with
      sessions := x.sessions.filter (fun y => !sameRequester y.r r)
        ++ [{ r := r, rights := rights, signer := signer }] }))
  | none => refuse abortGuard ((s.bump 32 0x2420 0x07).raise 224 clsSecurity 0x1101 1 0)

/-- 0x2420:03 for a requester. -/
def State.sessionState (s : State) (r : Requester) : Nat :=
  if s.security.sessions.any (fun x => sameRequester x.r r) then 2
  else if s.security.challenges.any (fun x => sameRequester x.r r) then 1
  else 0

/-! ### Debug and tamper (R506 to R508) -/

/-- Debug command 1. -/
def State.debugUnlock (s : State) (r : Requester) : Nat × State :=
  if s.rdBit 0x2400 0x01 5 || s.sessionSigner r = 0 then refuse abortState s
  else done ((s.wr 0x2430 0x01 1).raise 225 clsSecurity 0x1102 1 0)

/-- Debug command 2, and every other end of an unlock. -/
def State.debugLock (s : State) : State :=
  if s.rd 0x2430 0x01 = 1 then s.wr 0x2430 0x01 (if s.rdBit 0x2400 0x01 5 then 2 else 0) else s

/-- The wait of R508 after the nth consecutive tamper reset, in ms. -/
def tamperWaitMs (n : Nat) : Nat := min 64000 (1000 * 2 ^ (min n 8 - 1))

/-- The tamper response of R507, as far as the device reset that ends it. The wait doubles only where
the previous tamper reset is less than 60 s ago, in device time (R508; log entry 215). -/
def State.tamperResponse (s : State) (kind : Nat) : State :=
  let s := s.setSecurity (fun x => { x with
    duk := false
    derived := []
    slotKeys := [] })
  let s := (s.closeSessions (fun _ => true)).debugLock
  let s := (s.bump 32 0x2430 0x02).wr 0x2430 0x03 kind
  let s := if 60000000000 ≤ s.startup.sinceTamper + s.now then s.wr 0x2430 0x05 1 else s.bumpSat 8 0x2430 0x05 1
  let s := s.wr 0x2430 0x04 (tamperWaitMs (s.rd 0x2430 0x05))
  let s := s.raise (225 + kind) clsSecurity 0x1103 2 0
  s.resetLoad

/-! ### Images (R511, R512, R515) -/

/-- Bytes of a slot of kind j + 1 (Table 17-5). -/
def imageSlotBytes (j : Nat) : Nat := if j = 0 then 8388608 else if j = 1 then 4194304 else 1879048192

/-- The two REQUIRES entries of a header that are used: kind, lowest and highest VERSION. -/
def requiresOf (h : List Byte) : List (Nat × Nat × Nat) :=
  [24, 36].filterMap (fun o =>
    if byteAt h o = 0 then none else some (byteAt h o, fieldAt h (o + 4) 4, fieldAt h (o + 8) 4))

/-- The header keeps Table 17-6; firmware and microcode name slot 15 (R511). -/
def imageHeaderOk (b : List Byte) : Bool :=
  let kind := byteAt b 6
  240 ≤ b.length && fieldAt b 0 4 = 0x53494D47 && fieldAt b 4 2 = 1 && 1 ≤ kind && kind ≤ 3
    && byteAt b 7 ≤ 2 && byteAt b 16 ≤ 64 && byteAt b 17 = 0
    && (kind = 1 || (fieldAt b 18 2 = 0 && fieldAt b 20 2 = 0 && fieldAt b 22 2 = 0))
    && fieldAt b 25 3 = 0 && fieldAt b 37 3 = 0 && byteAt b 24 ≤ 3 && byteAt b 36 ≤ 3
    && byteAt b 48 ≤ 15 && (kind = 3 || byteAt b 48 = 15) && fieldAt b 49 3 = 0 && fieldAt b 64 8 = b.length
    && fieldAt b 72 52 = 0 && fieldAt b 124 4 = (crc32c (b.take 124)).toNat

/-- The key of a slot that an image names. -/
def State.imageKey (s : State) (k : Nat) : Option (BitVec 256) :=
  if k = 15 then some Config.vendorKey else s.slotKey_ k

/-- Verification of an image for the slot of kind j + 1 (R512). -/
def State.verifyImage (s : State) (j : Nat) (b : List Byte) : Nat :=
  let kind := byteAt b 6
  let signer := byteAt b 7
  let body := (b.take (b.length - 112)).drop 128
  let tail := b.drop (b.length - 112)
  let nonce := BitVec.ofNat 96 (fieldAt b 52 12)
  let digest := Config.sha384 (b.take (b.length - 96))
  let signerOk : Bool := if kind = 3 then (if s.unowned then signer = 0 else (s.signerKey signer).isSome)
    else signer = 0
  if !imageHeaderOk b then 0x30
  else if deviceCheck (fieldAt b 8 4) ≠ 0 then 0x31
  else if kind ≠ j + 1 ∨ imageSlotBytes j < b.length then 0x32
  else if !signerOk then 0x33
  else
    match s.imageKey (byteAt b 48) with
    | none => 0x34
    | some key =>
      if (Config.gcmTag key nonce (b.take 128) body).toNat ≠ fieldAt tail 0 16 then 0x34
      else if !(match s.signerKey signer with
        | some k => Config.ecdsaOk k digest (tail.drop 16)
        | none => Config.vendorOk digest (tail.drop 16)) then 0x35
      else if byteAt b 16 < s.rd 0x2400 0x05 / 256 ^ j % 256 then 0x36
      else 0x01

/-- The SVN of the image in a slot is below the floor of its kind (R512, R513). -/
def State.svnLow (s : State) (j x : Nat) : Bool := (s.image j x).svn < s.rd 0x2400 0x05 / 256 ^ j % 256

/-- The source and cause of a verification that fails (R512). -/
def imageCause (low : Bool) : Nat × Nat := if low then (233, 0x1107) else (232, 0x1106)

/-- A slot whose image fails when it is started or loaded: INVALID, with its cause (R512). -/
def State.imageInvalid (s : State) (j x : Nat) (low : Bool) : State :=
  (s.setImageSt j x imInvalid).raise (imageCause low).1 clsSecurity (imageCause low).2 1 0

/-- What a slot holds once an image stands in it: header fields, and the bundle of a bundle image (R511). -/
def State.imageOf (s : State) (b : List Byte) : ImageRec :=
  let key := (s.imageKey (byteAt b 48)).getD 0
  let body := (b.take (b.length - 112)).drop 128
  let plain := Config.gcmDecrypt key (BitVec.ofNat 96 (fieldAt b 52 12)) 0 body
  { bytes := b
    version := fieldAt b 12 4
    svn := byteAt b 16
    mpv := fieldAt b 18 2
    sfr := fieldAt b 20 2
    sfrMin := fieldAt b 22 2
    requires := requiresOf b
    bundle := if byteAt b 6 = 3 then some (Config.bundleOf plain) else none }

/-- A load from the keep store is reading bundle slot x (R515). -/
def State.slotLoading (s : State) (j x : Nat) : Bool :=
  j = 2 && s.load.active && s.load.path = 0 && s.load.slot = x

/-- The slot that an image write fills may take it (R515). -/
def State.imageWritable (s : State) (j : Nat) : Bool :=
  let x := s.otherSlot j
  [imEmpty, imInvalid, imRejected, imPrevious].contains (s.imageSt j x) && !s.slotLoading j x

/-- An image write begins: the slot is WRITING (R515). -/
def State.beginImage (s : State) (j : Nat) : State :=
  (s.setImageSt j (s.otherSlot j) imWriting).wr (0x2510 + j) 0x07 0

/-- The first line of slot x of kind j + 1 (Table 17-5). -/
def imageFirst (j x : Nat) : Nat := [0, 0x20000, 0x40000, 0x50000, 0x800000, 0x2400000].getD (2 * j + x) 0

/-- The bytes of an image as they stand in its slot, with what the network has written there since (R330, R510). -/
def State.storedBytes (s : State) (j x : Nat) : List Byte :=
  s.keepLines.foldl (fun b c => match c.2 with
    | some v =>
      let off := 64 * (c.1 - imageFirst j x)
      if (keepArea c.1).1 = .image j x ∧ off < b.length then
        b.take off ++ (natBytes 64 v.toNat).take (b.length - off) ++ b.drop (off + 64)
      else b
    | none => b) (s.image j x).bytes

/-- The device reads an image in its slot, before it verifies it (R512). -/
def State.readImage (s : State) (j x : Nat) : State :=
  if s.storedBytes j x = (s.image j x).bytes then s else s.setImage j x (s.imageOf (s.storedBytes j x))

/-- The result of R512 for an image that is started. One that no longer stands as it was written shows 0x34 (log entry
212); one of which the slot holds no bytes is tested for its SVN alone (log entry 212). -/
def State.startResult (s : State) (j x : Nat) (changed : Bool) : Nat :=
  if changed then 0x34
  else if (s.image j x).bytes = [] then (if s.svnLow j x then 0x36 else 1)
  else s.verifyImage j (s.image j x).bytes

/-- An image write is broken off (R524). -/
def State.breakImage (s : State) (j : Nat) : State :=
  let x := s.otherSlot j
  if s.imageSt j x = imWriting then s.setImageSt j x imInvalid else s

/-- The image stands in full and is verified (R512, R515); WRITTEN in an open transaction (Table 17-10). -/
def State.imageWritten (s : State) (j : Nat) (b : List Byte) : State :=
  let x := s.otherSlot j
  let res := s.verifyImage j b
  let s := ((s.areaWritten (.image j x)).wr (0x2510 + j) 0x07 b.length).wr (0x2510 + j) 0x08 res
  let s := s.setImage j x (s.imageOf b)
  let s := s.wr (0x2510 + j) (0x04 + x) (if res = 0x30 then 0 else fieldAt b 12 4)
  if res = 1 then
    let s := (s.setImageSt j x imWritten).raise 241 clsUpdate 0x110A 0 0
    if s.rd 0x2520 0x03 = 1 && s.transParts.contains (j + 1) then s.journalAdd jWritten (j + 1) 0 0 else s
  else
    s.imageInvalid j x (res = 0x36)

/-- A write of 0x2510+j:06. -/
def State.imageWrite (s : State) (j : Nat) (b : List Byte) : Nat × State :=
  if !s.imageWritable j then refuse abortState s
  else
    let s := s.beginImage j
    if Config.keepFails s.now then (0x08000050, (s.breakImage j).keepFault) else done (s.imageWritten j b)

/-- R513: the SVN floor of one kind raised. -/
def State.svnFloor (s : State) (v : Nat) : Nat × State :=
  let kind := v / 65536
  let floor := v % 256
  if kind < 1 ∨ 3 < kind ∨ v / 256 % 256 ≠ 0 ∨ 64 < floor then refuse abortValue s
  else
    let j := kind - 1
    let old := s.rd 0x2400 0x05 / 256 ^ j % 256
    let confirmed := (List.range 2).find? (fun x => s.imageSt j x = imActive)
    match confirmed with
    | none => refuse abortState s
    | some x =>
      if floor < old ∨ (s.image j x).svn < floor then refuse abortState s
      else done (s.wr 0x2400 0x05 (s.rd 0x2400 0x05 + (floor - old) * 256 ^ j))

/-! ### Transactions (R516, R517) -/

/-- Transaction command 1. -/
def State.transBegin (s : State) : Nat × State :=
  let st := s.rd 0x2520 0x03
  if st = 1 ∨ st = 2 ∨ st = 3 ∨ !orderWordOk (s.rd 0x2520 0x02) then refuse abortState s
  else
    let s := (s.wr 0x2520 0x05 ((s.rd 0x2520 0x05 + 1) % 2 ^ 32)).wr 0x2520 0x03 1
    done ((s.wr 0x2520 0x04 0).journalAdd jBegin 0 0 (s.rd 0x2520 0x02))

/-- The slot of a kind in the image set after the first i parts (R516). -/
def State.setSlot (s : State) (i j : Nat) : Nat :=
  if (s.transParts.take i).contains (j + 1) then s.otherSlot j else s.activeSlot j

/-- Every REQUIRES entry of every image holds in the set after i parts. -/
def State.setHolds (s : State) (i : Nat) : Bool :=
  (List.range 3).all (fun j =>
    (s.image j (s.setSlot i j)).requires.all (fun q =>
      let k := q.1 - 1
      let v := s.imageVersion k (s.setSlot i k)
      q.2.1 ≤ v && v ≤ q.2.2))

/-- The first step that commit refuses, from 1; 0 where every step holds. -/
def State.failingStep (s : State) : Nat :=
  let bad := (List.range s.transParts.length).find? (fun i =>
    let j := s.transParts.getD i 1 - 1
    s.imageSt j (s.otherSlot j) ≠ imWritten || !s.setHolds (i + 1))
  match bad with
  | some i => i + 1
  | none => 0

/-- Transaction command 2. -/
def State.transCommit (s : State) : Nat × State :=
  if s.rd 0x2520 0x03 ≠ 1 then refuse abortState s
  else
    let step := s.failingStep
    if step ≠ 0 then
      refuse abortState ((s.wr 0x2520 0x04 step).raise 243 clsUpdate 0x110C 1 step)
    else done (((s.journalAdd jCommit 0 0 0).wr 0x2520 0x03 2).raise 242 clsUpdate 0x110B 0 0)

/-- Transaction command 3, before commit. -/
def State.transAbort (s : State) : Nat × State :=
  if s.rd 0x2520 0x03 ≠ 1 then refuse abortState s else done s.rollBack

/-- The next part can be activated (R517): committed, the engine OFF or STOPPED, no part on trial. -/
def State.mayActivate (s : State) : Bool :=
  (s.rd 0x2520 0x03 = 2 || s.rd 0x2520 0x03 = 3) && s.engineSt ≤ 1 && s.rd 0x2501 0x01 ≠ 1 && s.nextPart.isSome

/-- ACTIVATE for a part and the selection of its slot; the device reset follows. -/
def State.activatePart (s : State) (k : Nat) : State :=
  let j := k - 1
  let x := s.otherSlot j
  let s := (s.wr (0x2510 + j) 0x01 x).setImageSt j x imTrial
  (s.journalAdd jActivate k 0 0).wr 0x2520 0x03 3

/-- END, and the state that it shows. -/
def State.endTransaction (s : State) (result : Nat) : State :=
  (s.journalAdd jEnd 0 result 0).wr 0x2520 0x03 (4 + result)

/-! ### Trials (R519 to R523) -/

/-- FALLBACK and END for part k, which becomes REJECTED, with the previous slot selected again (R519). -/
def State.fallBack (s : State) (k : Nat) : State :=
  let j := k - 1
  let x := s.activeSlot j
  let s := if s.decidingRec.any (fun r => r.type = jFallback) then s
    else
      let s := s.journalAdd jFallback k 0 0
      if s.imageSt j x = imTrial then (s.setImageSt j x imRejected).wr (0x2510 + j) 0x01 (1 - x) else s
  let first := s.transParts.head? = some k
  (s.endTransaction (if first then 1 else 2)).wr 0x2501 0x01 3

/-- The system kernels 88 to 92 run (R520). -/
def State.systemRuns (s : State) : Bool := (List.range 5).all (fun i => s.rd (0x6810 + (88 + i)) 0x01 = 1)

/-- The selected slot of kind j + 1 is on trial. -/
def State.onTrial (s : State) (j : Nat) : Bool := s.imageSt j (s.activeSlot j) = imTrial

/-- The condition under which the part on trial confirms (R520). The keep store accepts writes while domain KEEP runs
(R444). -/
def State.trialGood (s : State) : Bool :=
  (s.rd 0x2501 0x05 = 0 || s.security.hostConfirmed) &&
  s.onTrial (s.rd 0x2501 0x02 - 1) &&
  (match s.rd 0x2501 0x02 with
    | 1 => s.startup.firmware && s.systemRuns && s.startup.settingsRead && s.rd 0x2501 0x07 ≠ 2 && s.domSt 3 = 1 && !s.security.haltSeen
    | 2 => s.startup.selfTested && (List.range 8).all (fun k => s.rd 0x5801 (k + 1) = 2)
    | 3 => s.bundle.isSome && s.bundle = (s.image 2 (s.activeSlot 2)).bundle && 1 ≤ s.engineSt
    | _ => false)

/-- The part on trial confirms (R520), and the last one ends the transaction (R519). -/
def State.confirmPart (s : State) : State :=
  if s.rd 0x2501 0x01 ≠ 1 ∨ !s.trialGood then s
  else
    let k := s.rd 0x2501 0x02
    let j := k - 1
    let x := s.activeSlot j
    let s := s.journalAdd jConfirm k 0 0
    let s := (s.setImageSt j (1 - x) imPrevious).setImageSt j x imActive
    let s := s.wr 0x2501 0x01 2
    let s := s.raise 244 clsUpdate 0x110D 0 0
    if s.nextPart.isNone then s.endTransaction 0 else s

/-- The confirmation time has passed (R521); the device reset of 0x2501:08 is due. -/
def State.confirmTimeout (s : State) : State :=
  if s.rd 0x2501 0x01 ≠ 1 then s
  else
    let s := s.fallBack (s.rd 0x2501 0x02)
    let s := s.raise 245 clsUpdate 0x110E 1 0
    s.setSecurity (fun x => { x with fallbackDue := s.rd 0x2501 0x08 = 1 })

/-- 0x2501:04 in ms, from the STARTED record of the part on trial (R521). -/
def State.timeLeft (s : State) : Nat :=
  if s.rd 0x2501 0x01 ≠ 1 then 0
  else
    match s.decidingRec with
    | some x => s.rd 0x2501 0x03 * 1000 - (s.now - x.time) / 1000000
    | none => 0

/-- Journal resolution at a start (R519, Table 17-8). A slot that was being written is INVALID (R524). The sources
to raise once the start succeeds are kept. -/
def State.resolveJournal (s : State) (readable : Bool) : State :=
  let later (s : State) (x : Nat × Nat × Nat) : State :=
    s.setSecurity (fun y => { y with atStart := y.atStart ++ [x] })
  let s := (List.range 3).foldl (fun s j => s.breakImage j) s
  if !readable then later s (249, 0x1112, 0)
  else
    match s.decidingRec with
    | none => s
    | some x =>
      if x.type = jBegin ∨ x.type = jWritten then later s.rollBackSlots (243, 0x110C, 0)
      else if x.type = jConfirm then if s.nextPart.isNone then s.endTransaction 0 else s
      else if x.type = jActivate then
        let s := s.journalAdd jStarted x.part 0 0
        (s.wr 0x2501 0x01 1).wr 0x2501 0x02 x.part
      else if x.type = jStarted ∨ x.type = jFallback then later (s.fallBack x.part) (245, 0x110E, 0)
      else s

end Sys2Proof.Machine
end

