-- ==== Sys2Proof/Machine/ClockCore.lean ====
section
/-! DEFINITION. ClockCore.lean: clock sources, monitors, the step clock, clock domains (chapter 14). -/

namespace Sys2Proof.Machine

/-- Source state: 0 OFF, 1 STARTING, 2 PROVEN, 3 TRIPPED. -/
def State.srcSt (s : State) (i : Nat) : Nat := s.rd (0x2010 + i) 0x01
def State.setSrc (s : State) (i v : Nat) : State := s.wr (0x2010 + i) 0x01 v

/-- The domains that a source change concerns (R438). -/
def domainNos : List Nat := List.range 7

/-- Sources that a domain permits (R437, Table 14-2). -/
def domainPermits (d src : Nat) : Bool := src = 5 || src = 6 || (src = 1 && (d = 0 || d = 5 || d = 6))

/-- The sources of an order word, first to third (R448). -/
def orderSources (w : Nat) : List Nat := [w % 256, w / 256 % 256, w / 65536 % 256].filter (fun x => x ≠ 0xFF)

/-- An order word names only sources the domain permits, and at least one (R448). -/
def orderOk (d w : Nat) : Bool :=
  !(orderSources w).isEmpty && (orderSources w).all (domainPermits d) && w < 2 ^ 24

/-- The value of an entry with a pending RWR value that the device reads only at its moment (R397). -/
def State.domOrder (s : State) (d : Nat) : List Nat := orderSources (s.rd (0x2040 + d) 0x03)

/-- The next source after src in the order that is not TRIPPED (R439). -/
def State.nextSource (s : State) (d src : Nat) : Option Nat :=
  let o := s.domOrder d
  let rest := if o.contains src then (o.dropWhile (fun x => x ≠ src)).drop 1 else o
  rest.find? (fun x => s.srcSt x ≠ 3)

/-- Domain d is to stop at the old clock's next two edges (Table 14-3), for a target or for want of one. -/
def State.stopDomain (s : State) (d : Nat) (target : Option Nat) (held : Bool) : State :=
  let s := s.setDom d { s.dom d with
    target := target
    waitingOld := true
    forced := false
    held := held
    since := s.now
    lost := false }
  if d = 2 then s.lbifStops else s

/-- A switch of domain d to target begins (R440); a target that is not PROVEN holds the domain (R442). -/
def State.beginSwitch (s : State) (d target : Nat) : State :=
  if s.srcSt target = 2 then (s.stopDomain d (some target) false).wr (0x2040 + d) 0x01 2
  else ((s.stopDomain d (some target) true).wr (0x2040 + d) 0x01 3).raise 186 clsClock 0xE05 1

/-- No permitted source remains: the domain stays stopped (R442). -/
def State.noSource (s : State) (d : Nat) : State :=
  ((s.wr (0x2040 + d) 0x01 0).wr (0x2040 + d) 0x02 0xFF).raise 187 clsClock 0xE06 2

/-- The target of a domain that switches or is held trips: the next source becomes the target, and the domain is held
under R442 (Table 14-5). It goes on at once where the next source is PROVEN. What is known of the old clock's edges
stands (R446).
DESIGN CHOICE: a trip in steps 1 and 2 is as one in steps 3 and 4 (log entry 198). -/
def State.retarget (s : State) (d src : Nat) : State :=
  match s.nextSource d src with
  | none => (s.setDom d { s.dom d with target := none, held := true }).noSource d
  | some t =>
    let was := s.domSt d
    let s := s.setDom d { s.dom d with target := some t, held := true }
    let s := s.wr (0x2040 + d) 0x01 (if s.srcSt t = 2 then 2 else 3)
    if was = 3 then s else s.raise 186 clsClock 0xE05 1

/-- A domain meets the trip of sources at one moment (R439, R442). -/
def State.domainTrip (s : State) (d : Nat) (hit : List Nat) : State :=
  if s.domSt d = 1 ∧ hit.contains (s.domSrc d) then
    match s.nextSource d (s.domSrc d) with
    | some t => s.beginSwitch d t
    | none => (s.stopDomain d none true).noSource d
  else
    match (s.dom d).target with
    | some t => if (s.domSt d = 2 ∨ s.domSt d = 3) ∧ hit.contains t then s.retarget d t else s
    | none => s

/-- The holdover reference: the first PROVEN source among XTAL1, XTAL2 and OSC_F (R435). -/
def State.showHoldover (s : State) : State :=
  s.wr 0x2020 0x03 (([2, 3, 1].find? (fun i => s.srcSt i = 2)).getD 0xFF)

/-- CLKOUT0 and CLKOUT1 carry their clocks while PLL_B is PROVEN, and are driven low otherwise: the frequency in Hz, or 0
(Table 18-3, Table 14-1; log entry 213). -/
def State.clockOut (s : State) (k : Nat) : Nat := if s.srcSt 7 = 2 then s.rd 0x2017 (6 + k) else 0

/-- CLKOUT0 and CLKOUT1 follow PLL_B. -/
def State.driveClocks (s : State) : State := (s.emit (.clockOut 0 (s.clockOut 0))).emit (.clockOut 1 (s.clockOut 1))

/-- A source is TRIPPED: its state, count and reason (R429, R447). PLL_X is no longer locked (R433). -/
def State.markTrip (s : State) (i reason : Nat) : State :=
  let s := ((s.setSrc i 3).bump 32 (0x2010 + i) 0x03).wr (0x2010 + i) 0x04 reason
  if i = 4 then s.wr 0x2020 0x01 1 else if i = 7 then s.driveClocks else s

/-- The cause of a trip (R449). A trip of PLL_X while the engine is not OFF resets the device, whatever the cause's
level (R436, R483). -/
def State.raiseTrip (s : State) (i : Nat) : State :=
  if i = 4 then
    (if s.engineSt ≠ 0 then (s.raise 180 clsClock 0xE02 3).queueActions [.deviceReset] else s)
  else s.raise (176 + i) clsClock 0xE01 1

/-- The reference of loop j, 5 to 7: the one that its entry held at the last start (R397). -/
def State.loopRef (s : State) (j : Nat) : Nat := s.startup.loopRefs.getD (j - 5) 2

/-- The loops whose reference is a source (Table 14-1). -/
def State.loopsOf (s : State) (i : Nat) : List Nat := [5, 6, 7].filter (fun j => s.loopRef j = i)

/-- The sources that trip with source i: itself, and the loops on it that are STARTING or PROVEN (R430). -/
def State.tripsWith (s : State) (i : Nat) : List Nat := i :: (s.loopsOf i).filter (fun j => j ≠ i && (s.srcSt j = 1 || s.srcSt j = 2))

/-- Source i has a monitor that trips it for a reason: 1 no edge, 2 its count, 3 loss of lock, of a loop (R429). -/
def hasTrip (i reason : Nat) : Bool := 1 ≤ i && i < 8 && (reason = 1 || reason = 2 || (reason = 3 && 4 ≤ i))

/-- A monitor trips its source; a loop whose reference trips is TRIPPED at the same moment, and then the domains on
them move (R429, R430, R439). hz is what the monitor's window measured, where the count tripped it. The monitor of
PLL_X acts only while a bundle is active. -/
def State.tripSource (s : State) (i reason hz : Nat) : State :=
  if (s.srcSt i ≠ 1 ∧ s.srcSt i ≠ 2) ∨ (i = 4 ∧ s.bundle.isNone) then s
  else
    let hit := s.tripsWith i
    let s := if reason = 2 then s.wr (0x2010 + i) 0x02 (hz % 2 ^ 32) else s
    let s := hit.foldl (fun s j => s.markTrip j (if j = i then reason else 4)) s
    let s := hit.foldl (fun s j => s.raiseTrip j) s
    (domainNos.foldl (fun s d => s.domainTrip d hit) s).showHoldover

/-- What a loop needs to be PROVEN holds: its reference is PROVEN, and PLL_X is locked (R430, R433); an oscillator or
crystal needs none. -/
def State.refProven (s : State) (i : Nat) : Bool :=
  i < 4 || (i = 4 && s.rd 0x2020 0x01 = 2) || (4 < i && s.srcSt (s.loopRef i) = 2)

/-- Source i comes before source j in the order of domain d. -/
def State.earlier (s : State) (d i j : Nat) : Bool :=
  let o := s.domOrder d
  o.contains i && i ≠ j && !(o.takeWhile (fun x => x ≠ i)).contains j

/-- The start-up move of domain d to a source, where it may be made still (R438). -/
def State.startupMove (s : State) (d i : Nat) : State :=
  if !s.startup.everActive ∧ s.domSt d = 1 ∧ s.srcSt i = 2 ∧ s.earlier d i (s.domSrc d) then s.beginSwitch d i else s

/-- Domain d meets a source that becomes PROVEN, or does for the first time (R438, R442). A domain that is not running
when a source before its target first becomes PROVEN moves to it once it runs again (log entry 198). -/
def State.domainProven (s : State) (d i : Nat) (first : Bool) : State :=
  let x := s.dom d
  if s.domSt d = 3 ∧ x.target = some i then s.wr (0x2040 + d) 0x01 2
  else if s.domSt d = 0 then
    if !(s.domOrder d).contains i then s
    else if !x.started then ((s.wr (0x2040 + d) 0x01 1).wr (0x2040 + d) 0x02 i).setDom d { x with started := true }
    else (s.setDom d { x with target := some i }).wr (0x2040 + d) 0x01 2
  else if !first then s
  else if s.domSt d = 1 then s.startupMove d i
  else
    match x.target with
    | some t => if !s.startup.everActive ∧ s.earlier d i (x.moveDue.getD t) then s.setDom d { x with moveDue := some i } else s
    | none => s

/-- The monitor of a source passes a window that measures hz; where the source is STARTING, it has passed its start
delay, or its loop has held lock, and it becomes PROVEN (R430, R447). -/
def State.sourceProven (s : State) (i hz : Nat) : State :=
  if s.srcSt i = 2 then s.wr (0x2010 + i) 0x02 (hz % 2 ^ 32)
  else if s.srcSt i ≠ 1 ∨ !s.refProven i then s
  else
    let first := !s.startup.proven.contains i
    let s := (s.setSrc i 2).wr (0x2010 + i) 0x02 (hz % 2 ^ 32)
    let s := if i = 7 then s.driveClocks else s
    let s : State := if first then { s with startup := { s.startup with proven := i :: s.startup.proven } } else s
    (domainNos.foldl (fun s d => s.domainProven d i first) s).showHoldover

/-- A TRIPPED source enters STARTING at its first edge after the trip (R430). -/
def State.sourceEdge (s : State) (i : Nat) : State := if s.srcSt i = 3 then s.setSrc i 1 else s

/-- A commanded switch (R443, R446). -/
def State.switchCommand (s : State) (d target : Nat) : Nat × State :=
  if !domainPermits d target then refuse abortValue s
  else if s.srcSt target ≠ 2 ∨ s.domSt d ≠ 1 then refuse abortState s
  else done (s.beginSwitch d target)

/-- LREF has stopped for longer than 1 µs: every field lane, stack port and timing input loses signal (R444). -/
def State.lrefLost (s : State) : State :=
  let s := s.setDom 1 { s.dom 1 with lost := true }
  let s := (List.range 512).foldl (fun s l => if s.laneSt l ≠ 0 ∧ s.laneSt l ≠ lLost then s.laneLost l lLost else s) s
  let s := (List.range 8).foldl (fun s p => if s.portSt p ≠ 0 ∧ s.portSt p ≠ pLost then s.portRestart p pLost else s) s
  ([0, 1] : List Nat).foldl (fun s i => if s.timSt i ≠ 0 then s.timingLost i else s) s

/-- A stop of domain LREF is measured against device time. -/
def State.lrefTick (s : State) : State :=
  let x := s.dom 1
  if x.started ∧ s.domSt 1 ≠ 1 ∧ !x.lost ∧ x.since + 1000 < s.now then s.lrefLost else s

/-- Timers of kernels pause over a stop of domain SYS, which device time is advanced by (R444). -/
def State.shiftTimers (s : State) (ns : Nat) : State :=
  (List.range 80).foldl (fun s k =>
    match (s.kernel k).timer with
    | some t => s.setKernel k { s.kernel k with timer := some (t + ns) }
    | none => s) s

/-- The fifth new edge: the domain runs on its new source (R440 to R442, R444); stopUs is the stop or held time. A start-up
move that fell due in the stop begins (R438). -/
def State.switchDone (s : State) (d stopUs : Nat) : State :=
  if s.domSt d ≠ 2 then s
  else
    match (s.dom d).target with
    | none => s
    | some t =>
      let x := s.dom d
      let s := (s.wr (0x2040 + d) 0x01 1).wr (0x2040 + d) 0x02 t
      let s := (s.bump 32 (0x2040 + d) 0x05).wr (0x2040 + d) 0x06 (if x.forced then 0xFFFF else 2)
      let s := s.wr (0x2040 + d) 0x07 4
      let s := if x.held then s.wr (0x2040 + d) 0x08 (stopUs % 2 ^ 32) else s
      let s := if d = 0 then
          ((s.wr 0x2030 0x02 ((s.now + stopUs * 1000) % 2 ^ 64)).bump 32 0x2030 0x03).shiftTimers (stopUs * 1000)
        else s
      let s := if d = 1 ∧ 1 < stopUs ∧ !x.lost then s.lrefLost else s
      let s := if d = 2 then s.lbifRuns stopUs else s
      let s := s.setDom d { started := true }
      let s := s.raise 184 clsClock 0xE03 0
      match x.moveDue with
      | some i => s.startupMove d i
      | none => s

/-- The old clock gives no two edges in 64 OSC_S cycles: the stop is forced (R441). -/
def State.deadClock (s : State) (d : Nat) : State :=
  let x := s.dom d
  if s.domSt d ≠ 1 ∧ x.waitingOld then
    let s := s.setDom d { x with waitingOld := false, forced := true }
    (s.wr (0x2040 + d) 0x09 1).raise 185 clsClock 0xE04 1
  else s

/-- The edge blocks of a domain that are gated, each with a gate of its own, numbered as Table 14-2 lists them: the keep
link; CAN0 and CAN1; I/O bank registers, octal-SPI and probe pins; AVSBus master, sensor readout and governor timing.
The other domains are never gated (R445). -/
def gated (d b : Nat) : Bool := (d = 3 && b < 1) || (d = 4 && b < 2) || ((d = 5 || d = 6) && b < 3)

/-- The gate of block b closes after 64 idle cycles, where gating is on (R445). -/
def State.gateClose (s : State) (d b : Nat) : State :=
  if s.rd (0x2040 + d) 0x0A = 1 ∧ !s.gates.contains (d, b) then { s with gates := (d, b) :: s.gates } else s

/-- OSC_S measured against SYS (R432): the ratio, and its cause outside 0.85 to 1.15. -/
def State.slowRatio (s : State) (num den : Nat) : State :=
  if den = 0 ∨ s.domSt 0 ≠ 1 then s
  else
    let s := s.wr 0x2030 0x01 (f32OfRatio num den)
    if 100 * num < 85 * den ∨ 115 * den < 100 * num then s.raise 191 clsClock 0xE07 1 else s

/-- PLL_X starts (R433). -/
def State.startPllx (s : State) : State := (s.wr 0x2020 0x01 1).setSrc 4 1

/-- PLL_X is locked (R433); hz is its frequency in the last monitor window (R447). -/
def State.pllxLock (s : State) (phasePs : Int) (hz : Nat) : State :=
  if s.rd 0x2020 0x01 = 1 ∨ s.rd 0x2020 0x01 = 3 then
    ((s.wr 0x2020 0x01 2).wrI32 0x2020 0x02 phasePs).setSrc 4 2 |>.wr 0x2014 0x02 (hz % 2 ^ 32)
  else s

/-- The phase error exceeds ±500 ps for 16 crossings (R435). -/
def State.pllxHoldover (s : State) (phasePs : Int) : State :=
  if s.rd 0x2020 0x01 ≠ 2 then s
  else
    let s := (s.wr 0x2020 0x01 3).wrI32 0x2020 0x02 phasePs
    if s.source = 3 then s else { s with sourceDue := some 3 }

/-- Sources start with the power-on or device reset (R427, R430, R438): domains stopped on no source. -/
def State.startSources (s : State) : State :=
  let s := (List.range 8).foldl (fun s i => s.setSrc i (if i = 0 then 2 else if i = 4 then 0 else 1)) s
  let s := s.wr 0x2010 0x02 32768
  let s := { s with startup := { s.startup with
    loopRefs := [5, 6, 7].map (fun j => s.rd (0x2010 + j) 0x05)
    proven := [0] } }.driveClocks
  (domainNos.foldl (fun s d =>
    ((s.setDom d {}).wr (0x2040 + d) 0x01 0).wr (0x2040 + d) 0x02 0xFF) s).showHoldover

end Sys2Proof.Machine
end

