-- ==== Sys2Proof/Machine/ThermalCore.lean ====
section
/-! DEFINITION. ThermalCore.lean: the pace monitors and the voltage governor (R48 to R54, R454, R455), VC hold (R456,
R195), sensors and bands (R457, R458, R471), cold start and warm-up (R459 to R461), limits (R462 to R465), throttling
(R466 to R470), hot-spot migration (R473). Causes are those of Table 15-8 (R477). -/

namespace Sys2Proof.Machine

/-! ### Slack and the governor -/

/-- The band of sensor i. -/
def State.bandOf (s : State) (i : Nat) : Nat := s.rd (0x2200 + i) 0x02

/-- Throttle state: 0 none, 1 requested, 2 enforced. -/
def State.throttle (s : State) : Nat := s.rd 0x2290 0x01

/-- An armed switch or a migration in flight names region n. -/
def State.named (s : State) (n : Nat) : Bool :=
  !(s.slotTargets 16 n).isEmpty || slotNos.any (fun e => s.migOpen e && s.migNames e n)

/-- Region n is counted (R52). -/
def State.counted (s : State) (n : Nat) : Bool :=
  (s.activePlane n < 8 && (s.regState n = rActive || s.regState n = rHalted || s.regState n = rResetting)) || s.named n

/-- D of R52 and R151, in sixteenths of a pace unit: the largest of the active plane and of the planes that armed
switches and the migration in flight bring. -/
def State.depthOfRegion (s : State) (n : Nat) : Nat :=
  ((s.activePlane n :: s.slotTargets 16 n ++ s.migTargets n).filter (fun p => p < 8)).foldl
    (fun acc p => max acc (s.plane n p).depth) 0

/-- The band margin of region n, in ps. -/
def State.marginOf (s : State) (n : Nat) : Nat := s.rd (0x4080 + s.bandOf n) 0x01

/-- The band margins shown (0x4040+n:03). -/
def State.showMargins (s : State) : State := regionNos.foldl (fun s n => s.wr (0x4040 + n) 0x03 (s.marginOf n)) s

/-- The slack of region n in fs at a unit delay in tenths of a ps (R52). -/
def State.slackOf (s : State) (n u : Nat) : Int :=
  (s.tStep : Int) - ((s.depthOfRegion n * u * 25 / 4 : Nat) : Int) - (s.marginOf n * 1000 : Nat)

/-- The largest reading of region n's four monitors. -/
def worstReading (l : List (Nat × Nat)) (n : Nat) : Nat :=
  (l.filter (fun x => x.1 = n)).foldl (fun acc x => max acc x.2) 0

/-- The pace entries of region n at a sample (Table 2-12). DESIGN CHOICE (log entry 138): 0x4040+n:05 starts from its
default, 0, and so shows the least of 0 and the slacks until it is written; the sample of a region that is not counted
updates its unit delay and leaves its slack as it was. -/
def State.samplePace (s : State) (l : List (Nat × Nat)) (n : Nat) : State :=
  if !l.any (fun x => x.1 = n) then s
  else
    let u := worstReading l n
    let s := s.wr (0x4040 + n) 0x02 (f32OfRatio u 10)
    if !s.counted n then s
    else
      let sl := s.slackOf n u
      let s := (s.wr (0x4040 + n) 0x03 (s.marginOf n)).wrI32 (0x4040 + n) 0x04 sl
      let least := (s.region n).least
      let s := if sl < least then s.wrI32 (0x4040 + n) 0x05 sl else s
      s.setRegion n { s.region n with slack := sl, least := min sl least }

/-- A write of 0x4040+n:05: the least slack starts again from the slack (R64). -/
def State.resetLeastSlack (s : State) (n : Nat) : State :=
  (s.wr (0x4040 + n) 0x05 (s.rd (0x4040 + n) 0x04)).setRegion n { s.region n with least := (s.region n).slack }

/-- The slack of region n at the last sample, in fs. -/
def State.slack (s : State) (n : Nat) : Int := (s.region n).slack

/-- The smallest slack among the counted regions. -/
def State.leastSlack (s : State) : Option Int :=
  (regionNos.filter (fun n => s.counted n)).foldl (fun acc n =>
    match acc with
    | none => some (s.slack n)
    | some x => some (min x (s.slack n))) none

/-- The floor of the VL target (R454), in mV. -/
def State.vlFloor (s : State) : Nat :=
  (regionNos.filter (fun n => s.counted n)).foldl (fun acc n => max acc (s.rd (0x4080 + s.bandOf n) 0x03)) 580

/-- VL cannot be written (R455). -/
def State.vlStuck (s : State) : Bool := s.rdBit 0x2103 0x01 0

/-- A new VL target is written to the regulator (R451, R454). -/
def State.setVl (s : State) (mv : Nat) : State := (s.wr 0x2100 0x01 mv).avsWrite 0 mv

/-- The floor shown, and a target below it raised to it at once (R454); VL holds its last value while domain AVS is
stopped (R444). -/
def State.refreshFloor (s : State) : State :=
  let f := s.vlFloor
  let s := s.wr 0x2100 0x03 f
  if s.rd 0x2100 0x01 < f ∧ !s.vlStuck ∧ s.domSt 6 = 1 then s.setVl f else s

/-- The nominal voltage of a rail, in mV: VL its target, VM 750, VC its mode's value; none while VC returns (Table 15-1,
R456). -/
def State.railNominal (s : State) (rail : Nat) : Option Nat :=
  match rail with
  | 0 => some (s.rd 0x2100 0x01)
  | 1 => some 750
  | _ => if s.rd 0x2102 0x01 = 0 then some 700 else if s.rd 0x2102 0x01 = 1 then some 550 else none

/-- What the regulator of a rail reports, in mV: a free value of the rail and the device time (log entry 105). -/
def State.railReading (s : State) (rail : Nat) : Nat :=
  Config.outsideValue (ent (0x2100 + rail) (if rail = 0 then 0x02 else 0x01)) s.now % 2 ^ 16

/-- A reading more than 3 % away from the nominal voltage raises the rail's cause, once until a reading lies inside again
(R477; DESIGN CHOICE, log entry 210). -/
def State.checkRail (s : State) (rail : Nat) : State :=
  let outside : Bool := (s.railNominal rail).any (fun v => 3 * v < 100 * (max v (s.railReading rail) - min v (s.railReading rail)))
  let was := s.thermal.railsOut.contains rail
  let rest := s.thermal.railsOut.filter (fun r => r ≠ rail)
  let s := { s with thermal := { s.thermal with railsOut := if outside then rail :: rest else rest } }
  if outside && !was then s.raise (193 + rail) clsPower (0xF02 + rail) 1 (s.railReading rail) else s

/-- The rails are read (R451): voltage, current and status of each, at a pace sample; the readings of VL and VM are shown.
DESIGN CHOICE: the spec does not say when the device reads its rails (log entry 199). -/
def State.pollRails (s : State) : State :=
  if s.domSt 6 ≠ 1 then s
  else
    let s := [0, 1, 2].foldl (fun s r => [1, 2, 3].foldl (fun s c => s.emit (.avsBus r c 0)) s) (s.work 6 0)
    let s := (s.wr 0x2100 0x02 (s.railReading 0)).wr 0x2101 0x01 (s.railReading 1)
    [0, 1, 2].foldl (fun s r => s.checkRail r) s

/-- The thresholds of R52 in fs; step 4 of throttling exchanges them (R468). -/
def State.slackLow (s : State) : Int :=
  ((if s.rdBit 0x2290 0x03 3 then s.rd 0x4005 0x03 else s.rd 0x4005 0x01) * 1000 : Nat)
def State.slackHigh (s : State) : Int :=
  ((if s.rdBit 0x2290 0x03 3 then s.rd 0x4005 0x01 else s.rd 0x4005 0x02) * 1000 : Nat)

/-- The governor's decision (R52, R454): none while VL or domain AVS stands still, none at the sample after a
raise, by which the regulator has reported. -/
def State.governor (s : State) : State :=
  let s := (s.work 6 2).pollRails.refreshFloor
  let v := s.rd 0x2100 0x01
  if s.vlStuck ∨ s.domSt 6 ≠ 1 then s
  else if s.thermal.awaitReport then
    { s with thermal := { s.thermal with awaitReport := false } }
  else
    match s.leastSlack with
    | none => s
    | some x =>
      if x < s.slackLow ∧ v < 860 then
        let s := (s.setVl (min 860 (v + s.rd 0x2100 0x04))).bump 32 0x2100 0x07
        { s with thermal := { s.thermal with awaitReport := true } }
      else if s.slackHigh < x then
        let due : Bool := match s.thermal.lowerAt with
          | some t => t + s.rd 0x2100 0x06 * 1000 ≤ s.now
          | none => true
        let t := max s.vlFloor (v - s.rd 0x2100 0x05)
        if due ∧ t < v then
          { s with thermal := { s.thermal with lowerAt := some s.now } }.setVl t
        else s
      else s

/-! ### Throttle requests (R466, R467) -/

/-- The request begins (R467): class C stops at once (R257). -/
def State.beginThrottle (s : State) : State :=
  if s.throttle ≠ 0 then s
  else
    let s := ((s.wr 0x2290 0x01 1).bump 32 0x2290 0x0A).wr 0x2290 0x0B s.xn
    let s : State := { s with thermal := { s.thermal with throttleN := 0, orderPos := 0 } }
    let s := (s.emit (.pin "THROTTLE_N" 0)).raise 201 clsThermal 0xF07 1
    s.stopClass 2

/-- A sensor that failed as the hottest is held (R471). -/
def State.heldSensor (s : State) : Bool := (List.range 128).any (fun i => s.rd (0x2200 + i) 0x03 = 2)

/-- The request causes as they hold now (R466); bit 3 is the command's. -/
def State.showCauses (s : State) : State :=
  let s := s.wr 0x2290 0x02
    ((if s.thermal.requestOn then 1 else 0) + (if regionNos.any (fun n => (s.region n).deficitRun) then 2 else 0)
      + (if s.thermal.riseReq then 4 else 0) + (if s.rdBit 0x2290 0x02 3 then 8 else 0)
      + (if s.heldSensor then 16 else 0))
  if s.rd 0x2290 0x02 ≠ 0 then s.beginThrottle else s

/-- The reaction of code 3: bit 1 is set and clears at once, and the request stays for the release time (R466). -/
def State.reactThrottle (s : State) : State := s.beginThrottle

/-- The deficit of R53 at a sample: the cause is raised at the first sample of each run. -/
def State.deficits (s : State) : State :=
  let atCeiling : Bool := 860 ≤ s.rd 0x2100 0x01 || s.vlStuck
  regionNos.foldl (fun s n =>
    let x := s.region n
    let now : Bool := atCeiling && s.counted n && s.slack n < (s.rd 0x4005 0x03 * 1000 : Nat)
    if now && !x.deficitRun then
      ((s.setRegion n { x with deficitRun := true }).bump 32 0x4006 0x02).raise (64 + n) clsPace 0x202 1
    else if now = x.deficitRun then s
    else s.setRegion n { x with deficitRun := now }) s

/-- A pace sample (R49, R52, R53). -/
def State.paceSample (s : State) (l : List (Nat × Nat)) : State :=
  let s := regionNos.foldl (fun s n => s.samplePace l n) s
  s.deficits.governor.showCauses

/-! ### VC hold (R456, R195) -/

/-- VC enters hold mode; it stays at 0.70 V once the device has stopped writing its rail (R455).
DESIGN CHOICE: the write is done all the same (log entry 200). -/
def State.vcHold (s : State) : Nat × State :=
  if 2 ≤ s.engineSt ∨ s.loadBusy then refuse abortState s
  else if s.rd 0x2102 0x01 = 1 ∨ s.rdBit 0x2103 0x01 2 then done s
  else done ((s.wr 0x2102 0x01 1).avsWrite 2 550)

/-- A header that waited for VC is checked, and what its path has sent behind it goes on; a refusal is the answer to
the path, and to the segmented write that brings the stream. -/
def State.waitedHeader (s : State) (path : Nat) (h : List Byte) : State :=
  let rest := s.partialOf path
  let s : State := { s.setPartial path [] with load := { (s.setPartial path []).load with waiting := none } }
  let (code, s) := s.streamHeader path h
  let s := (s.feedBytes path rest (rest.length + 1)).2
  if code = 0 then s
  else
    { s.emit (.streamAnswer (senderPath path) code) with
      transfers := s.transfers.map (fun t =>
        if t.key = ent 0x4310 0x00 ∧ streamSender t.r = path ∧ t.failed = 0 then { t with failed := code } else t) }

/-- VC is back at 0.70 V: eight scrub passes come before any switch or resume, and a header that waits is checked. VC
is not back while its write waits, nor where it has failed (R444, R455). -/
def State.vcReturned (s : State) : State :=
  if s.rd 0x2102 0x01 ≠ 2 ∨ s.rdBit 0x2103 0x01 2 ∨ s.thermal.avsHeld.any (fun x => x.1 = 2) then s
  else
    let s := regionNos.foldl (fun s n => s.setRegion n { s.region n with holdPasses := 8 }) (s.wr 0x2102 0x01 0)
    match s.load.waiting with
    | none => s
    | some (path, h) => s.waitedHeader path h

/-! ### Sensors (R457, R458, R465, R471, R472) -/

/-- What a read gave for sensor i: none, not read; some none, a conversion that did not complete. -/
def rawOf (l : List SensorIn) (i : Nat) : Option (Option Int) := (l.find? (fun x => x.sensor = i)).map (fun x => x.reading)

/-- A reading inside the range of R471. -/
def inRange (v : Int) : Bool := -55000 ≤ v && v ≤ 150000

/-- The reading of a sensor as its neighbours see it: this read's where it is in range, else the entry's. -/
def State.seenReading (s : State) (l : List SensorIn) (i : Nat) : Int :=
  match rawOf l i with
  | some (some v) => if inRange v ∧ s.rd (0x2200 + i) 0x03 = 0 then v else toI32 (s.rd (0x2200 + i) 0x01)
  | _ => toI32 (s.rd (0x2200 + i) 0x01)

/-- The neighbours of sensor i. -/
def State.neighbours (s : State) (i : Nat) : List Nat :=
  let w := s.rd (0x2200 + i) 0x06
  ([w / 2 ^ 24 % 256, w / 2 ^ 16 % 256, w / 2 ^ 8 % 256, w % 256].filter (fun x => x < 128))

/-- The hottest neighbour's reading. -/
def State.hottestNeighbour (s : State) (l : List SensorIn) (i : Nat) : Option Int :=
  (s.neighbours i).foldl (fun acc j =>
    match acc with
    | none => some (s.seenReading l j)
    | some x => some (max x (s.seenReading l j))) none

/-- The lower edges of bands B1 to B5, in m°C. -/
def bandEdges : List Int := [-10000, 30000, 60000, 85000, 100000]

/-- The band of a reading, from the band before it (R458). -/
def nextBand (old : Nat) (v : Int) : Nat :=
  max (bandEdges.filter (fun e => e ≤ v)).length (min old (bandEdges.filter (fun e => e - 3000 ≤ v)).length)

/-- Sensor i fails (R471). -/
def State.failSensor (s : State) (i : Nat) (hold : Bool) : State :=
  let s := (s.wr (0x2200 + i) 0x03 (if hold then 2 else 1)).setSensor i { s.sensor i with plus5 := hold, goodRun := 0 }
  let s := s.raise 206 clsThermal 0xF0C 1
  if hold then s.raise 207 clsThermal 0xF0D 1 else s

/-- A value taken as sensor i's reading or estimate: band, rate over 250 reads, highest. -/
def State.takeReading (s : State) (i : Nat) (v : Int) : State :=
  let x := s.sensor i
  let rate := match x.history[249]? with
    | some old => (v - old) * 4
    | none => 0
  let first : Bool := x.history.isEmpty
  let s := (s.wr (0x2200 + i) 0x01 (i32 v)).wr (0x2200 + i) 0x02 (nextBand (s.bandOf i) v)
  let s := s.wrI32 (0x2200 + i) 0x04 rate
  let s := if first ∨ toI32 (s.rd (0x2200 + i) 0x05) < v then s.wr (0x2200 + i) 0x05 (i32 v) else s
  s.setSensor i { x with history := (v :: x.history).take 250 }

/-- One sensor at a read. -/
def State.readSensor (s : State) (l : List SensorIn) (i : Nat) : State :=
  match rawOf l i with
  | none => s
  | some raw =>
    let x := s.sensor i
    let h := s.hottestNeighbour l i
    let far : Bool := match raw, h with
      | some v, some y => decide (20000 < v - y) || decide (20000 < y - v)
      | _, _ => false
    let apart := if far then x.apart + 1 else 0
    let ok : Bool := match raw with
      | some v => inRange v
      | none => false
    let s := s.setSensor i { x with
      apart := apart
      goodRun := if ok && decide (apart < 100) then x.goodRun + 1 else 0 }
    let s := if s.rd (0x2200 + i) 0x03 = 0 ∧ (!ok ∨ 100 ≤ apart) then
        s.failSensor i (s.throttle ≠ 0 && s.rd 0x2280 0x02 = i)
      else s
    if s.rd (0x2200 + i) 0x03 = 0 then s.takeReading i (raw.getD 0)
    else
      s.takeReading i ((h.getD (toI32 (s.rd (0x2200 + i) 0x01))) + toI32 (s.rd (0x2200 + i) 0x07)
        + (if (s.sensor i).plus5 then 5000 else 0))

/-- A failure cleared by command: the sensor has passed the checks of R471 for the last 1 s, 1,000 reads (R472). -/
def State.clearSensor (s : State) (i : Nat) : Nat × State :=
  if (s.sensor i).goodRun < 1000 then refuse abortState s
  else done (((s.wr (0x2200 + i) 0x03 0).setSensor i { s.sensor i with plus5 := false, apart := 0 }).showCauses)

/-- Hottest and coldest counted readings (R458). -/
def State.showExtremes (s : State) : State :=
  let rs := (List.range 128).map (fun i => (i, toI32 (s.rd (0x2200 + i) 0x01)))
  let hot := rs.foldl (fun acc x => if acc.2 < x.2 then x else acc) (rs.headD (0, 0))
  let cold := rs.foldl (fun acc x => min acc x.2) hot.2
  ((s.wr 0x2280 0x01 (i32 hot.2)).wr 0x2280 0x02 hot.1).wr 0x2280 0x03 (i32 cold)

/-- The hottest counted reading. -/
def State.hottest (s : State) : Int := toI32 (s.rd 0x2280 0x01)

/-- Each stack takes the hotter band of its two sensors (R264). -/
def State.bandStacks (s : State) : State :=
  (List.range 8).foldl (fun s k =>
    let b := max (s.bandOf (112 + 2 * k)) (s.bandOf (113 + 2 * k))
    if s.rd (0x5810 + k) 0x06 = b then s else s.setStackBand k b) s

/-- What follows from the bands: margins and floor, stack refresh, transmit emphasis (R51, R264, R229). -/
def State.applyBands (s : State) : State :=
  let s := s.showMargins.refreshFloor.bandStacks
  (List.range 512).foldl (fun s l =>
    let b := s.bandOf (64 + l / 16)
    let x := s.txLane l
    if x.nextBand = b then s else s.setTx l { x with nextBand := b }) s

/-- A limit with its hysteresis of 3 °C (R462). -/
def limitOn (was : Bool) (hot : Int) (limitC : Nat) : Bool :=
  decide ((limitC * 1000 : Nat) ≤ hot) || (was && decide ((limitC * 1000 : Nat) - 3000 ≤ hot))

/-- The limits of Table 15-3 (R462, R463). The thermal state reads 3 while the halt holds, whatever else it would read
(State.shownNat). -/
def State.applyLimits (s : State) : State :=
  let hot := s.hottest
  let t := s.thermal
  let al := limitOn t.alertOn hot (s.rd 0x2280 0x04)
  let rq := limitOn t.requestOn hot (s.rd 0x2280 0x05)
  let hl := limitOn t.haltOn hot (s.rd 0x2280 0x06)
  let s : State := { s with thermal := { t with alertOn := al, requestOn := rq, haltOn := hl } }
  let s := if al && !t.alertOn then s.raise 200 clsThermal 0xF06 1 else s
  if hl && !t.haltOn then
    (s.thermalHalt.raise 203 clsThermal 0xF09 2).queueActions [.yield]
  else s

/-- The rates of rise (R465). -/
def State.applyRates (s : State) : State :=
  let rate := (List.range 128).foldl (fun acc i => max acc (toI32 (s.rd (0x2200 + i) 0x04))) 0
  let rise : Bool := (s.rd 0x2280 0x08 * 1000 : Nat) ≤ rate
  let req : Bool := s.rd 0x2280 0x09 ≠ 0 && decide ((s.rd 0x2280 0x09 * 1000 : Nat) ≤ rate)
  let was := s.thermal.riseOn
  let s : State := { s with thermal := { s.thermal with riseOn := rise, riseReq := req } }
  if rise && !was then s.raise 205 clsThermal 0xF0B 1 else s

/-- The store is cool (R257): no throttle request, look-back and base-die sensors in B3 or below. -/
def State.storeCool (s : State) : Bool :=
  s.throttle = 0 && ((List.range 32).map (fun i => 64 + i) ++ (List.range 16).map (fun i => 112 + i)).all
    (fun i => s.bandOf i ≤ 3)

/-- Class C under R257, at a sensor read (1 ms after the last). -/
def State.applyCool (s : State) : State :=
  if s.storeCool then
    let ms := s.thermal.coolMs + 1
    let s : State := { s with thermal := { s.thermal with coolMs := ms } }
    if s.rd 0x5800 0x07 ≤ ms ∧ 2 ≤ s.rd 0x5800 0x01 then s.restartClass 2 else s
  else { s with thermal := { s.thermal with coolMs := 0 } }.stopClass 2

/-! ### Warm-up (R460, R461) -/

/-- Sensors of the logic, memory and configuration die and of the look-back stacks. -/
def warmSensors : List Nat := List.range 64 ++ (List.range 32).map (fun i => 96 + i)

/-- The wave engine enters OFF (R55, R56): cell registers hold their initial values, an input that a run has not
adopted is adopted as it is (R234), and no wave meets the records that wait at the ports (R286). -/
def State.engineOff (s : State) : State :=
  { portNos.foldl (fun s p => s.dropRecords p) ((s.wr 0x4000 0x00 0).checkSource false) with
    startPending := false
    stopPending := false
    waveDue := false
    regs := []
    waveLog := []
    delivered := []
    readTokens := []
    probePipe := [] }

/-- Transmit states follow what they depend on. -/
def State.txRefreshAll (s : State) : State := (List.range 512).foldl (fun s l => s.txRefresh l) s

/-- Warm-up mode begins (R460); what the halted regions record is log entry 131. -/
def State.enterWarmup (s : State) : State :=
  let s := (s.wr 0x2280 0x0A 1).engineOff
  let s := { s with startup := { s.startup with engineDue := false } }
  let s := regionNos.foldl (fun s n => if s.regState n = rActive then s.haltRegion n 208 else s) s
  let s := (List.range 512).foldl (fun s l => if s.laneSt l ≠ 0 then s.laneLeave l lOff else s) s.txRefreshAll
  let s := (List.range 8).foldl (fun s k => s.wr (0x5810 + k) 0x05 8) s
  s.raise 208 clsThermal 0xF0E 0

/-- Some sensor reads below −25 °C. -/
def State.coldSensor (s : State) : Bool := warmSensors.any (fun i => toI32 (s.rd (0x2200 + i) 0x01) < -25000)

/-- A region's heater runs: in warm-up, while it is not ACTIVE (R460). -/
def State.heats (s : State) (n : Nat) : Bool := s.rd 0x2280 0x0A = 1 && s.regState n ≠ rActive

/-- Every counted sensor, of all 128, reads −22 °C or more (R458, R461). -/
def State.allWarm (s : State) : Bool := (List.range 128).all (fun i => -22000 ≤ toI32 (s.rd (0x2200 + i) 0x01))

/-- Warm-up ends: the enabled lanes look for a signal again, and the stacks refresh by their bands
from their next window. -/
def State.leaveWarmup (s : State) : State :=
  let s := (s.wr 0x2280 0x0A 0).txRefreshAll
  let s := (List.range 512).foldl (fun s l => if s.mayReceive l ∧ s.laneSt l = 0 then s.setLaneSt l lLost else s) s
  (List.range 8).foldl (fun s k =>
    let w := windowOf (s.rd (0x5810 + k) 0x06)
    { s with nextWindow := Sparse.set (fun _ => 0) s.nextWindow k (if w = 8 then 0 else w) }) s

/-- The sensors are read (R457): 1 ms has passed since the last read. -/
def State.sensorRead (s : State) (l : List SensorIn) : State :=
  let s := (List.range 128).foldl (fun s i => s.readSensor l i) (s.work 6 1)
  let s := s.showExtremes.applyBands.applyLimits.applyRates
  let s := s.showCauses.applyCool
  if s.rd 0x2280 0x0A = 1 then s
  else if s.rd 0x2280 0x0A ≠ 2 ∧ s.coldSensor then s.enterWarmup
  else s

/-! ### Enforcement (R467 to R470) -/

/-- The cool switch armed on a lead or an unpaired device (R166, R468). -/
def State.armCool (s : State) : State :=
  let bad (s : State) : State := s.raise 212 clsThermal 0xF12 1
  match (List.range 8).find? (fun p => s.rd 0x4201 (p + 1) = 3), s.freeSlot with
  | some p, some k =>
    let named (n : Nat) : Bool :=
      (s.regState n = rActive || s.regState n = rHalted || s.regState n = rResetting) && s.planeState n p = 2
        && !slotNos.any (fun e => (s.migOpen e || s.mig e 0x07 = 3) && s.migNames e n)
    let w := mkWave (s.xn + s.rd 0x4200 0x02 + 1) 0
    let e := s.rd 0x4240 0x05
    let inOverlap : Bool := e < 16 && s.migWave ≠ 0 && !waveLater w (s.migEarly e) && waveLater w s.migWave
    let w := if inOverlap then mkWave (waveXn s.migWave + 1) 0 else w
    let (r, s) := (s.fillSlot k (maskOf 64 named) w p (s.rd 0x2290 0x09)).armMirrored k 1 true none
    (match r with
      | some reason => if reason = 0 then s else bad s
      | none => s)
  | _, _ => bad s

/-- Step 3: a mirror, a JOINING half among them (ROLE 2 of Table 9-8), sends the throttle message instead (R315,
R470). -/
def State.coolStep (s : State) : State :=
  if s.isMirror then
    (match s.mirrorPort with
      | some p => s.portMsg p 0x09 0 0 []
      | none => s)
  else s.armCool

/-- The next step of the order is taken (R468). -/
def State.throttleStep (s : State) : State :=
  let pos := s.thermal.orderPos
  let c := s.rd 0x2290 0x05 / 16 ^ pos % 16
  if s.throttle ≠ 2 ∨ 4 ≤ pos ∨ c = 0 then s
  else
    let s : State := { s with thermal := { s.thermal with orderPos := pos + 1 } }
    let s := (s.wrBit 0x2290 0x03 (c - 1) true).raise 202 clsThermal 0xF08 0 c
    if c = 1 then s.stopClass 2 else if c = 2 then s.stopClass 1 else if c = 3 then s.coolStep else s

/-- The end of the grace time (R467): the request is enforced, with the first step. -/
def State.throttleEnforce (s : State) : State :=
  if s.throttle ≠ 1 then s else (s.wr 0x2290 0x01 2).throttleStep

/-- Every cause has been absent for the release time (R469). -/
def State.throttleRelease (s : State) : State :=
  if s.throttle = 0 ∨ s.rd 0x2290 0x02 ≠ 0 then s
  else
    let s := (s.wr 0x2290 0x01 0).wr 0x2290 0x03 0
    let s : State := { s with thermal := { s.thermal with throttleN := 1, orderPos := 0, coolMs := 0 } }
    (s.emit (.pin "THROTTLE_N" 1)).restartClass 1

/-- Throttle commands 1 and 2: cause bit 3. -/
def State.throttleCommand (s : State) (on : Bool) : State := (s.wrBit 0x2290 0x02 3 on).showCauses

/-! ### Rails (R455) and hot spots (R473) -/

/-- A failed AVSBus transaction; the third in a row stops the rail's writes (R455). afterSuccess: one to the rail has
succeeded since the one that failed before. -/
def State.avsFail (s : State) (rail : Nat) (afterSuccess : Bool) : State :=
  let n := if afterSuccess then 1 else Sparse.get (fun _ => 0) s.thermal.railFails rail + 1
  let s := { s with thermal := { s.thermal with railFails := Sparse.set (fun _ => 0) s.thermal.railFails rail n } }
  let s := s.bump 32 0x2103 0x02
  if n = 3 ∧ s.rdBit 0x2103 0x01 rail = false then (s.wrBit 0x2103 0x01 rail true).raise 192 clsPower 0xF01 2 else s

/-- A reading put in its place among readings in rising order. -/
def insertReading (x : Int) : List Int → List Int
  | [] => [x]
  | y :: l => if x ≤ y then x :: y :: l else y :: insertReading x l

/-- The middle of 64 readings: the 32nd and the 33rd by size, added (twice the median). -/
def twiceMedian (l : List Int) : Int :=
  let sorted := l.foldr insertReading []
  sorted.getD 31 0 + sorted.getD 32 0

/-- Region n has been above the median by the margin for the hot-spot time: a migration is started (R473). -/
def State.hotSpot (s : State) (n : Nat) : State :=
  let rs := (List.range 64).map (fun i => toI32 (s.rd (0x2200 + i) 0x01))
  if s.rd 0x22A0 0x01 ≠ 1 ∨ 2 * (rs.getD n 0 - (s.rd 0x22A0 0x02 * 1000 : Nat)) ≤ twiceMedian rs then s
  else
    match slotNos.find? (fun e => s.mig e 0x01 = n && s.activePlane n = s.mig e 0x02) with
    | none => s.raise 211 clsThermal 0xF11 0
    | some e => ((s.startMigration e 0 true).2).raise 211 clsThermal 0xF11 0 e

/-- A region that has been LOADING for 10 s with no VALID plane, and that no migration entry names, is powered off
(R453). -/
def State.autoGate (s : State) (n : Nat) : Bool :=
  s.rd 0x2110 0x01 = 1 && s.regState n = rLoading && (List.range 8).all (fun p => s.planeState n p ≠ 2)
    && !slotNos.any (fun e => s.mig e 0x01 ≠ 0xFF && s.migNames e n)

end Sys2Proof.Machine
end

