-- ==== Sys2Proof/Machine/StartupCore.lean ====
section
/-! DEFINITION. StartupCore.lean: the resets, what each keeps (Table 18-4), and the power-up sequence (R528 to R539),
bundle activation and the start-up switch (R56, R531), and the I/O banks (R548, R549). -/

namespace Sys2Proof.Machine

/-! ### What a device reset or a power-on reset keeps -/

/-- Entries that stand in the fuses, the straps or the device record, and so outlive a device reset (Tables 17-1,
17-5, 18-4). -/
def recordKey (k : Nat) : Bool := strapKey k || fuseKey k || deviceRecordKey k

/-- The run waves (0x4003:02, 0x4003:03), which keep their values over a device reset (R56). -/
def runWaveKey (k : Nat) : Bool := k = ent 0x4003 0x02 || k = ent 0x4003 0x03

/-- The result of a load that the reset has ended (R196; log entry 151). -/
def resetResult (c : Nat × Nat) : Bool := c.1 = ent 0x4301 0x02 && c.2 = 0x2E

/-- The device after a device reset or a power-on reset, before the sequence runs: planes zeroised, dictionary at
its defaults, sessions closed, collector cleared; keep store, fuses and device record kept (Table 18-4). Log
entries still to be written reach the log first (R493). What fuses fix shows from the reset on (R499, Table 17-11). -/
def State.keptOver (s : State) (power : Bool) (code : Nat) : State :=
  let s := s.keepReset
  let dict := s.dict.filter (fun c => recordKey c.1 || (!power && (runWaveKey c.1 || resetResult c)))
  let dict := if s.startup.tripped then Sparse.set dfltKey dict (ent 0x2280 0x0C) 1 else dict
  let dict := if s.rdBit 0x2400 0x01 4 then Sparse.set dfltKey dict (ent 0x4300 0x07) 1 else dict
  let dict := if s.rdBit 0x2400 0x01 5 then Sparse.set dfltKey dict (ent 0x2430 0x01) 2 else dict
  let sec := s.security
  let log := s.collector.log ++ s.collector.logPending
  { dict := dict
    out := s.out
    pending := s.pending
    draws := s.draws
    lines := if power then [] else s.lines
    keepLines := if s.collector.logPending = [] then s.keepLines
      else Sparse.drop s.keepLines (fun a => (keepArea a).1 = .log)
    spareLines := s.spareLines
    storedMap := s.storedMap
    collector := { log := log.drop (log.length - 4096) }
    security := {
      ownerKeys := sec.ownerKeys
      keys := sec.keys
      images := sec.images
      areas := sec.areas
      journal := sec.journal
      atStart := sec.atStart }
    startup := {
      released := s.startup.released && !power
      tripped := s.startup.tripped
      tamperWait := s.startup.tamperWait
      before := if power then 0 else s.startup.before + s.now
      sinceTamper := s.startup.sinceTamper + s.now
      cause := code } }

/-- A source to be raised at the next start that succeeds (R464, R498, R537): source, cause code, DETAIL. -/
def State.raiseLater (s : State) (src code detail : Nat) : State :=
  s.setSecurity (fun x => { x with atStart := x.atStart ++ [(src, code, detail)] })

/-- Class and level of a source that is raised at a start. -/
def startClass (src : Nat) : Nat × Nat :=
  if src = 249 then (clsUpdate, 2)
  else if 240 ≤ src ∧ src ≤ 248 then (clsUpdate, 1)
  else if src = 204 then (clsThermal, 1)
  else if src = 339 then (clsKernel, 1)
  else if src = 336 then (clsConfig, 1)
  else if src = 337 then (clsConfig, 0)
  else (clsSecurity, 1)

/-- The cause of a reset is recorded in the device record before the reset completes, and reported at the next start
(R536, Table 18-6). -/
def State.noteReset (s : State) (code : Nat) : State :=
  ((s.wr 0x1100 0x02 code).bump 32 0x1100 0x03).raiseLater 337 0x1202 code

/-- The raises that waited for a start. -/
def State.raiseKept (s : State) : State :=
  let l := s.security.atStart
  let s := s.setSecurity (fun x => { x with atStart := [] })
  l.foldl (fun s x => s.raise x.1 (startClass x.1).1 x.2.1 (startClass x.1).2 x.2.2) s

/-! ### The steps of Table 18-2 -/

/-- Straps (Table 18-1). -/
def State.straps (s : State) : Nat := s.rd 0x1100 0x06
def State.bootSel (s : State) : Nat := s.straps / 256 % 4
def State.canIdStrap (s : State) : Nat := s.straps / 16 % 16
def State.marchSel (s : State) : Bool := s.straps.testBit 3

/-- The straps are latched (R528), with the start delays that XSTART gives XTAL1 and XTAL2 (R431). -/
def State.latchStraps (s : State) (straps : BitVec 18) : State :=
  let s := (s.wr 0x1100 0x06 straps.toNat).wr 0x2000 0x01 (straps.toNat % 8)
  let s := s.wr 0x2000 0x02 (500 * 2 ^ (straps.toNat % 8))
  (s.wr 0x1008 0x02 s.canIdStrap).wr 0x5110 0x02 (if s.marchSel then 1 else 0)

/-- Step 2 brings OSC_F, the reference of PLL_S and PLL_S to PROVEN, and the start-up moves of the domains are done
with it (R430, R438). The frequencies measured are outside facts (log entry 37). -/
def State.proveStart (s : State) : State :=
  let ref := s.rd 0x2015 0x05
  [1, ref, 5].foldl (fun s i =>
    let (hz, s) := s.draw
    let s := s.sourceProven i hz
    domainNos.foldl (fun s d => s.switchDone d 0) s) s

/-- Owner keys that fail the check against their fused hash (R500). -/
def State.checkOwnerKeys (s : State) : State :=
  let bad := (List.range 2).filter (fun i =>
    match s.security.ownerKeys.lookup i with
    | some key => (s.unseal key).all (fun key => bytesNat (beBytes 48 (Config.sha384 key).toNat) ≠ s.rd 0x2400 (3 + i))
    | none => s.rdBit 0x2400 0x01 i)
  bad.foldl (fun s _ => s.raiseLater 231 0x1105 0) (s.setSecurity (fun x => { x with badKeys := bad }))

/-- A key that a persisted set holds only for its bundle: its default is "Bundle" (R403). -/
def bundleKey (k : Nat) : Bool :=
  let idx := k / 256
  let sub := k % 256
  (0x3000 ≤ idx && idx < 0x3040 && sub < 16) || (0x3400 ≤ idx && idx < 0x3408 && sub = 1)
    || (0x7100 ≤ idx && idx < 0x7280 && (sub = 3 || sub = 4)) 

/-- The persisted set that applies now (R403, R523): that of the area which the firmware that runs owns. -/
def State.persisted (s : State) : PersistSet :=
  if s.rd 0x2501 0x07 = 0 ∨ s.rd 0x2501 0x07 = 1 then
    (s.security.areas.lookup s.startup.running).getD {}
  else {}

/-- The firmware in slot x starts on trial. -/
def State.trialStart (s : State) (x : Nat) : Bool :=
  s.rd 0x2501 0x01 = 1 && s.rd 0x2501 0x02 = 1 && s.imageSt 0 x = imTrial

/-- The persisted set that a start of the firmware in slot x works from: that of its own area, or on its first start on
trial that of the previous firmware's, where it can be read and its revision is one that the firmware reads (R403,
R522, R523). -/
def State.bootSet (s : State) (c : StartConds) (x : Nat) : Option PersistSet :=
  let trial := s.trialStart x
  let y := if trial then 1 - x else x
  let set := (s.security.areas.lookup y).getD {}
  let fw := s.image 0 x
  let fits : Bool := !trial
    || (s.security.areas.lookup y).all (fun o => fw.sfrMin ≤ o.sfr && o.sfr ≤ fw.sfr)
  if (if trial then c.settingsOk else c.persistedOk) && s.intact (.settings y) && fits then some set else none

/-- The settings are read, or migrated (R403, R522, R523). -/
def State.readSettings (s : State) (c : StartConds) : State :=
  let x := s.startup.running
  let set := s.bootSet c x
  let s := { s with startup := { s.startup with settingsRead := true } }
  match set, s.trialStart x with
  | some old, true =>
    ((s.areaWritten (.settings x)).setSecurity (fun y => { y with
      areas := putKey y.areas x { old with sfr := (s.image 0 x).sfr } })).wr 0x2501 0x07 1
  | none, true => (s.wr 0x2501 0x07 2).raise 246 clsUpdate 0x110F 1 0
  | some _, false => s
  | none, false => (s.wr 0x2501 0x07 3).raise 328 clsUpdate 0xD07 1 0

/-- The persisted values take the place of defaults, those of "Bundle" apart; the node number is the strap's until
one is saved (R403, R413). -/
def State.applySettings (s : State) : State :=
  let set := s.persisted
  let s := s.wr 0x1008 0x01 (0x60 + s.canIdStrap)
  let s := (set.vals.filter (fun c => !bundleKey c.1)).foldl (fun s c =>
    { s with dict := Sparse.set dfltKey s.dict c.1 c.2 }) s
  if s.rdBit 0x2400 0x01 4 then s.wr 0x4300 0x07 1 else s

/-- The channels that are enabled go error-active once the firmware runs (Table 18-2); one that is already enabled keeps
its state (R416). -/
def State.startCan (s : State) : State :=
  (List.range 2).foldl (fun s c =>
    if s.rdBit 0x1009 0x03 c ∧ s.rd (0x100B + c) 0x01 ≠ 0 then s
    else s.wr (0x100B + c) 0x01 (if s.rdBit 0x1009 0x03 c then 1 else 0)) s

/-- Readings taken at a start, against the checks of R471. -/
def State.takeReadings (s : State) (l : List (Nat × Int)) : State :=
  let l : List SensorIn := l.map (fun x => { sensor := x.1, reading := some x.2 })
  ((List.range 128).foldl (fun s i => s.readSensor l i) s).showExtremes

/-- A stack fails its training or loses its link (R275, R277). -/
def State.stackFailed (s : State) (k : Nat) : State :=
  if s.rd 0x5801 (k + 1) = 3 then s
  else ((s.wr 0x5801 (k + 1) 3).storeState).raise (136 + k) clsLookback 0x804 2

/-- A stream that a start brings on a path, from its header to its acceptance or to the end of its zeroising (R183 to
R188, R511): whether it was accepted. -/
def State.loadWhole (s : State) (path : Nat) (bytes : List Byte) : Bool × State :=
  let s := ((s.forgetPath path).feed path bytes).2
  let s := (s.pathEnd path).signatureDone.validationDone
  (s.rd 0x4301 0x01 = 6, s.zeroiseDone.forgetPath path)

/-- The streams of a bundle are loaded in order, up to the first that is not accepted. -/
def State.loadStreams (s : State) (path : Nat) : List (List Byte) → Bool × State
  | [] => (true, s)
  | x :: l =>
    let (ok, s) := s.loadWhole path x
    if ok then s.loadStreams path l else (false, s)

/-- The bundle that BOOTSEL selects (Table 18-1). -/
def State.selectedBundle (s : State) : Option Bundle :=
  if s.bootSel = 0 then
    let x := s.activeSlot 2
    if [imActive, imTrial].contains (s.imageSt 2 x) then (s.image 2 x).bundle else none
  else if s.bootSel = 1 then Config.flashBundle (s.rd 0x4300 0x04)
  else none

/-- Step 7: the bundle is verified (R512), its streams are loaded, and its program images checked (R389). BOOTSEL 0b10 and
0b11 wait for the host. -/
def State.start7 (s : State) (c : StartConds) : State :=
  let s := s.atStep 7
  if 2 ≤ s.bootSel then s
  else
    let x := s.activeSlot 2
    let stored : Bool := s.bootSel = 0 && [imActive, imTrial].contains (s.imageSt 2 x)
    let s := if stored then s.readImage 2 x else s
    let res := if stored then s.startResult 2 x (c.imageFails.contains 3)
      else if c.imageFails.contains 3 then 0x34 else 1
    let s := if stored then s.wr 0x2512 0x08 res else s
    if res ≠ 1 then (if stored then s.imageInvalid 2 x (res = 0x36) else s).stopAt 7
    else
      match s.selectedBundle with
      | none => s.stopAt 7
      | some b =>
        let (ok, s) := s.loadStreams s.bootSel b.streams
        if !ok then s.stopAt 7
        else if !programsOk b then (s.raise 317 clsKernel 0xC06 1 0).stopAt 7
        else { s with startup := { s.startup with loaded := some b } }.atStep 8

/-- Step 6: every lane passes its loopback self-test and returns to OFF. -/
def State.start6 (s : State) (c : StartConds) : State :=
  let s := s.atStep 6
  if c.selfTestOk then { s with startup := { s.startup with selfTested := true } }.start7 c else s.stopAt 6

/-- The microcode image of step 5 is verified (R512). One that fails gives way to the other slot where that is PREVIOUS and
passes, and otherwise the step fails (DESIGN CHOICE, log entry 202). -/
def State.microcode (s : State) (c : StartConds) : Bool × State :=
  let x := s.activeSlot 1
  let y := 1 - x
  let s := s.readImage 1 x
  let res := s.startResult 1 x (c.imageFails.contains 2)
  let s := s.wr 0x2511 0x08 res
  if res = 1 then (true, s)
  else
    let s := s.imageInvalid 1 x (res = 0x36)
    if s.imageSt 1 y ≠ imPrevious then (false, s)
    else
      let s := s.readImage 1 y
      let res := s.startResult 1 y false
      let s := s.wr 0x2511 0x08 res
      if res = 1 then (true, (s.wr 0x2511 0x01 y).setImageSt 1 y imActive) else (false, s.imageInvalid 1 y (res = 0x36))

/-- The stacks are trained under the microcode tables, and refreshed for the bands of the readings taken (R264); a reading below −25 °C at its end enters warm-up (R460), which step 6 waits
for. -/
def State.trainStacks (s : State) (c : StartConds) : State :=
  let s := (List.range 8).foldl (fun s k =>
    if c.failedStacks.contains k then s.stackFailed k else s.wr 0x5801 (k + 1) 2) s
  let s := s.bandStacks.storeState.wr 0x5800 0x06 7
  let s := if s.storeCool then s
    else ((List.range 8).foldl (fun s k => s.openSkip k 4 2 s.crossing) s).wr 0x5800 0x06 3
  if s.coldSensor then
    let s := s.enterWarmup
    { s with thermal := { s.thermal with warmStart := some c } }
  else s.start6 c

/-- Step 5. -/
def State.start5 (s : State) (c : StartConds) : State :=
  let (sound, s) := (s.atStep 5).microcode c
  if sound then s.trainStacks c else s.stopAt 5

/-- A region is switched on at start-up, and its blank fill ends, or does not in time (R120, R137). -/
def State.startFill (s : State) (c : StartConds) (n : Nat) : State :=
  let s := s.switchOn n
  if c.slowFills.contains n then ((s.setRegState n rOff).wr (0x5000 + n) 0x0C 2).raise 153 clsMemory 0x40B 2
  else (s.enterLoading n).wr (0x5000 + n) 0x0C 0

/-- Four regions of the queue are switched on, and filled; 100 µs pass before the next four (R452), and the fills take no
other time (DESIGN CHOICE, log entry 201). -/
def State.startGroup (s : State) (c : StartConds) (g : Nat) : State :=
  let s := if g = 0 then s else s.wr 0x2030 0x02 ((s.now + 100000) % 2 ^ 64)
  (List.range 4).foldl (fun s k => s.startFill c (4 * g + k)) s

/-- The blank fills at start-up, of 64 regions in groups of 4, and what follows them (R120, R452). -/
def State.startFills (s : State) (c : StartConds) : State :=
  let s : State := { s with thermal := { s.thermal with queue := regionNos } }
  ((List.range 16).foldl (fun s g => s.startGroup c g) s).start5 c

/-- Step 4: settings, repair map, and the blank fill, which a start-up march comes before (R132, R133). -/
def State.start4 (s : State) (c : StartConds) : State :=
  let s := ((s.atStep 4).readSettings c).applySettings.startCan
  let s := s.applyMap (c.repairMapOk && s.intact .repairMap)
  if s.marchSel ∨ s.rd 0x5110 0x01 = 1 then
    { s.startupMarch with startup := { s.startupMarch.startup with march := some c } }
  else s.startFills c

/-- A march command ends; the start that the last start-up march holds goes on (R131, R133). -/
def State.marchEnded (s : State) (q : Nat) (written : Bool) : State :=
  let s := s.marchEnd q written
  match s.startup.march with
  | some c => if s.marchDone then { s with startup := { s.startup with march := none } }.startFills c else s
  | none => s

/-- A sensor reads below −40 °C as the firmware starts (R459). -/
def State.tooCold (s : State) : Bool := (List.range 128).any (fun i => toI32 (s.rd (0x2200 + i) 0x01) < -40000)

/-- The start of the keep store, or the refusal of a cold start (R459). -/
def State.afterFirmware (s : State) (c : StartConds) : State :=
  let s := s.takeReadings c.readings
  if s.tooCold then
    let s := (s.wr 0x2280 0x0A 2).raise 209 clsThermal 0xF0F 1
    { s with startup := { s.startup with coldWait := true } }
  else
    let s := s.wr 0x2280 0x0A 0
    { s with startup := { s.startup with coldWait := false } }.start4 c

/-- The base firmware of slot x starts: every raise that waited is made, that of the reset cause among them (R536); the
device writes its targets of VL, VM and VC (R451). -/
def State.runFirmware (s : State) (c : StartConds) : State :=
  let x := s.activeSlot 0
  let s := { s with startup := { s.startup with firmware := true, running := x } }
  let s := ((List.range 13).foldl (fun s i => s.wr (0x6810 + (80 + i)) 0x01 1) s).wr (0x6810 + 93) 0x01 0
  let running := s.image 0 x
  let s := ((s.wr 0x1000 0x04 running.version).wr 0x8100 0x0E running.mpv).startCan
  let s := (s.wr 0x1008 0x01 (0x60 + s.canIdStrap)).wr 0x6100 0x01 1
  let s := ((s.avsWrite 0 (s.rd 0x2100 0x01)).avsWrite 1 750).avsWrite 2 700
  s.raiseKept.afterFirmware c

/-- The pip loader stays in ROM with CAN FD answering: step 3 has failed, and its cause is raised at the next start
(Table 18-5). -/
def State.stayInRom (s : State) : State :=
  let s := { s with startup := { s.startup with rom := true } }.startCan
  (((s.wr 0x1008 0x01 (0x60 + s.canIdStrap)).wr 0x1100 0x04 0xFE).wr 0x1100 0x07 3).raiseLater 336 0x1201 3

/-- A firmware slot has failed its verification: INVALID, and its cause at the next start that succeeds (R512). -/
def State.firmwareInvalid (s : State) (x : Nat) (low : Bool) : State :=
  (s.setImageSt 0 x imInvalid).raiseLater (imageCause low).1 (imageCause low).2 0

/-- Step 3: the firmware is verified and started (R512). Where it fails, the pip loader starts the other slot if it is
PREVIOUS, and passes (Table 18-5). -/
def State.start3 (s : State) (c : StartConds) : State :=
  let s := s.atStep 3
  let x := s.activeSlot 0
  let y := 1 - x
  let s := s.readImage 0 x
  let res := s.startResult 0 x (c.imageFails.contains 1)
  let s := s.wr 0x2510 0x08 res
  if res = 1 then s.runFirmware c
  else
    let s := s.firmwareInvalid x (res = 0x36)
    if s.imageSt 0 y ≠ imPrevious then s.stayInRom
    else
      let s := s.readImage 0 y
      let res := s.startResult 0 y false
      let s := s.wr 0x2510 0x08 res
      if res = 1 then ((s.wr 0x2510 0x01 y).setImageSt 0 y imActive).runFirmware c
      else (s.firmwareInvalid y (res = 0x36)).stayInRom

/-- A setting that the start uses in step 2: loop references and frequencies, domain orders (R397). -/
def clockKey (k : Nat) : Bool :=
  let idx := k / 256
  let sub := k % 256
  (0x2010 ≤ idx && idx < 0x2018 && 5 ≤ sub && sub ≤ 7) || (0x2040 ≤ idx && idx < 0x2047 && sub = 3)

/-- The saved clock settings are in force as step 2 sets the sources up (R397), from the set that the start works from:
DEDUCED, since Table 18-2 has the persisted set read in step 4 (log entry 197). -/
def State.clockSettings (s : State) (c : StartConds) : State :=
  let set := (s.bootSet c (s.activeSlot 0)).getD {}
  (set.vals.filter (fun x => clockKey x.1)).foldl (fun s x =>
    { s with dict := Sparse.set dfltKey s.dict x.1 x.2 }) s

/-- The device-unique key stands, with the keys derived from it; the slot keys are unwrapped (R498, R501). -/
def State.deriveKeys (s : State) : State :=
  let s := s.setSecurity (fun x => { x with
    duk := true
    derived := [.storage, .slotWrap, .identity] })
  (s.setSecurity (fun x => { x with
    slotKeys := x.keys.filterMap (fun k => (s.unseal k.2).map (fun v => (k.1, v))) })).wr 0x241F 0x01 3

/-- Step 2: the pip loader runs, until the firmware does (DESIGN CHOICE, log entry 207): device-unique key (R498), owner
keys (R500), journal (R519), sources (R430). -/
def State.start2 (s : State) (c : StartConds) : State :=
  let s := (s.atStep 2).wr (0x6810 + 93) 0x01 1
  if !c.pufOk then (s.startSources.raiseLater 234 0x1108 0).stopAt 2
  else
    let s := s.deriveKeys
    if !c.pllOk then s.startSources.stopAt 2
    else
      let s := s.checkOwnerKeys.resolveJournal (c.journalOk && s.intact .journal)
      (s.clockSettings c).startSources.proveStart.start3 c

/-! ### Resets -/

/-- A lead whose partner is TRACKING sends its yield before a device reset (R308). -/
def State.yieldNow (s : State) : State :=
  if s.startup.firmware && s.pairSt = 4 && s.partner = 3 then
    match s.mirrorPort with
    | some p => s.portMsgNow p { op := 0x05 }
    | none => s
  else s

/-- A segmented write ends without its last part: an image slot becomes INVALID, a stream's path ends (R185, R515). -/
def State.breakWrite (s : State) (t : Transfer) : State :=
  if !t.write then s
  else if 0x2510 ≤ t.key / 256 ∧ t.key / 256 < 0x2513 then s.breakImage (t.key / 256 - 0x2510)
  else if t.key = ent 0x4310 0x00 then s.pathEnd (streamSender t.r)
  else s

/-- A transfer ended by the device or by its requester (R412, R419, R424). -/
def State.cutTransfer (s : State) (t : Transfer) (code : Nat) : State := (s.breakWrite t).dropTransfer t code

/-- Transfers aborted together, as by a reset (R419, R424): the segmented ones, the expedited ones that wait for the
design, and a record read that is held. The next access goes to the design when the outcome is settled. -/
def State.abortTransfers (s : State) (p : Requester → Bool) (code : Nat) : State :=
  let s := s.endDesign (fun r => r.any p) code
  let s := (s.transfers.filter (fun t => p t.r)).foldl (fun s t => s.cutTransfer t code) s
  let held := s.heldReqs.filter (fun h => h.who.any p)
  held.foldl (fun s h => match h.who with
    | some r => s.reply r (ent 0x5841 0x00) code
    | none => s) { s with heldReqs := s.heldReqs.filter (fun h => !h.who.any p) }

/-- A save that a reset breaks off is answered where the path survives (R424). -/
def State.breakSave (s : State) : State :=
  match s.security.saving with
  | some (r, _) => match r with
    | .can _ _ => s.reply r (ent 0x1002 0x02) 0x08000060
    | _ => s
  | none => s

/-- A device reset up to the start of its sequence: a load in progress fails, the cause is recorded, planes are zeroised
(R196, R533, R536). -/
def State.deviceClear (s : State) (code : Nat) : State :=
  ((s.yieldNow.breakSave.resetLoad).keptOver false code).noteReset code

/-- A device reset (R533). A device that is held in reset stays in it; one in a tamper wait starts when it ends (R508). -/
def State.deviceReset (s : State) (code : Nat) (c : StartConds) : State :=
  if !s.startup.released then s
  else if s.startup.tamperWait then s.deviceClear code
  else (s.deviceClear code).start2 c

/-- The release of the power-on reset (R529): a tamper wait comes before the firmware (R508). -/
def State.powerOn (s : State) (straps : BitVec 18) (c : StartConds) : State :=
  if s.startup.released then s
  else
    let trip := s.startup.tripped
    let s := s.keptOver true 0
    let s := { s with startup := { s.startup with released := true, tripped := false } }
    let s := if trip then s.raiseLater 204 0xF0A 0 else s
    let s := ((s.noteReset 0).atStep 1).latchStraps straps
    if s.startup.tamperWait then s else s.start2 c

/-- The power-on reset is asserted (R545). -/
def State.powerLost (s : State) : State := s.keptOver true 0

/-- A tamper trip: the response, then a device reset whose start waits (R507, R508). -/
def State.tamper (s : State) (kind : Nat) : State :=
  let s := s.tamperResponse kind
  let s := if s.startup.released then s.deviceClear 5 else s
  { s with startup := { s.startup with tamperWait := true, sinceTamper := 0 } }

/-- The wait of R508 ends. -/
def State.tamperWaitEnd (s : State) (c : StartConds) : State :=
  if !s.startup.tamperWait then s
  else
    let s := { s with startup := { s.startup with tamperWait := false } }
    if s.startup.released then s.start2 c else s

/-- THERMTRIP_N falls: the device is held in reset until the next power-on reset (R464). -/
def State.thermTrip (s : State) : State :=
  let s := { s with startup := { s.startup with tripped := true } }
  let s := s.keptOver true s.startup.cause
  ({ s with thermal := { s.thermal with thermtripN := 0 } }).emit (.pin "THERMTRIP_N" 0)

/-! ### Warm reset (R534) -/

/-- At a warm reset a buffer that holds complete fragments closes with RESULT 2 (Table 11-7). -/
def State.closeWarm (s : State) (e : Nat) : State :=
  let holds : Bool := match (s.engine e).buf with
    | some (_, _, fill) => 0 < fill
    | none => false
  if holds then (s.closeBuffer e 2).engRefresh e else s

/-- The start of a warm reset: engine OFF, regions RESETTING, user kernels restarted. A golden switch that is pending
is withdrawn (DESIGN CHOICE, log entry 227). -/
def State.warmBegin (s : State) (code : Nat) : State :=
  let s := s.requestYield
  let s := { s with startup := { s.startup with warm := true, cause := code } }
  let s := (s.bump 32 0x1102 0x01).bump 32 0x1100 0x03
  let s := s.abortDesign.engineOff
  let e := s.rd 0x4240 0x05
  let s := if e < 16 ∧ s.migOverlap then s.cancelMigration e else s
  let s := regionNos.foldl (fun s n =>
    if [rActive, rHalted, rResetting].contains (s.regState n) then
      let s := s.resetRegion n 0
      s.setRegion n { s.region n with rejoin := none, golden := none }
    else s) s
  let s := (s.requestRearm (fun _ => true)).resetLoad
  let s := s.abortTransfers (fun _ => true) 0x08000060
  let s := { s with heldReqs := s.heldReqs.filter (fun h => h.who.isSome || !(nodeKernel h.packet.src).any (fun k => k < 80)) }
  let s := (List.range 16).foldl (fun s e => s.closeWarm e) s
  s.startKernels.txRefreshAll

/-- The end of a warm reset: the engine enters STOPPED, and the regions rejoin at (XN + D):0 in INIT mode; a pair
half that the lead has reset enters JOINING (R535). -/
def State.warmEnd (s : State) : State :=
  if !s.startup.warm then s
  else
    let code := s.startup.cause
    let s := { s with startup := { s.startup with warm := false } }
    let s := if s.bundle.isSome ∧ s.rd 0x2280 0x0A ≠ 1 ∧ !s.startup.engineDue then s.wr 0x4000 0x00 1 else s
    let w := mkWave (s.xn + s.rd 0x1101 0x02) 0
    let s := regionNos.foldl (fun s n =>
      if s.regState n = rResetting then s.setRegion n { s.region n with rejoin := some w } else s) s
    let s := s.wr 0x1100 0x02 code
    let s := (s.raise 338 clsConfig 0x1203 0 0).raise 337 clsConfig 0x1202 0 code
    let s := if code = 10 then s.enterJoining else s
    s.txRefreshAll

/-- What the outside shows at a start that no command brings (log entry 13). -/
def State.drawConds (s : State) : StartConds × State :=
  (Config.outsideStart s.draws, { s with draws := s.draws + 1 })

/-- A warm reset, performed as a device reset while one runs or before step 9 is done (Table 18-5). -/
def State.warmReset (s : State) (code : Nat) : State :=
  if s.startup.warm ∨ s.startStep ≠ 0xFF then
    let (c, s) := s.drawConds
    s.deviceReset (if code = 8 then 2 else if code = 9 then 3 else code) c
  else s.warmBegin code

/-! ### Activation (R56, R531) -/

/-- A value that a bundle gives an entry. -/
def bundleVal (b : Bundle) (idx sub : Nat) : Nat := (b.vals.lookup (ent idx sub)).getD 0

/-- The bundle's own limits (R1, R24, R200, R250, R253, R283, R291, R328, R332, R385, R420, R548). -/
def bundleLegal (b : Bundle) : Bool :=
  let entry (st : Nat) : Nat := bundleVal b (0x5820 + st / 128) (st % 128 + 1)
  let bits (d : Nat) : Nat := (b.derivedBits.lookup d).getD 0
  b.family = 0x53 && b.member = 0x40 && 10000000 ≤ b.fx && b.fx ≤ 80000000 && 1 ≤ b.S && b.S ≤ 64
    && b.S * b.fx ≤ 1000000000 && 1 ≤ b.L && b.L ≤ 4095
    && (List.range 64).all (fun g =>
      let words := (List.range 8).map (fun p => bundleVal b (0x3000 + g) p)
      words.all (fun w => w = 0 || laneFieldsOk w) && groupRatesOk words)
    && slotMapOk entry (fun k => b.strides.getD k 0) (fun d => bundleVal b 0x5830 (d + 1)) bits
      (fun x y => (bundleLane b x).offset = (bundleLane b y).offset && (bundleLane b x).steps = (bundleLane b y).steps) b.fx
    && b.userEntries.length ≤ 1024 && b.userEntries.all (fun u => isUser (u.key / 256))
    && b.credits.all (fun c => ((b.credits.filter (fun x => x.dest = c.dest)).map Credit.count).foldl (fun x y => x + y) 0
      ≤ (if (nodeKernel c.dest).isSome then 16 else Config.queueDepth c.dest))
    && b.drives.all (fun d => d.1 < 192 && [2, 4, 8, 12].contains d.2)
    && b.routes.all (fun r => routeFormOk r.primary && routeFormOk r.alternate)
    && (match b.flock with
      | none => true
      | some f => flockLegal f (fun p => bundleVal b (0x3400 + p) 0x03) && f.ports.all (fun x =>
          x.mode = 0 || portScheduleOk b.S b.fx (bundleVal b (0x3400 + x.port) 0x01 % 2 ^ 25)
            (bundleVal b (0x3400 + x.port) 0x09)))

/-- The bundle's values take their entries; a persisted value stands for an entry whose default is "Bundle" when the
set was saved under this bundle (R403). The pace table 0x4080+b is one per bundle (DESIGN CHOICE, log entry 218). -/
def State.applyBundle (s : State) (b : Bundle) : State :=
  let set := s.persisted
  let saved : List (Nat × Nat) := if set.bundle = b.id then set.vals.filter (fun c => bundleKey c.1) else []
  let vals := b.vals.filter (fun c => !(bundleKey c.1 && set.bundle = b.id && set.vals ≠ [])) ++ saved
  let s := vals.foldl (fun s c => { s with dict := Sparse.set dfltKey s.dict c.1 c.2 }) s
  let s := ((s.wr 0x4001 0x01 b.fx).wr 0x4001 0x02 b.S).wr 0x4001 0x03 (10 ^ 15 / (b.S * b.fx))
  let s := (s.wr 0x4200 0x01 b.id).wr 0x6005 0x01 b.routeGeneration
  (s.wr 0x4001 0x04 b.L).wr 0x1010 0x01 b.userEntries.length

/-- Selections of probes are cleared by a bundle that does not permit observation: one whose streams do not all have
OBSERVE set, or that has none (R89, R189). -/
def State.clearProbes (s : State) (b : Bundle) : State :=
  if !b.streams.isEmpty && b.streams.all (fun st => (hFlags st).testBit 4) then s
  else { s with dict := Sparse.drop s.dict (fun k => k / 256 = 0x4401 || (0x4410 ≤ k / 256 && k / 256 < 0x4450)) }

/-- The transmit loops of a group relock where an activation has changed the rate of an enabled lane of it (R225). -/
def State.relockChanged (s before : State) : State :=
  (List.range 64).foldl (fun s g =>
    let lanes := (List.range 8).map (fun p => 8 * g + p)
    if before.bundle.isSome && lanes.any (fun l => s.txEn l && before.txRate l ≠ s.txRate l) then
      lanes.foldl (fun s l => s.setTx l { s.txLane l with relock := true }) s
    else s) s

/-- Receive lanes and stack ports that the bundle enables begin to look for a signal (R210, R287). Lanes that the bundle
before enabled too keep their states (DESIGN CHOICE, log entry 188). -/
def State.startLanes (s : State) : State :=
  let s := (List.range 512).foldl (fun s l =>
    if s.mayReceive l then (if s.laneSt l = lOff then s.setLaneSt l lLost else s)
    else if s.laneSt l = lOff then s else s.laneLeave l lOff) s
  portNos.foldl (fun s p =>
    if s.portMode p ≠ 0 ∧ s.portSt p = 0 then s.portTo p pLost
    else if s.portMode p = 0 ∧ s.portSt p ≠ 0 then s.portTo p 0 else s) s.txRefreshAll

/-- The start-up switch is armed once PLL_X is locked, with its mirror's confirmation where the half has one (R165,
R531). -/
def State.armStartup (s : State) : State :=
  let s := { s with startup := { s.startup with switchDue := false } }
  let d := s.rd 0x1101 0x02
  let p := if s.rd 0x1101 0x03 < 8 then some (s.rd 0x1101 0x03)
    else (List.range 8).find? (fun p => s.rd 0x4201 (p + 1) = 1)
  match p, s.freeSlot with
  | some p, some k =>
    let mask := maskOf 64 (fun n => decide (s.planeState n p = 2))
    match (s.fillSlot k mask (mkWave (s.xn + d) 0) p 1).armMirrored k 3 false none with
    | (none, s) => s
    | (some reason, s) => if reason = 0 then s.startArmed k else s.stopAt 8
  | _, _ => s.stopAt 8

/-- A refused bundle: the engine stays OFF, and a start stops at step 8 (R530). -/
def State.refuseBundle (s : State) : State := if s.startStep = 8 then s.stopAt 8 else s

/-- f_x differs from the measured rate by more than 100 ppm (R237). -/
def rateMismatch (fx measured : Nat) : Bool :=
  100 * measured < (if fx < measured then measured - fx else fx - measured) * 1000000

/-- PLL_X is locked with a bundle in force: user kernels start, and then the engine enters STOPPED (Table 18-2, R390);
during a warm reset it does so at its end. -/
def State.engineUp (s : State) : State :=
  let s := { s with startup := { s.startup with engineDue := false } }.startKernels
  if s.startup.warm then s else s.wr 0x4000 0x00 1

/-- A bundle comes into force: values, slot map, flock; PLL_X starts; once it is locked, the kernels start and the engine
enters STOPPED (R56, Table 18-2). -/
def State.bringUp (s : State) (b : Bundle) : State :=
  let again : Bool := decide (s.bundle = some b)
  let was := s
  let s : State := if again then s else (({ s with bundle := some b }.applyBundle b).activateMap b).blankFrames s.crossing
  let s : State := if again then s else ((s.activateFlock b).refreshPermit).relockChanged was
  let s : State := { s.clearProbes b with startup := { s.startup with everActive := true } }
  let s : State := (List.range 94).foldl (fun s k => s.wr (0x6810 + k) 0x07 0) s
  let s : State := s.startLanes.showTag.showMargins
  if s.rd 0x2020 0x01 = 2 then s.engineUp
  else { s.startPllx with startup := { s.startPllx.startup with engineDue := true } }

/-- Activation of the loaded bundle once the crossing source tracks, in OFF or STOPPED (R26, R56, R237, R337, R389,
R460). -/
def State.activateBundle (s : State) (measured : Nat) : State :=
  match s.startup.loaded with
  | none => s
  | some b =>
    if 2 ≤ s.engineSt ∨ s.startup.warm ∨ s.rd 0x2280 0x0A = 1 ∨ (s.startStep ≠ 8 ∧ s.startStep ≠ 0xFF)
      ∨ !s.tracking s.source then s
    else if !bundleLegal b then s.refuseBundle
    else if rateMismatch b.fx measured then (s.raise 190 clsClock 0x70A 1 0).refuseBundle
    else if s.tablesRefused b then (s.raise 168 clsNetwork 0xA06 1 0).refuseBundle
    else if !programsOk b then (s.raise 317 clsKernel 0xC06 1 0).refuseBundle
    else
      let first : Bool := decide (s.startStep = 8)
      let s := s.bringUp b
      if !first then s
      else if s.rd 0x2020 0x01 = 2 then s.armStartup
      else { s with startup := { s.startup with switchDue := true } }

/-- PLL_X locks, and the start-up switch that waited for it is armed (R433, R531). -/
def State.pllxLocked (s : State) (phasePs : Int) (hz : Nat) : State :=
  let s := s.pllxLock phasePs hz
  let s := if s.startup.engineDue ∧ s.rd 0x2020 0x01 = 2 then s.engineUp else s
  if s.startup.switchDue ∧ s.rd 0x2020 0x01 = 2 then s.armStartup else s

/-! ### I/O banks (R548, R549) -/

/-- Nominal VIO of a standard, in mV (Table 19-4). -/
def vioNominal (std : Nat) : Nat := [0, 3300, 2500, 1800, 1500, 1200, 2500, 1200].getD std 0

/-- A measured supply lies within ±5 % of the nominal value. -/
def vioOk (std mv : Nat) : Bool := 95 * vioNominal std ≤ 100 * mv && 100 * mv ≤ 105 * vioNominal std

/-- The supply of a bank is measured. -/
def State.measureVio (s : State) (k mv : Nat) : State :=
  { s with startup := { s.startup with vioSeen := k :: s.startup.vioSeen.filter (fun x => x ≠ k) } }.wr (0x2120 + k) 0x01
    (mv % 65536)

/-- A bank takes the drive that the bundle sets (R532, R548). -/
def State.takeDrive (s : State) (k : Nat) : State :=
  let l : List (Nat × Nat) := match s.bundle with
    | some b => b.drives.filter (fun d => d.1 / 24 = k && s.rd (0x2120 + k) 0x03 < 6)
    | none => []
  l.foldl (fun s d => s.emit (.pinDrive d.1 d.2)) (s.wr (0x2120 + k) 0x02 1)

/-- The banks take the bundle's drive at the start-up switch wave, or stay at high impedance (R532, R549). A bank
that has not been measured yet shows a free value (log entry 38). -/
def State.releaseIo (s : State) : State :=
  (List.range 8).foldl (fun s k =>
    let std := s.rd (0x2120 + k) 0x03
    if std = 0 then s
    else
      let s : State := if !s.startup.vioSeen.contains k then
          let (v, s) := s.draw
          s.measureVio k v
        else s
      if vioOk std (s.rd (0x2120 + k) 0x01) then s.takeDrive k else s.wr (0x2120 + k) 0x02 2) s

/-- VIO leaves the range for more than 10 µs: from the release on, the bank returns to high impedance (R549). -/
def State.vioOut (s : State) (k mv : Nat) : State :=
  let s := s.measureVio k mv
  if s.rd (0x2120 + k) 0x02 = 1 ∧ !vioOk (s.rd (0x2120 + k) 0x03) (mv % 65536) then s.wr (0x2120 + k) 0x02 2 else s

/-- VIO has been back in range for 1 ms (R549). -/
def State.vioBack (s : State) (k mv : Nat) : State :=
  let s := s.measureVio k mv
  if s.rd (0x2120 + k) 0x02 = 2 ∧ vioOk (s.rd (0x2120 + k) 0x03) (mv % 65536) then s.takeDrive k else s

/-- Step 9: the start-up switch is made (R529, R532). -/
def State.startDone (s : State) : State :=
  if s.startStep = 9 then
    (s.releaseIo.wr 0x1100 0x04 0xFF).wr 0x1100 0x05 ((s.startup.before + s.now) / 1000 % 2 ^ 32)
  else s

end Sys2Proof.Machine
end

