-- ==== Sys2Proof/Machine/WaveCore.lean ====
section
/-! DEFINITION. WaveCore.lean: crossings, waves, release points and probes (R25 to R43, R87 to R92, R150, R162), and
the states of the wave engine (R55 to R57). -/

namespace Sys2Proof.Machine

/-! ### Release registers, by number (log entry 25) -/

abbrev relDict : Nat := 600
abbrev relCap : Nat := 601
/-- Pin m of bank k is register 640 + 24 k + m. -/
abbrev relPins : Nat := 640

/-- The region to whose feed a release register belongs: a transmit lane's (R16), a stack port's (R17), region 0 for
the dictionary and configuration access ports (R181, R421); none where Dellarin places it freely. -/
def releaseHome (id : Nat) : Option Nat :=
  if id < 512 then some (id / 8)
  else if id < 520 then some (9 * (id - 512))
  else if id = relDict ∨ id = relCap then some 0
  else none

/-- The release registers of region n's design: those to which the last wave was delivered, as its plane then had them
(R38, R149), and those of its plane now. -/
def State.designReleases (s : State) (n : Nat) : List ReleaseCfg :=
  let fed := (s.delivered.filter (fun d => d.region = n)).map (fun d => d.cfg)
  fed ++ (s.driveNet n).releases.filter (fun r => !fed.any (fun q => q.id = r.id))

/-- The release registers of region n: those of its design (R38), of its transmit lanes (R16) and of its stack port
(R17). -/
def State.releasesOf (s : State) (n : Nat) : List ReleaseCfg :=
  let own := (s.designReleases n).filter (fun r => (releaseHome r.id).all (fun m => m = n))
  let lanes := ((List.range 8).map (fun i => 8 * n + i)).filter (fun l => s.isReleaseLane l)
  let ports := if n % 9 = 0 ∧ s.portMode (n / 9) ≠ 0 then [portPoint (n / 9)] else []
  let fixed := (lanes ++ ports).filter (fun id => !own.any (fun r => r.id = id))
  own ++ fixed.map (fun id => { id := id })

/-- The region in which a release register stands, by the designs as they are (R16, R17, R41). -/
def State.releaseRegion (s : State) (id : Nat) : Option Nat :=
  match releaseHome id with
  | some n => some n
  | none => regionNos.find? (fun n => (s.releasesOf n).any (fun r => r.id = id))

/-- Continuous index of the start wave of the last run (0x4003:04, R102). -/
def State.startIdx (s : State) : Nat := (s.runEra * 2 ^ 48 + s.rd 0x4003 0x04) * s.S

/-- The flags and data that a release register emits at the wave whose index is v (R30, R38 to R40, R55, R58, R150); the
data of a void token that the register makes itself are 0, late or not (DESIGN CHOICE, log entry 179):
void where its region, or a region that feeds it, was not ACTIVE for the wave whose result is due. The data of a void
token that is not late are those with which it was made. -/
def State.emitted (s : State) (late : List Nat) (n : Nat) (r : ReleaseCfg) : Bool × Bool × Nat :=
  let v := s.waveIdx
  let initHold : Bool := r.fed.any (fun m => match (s.region m).initWave with
    | some w => decide (w ≤ v) && decide (v < w + s.L)
    | none => false)
  if !s.inRun || !(n :: r.fed).all (fun m => (s.region m).wasActive) then (true, false, 0)
  else if late.contains r.id then (true, true, 0)
  else if v < s.startIdx + s.L || initHold then (true, false, 0)
  else
    match s.delivered.find? (fun d => d.cfg.id = r.id && d.region = n) with
    | some d => (d.tok.void, false, d.tok.data)
    | none => (true, false, 0)

/-- The entry of a derived stream for the current step (R253, R254). -/
def State.derivedPush (s : State) (st : Nat) (e : Bool × Bool × Nat) : State :=
  let l := s.derivedEntries st s.crossing
  let l := (l ++ List.replicate (s.stepNo - l.length) (voidEntry st)).take s.stepNo ++ [e]
  { s with derived := Sparse.set (fun _ => []) s.derived (derivedKey st s.crossing) l }

/-- The standard of a bank is a single-ended one (Table 19-4). -/
def isLvcmos (std : Nat) : Bool := 1 ≤ std && std ≤ 5

/-- The pin is one of the 17 that carry the probe outputs while pins are a probe destination (R90). -/
def State.isProbePin (s : State) (i : Nat) : Bool :=
  s.rdBit 0x4400 0x04 0 && i / 24 = 7 && Config.probePins.contains (i % 24)

/-- A pin of a bank takes a level. Under a differential standard, pins 2m and 2m + 1 are a pair (R548), which the release
register of pin 2m drives (DESIGN CHOICE, log entry 216). -/
def State.emitPin (s : State) (i v : Nat) : State :=
  let name (i : Nat) := "IOB" ++ toString (i / 24) ++ "." ++ toString (i % 24)
  if s.rd (0x2120 + i / 24) 0x03 < 6 then s.emit (.pin (name i) v)
  else if i % 2 = 0 then (s.emit (.pin (name i) v)).emit (.pin (name (i + 1)) (1 - v))
  else s

/-- A pin of a bank that drives takes a level (R43, R549); the probe pins are no user I/O while they are selected
(R90). Pins hold their levels while domain IO is stopped (R444): the level of a wave then is not driven later (DESIGN
CHOICE, log entry 209). -/
def State.drivePin (s : State) (i : Nat) (r : ReleaseCfg) (void : Bool) (data : Nat) : State :=
  if s.rd (0x2120 + i / 24) 0x02 ≠ 1 ∨ s.isProbePin i ∨ s.domWaits 5 then s
  else
    let s := s.work 5 0
    if !void then s.emitPin i (data % 2)
    else
      match r.pinHusk with
      | .holdLast => s
      | .zero => s.emitPin i 0
      | .one => s.emitPin i 1

/-- A word that the design sends to the dictionary port (R421, Table 13-12): a message is complete with its last
value word. -/
def State.portWordIn (s : State) (data : Nat) : State :=
  let word : Word64 := BitVec.ofNat 64 data
  let nw (h : Word64) : Nat := (h.extractLsb' 48 8).toNat
  let m : Option (Bool × Word64 × List Word64) :=
    if data.testBit 65 then some (data.testBit 64, word, [])
    else s.portIn.map (fun x => (x.1, x.2.1, x.2.2 ++ [word]))
  match m with
  | none => s
  | some x =>
    if nw x.2.1 ≤ x.2.2.length then { s with portIn := none, portMsgs := s.portMsgs ++ [x] }
    else { s with portIn := some x }

/-- One release register emits its token (R38 to R40) and the output behind it acts on it (R43). -/
def State.releaseOne (s : State) (late : List Nat) (n : Nat) (r : ReleaseCfg) : State :=
  let (void, lt, data) := s.emitted late n r
  let wtag := (s.waveIdx + 255) % 256
  let id := r.id
  let s := s.emit (.release id wtag void lt data)
  if id < 512 then s.txRelease id wtag void lt data
  else if id < 520 then s.portRelease (id - 512) wtag void lt data
  else if id < 584 then s.derivedPush (512 + (id - 520)) (void, lt, data)
  else if id < 600 then
    s.readoutToken (id - 584) ((s.waveIdx - s.L) / max s.S 1 % 2 ^ 48) void lt data
  else if id = relDict then (if void then s else s.portWordIn data)
  else if id = relCap then (if void then s else s.capWord (BitVec.ofNat 64 data) (data.testBit 64))
  else if relPins ≤ id ∧ id < relPins + 192 then s.drivePin (id - relPins) r void data
  else s

/-- The crossing of the wave before the current one, whose result is due at the current boundary (R39, R40). -/
def State.dueXn (s : State) : Nat := if s.stepNo = 0 then (s.xn + 2 ^ 48 - 1) % 2 ^ 48 else s.xn

/-- Late tokens of region n in this wave, counted and raised once for a run of late waves (R40, R41, R65). -/
def State.countLate (s : State) (n k : Nat) : State :=
  if k = 0 then s.setRegion n { s.region n with lateRun := false }
  else
    let run := (s.region n).lateRun
    let s := ((s.bumpBy 32 (0x4040 + n) 0x06 k).wr (0x4040 + n) 0x07 s.dueXn).bumpBy 64 0x4006 0x01 k
    let s := s.setRegion n { s.region n with lateRun := true }
    if run then s else s.raise (64 + n) clsPace 0x201 1

/-- The release point of the current wave, in every region (R38 to R43). -/
def State.releasePoint (s : State) (late : List Nat) : State :=
  regionNos.foldl (fun s n =>
    let rs := s.releasesOf n
    let k := (rs.filter (fun r => (s.emitted late n r).2.1)).length
    (rs.foldl (fun s r => s.releaseOne late n r) s).countLate n k) s

/-! ### Injection (R27, R33, R55, R182, R238, R286, R421) -/

/-- The port tokens of a wave; a receiver that is OFF injects V = 1 (Table 9-3). -/
def State.portToks (s : State) (run : Bool) : List (Nat × Tok) × State :=
  portNos.foldl (fun (acc, s) p =>
    if s.portMode p = 0 then (acc ++ [(portPoint p, s.portVoid p)], s)
    else if !run then (acc ++ [(portPoint p, s.portVoid p)], s.portPass p)
    else
      let (t, s) := s.portTok p
      (acc ++ [(portPoint p, t)], s)) ([], s)

/-- The dictionary port's token: the next word for the design, void when there is none (Table 13-11). -/
def State.dictTok (s : State) : Tok × State :=
  match s.portOut with
  | [] => ({}, s)
  | (head, dir, w) :: rest =>
    if !s.isActive 0 then ({}, s)
    else ({ data := w.toNat + (if dir then 2 ^ 64 else 0) + (if head then 2 ^ 65 else 0), void := false },
      { s with portOut := rest }.emit (.portToken head dir w))

/-- The timing-port token of region 0 (R238). -/
def State.timingTok (s : State) : Tok := { data := s.rd 0x3300 0x0C % 2 ^ 56, void := !s.timingNew }

/-- All tokens of the current wave. Lane and port tokens carry data from the start wave up to the stop wave. -/
def State.injection (s : State) : List (Nat × Tok) × State :=
  let run : Bool := s.engineSt = 2 || s.engineSt = 3
  let lanes := (List.range 512).map (fun l => (l, if run && s.rxEn l then s.laneToken l else s.emptyToken l))
  let (ports, s) := s.portToks run
  let (cap, s) := s.capToken
  let (dict, s) := s.dictTok
  let tim := s.timingTok
  (lanes ++ ports ++ s.readTokens ++ [(creditPoint, cap), (dictPoint, dict), (timingPoint, tim)],
    { s with timingNew := false })

/-! ### Backlog (R42) -/

/-- Region n accepts a waves of those its injection points hold, the one just injected among them. A point that
would hold more than the limit raises the cause, whose default reaction halts the region at every level (Table 2-13,
R483; log entry 132). -/
def State.backlog (s : State) (n a : Nat) : State :=
  if !s.isActive n then s
  else
    let held := (s.region n).held + 1 - a
    let limit := s.rd 0x4007 0x00
    let s := s.setRegion n { s.region n with held := held }
    if held ≤ limit then s
    else
      ((s.raise (64 + n) clsPace 0x203 2).haltRegion n (64 + n)).bump 32 0x4006 0x04

/-! ### Probes (R87 to R92) -/

/-- The selected signal of channel ch of region n (Table 3-6): void flag and data. -/
def State.probeSig (s : State) (inj : List (Nat × Tok)) (n ch : Nat) : Bool × Bool :=
  let v := s.rd (0x4410 + n) (ch + 1)
  let tile := v / 16 % 64 * 64 + v / 1024 % 64
  let c := v % 16
  if !v.testBit 31 || !s.isActive n then (true, false)
  else
    let sig := v / 2 ^ 29 % 4
    let b := s.sig inj n tile (if sig = 1 then .cell c .q0 else if sig = 2 then .cell c .q1 else .cell c .f)
    if sig = 3 then (false, b.v) else (b.v, b.d)

/-- Region and channel of a top output (0x4401:k+1), if it is enabled. -/
def State.topOutput (s : State) (k : Nat) : Option (Nat × Nat) :=
  let v := s.rd 0x4401 (k + 1)
  if v.testBit 15 then some (v / 256 % 64, v % 64) else none

/-- What the 32 top outputs select in the current wave. -/
def State.probeCapture (s : State) (inj : List (Nat × Tok)) : List (Bool × Bool) :=
  (List.range 32).map (fun k => match s.topOutput k with
    | some (n, c) => s.probeSig inj n c
    | none => (true, false))

/-- The probe tokens emitted at the current wave, as (V, LATE, data): those captured Lp waves before (R88). Late are, and
count, only those of the top outputs that are enabled (DESIGN CHOICE, log entry 183). -/
def State.probeEmitted (s : State) (late : List Nat) : List (Bool × Bool × Bool) :=
  let old := s.probePipe.getD (s.rd 0x4400 0x02) (List.replicate 32 (true, false))
  (List.range 32).map (fun k =>
    let (v, d) := old.getD k (true, false)
    let live : Bool := match s.topOutput k with
      | some (n, _) => s.isActive n
      | none => false
    if !live then (true, false, false)
    else if late.contains k then (true, true, false)
    else (v, false, d && !v))

/-- A data block of the probe lanes, with the user-control block before every 4,095 of them (R91): what is counted are
these two kinds of block, not the markers or idle blocks of the lane (DESIGN CHOICE, log entry 182). -/
def State.probeBlock (s : State) (first : Nat) (blocks : List (Nat × Word64)) : State :=
  let uc := s.probeBlocks % 4096 = 4095
  let s := if uc then
      blocks.foldl (fun s b => s.txBlock b.1 0b10 (BitVec.ofNat 64 (first % 2 ^ 54 * 256 + 0x66)))
        { s with probeBlocks := s.probeBlocks + 1 }
    else s
  blocks.foldl (fun s b => s.txBlock b.1 0b01 b.2) { s with probeBlocks := (s.probeBlocks + 1) % 4096 }

/-- The active context drives none of the selected probe lanes (R91): one activated since the write of 0x4400:05 or :06
may, and then no probe block is sent (DEDUCED, log entry 190). -/
def State.probeLanesFree (s : State) : Bool :=
  !s.isReleaseLane (s.rd 0x4400 0x05) && !(s.rd 0x4400 0x06 < 512 && s.isReleaseLane (s.rd 0x4400 0x06))

/-- The probe outputs of a wave on the probe lanes (R91). -/
def State.probeLanes (s : State) (value : Nat) : State :=
  let a := s.rd 0x4400 0x05
  let b := s.rd 0x4400 0x06
  let w := s.xn * s.S + s.stepNo
  let m := if b < 512 then 4 else 2
  let held := if w % m = 0 then [value] else s.probeHeld ++ [value]
  let s : State := { s with probeHeld := held }
  if w % m = m - 1 ∧ held.length = m then
    let first := w + 1 - m
    if b < 512 then
      let half (sh : Nat) : Word64 := BitVec.ofNat 64
        (held.zipIdx.foldl (fun acc x => acc + x.1 / 2 ^ sh % 2 ^ 16 * 2 ^ (16 * x.2)) 0)
      s.probeBlock first [(a, half 0), (b, half 16)]
    else s.probeBlock first [(a, BitVec.ofNat 64 (held.getD 0 0 + held.getD 1 0 * 2 ^ 32))]
  else s

/-- The probe pins take new levels (R90). -/
def State.drivePins (s : State) (value : Nat) : State :=
  let s : State := { s.work 5 2 with probePins := value }
  if s.rd 0x2127 0x02 = 1 ∧ isLvcmos (s.rd 0x2127 0x03) then
    let even := maskOf 16 (fun k => value.testBit (2 * k))
    let odd := maskOf 16 (fun k => value.testBit (2 * k + 1))
    (((s.emit (.pin "PRB_STB" 1)).emit (.pin "PRB" even)).emit (.pin "PRB_STB" 0)).emit (.pin "PRB" odd)
  else s

/-- The probe pins of a wave whose index is a multiple of the decimation (R90). They hold their levels, and their
updates wait, while domain IO is stopped (R444). -/
def State.probePinUpdate (s : State) (value : Nat) : State :=
  let w := s.xn * s.S + s.stepNo
  if w % max (s.rd 0x4400 0x03) 1 ≠ 0 then s
  else if s.domSt 5 ≠ 1 then { s with pinsHeld := s.pinsHeld ++ [value] }
  else s.drivePins value

/-- The updates that waited are made, in order. -/
def State.pinsRelease (s : State) : State :=
  if s.domSt 5 ≠ 1 then s else s.pinsHeld.foldl (fun s v => s.drivePins v) { s with pinsHeld := [] }

/-- The probe registers of the current wave (R88, R90 to R92, R254). -/
def State.probeEmit (s : State) (late : List Nat) : State :=
  let l := s.probeEmitted late
  let at_ (k : Nat) : Bool × Bool × Bool := l.getD k (true, false, false)
  let lates := (l.filter (fun x => x.2.1)).length
  let data := maskOf 32 (fun k => (at_ k).2.2)
  let vs := maskOf 32 (fun k => (at_ k).1)
  let lts := maskOf 32 (fun k => (at_ k).2.1)
  let s := s.bumpBy 32 0x4400 0x07 lates
  let dest := s.rd 0x4400 0x04
  let s := if dest.testBit 0 then s.probePinUpdate data else s
  let s : State := if dest.testBit 1 ∧ s.probeLanesFree then s.probeLanes data else { s with probeHeld := [] }
  if dest.testBit 2 then
    s.derivedPush probeStream (vs = 2 ^ 32 - 1, lts ≠ 0, data + vs * 2 ^ 32 + lts * 2 ^ 64)
  else s

/-! ### The wave -/

/-- The longest run of waves that some region holds, or held when it left ACTIVE in this command. -/
def State.mostHeld (s : State) : Nat :=
  let left := s.collector.actions.map (fun a => match a with
    | .replay _ k => k
    | _ => 0)
  (left ++ regionNos.map (fun n => (s.region n).held)).foldl max 0

/-- What the fabric does in one wave (R31, R35, R36, R104): results, held signals, scheduled accesses, registers and the
probe values, all from the state before the wave. -/
def State.fabricWave (s : State) (inj : List (Nat × Tok)) (overruns : List Nat) : State :=
  let t := ((s.rememberHusks inj).runAccesses inj overruns s.waveIdx).storeRegs (s.nextRegs inj)
  { t with
    delivered := s.deliveries inj
    probePipe := (s.probeCapture inj :: t.probePipe).take 65 }

/-- A wave for the log: what it ran under and what it found. -/
def State.waveSnap (s : State) (inj : List (Nat × Tok)) (overruns : List Nat) : WaveSnap where
  inj := inj
  overruns := overruns
  draws := s.draws
  dict := s.dict
  regions := s.regions
  planes := s.planes
  latched := s.latched
  migReverting := s.migReverting
  migOverlap := s.migOverlap
  migHalted := s.migHalted
  before := s.fabMem

/-- The wave through the fabric, while the engine runs (R31, R35, R36, R85, R104, R162): contention, results, scheduled
accesses, probes, and the waves that each region accepts. -/
def State.runFabric (s : State) (w : WaveIn) (inj : List (Nat × Tok)) : State :=
  let s := s.contended.foldl (fun s id => s.latchSpan id) s
  let snap := s.waveSnap inj w.overruns
  let was := regionNos.filter (fun n => s.isActive n)
  let s := s.fabricWave inj w.overruns
  let s : State := { s with waveLog := { snap with after := s.fabMem } :: s.waveLog }
  let s := s.probeEmit w.probeLate
  let s := s.bumpBy 64 0x4240 0x07 w.oldTokens
  let s := regionNos.foldl (fun s n => s.setRegion n { s.region n with wasActive := was.contains n }) s
  let s := was.foldl (fun s n => s.backlog n ((w.accepted.lookup n).getD 1)) s
  { s with waveLog := s.waveLog.take s.mostHeld }

/-! ### Waves that a region held when it left ACTIVE (R145) -/

/-- The fabric as a wave of the log found it, on the memories given. -/
def State.viewAt (s : State) (w : WaveSnap) (m : FabMem) : State :=
  { s.withFabMem m with
    draws := w.draws
    dict := w.dict
    regions := w.regions
    planes := w.planes
    latched := w.latched
    migReverting := w.migReverting
    migOverlap := w.migOverlap
    migHalted := w.migHalted }

/-- Region n, where it is ACTIVE, held behind the husk of its plane. -/
def State.huskIn (s : State) (n : Nat) : State :=
  if s.isActive n then
    (s.setRegion n { s.region n with huskPlane := some (s.activePlane n) }).setRegState n rHalted
  else s

/-- One wave of the log run again without region n, after the one before it has been: last is that one as it was before
and what it is now. What changed between two waves stays changed (log entry 133). -/
def State.replayWave (s : State) (n : Nat) (last : Option (FabMem × State)) (w : WaveSnap) : State × WaveSnap :=
  let m := match last with
    | some (was, t) => was.carry w.before t.fabMem
    | none => w.before
  let inj := match last with
    | some (_, t) => w.inj.filter (fun x => x.1 < 1024) ++ t.readTokens
    | none => w.inj
  let pipe := match last with
    | some (_, t) => t.probePipe
    | none => s.probePipe
  let v : State := { (s.viewAt w m).huskIn n with probePipe := pipe }
  let t := v.fabricWave inj w.overruns
  (t, { w with inj := inj, dict := v.dict, regions := v.regions, before := m, after := t.fabMem })

/-- Waves of the log, oldest first, run again without region n: the last of them as it was and as it is now, and all of
them, newest first. -/
def State.replayWaves (s : State) (n : Nat) (l : List WaveSnap) : Option (FabMem × State) × List WaveSnap :=
  l.foldl (fun acc w =>
    let r := s.replayWave n acc.1 w
    (some (w.after, r.1), r.2 :: acc.2)) (none, [])

/-- Region n has left ACTIVE with its last k waves held: the regions that run take its husk's tokens in them (R145). What
those waves counted and raised stands; the registers, held signals, bank bytes, queue states, results and probe
values are those of the waves run again. -/
def State.replayHeld (s : State) (n k : Nat) : State :=
  let (last, log) := ({ s with probePipe := s.probePipe.drop k }).replayWaves n (s.waveLog.take k).reverse
  match last with
  | none => s
  | some (was, t) =>
    { s.withFabMem (was.carry s.fabMem t.fabMem) with
      delivered := t.delivered
      readTokens := t.readTokens
      probePipe := t.probePipe
      waveLog := log ++ s.waveLog.drop k }

/-! ### Step boundaries -/

/-- A step boundary (R25, R27): the release point, and while the engine runs the wave that is injected. In OFF there
are no waves, and after the last step of a crossing the next boundary is the next crossing's. -/
def State.injectWave (s : State) (w : WaveIn) : State :=
  if s.engineSt = 0 ∨ (!s.waveDue ∧ s.S ≤ s.stepNo + 1) then s
  else
    let s : State := if s.waveDue then { s with waveDue := false } else s.wr 0x4002 0x02 (s.stepNo + 1)
    let s := s.showTag
    let s := s.releasePoint w.late
    let s : State := if s.inRun then
        let (inj, s) := s.injection
        let s := (List.range 512).foldl (fun s l => s.dropInjected l) s
        s.runFabric w inj
      else
        portNos.foldl (fun s p => if s.portMode p = 0 then s else s.portPass p)
          { s with delivered := [], readTokens := [], probePipe := [], waveLog := [] }
    w.fill.foldl (fun s x =>
      if x.1 < 512 then s.txFill x.1 x.2 else if x.1 < 520 then s.portFill (x.1 - 512) x.2 else s) s

/-- A token that comes to a release register after its release point is discarded and counted (R41): its tag is
earlier than the one due at the next boundary. -/
def State.discardLate (s : State) (id wtag : Nat) : State :=
  match s.releaseRegion id with
  | some n =>
    if serialLater 8 wtag ((s.nextWaveIdx + 255) % 256) then s.bump 32 (0x4040 + n) 0x06 else s
  | none => s

/-- A block missed its input deadline (R45): counted for its lane and in all, with the note on its group, whose DETAIL is
the lane's number (DESIGN CHOICE, log entry 181). -/
def State.deadlineMissed (s : State) (l j : Nat) : State :=
  if s.engineSt = 2 ∨ s.engineSt = 3 then
    let x := s.lane l
    let s := s.setLane l { x with deskew := x.deskew.filter (fun b => !(b.c = s.dueCrossing l && b.j = j)) }
    ((s.bumpSat 64 (0x3100 + l) 0x10 1).bump 64 0x4006 0x03).raise (l / 8) clsLane 0x204 0 l
  else s

/-! ### Crossings (R25) -/

/-- The phase error of PLL_X at a crossing edge (R447): what the device measures against the edge, as a free value.
Log entry 230. -/
def State.showPhase (s : State) : State :=
  if s.rd 0x2020 0x01 = 0 then s
  else s.wr 0x2020 0x02 (Config.outsideValue (ent 0x2020 0x02) s.now % 2 ^ 32)

/-- XN, the era counter and the step number at a crossing edge, from those before it; what is due once in each
crossing is due again. -/
def State.nextXn (s : State) (xn era : Nat) : State :=
  let s := if xn + 1 < 2 ^ 48 then s.wr 0x4002 0x01 (xn + 1)
    else (s.wr 0x4002 0x01 0).wr 0x4002 0x03 ((era + 1) % 65536)
  let s := (s.wr 0x4002 0x02 0).showTag.showPhase
  { s with
    waveDue := true
    rearmDue := s.rearmDue ++ s.rearm
    rearm := []
    collector := { s.collector with onceC := [] }
    derived := Sparse.drop s.derived (fun k => k / 1024 + slotWindow < s.crossing) }

/-- What the lanes, the ports, the pair and the kernels do at a crossing edge. -/
def State.crossingUnits (s : State) : State :=
  let s := if s.source = 3 then s.bump 64 0x3300 0x09 else s
  let s := (List.range 512).foldl (fun s l => s.txCrossing l) s
  s.openPorts.tickKernels

/-- The crossing edge: the next crossing opens at step 0. -/
def State.openXn (s : State) : State :=
  let s := ((s.pairBoundary s.xn s.era).nextXn s.xn s.era).crossingUnits
  s.blankFrames s.crossing

/-- A latched span is rearmed at the first wave of a crossing (R86). -/
def State.rearmSpan (s : State) (id : Nat) : State :=
  if s.rearmDue.contains id ∧ s.waveDue then
    { s with
      latched := s.latched.filter (fun x => x ≠ id)
      latchXn := Sparse.set (fun _ => 0) s.latchXn id 0
      rearmDue := s.rearmDue.filter (fun x => x ≠ id) }
  else s

/-! ### The wave engine (R55 to R57, R295, R303) -/

/-- Continuous index of the stop wave of the run, from 0x4003:05. -/
def State.stopIdx (s : State) : Nat := s.idxOf (mkWave (s.rd 0x4003 0x05) 0)

/-- The device may command the run: the unpaired bellwether or the lead half of its flock, or no flock (R295). -/
def State.mayRun (s : State) : Bool := s.flock.isNone || s.isBellwether

/-- Every expected member is ALIGNED, or a partial start is allowed (R295). -/
def State.flockReady (s : State) : Bool := s.flock.isNone || s.rd 0x8000 0x01 = 2 || s.rd 0x8000 0x08 = 1

/-- Run command 1 (R57). -/
def State.runStartCommand (s : State) : Nat × State :=
  let w := mkWave (s.rd 0x4003 0x02) 0
  if !laterByCrossings 1024 s.wave w then refuse abortValue s
  else if s.engineSt = 4 ∧ s.idxOf w < s.stopIdx + s.L then refuse abortValue s
  else if !s.mayRun ∨ !s.flockReady ∨ s.startPending ∨ !(s.engineSt = 1 || s.engineSt = 4) then refuse abortState s
  else done ({ s with startPending := true }.vcLeave.sendOwnRun)

/-- Run command 2 (R57). -/
def State.runStopCommand (s : State) : Nat × State :=
  let w := mkWave (s.rd 0x4003 0x03) 0
  if !laterByCrossings 1024 s.wave w then refuse abortValue s
  else if s.startPending ∧ !waveLater (mkWave (s.rd 0x4003 0x02) 0) w then refuse abortValue s
  else if !s.mayRun ∨ s.stopPending ∨ s.engineSt = 0 ∨ ((s.engineSt = 1 ∨ s.engineSt = 4) ∧ !s.startPending) then
    refuse abortState s
  else done ({ s with stopPending := true }.sendOwnRun)

/-- Run command 3 (R57): the pending stop, else the pending start, provided its wave has not been reached. -/
def State.runCancelCommand (s : State) : Nat × State :=
  if !s.mayRun then refuse abortState s
  else if s.stopPending then done { s with stopPending := false }
  else if s.startPending then done { s with startPending := false }
  else refuse abortState s

/-- The run boundary, at the start wave; VC has returned before it (Table 15-4): the return that the start command began has
ended by then (DESIGN CHOICE, log entry 186) (R35, R55, R56, R102, R103, R396). -/
def State.runBoundary (s : State) : State :=
  if s.startPending ∧ s.engineSt = 1 ∧ s.nextWave = mkWave (s.rd 0x4003 0x02) 0 then
    let s := s.vcLeave.vcReturned
    let s := s.rwr.foldl (fun s c => (s.wr (c.1 / 256) (c.1 % 256) c.2).nextGeneration) s
    let s := (List.range 512).foldl (fun s l =>
      if (s.lane l).marginSet then s.setLane l { s.lane l with marginSet := false } else s) s
    let s : State := { s with
      rwr := []
      startPending := false
      runEra := s.nextWaveIdx / s.S / 2 ^ 48
      delivered := []
      readTokens := []
      probePipe := []
      probeHeld := []
      waveLog := [] }
    let s := (s.wr 0x4000 0x00 2).wr 0x4003 0x04 (s.rd 0x4003 0x02 % 2 ^ 48)
    regionNos.foldl (fun s n =>
      let s := (s.initRegs n).resetQueues n
      s.setRegion n { s.region n with
        held := 0
        lateRun := false
        wasActive := false
        initWave := none }) s
  else s

/-- PRIMING ends at wave S0 + L. -/
def State.primingEnd (s : State) : State :=
  if s.engineSt = 2 ∧ s.nextWaveIdx = s.startIdx + s.L then s.wr 0x4000 0x00 3 else s

/-- The stop wave E. -/
def State.stopWave (s : State) : State :=
  if s.stopPending ∧ (s.engineSt = 2 ∨ s.engineSt = 3) ∧ s.nextWave = mkWave (s.rd 0x4003 0x03) 0 then
    ({ s with stopPending := false }.wr 0x4000 0x00 4).wr 0x4003 0x05 (s.rd 0x4003 0x03 % 2 ^ 48)
  else s

/-- DRAINING ends at wave E + L; an input that a run has not adopted is adopted in STOPPED as it is (R234). -/
def State.drainEnd (s : State) : State :=
  if s.engineSt = 4 ∧ s.nextWaveIdx = s.stopIdx + s.L then (s.wr 0x4000 0x00 1).checkSource false else s

end Sys2Proof.Machine
end

