-- ==== Sys2Proof/Machine/ConfigCore.lean ====
section
/-! DEFINITION. ConfigCore.lean: signals at lanes, ports and timing inputs (R210, R232, R287), the configuration words
of lanes and ports (R240, R319), the values that entries accept beyond their plain range (R398), and what writing them
does. -/

namespace Sys2Proof.Machine

/-! ### Signal, training and lock -/

/-- The taps that standard mode does not have hold 0 (R201, Table 12-10). -/
def State.clearTaps (s : State) (l : Nat) : State :=
  if (s.laneCfg l).testBit 61 then s
  else s.wr (0x3100 + l) 0x15 (stdTaps (s.rd (0x3100 + l) 0x15))

/-- Lane l enters TRAINING: a retrain after the first time (R210, R242). -/
def State.laneTrain (s : State) (l : Nat) : State :=
  let s := (s.laneLeave l lTraining).clearTaps l
  let s := if (s.lane l).trained then s.bumpSat 32 (0x3100 + l) 0x05 1 else s
  s.setLane l { s.lane l with trained := true, estBlocks := 0, errAt := [] }

/-- The number of a receiver: lanes are 0 to 511, stack ports 512 to 519, TIMA 520 and TIMB 521. In a stop of domain
LREF that has lasted longer than 1 µs none trains again before the restart (R444). -/
def State.signalDetected (s : State) (r : Nat) : State :=
  if (s.dom 1).lost then s
  else if r < 512 then
    if s.mayReceive r ∧ (s.laneSt r = lOff ∨ s.laneSt r = lLost) then s.laneTrain r else s
  else if r < 520 then
    let p := r - 512
    if s.portMode p ≠ 0 ∧ (s.portSt p = 0 ∨ s.portSt p = pLost) then s.portRestart p 1 else s
  else if s.timSt (r - 520) = 0 ∧ s.timRateOk then s.wr 0x3300 (0x03 + (r - 520)) 1
  else s

/-- The signal of a receiver is lost. -/
def State.signalLost (s : State) (r : Nat) : State :=
  if r < 512 then
    if s.laneSt r ≠ lOff ∧ s.laneSt r ≠ lLost then (s.laneLost r lLost).afterLane else s
  else if r < 520 then
    let p := r - 512
    if s.portSt p ≠ 0 ∧ s.portSt p ≠ pLost then s.portRestart p pLost else s
  else if s.timSt (r - 520) ≠ 0 then s.timingLost (r - 520)
  else s

/-- Clock recovery and the equaliser have converged. -/
def State.trainingDone (s : State) (r : Nat) : State :=
  if r < 512 then (if s.laneSt r = lTraining then s.enterLocking r else s)
  else if r < 520 then (if s.portSt (r - 512) = 1 then s.portRestart (r - 512) 2 else s)
  else s

/-- Block lock: on all 16 lanes of a port. A timing input enters QUALIFYING. -/
def State.blockLock (s : State) (r : Nat) : State :=
  if r < 512 then (if s.laneSt r = lLocking then s.laneLocked r else s)
  else if r < 520 then (if s.portSt (r - 512) = 2 then s.portAligning (r - 512) else s)
  else if s.timSt (r - 520) = 1 then s.timingLocked (r - 520)
  else s

/-- Loss of lock: 16 invalid headers among 64 blocks. -/
def State.lossOfLock (s : State) (r : Nat) : State :=
  if r < 512 then
    if s.seesBlocks r then (s.laneLockLost r).afterLane else s
  else if r < 520 then
    let p := r - 512
    if pAligning ≤ s.portSt p ∧ s.portSt p ≤ pStranger then s.portLockLost p else s
  else if s.timSt (r - 520) ≠ 0 then s.timingLost (r - 520)
  else s

/-- A readmission write (R222): a bit of a lane that is not a stranger is discarded. -/
def State.readmit (s : State) (g mask : Nat) : State :=
  (bitsOf 8 mask).foldl (fun s p =>
    let l := 8 * g + p
    if s.laneSt l = lStranger then (s.setLane l { s.lane l with permit := true }).tryReadmit l else s) s

/-- The strangers of group g that a new policy or count lets return do so (R222). -/
def State.tryGroup (s : State) (g : Nat) : State := (List.range 8).foldl (fun s p => s.tryReadmit (8 * g + p)) s

/-- The counters of a lane set to 0 (R242). -/
def State.clearLaneCounters (s : State) (l : Nat) : State :=
  [0x02, 0x03, 0x04, 0x05, 0x0A, 0x0C, 0x0D, 0x0E, 0x10, 0x14, 0x17].foldl (fun s sub => s.wr (0x3100 + l) sub 0) s

/-- The counters of a port set to 0 (R319). -/
def State.clearPortCounters (s : State) (p : Nat) : State :=
  [0x0B, 0x0C, 0x0D, 0x0E, 0x0F].foldl (fun s sub => s.wr (0x3400 + p) sub 0) s

/-- The transmit loops of group g have locked again (R225). -/
def State.txLoopsLocked (s : State) (g : Nat) : State :=
  (List.range 8).foldl (fun s p =>
    let l := 8 * g + p
    if (s.txLane l).relock then (s.setTx l { s.txLane l with relock := false }).txRefresh l else s) s

/-! ### Lane configuration (R34, R200, R227, R240, R241) -/

/-- The fields of a lane configuration word, and the transmit rates of its group with it. -/
def State.laneWordOk (s : State) (l w : Nat) : Bool :=
  laneFieldsOk w && groupRatesOk ((List.range 8).map (fun p => if p = l % 8 then w else s.grp l p))

/-- R34: a crossing's blocks fit the steps of the bundle. -/
def State.scheduleFits (s : State) (l w : Nat) : Bool :=
  let d := 66 * s.rd 0x4001 0x01
  !w.testBit 63 || d = 0 || (cfgRx w * 1000 + d - 1) / d ≤ s.grp l 0x15 * s.S

/-- R227: the line carries the crossing marker, the pair-role block and the payload of every crossing. -/
def State.transmitFits (s : State) (l w : Nat) : Bool :=
  let role := if (s.grp l 0x14).testBit (l % 8) then 1 else 0
  let need := 1 + role + s.grp l (0x21 + l % 8) * s.S
  !w.testBit 62 || !s.isReleaseLane l || need * 66 * s.rd 0x4001 0x01 * 16384 ≤ cfgTx w * 1000 * 16382

/-- A lane configuration word written (R240). It retrains the lane when a rate, its mode or RXEN changes, and a new
transmit rate relocks the loops of its group. -/
def State.writeLaneWord (s : State) (l w : Nat) : Nat × State :=
  if !s.laneWordOk l w then refuse abortValue s
  else if 2 ≤ s.engineSt ∨ (w.testBit 58 ∧ s.engineSt ≠ 0) ∨
      (s.bundle.isSome ∧ !(s.scheduleFits l w && s.transmitFits l w)) then refuse abortState s
  else
    let old := s.laneCfg l
    let s := s.wr (0x3000 + l / 8) (l % 8) w
    let s := if !w.testBit 63 then (if s.laneSt l = lOff then s else s.laneLeave l lOff)
      else if !s.mayReceive l then s
      else if s.laneSt l = lOff then s.setLaneSt l lLost
      else if s.laneSt l ≠ lLost ∧ (cfgRx old ≠ cfgRx w ∨ cfgTx old ≠ cfgTx w ∨ old.testBit 61 ≠ w.testBit 61) then
        s.laneTrain l
      else s
    let s := if w.testBit 62 ∧ cfgTx old ≠ cfgTx w then
        (List.range 8).foldl (fun s p =>
          let m := l / 8 * 8 + p
          (s.setTx m { s.txLane m with relock := true }).txRefresh m) s
      else s.txRefresh l
    done s.afterLane

/-- A port configuration word written (R319): MODE must be the flock table's. -/
def State.writePortWord (s : State) (p w : Nat) : Nat × State :=
  let mode := w / 2 ^ 62
  let plan := match s.portPlan p with
    | some x => x.mode
    | none => 0
  if mode = 3 ∨ w / 2 ^ 25 % 2 ^ 36 ≠ 0 ∨ w % 2 ^ 25 < 10312500 ∨ 32000000 < w % 2 ^ 25 then refuse abortValue s
  else if 2 ≤ s.engineSt ∨ (w.testBit 61 ∧ s.engineSt ≠ 0) ∨ mode ≠ plan then refuse abortState s
  else
    let old := s.pt p 0x01
    let s := s.wr (0x3400 + p) 0x01 w
    done (if mode = 0 then (if s.portSt p = 0 then s else s.portRestart p 0)
      else if s.portSt p = 0 then s.portRestart p pLost
      else if s.portSt p ≠ pLost ∧ old % 2 ^ 25 ≠ w % 2 ^ 25 then s.portRestart p 1
      else s)

/-! ### Plain ranges (R395, R398) -/

/-- A binary32 value that is neither NaN nor infinite. -/
def f32Finite (v : Nat) : Bool := v / 2 ^ 23 % 256 ≠ 255

/-- A wave designator is one: no reserved bit, and a step of the active bundle (R147). -/
def State.waveOk (s : State) (v : Nat) : Bool := v / 2 ^ 54 = 0 && (s.bundle.isNone || waveStep v < s.S)

/-- The value lies in the range that the entry's table states. -/
def State.rangeOk (s : State) (r : Rng) (v : Nat) : Bool :=
  match r with
  | .any => true
  | .range lo hi => lo ≤ v && v ≤ hi
  | .oneOf l => l.contains v
  | .mask m => v ||| m = m
  | .rangeOr lo hi x => (lo ≤ v && v ≤ hi) || v = x
  | .wave => s.waveOk v
  | .f32 lo hi => lo ≤ v && v ≤ hi
  | .aligned k => v % k = 0
  | .pow2 lo hi => lo ≤ v && v ≤ hi && 2 ^ Nat.log2 v = v
  | .special => true

/-- The value suits its type (Table 13-1). -/
def typeOk (t : Ty) (v : Nat) : Bool :=
  match t with
  | .bool => v ≤ 1
  | .f32 => f32Finite v
  | _ => true

/-! ### Conditions of single entries (R398) -/

/-- A reaction word (R484, R485). -/
def reactionOk (src w : Nat) : Bool :=
  let cact := w / 2 ^ 28 % 16
  let hact := w / 2 ^ 24 % 16
  let arg := w % 2 ^ 16
  let region : Bool := 64 ≤ src && src ≤ 127
  let migrates : Bool := cact = 2 || hact = 2
  let halts : Bool := (cact = 1 || hact = 1) && !region
  w / 2 ^ 16 % 256 = 0 && cact ≤ 7 && hact ≤ 7 && (!migrates || region) &&
    (if migrates then arg < 16 else if halts then arg < 64 else arg = 0)

/-- A throttle order (R468): codes 1 to 4, each once, up to the first nibble that is 0. -/
def throttleOrderOk (w : Nat) : Bool :=
  let l := ([w % 16, w / 16 % 16, w / 256 % 16, w / 4096 % 16]).takeWhile (fun x => x ≠ 0)
  l.all (fun x => x ≤ 4) && l.eraseDups.length = l.length

/-- The conditions that a value must meet beyond its plain range: relations to other entries (R398, step 7 of R558). -/
def State.valueOk (s : State) (idx sub v : Nat) : Bool :=
  if idx = 0x4005 ∧ sub = 0x01 then s.rd 0x4005 0x03 ≤ v && v + 50 ≤ s.rd 0x4005 0x02
  else if idx = 0x4005 ∧ sub = 0x02 then s.rd 0x4005 0x01 + 50 ≤ v
  else if idx = 0x4005 ∧ sub = 0x03 then v ≤ s.rd 0x4005 0x01
  else if idx = 0x2015 ∧ sub = 0x05 then v = 2 || v = 3
  else if idx = 0x2016 ∧ sub = 0x05 then v = 2 || v = 3
  else if idx = 0x2017 ∧ sub = 0x05 then v = 2 || v = 3 || v = 4
  else if idx = 0x2012 ∧ sub = 0x06 then 20000000 ≤ v && v ≤ 60000000
  else if idx = 0x2013 ∧ sub = 0x06 then 20000000 ≤ v && v ≤ 60000000
  else if idx = 0x2017 ∧ sub = 0x06 then 10000000 ≤ v && v ≤ 500000000
  else if idx = 0x2280 ∧ sub = 0x04 then 60 ≤ v && v ≤ 105 && v ≤ s.rd 0x2280 0x05
  else if idx = 0x2280 ∧ sub = 0x05 then 70 ≤ v && v ≤ 108 && s.rd 0x2280 0x04 ≤ v && v < s.rd 0x2280 0x06
  else if idx = 0x2280 ∧ sub = 0x06 then 80 ≤ v && v ≤ 110 && s.rd 0x2280 0x05 < v
  else if idx = 0x2290 ∧ sub = 0x05 then throttleOrderOk v
  else if 0x2040 ≤ idx ∧ idx ≤ 0x2046 ∧ sub = 0x03 then orderOk (idx - 0x2040) v
  else if 0x2040 ≤ idx ∧ idx ≤ 0x2046 ∧ sub = 0x0A then 3 ≤ idx - 0x2040
  else if 0x7100 ≤ idx ∧ idx < 0x7280 ∧ sub = 0x04 then reactionOk (idx - 0x7100) v
  else true

/-- The probe pins, or a decimation of d, keep within 125 MHz (R90). -/
def State.pinRateOk (s : State) (d : Nat) : Bool := s.S * s.rd 0x4001 0x01 ≤ 125000000 * max d 1

/-- Probe lanes a and b carry the probe values, and the context drives neither (R91). -/
def State.probeLanesOk (s : State) (a b : Nat) : Bool :=
  let rate := s.S * s.rd 0x4001 0x01 * (if b < 512 then 17 else 34)
  [a, b].all (fun l => 512 ≤ l || (!s.isReleaseLane l && rate ≤ s.txRate l * 1000))

/-- A probe entry (R89 to R91, R94). -/
def isProbeEntry (idx : Nat) : Bool := idx = 0x4400 || idx = 0x4401 || (0x4410 ≤ idx && idx < 0x4450)

/-- The engine of ring entries is not running (Table 11-8). -/
def State.engineStopped (s : State) (e : Nat) : Bool := s.engState e = 0 || s.engState e = 3

/-- The value and the write suit the device's state (step 8 of R558). -/
def State.stateOk (s : State) (idx sub v : Nat) : Bool :=
  if isProbeEntry idx then
    s.rd 0x4400 0x01 = 1 &&
      (if idx = 0x4400 ∧ sub = 0x03 then s.pinRateOk v
      else if idx = 0x4400 ∧ sub = 0x04 then (!v.testBit 0 || s.pinRateOk (s.rd 0x4400 0x03)) &&
          (!v.testBit 1 || s.probeLanesOk (s.rd 0x4400 0x05) (s.rd 0x4400 0x06))
      else if idx = 0x4400 ∧ sub = 0x05 then s.probeLanesOk v (s.rd 0x4400 0x06)
      else if idx = 0x4400 ∧ sub = 0x06 then s.probeLanesOk (s.rd 0x4400 0x05) v
      else true)
  else if idx = 0x3300 ∧ sub = 0x08 then s.engineSt ≤ 1
  else if idx = 0x4300 ∧ sub = 0x07 then v = 1 || !s.rdBit 0x2400 0x01 4
  else if 0x4210 ≤ idx ∧ idx < 0x4220 ∧ 1 ≤ sub ∧ sub ≤ 4 then
    !s.slotTaken (idx - 0x4210)
  else if 0x6120 ≤ idx ∧ idx < 0x6130 ∧ (sub = 0x01 ∨ sub = 0x02) then s.engineStopped (idx - 0x6120)
  else if 0x6160 ≤ idx ∧ idx < 0x6170 ∧ sub = 0x01 then
    v = 0xFFFF || (!s.isReleaseLane v && s.rd 0x4400 0x05 ≠ v && s.rd 0x4400 0x06 ≠ v &&
      !(List.range 16).any (fun i => 0x6160 + i ≠ idx && s.rd (0x6160 + i) 0x01 = v))
  else true

/-! ### What a written value does at once -/

/-- The state of a channel that is neither off nor bus-off: silent after a duplicate node (R413), error-passive with an
error counter above 127, else error-active (Table 13-14). -/
def State.canState (s : State) (c : Nat) : Nat :=
  if (s.canCh c).silent then 4
  else if 127 < s.rd (0x100B + c) 0x02 ∨ 127 < s.rd (0x100B + c) 0x03 then 2
  else 1

/-- Channels that are switched off or on (0x1009:03). -/
def State.showChannels (s : State) : State :=
  [0, 1].foldl (fun s c =>
    if !s.rdBit 0x1009 0x03 c then s.wr (0x100B + c) 0x01 0
    else if s.rd (0x100B + c) 0x01 = 0 ∧ s.answers (.can 0 0) then s.wr (0x100B + c) 0x01 (s.canState c)
    else s) s

/-- What follows from a value that has been written. -/
def State.afterWrite (s : State) (idx sub v : Nat) : State :=
  if idx = 0x4400 ∧ 4 ≤ sub ∧ sub ≤ 6 then s.txRefreshAll
  else if idx = 0x1009 ∧ sub = 0x03 then s.showChannels
  else if 0x3000 ≤ idx ∧ idx < 0x3040 ∧ (sub = 0x11 ∨ sub = 0x12) then s.tryGroup (idx - 0x3000)
  else if idx = 0x3300 ∧ (sub = 0x07 ∨ sub = 0x08) then
    (if sub = 0x07 then s.setTim 2 {} else s).checkSource false
  else if 0x2040 ≤ idx ∧ idx ≤ 0x2046 ∧ sub = 0x0A ∧ v = 0 then
    { s with gates := s.gates.filter (fun g => g.1 ≠ idx - 0x2040) }
  else if 0x2120 ≤ idx ∧ idx ≤ 0x2127 then s.work 5 0
  else s

/-- A node number written (R413): the silence of duplicate channels ends. -/
def State.setNode (s : State) (v : Nat) : State :=
  [0, 1].foldl (fun s c =>
    let s := s.setCan c { s.canCh c with silent := false }
    if s.rd (0x100B + c) 0x01 = 4 then s.wr (0x100B + c) 0x01 (s.canState c) else s)
    (s.wr 0x1008 0x01 v)

/-- A crossing-source selection mode (R233). -/
def State.selectSource (s : State) (v : Nat) : State := (s.wr 0x3300 0x01 v).checkSource true

end Sys2Proof.Machine
end

