-- ==== Sys2Proof/Machine/RegionCmd.lean ====
section
/-! DEFINITION. RegionCmd.lean: the region command of 0x4100+n:12 (R142, R158, R489), the waves at which a resume or a
rejoin takes effect (Table 5-2, R150, R195, R463), and the golden designation (R154). -/

namespace Sys2Proof.Machine

/-- A resume or a reset names a wave that is at least four crossings away (R158). -/
def State.commandWaveOk (s : State) (n : Nat) : Bool :=
  s.waveOk (s.rd (0x4100 + n) 0x13) && laterByCrossings 4 s.wave (s.rd (0x4100 + n) 0x13)

/-- The source that halted region n is not acknowledged yet (R489). -/
def State.haltUnacknowledged (s : State) (n : Nat) : Bool :=
  let src := s.rd (0x4100 + n) 0x19
  src < 384 && s.rd (0x7100 + src) 0x01 = 1

/-- The halt command (R142): it halts an ACTIVE or RESETTING region and changes nothing in a HALTED one. -/
def State.haltCommand (s : State) (n : Nat) : Nat × State :=
  if s.regState n = rActive ∨ s.regState n = rResetting then
    done ((s.haltRegion n 0xFFFF).raise (64 + n) clsConfig 0x508 0)
  else if s.regState n = rHalted then done s
  else refuse abortState s

/-- A march runs on banks of region n (R129), or its active plane uses a failed bank (R130). -/
def State.resumeBarred (s : State) (n : Nat) : Bool :=
  (List.range 64).any (fun b => s.marching (bankKey n b)) || s.portsFailed n

/-- The resume command: the wave and the mode are taken as they stand now (R129, R158, R463, R489). A region whose
power-off is accepted cannot be resumed or reset (DESIGN CHOICE, log entry 139). -/
def State.resumeCommand (s : State) (n : Nat) : Nat × State :=
  if !s.commandWaveOk n then refuse abortValue s
  else if s.regState n ≠ rHalted ∨ s.haltUnacknowledged n ∨ toI32 (s.rd 0x2280 0x05) * 1000 ≤ s.hottest
      ∨ s.resumeBarred n ∨ (s.region n).closing then refuse abortState s
  else done (s.setRegion n { s.region n with resume := some (s.rd (0x4100 + n) 0x13, s.rd (0x4100 + n) 0x14) })

/-- The reset command (R158, R489). -/
def State.resetCommand (s : State) (n : Nat) : Nat × State :=
  if !s.commandWaveOk n then refuse abortValue s
  else if (s.regState n ≠ rActive ∧ s.regState n ≠ rHalted) ∨
      (s.regState n = rHalted ∧ (s.haltUnacknowledged n ∨ (s.region n).closing)) then refuse abortState s
  else done (s.resetRegion n (s.rd (0x4100 + n) 0x13))

/-- The power-off command (R142, R196): the region's interface drains first, and a pending resume is withdrawn (log
entry 139). -/
def State.powerOffCommand (s : State) (n : Nat) : Nat × State :=
  if (s.regState n ≠ rHalted ∧ s.regState n ≠ rLoading) ∨ slotNos.any (fun k => s.slotArmed k && s.slotNames k n) ∨
      slotNos.any (fun e => s.migOpen e && s.migNames e n) ∨ s.loadInits n then refuse abortState s
  else done ((s.closeRegion n).setRegion n { (s.closeRegion n).region n with closing := true, resume := none })

/-- The power-on command (R142, R452). -/
def State.powerOnCommand (s : State) (n : Nat) : Nat × State :=
  if s.regState n ≠ rOff then refuse abortState s else done (s.queuePower n)

/-- A write of 0x4100+n:12 (R158). -/
def State.regionCommand (s : State) (n v : Nat) : Nat × State :=
  if v = 1 then s.haltCommand n
  else if v = 2 then s.resumeCommand n
  else if v = 3 then s.resetCommand n
  else if v = 4 then s.powerOffCommand n
  else if v = 5 then s.powerOnCommand n
  else refuse abortValue s

/-- The wave of a pending resume (Table 5-2): scrub passes still owed after VC hold defer it (R195), and the thermal
halt drops it (R463). A march that began on the region's banks after the command was taken does not stop it (DESIGN
CHOICE, log entry 178), and a wave that comes before VC is back at 0.70 V does not wait (DESIGN CHOICE, log entry
186). -/
def State.resumeWave (s : State) (n : Nat) : State :=
  match (s.region n).resume with
  | none => s
  | some (w, mode) =>
    if s.regState n ≠ rHalted ∨ !s.isDue (16 + n) w then s
    else if (s.region n).holdPasses ≠ 0 then s.defer (16 + n) [n]
    else
      let s := (s.undefer (16 + n)).setRegion n { s.region n with resume := none }
      if s.thermal.haltOn then s.wr (0x4100 + n) 0x19 203
      else
        let w := s.nextWave
        let s := if mode = 1 then (s.initRegs n).resetQueues n else s
        s.becomeActive n w true

/-- The wave of a pending rejoin (Table 5-2), always in INIT mode, in the plane that is then active (R158, Table 5-6): while the thermal state is 3 the region enters HALTED instead. -/
def State.rejoinWave (s : State) (n : Nat) : State :=
  match (s.region n).rejoin with
  | none => s
  | some w =>
    if s.regState n ≠ rResetting ∨ !s.waveCome w then s
    else (((s.setRegion n { s.region n with rejoin := none }).initRegs n).resetQueues n).becomeActive n w true

/-- A write of 0x4100+n:15 (R154). -/
def State.goldenWrite (s : State) (n v : Nat) : Nat × State :=
  let a := s.activePlane n
  let ok : Bool := v = 0xFF || (s.planeState n v = 2 && v ≠ a && a < 8
    && (s.plane n v).personality = (s.plane n a).personality && (s.plane n v).layout = (s.plane n a).layout)
  if !(v = 0xFF || v < 8) then refuse abortValue s
  else if !ok then refuse abortState s
  else done (s.wr (0x4100 + n) 0x15 v)

end Sys2Proof.Machine
end

