-- ==== Sys2Proof/Machine/FaultCmd.lean ====
section
/-! DEFINITION. FaultCmd.lean: acknowledgement, forced and user raises, the history and the log (R488 to R493), and the
load command (R180, R185). -/

namespace Sys2Proof.Machine

/-! ### Acknowledgement (R488) -/

/-- Source src acknowledged: its status and its whole mask. -/
def State.ackSource (s : State) (src : Nat) : State :=
  let s := (s.wr (0x7100 + src) 0x01 0).wr (0x7100 + src) 0x0A 0
  { s with collector := { s.collector with notes := s.collector.notes.filter (fun x => x ≠ src) } }

/-- A write of 0x7100+s:01: 1 acknowledges, 0 is discarded. -/
def State.statusWrite (s : State) (src v : Nat) : State := if v = 1 then s.ackSource src else s

/-- The named class bits leave every mask; a source whose mask becomes 0 has its status cleared, unless it has an
unacknowledged note. -/
def State.ackClasses (s : State) (mask : Nat) : State :=
  let keys := (s.dict.filter (fun c => isMaskKey c.1)).map (fun c => c.1 / 256)
  keys.foldl (fun s idx =>
    let old := s.rd idx 0x0A
    let new := maskOf 16 (fun c => old.testBit c && !mask.testBit c)
    let s := s.wr idx 0x0A new
    if old ≠ 0 ∧ new = 0 ∧ !s.collector.notes.contains (idx - 0x7100) then s.wr idx 0x01 0 else s) s

/-- Every status and every mask cleared. -/
def State.ackAll (s : State) : State :=
  let s := { s with dict := s.dict.filter (fun c => !isMaskKey c.1 && !isStatusKey c.1) }
  { s with collector := { s.collector with notes := [] } }

/-! ### Forced and user raises (R490, R491) -/

/-- The first class that Table 16-1 lists for a source's row. -/
def firstClass (src : Nat) : Nat :=
  if src < 64 then clsLane
  else if src < 128 then clsPace
  else if src < 136 then clsStack
  else if src < 144 then clsLookback
  else if src < 160 then clsMemory
  else if src < 176 then clsNetwork
  else if src < 192 then clsClock
  else if src < 224 then clsPower
  else if src < 240 then clsSecurity
  else if src < 256 then clsUpdate
  else if src < 272 then clsStack
  else if src < 288 then clsHost
  else if src < 320 then clsKernel
  else if src < 336 then clsHost
  else if src < 352 then clsConfig
  else clsUser

/-- A forced raise. -/
def State.force (s : State) (src : Nat) : State := s.raise src (firstClass src) 0x10FF 1 0 true

/-- The value of a user raise: its reserved bits are 0 and its row is not 0. -/
def userRaiseOk (v : Nat) : Bool := v / 65536 % 65536 = 0 && v / 32 % 8 = 0 && v / 256 % 256 ≠ 0

/-- A user raise. -/
def State.userRaise (s : State) (v : Nat) : Nat × State :=
  if !userRaiseOk v then refuse abortValue s
  else done (s.raise (352 + v % 32) clsUser (0x1F00 + v / 256 % 256) 1 (v / 2 ^ 32))

/-! ### History and log (R492, R493) -/

/-- A history entry in bytes. -/
def histBytes (h : HistEntry) : List Byte :=
  natBytes 8 h.w0.toNat ++ natBytes 8 h.w1.toNat ++ natBytes 8 h.w2.toNat

def State.clearHistory (s : State) : State := { s with collector := { s.collector with history := [] } }
def State.clearLog (s : State) : State :=
  let s := s.areaWritten .log
  { s with collector := { s.collector with log := [], logPending := [] } }

/-- The entries that wait are written to the log, a ring of 4,096, or the write fails (R510); not while domain
KEEP is stopped (R444). -/
def State.logWrite (s : State) (ok : Bool) : State :=
  let l := s.collector.logPending
  if l.isEmpty ∨ s.domSt 3 ≠ 1 then s
  else
    let s := if ok then s.areaWritten .log else s.work 3 0
    let all := s.collector.log ++ l
    let s := { s with collector := { s.collector with
      logPending := []
      log := if ok then all.drop (all.length - 4096) else s.collector.log } }
    if ok then s else (s.bump 32 0x7031 0x02).keepFault

/-! ### The load command (R180, Table 6-11) -/

/-- The stream that a load command's path holds: a bundle slot of the keep store, or the boot flash. -/
def State.storedStream (s : State) (path slot : Nat) : List Byte :=
  if path = 0 then Config.keepStream (s.image 2 slot).bytes else Config.flashStream (s.rd 0x4300 0x04)

/-- Its first 128 bytes. -/
def State.storedHeader (s : State) (path slot : Nat) : List Byte :=
  let h := (s.storedStream path slot).take 128
  h ++ List.replicate (128 - h.length) 0

/-- The clock domain of a path's store stands still: KEEP for the keep store, IO for the boot flash (R444). -/
def State.pathStill (s : State) (path : Nat) : Bool :=
  path = 0 && s.domWaits 3 || path = 1 && s.domWaits 5

/-- The load of a command begins with its header. -/
def State.loadHeader (s : State) (path slot : Nat) : Nat × State :=
  let h := s.storedHeader path slot
  let s := if path = 1 then s.work 5 1 else s.work 3 0
  let s : State := if s.loadBusy then s else
    { (s.forgetPath path) with load := { (s.forgetPath path).load with slot := slot } }
  let (code, s) := s.streamHeader path h
  (code, if code = 0 then s else s.setDiscard path 0)

/-- A load whose header waited for its path's clock domain begins (R444). -/
def State.loadResume (s : State) : State :=
  match s.loadHeld with
  | some (path, slot) => if s.pathStill path then s else ({ s with loadHeld := none }.loadHeader path slot).2
  | none => s

/-- A slot in this state holds an image that has been verified. -/
def imHolds (st : Nat) : Bool := [imWritten, imActive, imTrial, imPrevious, imRejected].contains st

/-- Load command 1: a bundle slot whose image fails its verification becomes INVALID, and the load is refused (R512, log
entry 202). Else the header is read at once, the records as the path brings them. Before step 7 of start-up has
ended, but where it waits for the host (Table 18-5), and while the bundle slot is WRITING, the load is refused with
result 0x18 (R515). While the path's clock domain stands still, the command is done and the header waits (R444). -/
def State.loadStart (s : State) : Nat × State :=
  let path := s.rd 0x4300 0x02
  let slot := s.rd 0x4300 0x03 % 2
  let starting : Bool := s.startStep ≠ 0 && (s.startStep < 7 || (s.startStep = 7 && s.bootSel < 2))
  let s := s.readImage 2 slot
  let res := s.verifyImage 2 (s.image 2 slot).bytes
  let busy : Bool := starting || (path = 0 && s.imageSt 2 slot = imWriting)
  if path = 0 ∧ imHolds (s.imageSt 2 slot) ∧ !busy ∧ !s.loadBusy ∧ res ≠ 1 then
    refuse abortState (s.imageInvalid 2 slot (res = 0x36))
  else if busy then refuse abortState (s.refuseHeader path 0x18 (s.storedHeader path slot) |>.setDiscard path 0)
  else if s.pathStill path then done { s with loadHeld := some (path, slot) }
  else s.loadHeader path slot

/-- Load command 2. -/
def State.loadCancel (s : State) : Nat × State :=
  if s.load.active ∧ s.rd 0x4301 0x01 ≠ 5 then done (s.failLoad 0x2B s.recordNo)
  else if s.loadHeld.isSome then done { s with loadHeld := none }
  else if s.load.waiting.isSome then done (s.dropWaiting ((s.load.waiting.map (fun w => w.1)).getD 0) 0x2B)
  else refuse abortState s

end Sys2Proof.Machine
end

