-- ==== Sys2Proof/Machine/DictRead.lean ====
section
/-! DEFINITION. DictRead.lean: the entries of the dictionary as an access sees them (R394 to R396, R558), the values
that are computed when they are read, and reads (R190, R273, R420, R422). -/

namespace Sys2Proof.Machine

/-! ### Declarations -/

/-- The declaration of a user entry in the active bundle (R420). -/
def State.userDecl (s : State) (key : Nat) : Option UserEntry :=
  match s.bundle with
  | some b => b.userEntries.find? (fun u => u.key = key)
  | none => none

/-- The type of a user entry. -/
def userTy (u : UserEntry) : Ty :=
  if u.isBool then .bool else if u.isF32 then .f32 else if u.isString then .str u.size else .u u.size

/-- A user entry as a row of the dictionary. -/
def userRow (u : UserEntry) : Row :=
  { idx := u.key / 256
    sub := u.key % 256
    ty := userTy u
    acc := if u.acc = 0 then .ro else if u.acc = 1 then .wo else .rw
    guarded := u.guarded
    persist := u.persist }

/-- The row of an entry: a table's, or a user entry's. -/
def State.entryRow (s : State) (idx sub : Nat) : Option Row :=
  if isUser idx then (s.userDecl (ent idx sub)).map userRow else rowOf idx sub

/-- The guard of an entry on a path: the port may write nothing outside its permit list (R423). -/
def guardNeeded (row : Row) (r : Requester) (write : Bool) : Bool := row.guarded || (write && r = .port)

/-- The code of checks 2 to 5 of R558 for a read. The port reads no guarded entry, whatever its permit list holds. -/
def State.readCode (s : State) (r : Requester) (row : Row) (idx sub : Nat) (segmented : Bool) : Nat :=
  if row.acc = .wo then 0x06010001
  else if row.guarded && r = .port then abortGuard
  else
    let code := s.accessCode r (ent idx sub) row.guarded none false
    if code ≠ 0 then code else if (row.ty = .domain : Bool) ≠ segmented then 0x06070012 else 0

/-! ### Values computed at a read -/

/-- R46's time for a receive lane and a transmit lane, in ps, rounded to nearest (log entry 52). -/
def State.laneLatency (s : State) (rx tx : Nat) : Nat :=
  let d := s.S * s.rd 0x4001 0x01
  let den := s.rxRate rx * s.txRate tx * d
  let fixed := 41600 + (if (s.laneCfg rx).testBit 61 then 16000 else 0)
  let num := fixed * den + s.L * 10 ^ 12 * (s.rxRate rx * s.txRate tx) + 660 * 10 ^ 9 * s.txRate tx * d
    + 330 * 10 ^ 9 * s.rxRate rx * d
  if den = 0 then 0 else (2 * num + den) / (2 * den)

/-- The latencies of every ADMITTED lane with every enabled release lane (0x4004). -/
def State.latencies (s : State) : List Nat :=
  let rx := (List.range 512).filter (fun l => s.laneSt l = lAdmitted)
  let tx := (List.range 512).filter (fun l => s.isReleaseLane l && s.txEn l)
  rx.flatMap (fun a => tx.map (fun b => s.laneLatency a b))

/-- Records of the pending list (0x1002:06): index, sub-index, length, value. -/
def State.pendingRecords (s : State) : List Byte :=
  s.rwr.flatMap (fun c =>
    let n := match rowOf (c.1 / 256) (c.1 % 256) with
      | some row => row.ty.size
      | none => 4
    natBytes 2 (c.1 / 256) ++ natBytes 1 c.1 ++ natBytes 1 n ++ natBytes n c.2)

/-- A skip-log record (Table 8-11). -/
def skipBytes (x : SkipRec) : List Byte :=
  natBytes 8 x.first ++ natBytes 8 (x.last.getD (2 ^ 64 - 1)) ++ natBytes 1 x.classes ++ List.replicate 7 0

/-- The bytes of the entries that hold more than one value, and of those read from a table of the device. -/
def State.tableBytes (s : State) (idx sub : Nat) : Option (List Byte) :=
  if idx = 0x1002 ∧ sub = 0x06 then some s.pendingRecords
  else if idx = 0x2400 ∧ sub = 0x06 then some Config.identityKey
  else if idx = 0x2520 ∧ sub = 0x06 then some (s.security.journal.flatMap journalBytes)
  else if idx = 0x5112 ∧ sub = 0x00 then some (s.storedMap.flatMap (fun x => natBytes 4 x.toNat))
  else if idx = 0x6005 ∧ sub = 0x02 then
    some (Config.routeTables (match s.bundle with
      | some b => b.routes
      | none => []))
  else if idx = 0x7030 ∧ sub = 0x00 then some (s.collector.log.flatMap histBytes)
  else if idx = 0x5803 then some ((s.dropSkips (sub - 1)).flatMap skipBytes)
  else if idx = 0x7020 then
    some (match s.collector.history[sub - 1]? with
      | some h => histBytes h
      | none => List.replicate 24 0)
  else none

/-- The width of an entry that shows what the device measures outside itself and no command brings: the currents of
VL and VM and the power of VL. -/
def outsideBits (idx sub : Nat) : Nat :=
  if idx = 0x2100 ∧ (sub = 0x08 ∨ sub = 0x09) then 32
  else if idx = 0x2101 ∧ sub = 0x02 then 32
  else 0

/-- The number of an entry that is computed when it is read. -/
def State.shownNat (s : State) (r : Requester) (idx sub : Nat) : Nat :=
  if idx = 0x1002 ∧ sub = 0x05 then s.rwr.length
  else if 0x3100 ≤ idx ∧ idx < 0x3300 ∧ sub = 0x15 then s.eqState (idx - 0x3100)
  else if idx = 0x2110 ∧ sub = 0x02 then maskOf 64 (fun n => s.regState n ≠ rOff)
  else if idx = 0x2110 ∧ sub = 0x03 then s.thermal.queue.length
  else if idx = 0x2280 ∧ sub = 0x0A ∧ s.thermal.haltOn then 3
  else if idx = 0x2420 ∧ sub = 0x03 then s.sessionState r
  else if idx = 0x2420 ∧ sub = 0x04 then (s.rights r).toNat
  else if idx = 0x2501 ∧ sub = 0x04 then s.timeLeft
  else if idx = 0x4004 ∧ sub = 0x01 then (s.latencies.foldl (fun a x => some (min (a.getD x) x)) none).getD 0
  else if idx = 0x4004 ∧ sub = 0x02 then s.latencies.foldl max 0
  else if idx = 0x5800 ∧ sub = 0x03 then s.oldest
  else if idx = 0x7000 ∧ sub = 0x01 then s.openSources
  else if idx = 0x7000 ∧ sub = 0x07 then s.openClasses
  else if idx = 0x7031 ∧ sub = 0x01 then s.collector.log.length
  else if 0x4100 ≤ idx ∧ idx < 0x4140 ∧ sub = 0x07 then s.latchedOf (idx - 0x4100)
  else if s.startup.firmware ∧ outsideBits idx sub ≠ 0 then Config.outsideValue (ent idx sub) s.now % 2 ^ outsideBits idx sub
  else if s.startup.firmware ∧ 0x5810 ≤ idx ∧ idx < 0x5818 ∧ sub = 0x0A then
    Config.outsideValue (ent idx sub) s.now % 101
  else s.rd idx sub

/-- The bytes of a value of a type; a string has its stored length (Table 13-1). -/
def valueBytes (t : Ty) (v : Nat) : List Byte :=
  match t with
  | .str n => (natBytes n v).take ((List.range (n + 1)).find? (fun i => v < 256 ^ i) |>.getD n)
  | t => natBytes t.size v

/-! ### Reads that act -/

/-- A record read (R273): one slot, held until it is closed (R22). -/
def State.recordRead (s : State) (r : Requester) : Nat × List Byte × State :=
  let st := s.rd 0x5840 0x01
  let w := s.rd 0x5840 0x02
  let (res, s) := s.retrieve st (w % 2 ^ 48) (w / 2 ^ 48 % 16)
  match res with
  | none => (answerLater, [], { s.bump 64 0x5850 0x03 with heldReqs := s.heldReqs ++
      [{ who := some r, stream := st, c := (s.resolve (w % 2 ^ 48)).toNat }] })
  | some (status, bytes) =>
    (0, if status ≤ 4 then bytes else [], (s.wr 0x5840 0x03 status).countStatus status)

/-- Readback (R190). -/
def State.readback (s : State) : Nat × List Byte × State :=
  let n := s.rd 0x4320 0x01
  let p := s.rd 0x4320 0x02
  if s.readbackOk n p then (0, s.readbackBytes n p, s) else (abortState, [], s)

/-! ### User entries (R420, R422) -/

/-- The words of a request to the design (Tables 13-11 and 13-12), with DIR 0. -/
def designWords (d : DesignReq) : List (Bool × Bool × Word64) :=
  let words := if d.write then chunks 8 (d.value.length + 1) d.value else []
  let head := (if d.write then 2 else 1) * 2 ^ 56 + words.length * 2 ^ 48 + d.tag % 256 * 2 ^ 40
    + d.key / 256 % 65536 * 2 ^ 16 + d.key % 256 * 2 ^ 8 + (if d.write then d.value.length else 0)
  (true, false, BitVec.ofNat 64 head) :: words.map (fun w => (false, false, BitVec.ofNat 64 (bytesNat w)))

/-- The next waiting access is put to the design, one at a time. -/
def State.pumpDesign (s : State) : State :=
  match s.design, s.designQ with
  | none, d :: rest =>
    let d := { d with tag := (s.designTag + 1) % 256 }
    { s with
      design := some d
      designQ := rest
      designTag := d.tag
      portOut := s.portOut ++ designWords d }
  | _, _ => s

/-- User entries are served (R422). -/
def State.userServed (s : State) : Bool := s.inRun && s.isActive 0

/-- An access to a user entry goes to the design. -/
def State.userAccess (s : State) (d : DesignReq) : Nat × State :=
  if !s.userServed then (0x08000031, s)
  else (answerLater, { s with designQ := s.designQ ++ [d] }.pumpDesign)

/-- The value that the design has for an entry, as an access carried it. -/
def State.noteUser (s : State) (key : Nat) (v : List Byte) : State := { s with userVals := putKey s.userVals key v }

/-- The design's answer to an access (R422): one with another TAG is discarded. An accepted write of a persistent entry
counts in the generation (R404). -/
def State.designAnswer (s : State) (tag res : Nat) (bytes : List Byte) : State :=
  match s.design with
  | none => s
  | some d =>
    if d.tag ≠ tag then s
    else
      let s := { s with design := none }
      let code := if res = 0 then 0 else fieldAt bytes 0 4
      let s := if code = 0 then s.noteUser d.key (if d.write then d.value else bytes) else s
      let s := if code = 0 ∧ d.write ∧ d.r.isSome ∧ (s.userDecl d.key).any (fun u => u.persist) then s.nextGeneration else s
      let s := match d.r with
        | some r => s.reply r d.key code (if d.write ∨ code ≠ 0 then [] else bytes)
        | none => s
      s.pumpDesign

/-- The design has not answered in time (R422). -/
def State.designTimeout (s : State) : State :=
  match s.design with
  | none => s
  | some d =>
    let s := ({ s with design := none }.bump 32 0x1010 0x03).raise 326 clsUser 0xD05 1
    let s := match d.r with
      | some r => s.reply r d.key 0x08000030
      | none => s
    s.pumpDesign

/-- A key put in its place among rising ones. -/
def insertKey (k : Nat) : List Nat → List Nat
  | [] => [k]
  | a :: l => if k ≤ a then k :: a :: l else a :: insertKey k l

/-- At a run boundary the persisted user values go to the design first, in index order (R422). -/
def State.pushUserValues (s : State) : State :=
  let set := s.persisted
  match s.bundle with
  | none => s
  | some b =>
    if set.bundle ≠ b.id then s
    else
      let keys := (b.userEntries.filter (fun u => u.persist)).map (fun u => u.key)
      let vals := (keys.foldr insertKey []).filterMap (fun k => (set.users.lookup k).map (fun v => (k, v)))
      let reqs : List DesignReq := vals.map (fun c => { key := c.1, write := true, value := c.2 })
      { s with designQ := reqs ++ s.designQ }.pumpDesign

/-! ### A read -/

/-- A read of an entry: the abort code, the value's bytes, the state (R396, R398, R558). -/
def State.readEntry (s : State) (r : Requester) (segmented : Bool) (idx sub : Nat) : Nat × List Byte × State :=
  match s.entryRow idx sub with
  | none => (0x06020000, [], s)
  | some row =>
    let code := s.readCode r row idx sub segmented
    if code ≠ 0 then (code, [], s)
    else if isUser idx then
      let (code, s) := s.userAccess { r := some r, key := ent idx sub }
      (code, [], s)
    else if idx = 0x4321 then s.readback
    else if idx = 0x5841 then s.recordRead r
    else if idx = 0x2420 ∧ sub = 0x01 then
      let (bytes, s) := s.challenge r
      (0, bytes, s)
    else (0, (s.tableBytes idx sub).getD (valueBytes row.ty (s.shownNat r idx sub)), s)

/-- A read answered. A path that has not started answers nothing (R424). -/
def State.dictRead (s : State) (r : Requester) (segmented : Bool) (idx sub : Nat) : State :=
  if !s.answers r then s
  else
    let (code, bytes, s) := s.readEntry r segmented idx sub
    if code = answerLater then s else s.reply r (ent idx sub) code bytes

end Sys2Proof.Machine
end

