-- ==== Sys2Proof/Machine/DictWrite.lean ====
section
/-! DEFINITION. DictWrite.lean: what a write of each entry does, after the checks that every write shares (R396, R398,
R401, R402, R404, R558), and segmented writes (R412, R419, R423). -/

namespace Sys2Proof.Machine

/-! ### Save and restore (R401, R402) -/

/-- Keys of the entries of a row. -/
def rowKeys (row : Row) : List Nat :=
  (List.range row.n).flatMap (fun i => (List.range row.m).map (fun j => ent (row.idx + i) (row.sub + j)))

/-- Keys of every device entry with Persist Yes. -/
def persistKeys : List Nat := (allRows.filter (fun row => row.persist)).flatMap rowKeys

/-- The value that a save stores: the pending one where there is one. -/
def State.savedValue (s : State) (key : Nat) : Nat := (s.rwr.lookup key).getD (s.rd (key / 256) (key % 256))

/-- The set that a save writes. -/
def State.saveSet (s : State) : PersistSet :=
  { bundle := s.rd 0x4200 0x01
    sfr := (s.image 0 s.startup.running).sfr
    vals := persistKeys.map (fun k => (k, s.savedValue k)) }

/-- The active bundle's persistent user entries. -/
def State.persistUsers (s : State) : List Nat := match s.bundle with
  | some b => (b.userEntries.filter (fun u => u.persist)).map (fun u => u.key)
  | none => []

/-- A save reads the persistent user entries, whose values live in the design, while they are served (R401, R420, R422). -/
def State.askUsers (s : State) : State :=
  if s.userServed then { s with designQ := s.designQ ++ s.persistUsers.map (fun k => { key := k }) } else s

/-- A save still waits for the design. -/
def State.usersAsked (s : State) : Bool := (s.design.toList ++ s.designQ).any (fun d => d.r.isNone && !d.write)

/-- A write of 0x1002:02: the set is being written until SAVE_COMPLETE. Firmware whose settings are incompatible refuses
every save (R523). -/
def State.saveCommand (s : State) (r : Requester) (v : Nat) : Nat × State :=
  if v ≠ 0x65766173 then refuse abortValue s
  else if s.security.saving.isSome ∨ s.rd 0x2501 0x07 = 2 then refuse abortState s
  else (answerLater, ((s.wr 0x1002 0x04 1).setSecurity (fun x => { x with saving := some (r, s.saveSet) })).askUsers)

/-- The save ends: the new set replaces the old one, or the old one stays, and the
write of the keep store has failed (R401, R404, R424, R510). It does not end
while domain KEEP is stopped (R444), nor before the design has given its values. -/
def State.saveDone (s : State) (ok : Bool) : State :=
  match s.security.saving with
  | none => s
  | some (r, set) =>
    if s.domSt 3 ≠ 1 ∨ s.usersAsked then s
    else
      let set := { set with users := s.userVals.filter (fun c => s.persistUsers.contains c.1) }
      let s := (s.work 3 0).setSecurity (fun x => { x with saving := none })
      if ok then
        let s := (s.areaWritten (.settings s.startup.running)).setSecurity (fun x => { x with areas := putKey x.areas s.startup.running set })
        (s.nextGeneration.wr 0x1002 0x04 2).reply r (ent 0x1002 0x02) 0
      else (((s.wr 0x1002 0x04 3).keepFault).raise 327 clsUpdate 0xD06 1).reply r (ent 0x1002 0x02) 0x08000050

/-- A write of 0x1002:03. -/
def State.restoreCommand (s : State) (v : Nat) : Nat × State :=
  if v ≠ 0x64616F6C then refuse abortValue s
  else if s.security.saving.isSome then refuse abortState s
  else s.keepCommand (fun s => done ((s.areaWritten (.settings s.startup.running)).setSecurity (fun x => { x with areas := dropKey x.areas s.startup.running })))

/-! ### Commands with more than one value -/

/-- A write of 0x4210+k:05 (R169). An arm that the mirror is to confirm is answered then. -/
def State.slotCommand (s : State) (r : Requester) (k v : Nat) : Nat × State :=
  if v = 1 then
    if s.slotTaken k then refuse abortState s
    else
      match s.armMirrored k 0 true (some r) with
      | (none, s) => (answerLater, s)
      | (some reason, s) => (if reason = 0 then 0 else if reason = 1 then abortValue else abortState, s)
  else if v = 2 then
    if !s.slotArmed k ∨ s.within 2000 (s.slot k 0x02) then refuse abortState s
    else done (s.cancelSlot k)
  else refuse abortValue s

/-- A write of 0x4240:01 for the entry in 0x4240:02 (R160, R161, R163, R164). -/
def State.migrationCommand (s : State) (v : Nat) : Nat × State :=
  let e := s.rd 0x4240 0x02
  let w := s.rd 0x4240 0x03
  let code (reason : Nat) : Nat := if reason = 0 then 0 else if reason = 1 then abortValue else abortState
  if v = 1 then
    let (reason, s) := s.startMigration e w (w = 0)
    (code reason, s)
  else if v = 2 then
    let (reason, n) := s.revertReason e (if w = 0 then s.earliestW else w) (w = 0)
    if reason = 0 then done (s.armRevert e w (w = 0)) else refuse (code reason) (s.raiseConflict reason n)
  else if v = 3 then
    if s.rd 0x4240 0x05 ≠ e ∨ s.migOverlap then refuse abortState s else done (s.cancelMigration e)
  else refuse abortValue s

/-- A write of 0x4003:01. -/
def State.runCommand (s : State) (v : Nat) : Nat × State :=
  if v = 1 then s.runStartCommand
  else if v = 2 then s.runStopCommand
  else if v = 3 then s.runCancelCommand
  else refuse abortValue s

/-- A write of 0x5100+q:01. -/
def State.marchCommand (s : State) (q : Nat) (w : BitVec 32) : Nat × State :=
  if mOp w = 2 then s.cancelMarch q w else s.startMarch q w

/-- A write of 0x6010+x:02 (R334). -/
def State.routerCommand (s : State) (x v : Nat) : Nat × State :=
  if v = 1 then done (s.drainRouter x)
  else if v = 2 then (if s.routerSt x = 2 then done (s.setRouter x 0) else refuse abortState s)
  else refuse abortValue s

/-- A write of 0x6120+e:05 (R360, R361). -/
def State.engineCommand (s : State) (e v : Nat) : Nat × State :=
  if v = 1 then s.startEngine e
  else if v = 2 then done (s.stopEngine e)
  else if v = 3 then (if s.engState e = 3 then done (s.haltEngine e) else refuse abortState s)
  else refuse abortValue s

/-- A write of 0x8100:0D: only a lead yields, to a partner that is TRACKING, or resets its mirror (R308, R314). -/
def State.pairCommand (s : State) (v : Nat) : Nat × State :=
  if v = 1 then (if s.pairSt = 4 ∧ s.partner = 3 then done s.requestYield else refuse abortState s)
  else if v = 2 then
    (if s.hasMirror then done (s.sendNumbered 0x08 0 []) else refuse abortState s)
  else refuse abortValue s

/-- A write of 0x2500:01 (R514). -/
def State.lockCommand (s : State) (r : Requester) (v : Nat) : Nat × State :=
  if v = 1 then
    match s.security.lock with
    | some o =>
      if sameRequester o r then done s
      else refuse s.busyCode (s.raise 240 clsUpdate 0x1109 0 (pathCode r))
    | none => done ((s.setSecurity (fun x => { x with lock := some r })).wr 0x2500 0x02 (pathCode r))
  else if v = 2 then
    (if s.security.lock.isNone then done s else if s.holdsLock r then done s.releaseLock else refuse s.busyCode s)
  else refuse abortValue s

/-- A write of 0x2520:01 (R516). -/
def State.transactionCommand (s : State) (v : Nat) : Nat × State :=
  if v = 1 then s.keepCommand State.transBegin
  else if v = 2 then s.keepCommand State.transCommit
  else if v = 3 then s.keepCommand State.transAbort
  else refuse abortValue s

/-- A write of 0x2401:03 (R500). -/
def State.fuseCommand (s : State) (r : Requester) (v : Nat) : Nat × State :=
  if v = 1 then s.revokeOwner r 0
  else if v = 2 then s.revokeOwner r 1
  else if v = 3 then done s.requireSignatures
  else if v = 4 then done s.disableDebug
  else refuse abortValue s

/-- A write of 0x2430:06 (R506). -/
def State.debugCommand (s : State) (r : Requester) (v : Nat) : Nat × State :=
  if v = 1 then s.debugUnlock r else if v = 2 then done s.debugLock else refuse abortValue s

/-- A write of 0x6810+k:08 (R387, R391): every kernel is refused. -/
def State.kernelCommand (s : State) (r : Requester) (k v : Nat) : Nat × State :=
  match r with
  | .kernel _ => refuse abortGuard s
  | _ => if v = 1 then s.restartKernel k else if v = 2 then s.stopCommand k else refuse abortValue s

/-- A write of 0x4330:00: one stored bit of a frame inverted. -/
def State.injectFrameCommand (s : State) (v : Nat) : Nat × State :=
  let n := v / 2 ^ 42 % 64
  let p := v / 2 ^ 39 % 8
  if v / 2 ^ 48 ≠ 0 ∨ v / 2 ^ 12 % 2 ^ 14 ≠ 0 ∨ 2060 < v % 4096 then refuse abortValue s
  else if s.planeState n p ≤ 1 then refuse abortState s
  else done (s.injectFrame n p (v / 2 ^ 26 % 8192) (v % 4096))

/-- A write of 0x5860:00: a mask on one stored symbol of a line. -/
def State.injectLineCommand (s : State) (v : Nat) : Nat × State :=
  if v / 2 ^ 55 % 64 ≠ 0 ∨ v / 2 ^ 32 % 256 ≠ 0 ∨ 71 < v / 2 ^ 48 % 128 then refuse abortValue s
  else done (s.injectLine (v / 2 ^ 61) (v / 2 ^ 48 % 128) (v / 2 ^ 40 % 256) (v % 2 ^ 32))

/-- A command entry that accepts one value only. -/
def State.oneValue (s : State) (v want : Nat) (t : State → State) : Nat × State :=
  if v = want then done (t s) else refuse abortValue s

/-! ### What each entry's write does, by the page of its index -/

/-- 0x1000 to 0x11FF. A reset and a new node number take effect after the answer. -/
def State.act10 (s : State) (r : Requester) (idx sub v : Nat) : Option (Nat × State) :=
  if idx = 0x1002 ∧ sub = 0x02 then some (s.saveCommand r v)
  else if idx = 0x1002 ∧ sub = 0x03 then some (s.restoreCommand v)
  else if idx = 0x1008 ∧ sub = 0x01 then some (done s)
  else if idx = 0x1100 ∧ sub = 0x01 then some (if v = 1 ∨ v = 2 then done s else refuse abortValue s)
  else none

/-- 0x2000 to 0x22FF. -/
def State.act20 (s : State) (idx sub v : Nat) : Option (Nat × State) :=
  if 0x2040 ≤ idx ∧ idx < 0x2047 ∧ sub = 0x04 then some (s.switchCommand (idx - 0x2040) v)
  else if 0x2040 ≤ idx ∧ idx < 0x2047 ∧ sub = 0x09 then some (done (if v = 1 then s.wr idx 0x09 0 else s))
  else if idx = 0x2102 ∧ sub = 0x02 then
    some (if v = 1 then s.vcHold else if v = 2 then done s.vcLeave else refuse abortValue s)
  else if 0x2200 ≤ idx ∧ idx < 0x2280 ∧ sub = 0x08 then
    some (if v = 1 then s.clearSensor (idx - 0x2200) else refuse abortValue s)
  else if idx = 0x2290 ∧ sub = 0x08 then
    some (if v = 1 then done (s.throttleCommand true) else if v = 2 then done (s.throttleCommand false)
      else refuse abortValue s)
  else none

/-- 0x2400 to 0x25FF. -/
def State.act24 (s : State) (r : Requester) (idx sub v : Nat) : Option (Nat × State) :=
  if idx = 0x2401 ∧ sub = 0x03 then some (s.fuseCommand r v)
  else if idx = 0x2401 ∧ sub = 0x04 then some (s.svnFloor v)
  else if 0x2410 ≤ idx ∧ idx < 0x2420 ∧ sub = 0x04 then
    some (if v = 1 then s.keepCommand (fun s => s.revokeSlot (idx - 0x2410)) else refuse abortValue s)
  else if idx = 0x2420 ∧ sub = 0x05 then some (s.oneValue v 1 (fun s => s.closeSession r))
  else if idx = 0x2430 ∧ sub = 0x06 then some (s.debugCommand r v)
  else if idx = 0x2500 ∧ sub = 0x01 then some (s.lockCommand r v)
  else if idx = 0x2501 ∧ sub = 0x06 then
    some (s.oneValue v 1 (fun s => s.setSecurity (fun x => { x with hostConfirmed := true })))
  else if idx = 0x2520 ∧ sub = 0x01 then some (s.transactionCommand v)
  else none

/-- 0x3000 to 0x34FF. -/
def State.act30 (s : State) (idx sub v : Nat) : Option (Nat × State) :=
  if 0x3000 ≤ idx ∧ idx < 0x3040 ∧ sub < 8 then some (s.writeLaneWord (8 * (idx - 0x3000) + sub) v)
  else if 0x3000 ≤ idx ∧ idx < 0x3040 ∧ sub = 0x13 then some (done (s.readmit (idx - 0x3000) v))
  else if 0x3100 ≤ idx ∧ idx < 0x3300 ∧ sub = 0x16 then
    some (s.oneValue v 1 (fun s => s.clearLaneCounters (idx - 0x3100)))
  else if idx = 0x3300 ∧ sub = 0x01 then some (done (s.selectSource v))
  else if 0x3400 ≤ idx ∧ idx < 0x3408 ∧ sub = 0x01 then some (s.writePortWord (idx - 0x3400) v)
  else if 0x3400 ≤ idx ∧ idx < 0x3408 ∧ sub = 0x11 then
    some (s.oneValue v 1 (fun s => s.clearPortCounters (idx - 0x3400)))
  else none

/-- 0x4000 to 0x44FF. -/
def State.act40 (s : State) (r : Requester) (idx sub v : Nat) : Option (Nat × State) :=
  if idx = 0x4003 ∧ sub = 0x01 then some (s.runCommand v)
  else if 0x4040 ≤ idx ∧ idx < 0x4080 ∧ sub = 0x05 then some (done (s.resetLeastSlack (idx - 0x4040)))
  else if 0x4100 ≤ idx ∧ idx < 0x4140 ∧ sub = 0x08 then
    some (s.oneValue v 1 (fun s => s.requestRearm (fun id => spanOwner id = idx - 0x4100)))
  else if 0x4100 ≤ idx ∧ idx < 0x4140 ∧ sub = 0x12 then some (s.regionCommand (idx - 0x4100) v)
  else if 0x4100 ≤ idx ∧ idx < 0x4140 ∧ sub = 0x15 then some (s.goldenWrite (idx - 0x4100) v)
  else if 0x4210 ≤ idx ∧ idx < 0x4220 ∧ sub = 0x05 then some (s.slotCommand r (idx - 0x4210) v)
  else if idx = 0x4240 ∧ sub = 0x01 then some (s.migrationCommand v)
  else if idx = 0x4300 ∧ sub = 0x01 then
    some (if v = 1 then s.loadStart else if v = 2 then s.loadCancel else refuse abortValue s)
  else if idx = 0x4330 ∧ sub = 0x00 then some (s.injectFrameCommand v)
  else none

/-- 0x5000 to 0x58FF. -/
def State.act50 (s : State) (idx sub v : Nat) : Option (Nat × State) :=
  if 0x5100 ≤ idx ∧ idx < 0x5104 ∧ sub = 0x01 then some (s.marchCommand (idx - 0x5100) (BitVec.ofNat 32 v))
  else if idx = 0x5111 ∧ sub = 0x05 then some (s.keepCommand (fun s => s.oneValue v 1 (fun s => { s.areaWritten .repairMap with storedMap := [] })))
  else if 0x51F0 ≤ idx ∧ idx < 0x51F4 then some (done (s.wr idx sub 0))
  else if idx = 0x5860 ∧ sub = 0x00 then some (s.injectLineCommand v)
  else none

/-- 0x6000 to 0x68FF. -/
def State.act60 (s : State) (r : Requester) (idx sub v : Nat) : Option (Nat × State) :=
  if 0x6010 ≤ idx ∧ idx < 0x6055 ∧ sub = 0x02 then some (s.routerCommand (idx - 0x6010) v)
  else if 0x6120 ≤ idx ∧ idx < 0x6130 ∧ sub = 0x03 then some (s.writeProducer (idx - 0x6120) v)
  else if 0x6120 ≤ idx ∧ idx < 0x6130 ∧ sub = 0x05 then some (s.engineCommand (idx - 0x6120) v)
  else if 0x6140 ≤ idx ∧ idx < 0x6150 ∧ sub = 0x04 then some (s.softTrigger (idx - 0x6140) (BitVec.ofNat 64 v))
  else if 0x6810 ≤ idx ∧ idx < 0x686E ∧ sub = 0x08 then some (s.kernelCommand r (idx - 0x6810) v)
  else none

/-- 0x7000 to 0x81FF. -/
def State.act70 (s : State) (idx sub v : Nat) : Option (Nat × State) :=
  if idx = 0x7000 ∧ sub = 0x05 then some (done (s.ackClasses v))
  else if idx = 0x7000 ∧ sub = 0x06 then some (s.oneValue v 1 (fun s => s.ackAll))
  else if idx = 0x7002 ∧ sub = 0x01 then some (s.userRaise v)
  else if idx = 0x7010 ∧ sub = 0x04 then some (s.oneValue v 1 (fun s => s.clearHistory))
  else if idx = 0x7031 ∧ sub = 0x03 then some (s.oneValue v 1 (fun s => s.clearLog))
  else if 0x7100 ≤ idx ∧ idx < 0x7280 ∧ sub = 0x01 then some (done (s.statusWrite (idx - 0x7100) v))
  else if 0x7100 ≤ idx ∧ idx < 0x7280 ∧ sub = 0x02 then some (s.oneValue v 1 (fun s => s.force (idx - 0x7100)))
  else if idx = 0x8100 ∧ sub = 0x0D then some (s.pairCommand v)
  else none

/-- What a write of an entry does where that is more than to hold the value. -/
def State.entryAct (s : State) (r : Requester) (idx sub v : Nat) : Option (Nat × State) :=
  if idx < 0x1200 then s.act10 r idx sub v
  else if idx < 0x2300 then s.act20 idx sub v
  else if idx < 0x2600 then s.act24 r idx sub v
  else if idx < 0x3500 then s.act30 idx sub v
  else if idx < 0x4500 then s.act40 r idx sub v
  else if idx < 0x5900 then s.act50 idx sub v
  else if idx < 0x6900 then s.act60 r idx sub v
  else s.act70 idx sub v

/-! ### The checks of a write (R558) -/

/-- The right of the session that a value of an entry needs (R500, R506, R513, R514): 1 update, 2 debug, 3 fuse. -/
def rightFor (idx sub v : Nat) : Option Nat :=
  if idx = 0x2401 ∧ (sub = 0x01 ∨ sub = 0x03 ∨ sub = 0x04) then some 3
  else if idx = 0x2430 ∧ sub = 0x06 ∧ v = 1 then some 2
  else if idx = 0x2500 ∧ sub = 0x01 ∧ v = 1 then some 1
  else none

/-- The code of checks 2 to 5 for a write. -/
def State.writeCode (s : State) (r : Requester) (row : Row) (idx sub v : Nat) (segmented : Bool) : Nat :=
  if row.acc = .ro then 0x06010002
  else
    let code := s.accessCode r (ent idx sub) (guardNeeded row r true) (rightFor idx sub v) row.lock
    if code ≠ 0 then code else if (row.ty = .domain : Bool) ≠ segmented then 0x06070012 else 0

/-- The length suits the type (Table 13-1). -/
def lengthOk (t : Ty) (n : Nat) : Bool :=
  match t with
  | .str m => n ≤ m
  | t => n = t.size

/-- A value held at once, or, for RWR, pending until the next run boundary (R396). -/
def State.storeValue (s : State) (row : Row) (idx sub v : Nat) : State :=
  if row.acc = .rwr then { s with rwr := putKey s.rwr (ent idx sub) v } else (s.wr idx sub v).afterWrite idx sub v

/-- A write of an entry with the value v in bytes (R396 to R398, R404, R558). -/
def State.writeEntry (s : State) (r : Requester) (idx sub : Nat) (bytes : List Byte) : Nat × State :=
  let v := bytesNat bytes
  match s.entryRow idx sub with
  | none => (0x06020000, s)
  | some row =>
    let code := s.writeCode r row idx sub v false
    if code ≠ 0 then (code, s)
    else if !lengthOk row.ty bytes.length then (0x06070010, s)
    else if !typeOk row.ty v || !s.rangeOk row.rng v || !s.valueOk idx sub v then refuse abortValue s
    else if isUser idx then s.userAccess { r := some r, key := ent idx sub, write := true, value := bytes }
    else if !s.stateOk idx sub v then refuse abortState s
    else
      let (code, s) := (s.entryAct r idx sub v).getD (done (s.storeValue row idx sub v))
      (code, if code = 0 ∧ row.persist then s.nextGeneration else s)

/-- What takes effect after the answer: a new node number (R413), and a reset by command (R533, R534). -/
def State.afterAnswer (s : State) (idx sub v : Nat) (c : Option StartConds) : State :=
  if idx = 0x1008 ∧ sub = 0x01 then s.setNode v
  else if idx = 0x1100 ∧ sub = 0x01 then
    if v = 1 then
      let (d, t) := s.drawConds
      match c with
      | some c => s.deviceReset 2 c
      | none => t.deviceReset 2 d
    else s.warmReset 8
  else s

/-- A write answered. -/
def State.dictWriteAt (s : State) (c : Option StartConds) (r : Requester) (idx sub : Nat) (bytes : List Byte) : State :=
  if !s.answers r then s
  else
    let (code, t) := s.writeEntry r idx sub bytes
    if code = answerLater then t
    else
      let t := t.reply r (ent idx sub) code
      if code = 0 then t.afterAnswer idx sub (bytesNat bytes) c else t

/-- A write of an entry that is no DOMAIN. -/
def State.dictWrite (s : State) (r : Requester) (idx sub : Nat) (bytes : List Byte) : State :=
  s.dictWriteAt none r idx sub bytes

/-! ### Segmented writes -/

/-- The checks of a segmented write as it is opened; an image slot is WRITING from then on (R515). -/
def State.openTransfer (s : State) (r : Requester) (idx sub : Nat) : Nat × State :=
  match s.entryRow idx sub with
  | none => (0x06020000, s)
  | some row =>
    let code := s.writeCode r row idx sub 0 true
    if code ≠ 0 then (code, s)
    else if 0x2510 ≤ idx ∧ idx < 0x2513 then
      (if s.imageWritable (idx - 0x2510) then done (s.beginImage (idx - 0x2510)) else refuse abortState s)
    else done s

/-- A part of a segmented write. A stream goes to the load engine at once; when it is refused or fails there, its rest
is received and discarded (R184). -/
def State.partTransfer (s : State) (t : Transfer) (bytes : List Byte) : Transfer × State :=
  if t.key = ent 0x4310 0x00 then
    let (code, s) := s.feed (streamSender t.r) bytes
    ({ t with
      data := t.data ++ bytes
      failed := if t.failed = 0 then code else t.failed }, s)
  else
    let t := { t with data := t.data ++ bytes }
    (t, if 0x2510 ≤ t.key / 256 ∧ t.key / 256 < 0x2513 then s.wr (t.key / 256) 0x07 t.data.length else s)

/-- A segmented write has all its parts: it takes effect. -/
def State.endTransfer (s : State) (t : Transfer) : Nat × State :=
  let idx := t.key / 256
  let sub := t.key % 256
  if idx = 0x4310 then
    let p := streamSender t.r
    let bad : Bool := t.failed ≠ 0 || (s.ownsLoad p && s.rd 0x4301 0x01 = 5) || (s.headerWaits p && !s.wholeWaits p)
    let s := s.pathEnd p
    if bad ∨ (s.ownsLoad p ∧ s.rd 0x4301 0x01 = 5) then refuse abortState s else done s
  else if idx = 0x2401 ∧ sub = 0x01 then s.keepCommand (fun s => s.programKey t.r 0 t.data)
  else if idx = 0x2401 ∧ sub = 0x02 then s.keepCommand (fun s => s.programKey t.r 1 t.data)
  else if 0x2410 ≤ idx ∧ idx < 0x2420 then s.keepCommand (fun s => s.installKey (idx - 0x2410) t.data)
  else if idx = 0x2420 then s.response t.r t.data
  else
    let j := idx - 0x2510
    if Config.keepFails s.now then (0x08000050, (s.breakImage j).keepFault) else done (s.imageWritten j t.data)

/-- A whole segmented write at once, from its opening to its answer. -/
def State.domainWrite (s : State) (r : Requester) (idx sub : Nat) (bytes : List Byte) : State :=
  if !s.answers r then s
  else
    let (code, s) := s.openTransfer r idx sub
    if code ≠ 0 then s.reply r (ent idx sub) code
    else
      let (t, s) := s.partTransfer { r := r, key := ent idx sub, write := true, size := bytes.length } bytes
      let (code, s) := s.endTransfer t
      s.reply r (ent idx sub) code

end Sys2Proof.Machine
end

