-- ==== Sys2Proof/Machine/Paths.lean ====
section
/-! DEFINITION. Paths.lean: the access paths to the dictionary (R407 to R423): requests and segments on the field bus,
the mailboxes of the BAR0 window, the design's own requests, and the kernels' DICT (R387). Causes are those of Table
13-15 (R426). -/

namespace Sys2Proof.Machine

/-! ### What every path shares -/

/-- Segmented transfers open over all paths (R414), those being opened among them. -/
def State.openTransfers (s : State) : Nat :=
  s.transfers.length + (s.canOpen.filter (fun o => o.cs = 3)).length
    + ((List.range 16).filter (fun m => (s.mailbox m).opening)).length

/-- The dictionary kernel holds no further transfer (R414). -/
def State.transfersFull (s : State) : Bool := 32 ≤ s.openTransfers

/-- A transfer changed. -/
def State.setTransfer (s : State) (old new : Transfer) : State :=
  { s with transfers := s.transfers.map (fun y => if y = old then new else y) }

/-! ### The field bus: requests (R408 to R415) -/

/-- Channel c receives (Table 13-14): it is enabled and not bus-off, its clock domain runs, and the dictionary kernel
or the ROM answers. -/
def State.canHears (s : State) (c : Nat) : Bool :=
  s.answers (.can c 0) && s.domSt 4 = 1 && [1, 2, 4].contains (s.rd (0x100B + c) 0x01)

/-- An access from a CAN node answered with a response frame. -/
def State.canFinish (s : State) (o : CanOpen) (code : Nat) (value : List Byte) : State :=
  ((s.countAccess code).canDeliver o code value).emit (.answer (.can o.c o.node) code value)

/-- The frame that brings a request, as both channels compare it (R415). -/
def canRequestBytes (cs tid key len : Nat) (rest : List Byte) : List Byte :=
  canPad (canHead cs tid 0 key len ++ rest)

/-- A request arrives (R415): a copy of one that the other channel has brought within 10 ms is answered with it; any
other is processed by f. -/
def State.canOnce (s : State) (o : CanOpen) (payload : List Byte) (f : CanOpen → State → State) : State :=
  let o := { o with req := payload }
  let other := s.canCh (1 - o.c)
  let same (y : CanRecent) : Bool := y.node = o.node && y.payload = payload && s.now ≤ y.at_ + 10000000
  match other.recent.find? same with
  | some y =>
    let s := s.setCan (1 - o.c) { other with recent := other.recent.erase y }
    match y.response with
    | some resp => s.canTo o.c o.prio o.node resp
    | none => { s with canOpen := s.canOpen.map (fun x =>
        if x.c ≠ o.c ∧ x.node = o.node ∧ x.req = payload then { x with both := true } else x) }
  | none =>
    let mine := s.canCh o.c
    let kept := mine.recent.filter (fun y => s.now ≤ y.at_ + 10000000)
    f o (s.setCan o.c { mine with recent := kept ++ [{ node := o.node, payload := payload, at_ := s.now }] })

/-- Expedited requests that a node has open on a channel (R414). -/
def State.expeditedOpen (s : State) (c node : Nat) : Nat :=
  (s.canOpen.filter (fun o => o.c = c && o.node = node && 1 ≤ o.cs && o.cs ≤ 2)).length

/-- A node has a segmented transfer open on a channel (R414). -/
def State.segmentedOpen (s : State) (c node : Nat) : Bool :=
  s.transfers.any (fun t => t.r = .can c node) || s.canOpen.any (fun o => o.c = c && o.node = node && o.cs = 3)

/-- An expedited read (CS 0x01). -/
def State.canRead (s : State) (o : CanOpen) : State :=
  if 4 ≤ s.expeditedOpen o.c o.node then s.canFinish o 0x08000040 []
  else
    let (code, bytes, s) := s.readEntry (.can o.c o.node) false (o.key / 256) (o.key % 256)
    if code = answerLater then { s with canOpen := s.canOpen ++ [o] } else s.canFinish o code bytes

/-- An expedited write (CS 0x02). -/
def State.canWrite (s : State) (o : CanOpen) (bytes : List Byte) : State :=
  if 4 ≤ s.expeditedOpen o.c o.node then s.canFinish o 0x08000040 []
  else
    let (code, s) := s.writeEntry (.can o.c o.node) (o.key / 256) (o.key % 256) bytes
    if code = answerLater then { s with canOpen := s.canOpen ++ [o] }
    else
      let s := s.canFinish o code []
      if code = 0 then s.afterAnswer (o.key / 256) (o.key % 256) (bytesNat bytes) none else s

/-- The window of a transfer is not permitted (R412). -/
def State.badWindow (s : State) (win : Nat) : Bool := win = 0 || s.rd 0x100D 0x02 < win

/-- The limits and the window of an initiate; these come before the checks of R558. -/
def State.initiateCode (s : State) (o : CanOpen) : Nat :=
  if s.segmentedOpen o.c o.node || s.transfersFull then 0x08000040
  else if s.badWindow o.win then 0x05040002
  else 0

/-- A segmented read is initiated (CS 0x03). -/
def State.canReadInit (s : State) (o : CanOpen) : State :=
  let code := s.initiateCode o
  if code ≠ 0 then s.canFinish o code []
  else
    let (code, bytes, s) := s.readEntry (.can o.c o.node) true (o.key / 256) (o.key % 256)
    if code = answerLater then { s with canOpen := s.canOpen ++ [o] } else s.canFinish o code bytes

/-- A segmented write has all its parts: the acknowledged write is answered with CS 0x84 (R412). -/
def State.canWriteEnd (s : State) (c node : Nat) (t : Transfer) : State :=
  let s := { s with transfers := s.transfers.erase t }
  let (code, s) := s.endTransfer t
  ((s.countAccess code).canTo c t.prio node (canResponse 4 t.tid code t.key [])).emit (.answer t.r code [])

/-- A segmented write is initiated (CS 0x04): one that is accepted is answered once it has taken effect. -/
def State.canWriteInit (s : State) (o : CanOpen) (size : Nat) : State :=
  let code := s.initiateCode o
  if code ≠ 0 then s.canFinish o code []
  else
    let (code, s) := s.openTransfer (.can o.c o.node) (o.key / 256) (o.key % 256)
    if code ≠ 0 then s.canFinish o code []
    else
      let t : Transfer := {
        r := .can o.c o.node
        tid := o.tid
        key := o.key
        write := true
        size := size
        win := o.win
        prio := o.prio }
      let s := { s with transfers := s.transfers ++ [t] }
      if size = 0 then s.canWriteEnd o.c o.node t else s

/-! ### The field bus: segments (R412) -/

/-- The transfer that a frame of a node belongs to. -/
def State.canTransfer (s : State) (c node tid : Nat) : Option Transfer :=
  s.transfers.find? (fun t => t.r = .can c node && t.tid = tid)

/-- Bytes that the padding to a CAN FD length may add to a last segment of n bytes. -/
def padOk (n len : Nat) : Bool := (canPad (List.replicate (n + 4) 0)).length = len + 4

/-- An acknowledgement of the last segment received in order, and the next window (CS 0x06). -/
def State.sendAck (s : State) (c node : Nat) (t : Transfer) : State :=
  s.canTo c t.prio node ([0x53, 0x06, BitVec.ofNat 8 t.tid, BitVec.ofNat 8 (t.seq + 255)] ++ natBytes 2 (t.key / 256)
    ++ natBytes 1 t.key ++ [0, 0, 0, 0, 0] ++ natBytes 1 t.win)

/-- The segment with this SEQ ends the window that stands open, or the transfer (R412). -/
def endsWindow (t : Transfer) (seq : Nat) : Bool := seq = (min (t.sent + t.win) (segCount t.size) + 255) % 256

/-- A segment of a write (R412): one out of order is discarded, and where it ends the window the last segment received in
order is acknowledged, so that those after it are sent again; the last one ends the write; a total that is not SIZE
aborts it. -/
def State.canSegment (s : State) (c node tid seq : Nat) (bytes : List Byte) : State :=
  match s.canTransfer c node tid with
  | none => s
  | some t =>
    if !t.write then s
    else if seq ≠ t.seq % 256 then
      if endsWindow t seq then (s.setTransfer t { t with sent := t.seq }).sendAck c node { t with sent := t.seq } else s
    else
      let left := t.size - t.data.length
      let last := left ≤ bytes.length
      if (bytes.length < 60 ∧ bytes.length < left) ∨ (left < bytes.length ∧ !padOk left bytes.length) then
        s.cutTransfer t 0x05040004
      else
        let (t', s) := s.partTransfer t (bytes.take left)
        let t' := { t' with seq := t.seq + 1 }
        if last ∨ t'.seq - t'.sent = t'.win then
          let t' := { t' with sent := t'.seq }
          let s := (s.setTransfer t t').sendAck c node t'
          if last then s.canWriteEnd c node t' else s
        else s.setTransfer t t'

/-- An acknowledgement of a read's segments: the segments after the acknowledged one are sent, again or for the first
time; that of the last one ends the transfer. -/
def State.canAck (s : State) (c node tid seq win : Nat) : State :=
  match s.canTransfer c node tid with
  | none => s
  | some t =>
    let more := (seq + 1 + 256 - t.seq % 256) % 256
    if t.write ∨ t.sent - t.seq < more then s
    else if s.badWindow win then s.cutTransfer t 0x05040002
    else if t.seq + more = segCount t.size then { s with transfers := s.transfers.erase t }
    else
      let (t', s') := s.sendWindow c node { t with seq := t.seq + more, sent := t.seq + more, win := win }
      s'.setTransfer t t'

/-- An abort sent by the node (CS 0x07). -/
def State.canAbort (s : State) (c node tid : Nat) (code : Nat) : State :=
  match s.canTransfer c node tid with
  | some t =>
    let s := { s.breakWrite t with transfers := (s.breakWrite t).transfers.erase t }
    if t.write then s.countAccess code else s.bump 32 0x1011 0x02
  | none => { s with
      canOpen := s.canOpen.filter (fun o => !(o.c = c && o.node = node && o.tid = tid && o.cs = 3))
      heldReqs := if s.canOpen.any (fun o => o.c = c && o.node = node && o.tid = tid && o.cs = 3) then
          s.heldReqs.filter (fun h => h.who ≠ some (.can c node)) else s.heldReqs }

/-! ### The field bus: frames (R410, R413, R414) -/

/-- A processed frame counted. -/
def State.canProcessed (s : State) (c : Nat) : State := s.bump 64 (0x100B + c) 0x04

/-- A stranger frame: counted, and its cause at most once a second. -/
def State.canStranger (s : State) (c : Nat) : State :=
  let s := s.bump 32 (0x100B + c) 0x06
  let recent (d : Nat) : Bool := match (s.canCh d).strangerAt with
    | some t => s.now < t + 1000000000
    | none => false
  if recent 0 ∨ recent 1 then s
  else (s.setCan c { s.canCh c with strangerAt := some s.now }).raise 325 clsHost 0xD04 0

/-- A frame with the device's own node number: the channel falls silent. -/
def State.canDuplicate (s : State) (c : Nat) : State :=
  if (s.canCh c).silent then s
  else ((s.setCan c { s.canCh c with silent := true }).wr (0x100B + c) 0x01 4).raise 324 clsHost 0xD03 1

/-- A broadcast request: only an expedited write of an entry that is not guarded is performed, and nothing is
answered; a write that is not performed is counted. -/
def State.canBroadcast (s : State) (c node : Nat) (data : List Byte) : State :=
  let cs := byteAt data 1
  let idx := fieldAt data 4 2
  let sub := byteAt data 6
  let guarded := match s.entryRow idx sub with
    | some row => row.guarded
    | none => false
  if cs = 2 ∧ !guarded then
    let bytes := (data.drop 8).take (byteAt data 7)
    let (code, s) := s.writeEntry (.can c node) idx sub bytes
    if code = answerLater then
      { s with canOpen := s.canOpen ++ [{ c := c, node := node, cs := 0, key := ent idx sub }] }
    else
      let s := s.countAccess code
      if code = 0 then s.afterAnswer idx sub (bytesNat bytes) none else s.bump 32 (0x100B + c) 0x0B
  else if cs = 2 ∨ cs = 4 then s.bump 32 (0x100B + c) 0x0B
  else s

/-- A request frame to the device's node. -/
def State.canRequest (s : State) (c prio node : Nat) (data : List Byte) : State :=
  let cs := byteAt data 1
  let tid := byteAt data 2
  let key := ent (fieldAt data 4 2) (byteAt data 6)
  let o : CanOpen := { c := c, node := node, prio := prio, cs := cs, tid := tid, key := key, win := byteAt data 12 }
  match cs with
  | 1 => s.canOnce o (canPad data) (fun o s => s.canRead o)
  | 2 => s.canOnce o (canPad data) (fun o s => s.canWrite o ((data.drop 8).take (byteAt data 7)))
  | 3 => s.canOnce o (canPad data) (fun o s => s.canReadInit o)
  | 4 => s.canOnce o (canPad data) (fun o s => s.canWriteInit o (fieldAt data 8 4))
  | 5 => s.canSegment c node tid (byteAt data 3) (data.drop 4)
  | 6 => s.canAck c node tid (byteAt data 3) (byteAt data 12)
  | 7 => s.canAbort c node tid (fieldAt data 8 4)
  | _ => s.canOnce o (canPad data) (fun o s => s.canFinish o 0x05040001 [])

/-- A received frame, by the first rule of R410 that applies. -/
def State.canFrame (s : State) (c : Nat) (f : CanFrame) : State :=
  let id := f.id.toNat
  let prio := id / 2 ^ 26
  let dest := id / 2 ^ 14 % 128
  let src := id / 2 ^ 7 % 128
  let func := id % 128
  let own := s.rd 0x1008 0x01
  if !s.canHears c then s
  else if !f.fd ∨ id / 2 ^ 21 % 32 ≠ 0x16 then s.bump 64 (0x100B + c) 0x07
  else if f.data.head? ≠ some 0x53 then s.canStranger c
  else if dest ≠ own ∧ dest ≠ 0 then s
  else if src = own then s.canDuplicate c
  else if !([0x01, 0x02, 0x10, 0x11].contains func) then s.canStranger c
  else
    let s := s.canProcessed c
    if func ≠ 0x01 then s
    else if dest = 0 then
      s.canOnce { c := c, node := src, prio := prio, cs := 0, tid := byteAt f.data 2 } (canPad f.data)
        (fun _ s => s.canBroadcast c src f.data)
    else s.canRequest c prio src f.data

/-- A request of a node, named by its fields, reaches the device on a channel that hears it. -/
def State.canArrives (s : State) (c : Nat) (f : State → State) : State :=
  if s.canHears c then f ((s.work 4 c).canProcessed c) else s

/-! ### The field bus: channel states (R413, R416, R417) -/

/-- A heartbeat on each enabled channel (Table 13-9); one that finds the queue full is dropped (DESIGN CHOICE, log entry
208). -/
def State.canHeartbeat (s : State) : State :=
  let data : List Byte := [0x53, 0x40] ++ natBytes 1 s.engineSt ++ natBytes 1 s.pairSt ++ natBytes 4 (s.rd 0x1002 0x01)
    ++ natBytes 6 s.xn ++ natBytes 2 (min s.openSources 0xFFFF)
  let id := canId 2 0 (s.rd 0x1008 0x01) 0x10
  if s.startup.firmware then (s.canSend 0 .heartbeat id data).canSend 1 .heartbeat id data else s

/-- Bus-off: the frames that wait are discarded. -/
def State.busOff (s : State) (c : Nat) : State :=
  let st := s.rd (0x100B + c) 0x01
  if st = 1 ∨ st = 2 ∨ st = 4 then
    let s := s.setCan c { s.canCh c with queue := [], offSince := s.now }
    (((s.wr (0x100B + c) 0x01 3).wr (0x100B + c) 0x02 255).bump 32 (0x100B + c) 0x08).raise (320 + c) clsHost 0xD01 1
  else s

/-- Recovery after the delay and 128 occurrences of 11 recessive bits; the frames that waited meanwhile are sent. -/
def State.busOffRecovery (s : State) (c recessive : Nat) : State :=
  let x := s.canCh c
  if s.rd (0x100B + c) 0x01 = 3 ∧ 128 ≤ recessive ∧ x.offSince + s.rd 0x1009 0x04 * 1000000 ≤ s.now then
    let s := (s.wr (0x100B + c) 0x02 0).wr (0x100B + c) 0x03 0
    (s.wr (0x100B + c) 0x01 (s.canState c)).canFlush c
  else s

/-- The error counters of a channel as ISO 11898-1 has them: error-passive above 127, its cause raised as the channel
becomes so. -/
def State.errorCounters (s : State) (c tec rec_ losses : Nat) : State :=
  let st := s.rd (0x100B + c) 0x01
  if st ≠ 1 ∧ st ≠ 2 ∧ st ≠ 4 then s
  else
    let passive (s : State) : Bool := 127 < s.rd (0x100B + c) 0x02 || 127 < s.rd (0x100B + c) 0x03
    let was := passive s
    let s := s.bumpBy 64 (0x100B + c) 0x09 losses
    let s := (s.wr (0x100B + c) 0x02 (min tec 255)).wr (0x100B + c) 0x03 (min rec_ 255)
    let s := s.wr (0x100B + c) 0x01 (s.canState c)
    if passive s ∧ !was then s.raise (322 + c) clsHost 0xD02 0 else s

/-! ### The mailboxes (R418, R419) -/

/-- A CMD write: discarded while BUSY. -/
def State.mailboxCmd (s : State) (m : Nat) (f : State → State) : State :=
  if !s.answers (.mailbox m) then s
  else if (s.mailbox m).status.getLsbD 31 then s.bump 32 0x1011 0x03
  else f (s.setMailbox m { s.mailbox m with status := 0x80000000, abort := 0 })

/-- An operation of a transfer that ends with a code, outside any access (Table 13-4). -/
def State.mailboxCode (s : State) (m code : Nat) : State :=
  ((if code = 0 then s else s.bump 32 0x1011 0x02).mailboxDone m code false 0).emit (.answer (.mailbox m) code [])

/-- The transfer of a mailbox. -/
def State.mailboxTransfer (s : State) (m : Nat) : Option Transfer := s.transfers.find? (fun t => t.r = .mailbox m)

/-- OP 3. -/
def State.mailboxReadInit (s : State) (m idx sub : Nat) : State :=
  if (s.mailboxTransfer m).isSome ∨ s.transfersFull then s.reply (.mailbox m) (ent idx sub) 0x08000040
  else (s.setMailbox m { s.mailbox m with opening := true }).dictRead (.mailbox m) true idx sub

/-- A mailbox's segmented write has all its parts. -/
def State.mailboxWriteEnd (s : State) (m : Nat) (t : Transfer) : State :=
  let s := { s with transfers := s.transfers.erase t }
  let (code, s) := s.endTransfer t
  s.reply (.mailbox m) t.key code

/-- OP 4. -/
def State.mailboxWriteInit (s : State) (m idx sub total : Nat) : State :=
  let r := Requester.mailbox m
  if (s.mailboxTransfer m).isSome ∨ s.transfersFull then s.reply r (ent idx sub) 0x08000040
  else
    let (code, s) := s.openTransfer r idx sub
    if code ≠ 0 then s.reply r (ent idx sub) code
    else
      let t : Transfer := { r := r, key := ent idx sub, write := true, size := total }
      let s : State := { s with transfers := s.transfers ++ [t] }
      if total = 0 then s.mailboxWriteEnd m t else s.mailboxCode m 0

/-- OP 5: the next part, in the direction of the transfer that is open. -/
def State.mailboxSegment (s : State) (m : Nat) (bytes : List Byte) : State :=
  match s.mailboxTransfer m with
  | none => s.mailboxCode m 0x05030000
  | some t =>
    if !t.write then s.mailboxPart m t
    else if bytes.isEmpty ∨ mailboxBytes < bytes.length then s.mailboxCode m 0x06070010
    else if t.size < t.data.length + bytes.length then s.cutTransfer t 0x05040004
    else
      let (t', s) := s.partTransfer t bytes
      let s := s.setTransfer t t'
      if t'.data.length = t'.size then s.mailboxWriteEnd m t' else s.mailboxCode m 0

/-- OP 6. -/
def State.mailboxAbort (s : State) (m : Nat) : State :=
  match s.mailboxTransfer m with
  | none => s.mailboxCode m 0
  | some t =>
    let s := s.breakWrite t
    { s with transfers := s.transfers.erase t }.mailboxCode m 0

/-- A word of CMD (Table 13-10). -/
def cmdWord (op index sub : Nat) : BitVec 32 := BitVec.ofNat 8 op ++ BitVec.ofNat 8 sub ++ BitVec.ofNat 16 index

/-- A write of CMD starts the operation that its bits name, with LEN, VALUE and DATA as they stand. -/
def State.mailboxStart (s : State) (m : Nat) (word : BitVec 32) : State :=
  s.mailboxCmd m (fun s =>
    let s := s.setMailbox m { s.mailbox m with cmd := word }
    let x := s.mailbox m
    let index := (word.extractLsb' 0 16).toNat
    let sub := (word.extractLsb' 16 8).toNat
    match (word.extractLsb' 24 8).toNat with
    | 1 => s.dictRead (.mailbox m) false index sub
    | 2 => s.dictWrite (.mailbox m) index sub (x.value.take x.len ++ List.replicate (x.len - x.value.length) 0)
    | 3 => s.mailboxReadInit m index sub
    | 4 => s.mailboxWriteInit m index sub x.len
    | 5 => s.mailboxSegment m (x.data.take x.len ++ List.replicate (x.len - x.data.length) 0)
    | 6 => s.mailboxAbort m
    | _ => s.mailboxCode m 0x05040001)

/-! ### BAR0 (R344, R418, Tables 11-1 and 13-10) -/

/-- The 32-bit word at offset o, a multiple of 4, as the host reads it: the mailboxes, the MSI-X table, the pending-bit
array, and 0 elsewhere. -/
def State.bar0Read (s : State) (o : Nat) : BitVec 32 :=
  if o < 0x1000000 then
    let x := s.mailbox (o / 0x100000)
    let f := o % 0x100000
    if f = 0x000 then x.cmd
    else if f = 0x004 then BitVec.ofNat 32 x.len
    else if f = 0x008 then x.status
    else if f = 0x00C then BitVec.ofNat 32 x.abort
    else if 0x040 ≤ f ∧ f < 0x070 then BitVec.ofNat 32 (fieldAt x.value (f - 0x040) 4)
    else if 0x1000 ≤ f then BitVec.ofNat 32 (fieldAt x.data (f - 0x1000) 4)
    else 0
  else if 0x3800000 ≤ o ∧ o < 0x3802000 then (s.msixEntry ((o - 0x3800000) / 16)).extractLsb' (8 * (o % 16)) 32
  else if 0x3802000 ≤ o ∧ o < 0x3802040 then
    BitVec.ofNat 32 (maskOf 32 (fun i => s.msixPend.contains ((o - 0x3802000) * 8 + i)))
  else 0

/-- Four bytes of a buffer replaced. -/
def putWord (l : List Byte) (at_ : Nat) (v : BitVec 32) : List Byte :=
  (List.range (max l.length (at_ + 4))).map (fun i =>
    if at_ ≤ i ∧ i < at_ + 4 then (natBytes 4 v.toNat).getD (i - at_) 0 else l.getD i 0)

/-- The word at offset o as the host writes it: a word of CMD starts an operation; STATUS, ABORT and the pending-bit
array are the device's; writes elsewhere are discarded. -/
def State.bar0Write (s : State) (o : Nat) (v : BitVec 32) : State :=
  if o < 0x1000000 then
    let m := o / 0x100000
    let x := s.mailbox m
    let f := o % 0x100000
    if f = 0x000 then s.mailboxStart m v
    else if f = 0x004 then s.setMailbox m { x with len := v.toNat }
    else if 0x040 ≤ f ∧ f < 0x070 then s.setMailbox m { x with value := putWord x.value (f - 0x040) v }
    else if 0x1000 ≤ f then s.setMailbox m { x with data := putWord x.data (f - 0x1000) v }
    else s
  else if 0x3800000 ≤ o ∧ o < 0x3802000 then
    let e := (o - 0x3800000) / 16
    let bytes := putWord (natBytes 16 (s.msixEntry e).toNat) (o % 16) v
    (s.setMsix e (BitVec.ofNat 128 (bytesNat bytes))).msixTry e
  else s

/-- A host's operation on a mailbox: where it is not BUSY the host puts LEN, VALUE or DATA in place; then it writes
CMD. -/
def State.mailboxAsk (s : State) (m : Nat) (fill : MailboxRec → MailboxRec) (word : BitVec 32) : State :=
  let s := if s.answers (.mailbox m) && !(s.mailbox m).status.getLsbD 31 then s.setMailbox m (fill (s.mailbox m)) else s
  s.bar0Write (0x100000 * m) word

/-! ### The dictionary port (R421, R423) -/

/-- A request of the design: one at a time. -/
def State.portRequest (s : State) (q : PortReq) (f : State → State) : State :=
  if !s.answers .port then s
  else if s.portReq.isSome then
    ({ s.countAccess 0x08000040 with portOut := s.portOut ++ portAnswer q 0x08000040 [] }).emit (.answer .port 0x08000040 [])
  else f { s with portReq := some q }

/-- An operation of the port's segmented write answered. -/
def State.portCode (s : State) (q : PortReq) (code : Nat) : State :=
  ((if code = 0 then s else s.bump 32 0x1011 0x02).portDeliver q code []).emit (.answer .port code [])

/-- The port's segmented write. -/
def State.portTransfer (s : State) : Option Transfer := s.transfers.find? (fun t => t.r = .port)

/-- OP 0x03. -/
def State.portOpen (s : State) (tag idx sub : Nat) : State :=
  let q : PortReq := { op := 3, tag := tag, key := ent idx sub }
  s.portRequest q (fun s =>
    if s.portTransfer.isSome ∨ s.transfersFull then s.reply .port q.key 0x08000040
    else
      let (code, s) := s.openTransfer .port idx sub
      if code ≠ 0 then s.reply .port q.key code
      else
        let t : Transfer := { r := .port, key := q.key, write := true }
        { s with transfers := s.transfers ++ [t] }.portCode q 0)

/-- OP 0x04: at most 1 MiB in all. -/
def State.portSegment (s : State) (tag : Nat) (bytes : List Byte) : State :=
  let key := match s.portTransfer with
    | some t => t.key
    | none => 0
  let q : PortReq := { op := 4, tag := tag, key := key }
  s.portRequest q (fun s =>
    match s.portTransfer with
    | none => s.portCode q 0x05030000
    | some t =>
      if 1048576 < t.data.length + bytes.length then s.cutTransfer t 0x05040004
      else
        let (t', s) := s.partTransfer t bytes
        (s.setTransfer t t').portCode q 0)

/-- OP 0x05. -/
def State.portClose (s : State) (tag : Nat) : State :=
  let key := match s.portTransfer with
    | some t => t.key
    | none => 0
  let q : PortReq := { op := 5, tag := tag, key := key }
  s.portRequest q (fun s =>
    match s.portTransfer with
    | none => s.portCode q 0x05030000
    | some t =>
      let s := { s with transfers := s.transfers.erase t }
      let (code, s) := s.endTransfer t
      s.reply .port t.key code)

/-- OP 0x01 and 0x02. -/
def State.portRead (s : State) (tag idx sub : Nat) : State :=
  s.portRequest { op := 1, tag := tag, key := ent idx sub } (fun s => s.dictRead .port false idx sub)
def State.portWrite (s : State) (tag idx sub : Nat) (bytes : List Byte) : State :=
  s.portRequest { op := 2, tag := tag, key := ent idx sub } (fun s => s.dictWrite .port idx sub bytes)

/-- A complete message of the design (Tables 13-11, 13-12): with DIR 0 an answer, with DIR 1 a request. -/
def State.portMessage (s : State) (m : Bool × Word64 × List Word64) : State :=
  let h := m.2.1.toNat
  let op := h / 2 ^ 56
  let tag := h / 2 ^ 40 % 256
  let res := h / 2 ^ 32 % 256
  let idx := h / 2 ^ 16 % 65536
  let sub := h / 2 ^ 8 % 256
  let value := m.2.2.flatMap (fun w => natBytes 8 w.toNat)
  let bytes := value.take (h % 256)
  if !m.1 then (if op = 0x81 ∨ op = 0x82 then s.designAnswer tag res (if res = 0 then bytes else value) else s)
  else
    match op with
    | 1 => s.portRead tag idx sub
    | 2 => s.portWrite tag idx sub bytes
    | 3 => s.portOpen tag idx sub
    | 4 => s.portSegment tag bytes
    | 5 => s.portClose tag
    | _ => s.portRequest { op := op, tag := tag, key := ent idx sub } (fun s => s.reply .port (ent idx sub) 0x05040001)

/-! ### DICT (R387) -/

/-- DICT stalls the kernel; the buffer of a write must lie in its memory. -/
def State.stallDict (s : State) (k : Nat) (d : DictReq) : Except Nat State :=
  let a := d.buf.toNat
  let (head, s) := if d.fn = 1 then s.readBlock k a 2 else ([], s)
  let len := bytesNat head
  let fault := if d.fn = 1 then bufferFault k a (4 + len) false else if d.fn = 0 then bufferFault k a 4 true else 0
  if fault ≠ 0 then .error fault
  else .ok (s.setKernel k { s.kernel k with dict := some d, dictMade := false, dictDone := none })

/-- The access of a stalled DICT is made: 0 read, 1 write with its value from the buffer, 2 publish. -/
def State.makeDict (s : State) (k : Nat) (d : DictReq) : State :=
  let s := s.setKernel k { s.kernel k with dictMade := true }
  let key := d.arg.toNat
  if d.fn = 0 then s.dictRead (.kernel k) false (key / 256) (key % 256)
  else if d.fn = 1 then
    let (head, s) := s.readBlock k d.buf.toNat 2
    let (value, s) := s.readBlock k (d.buf.toNat + 4) (bytesNat head)
    s.dictWrite (.kernel k) (key / 256) (key % 256) value
  else if d.v < 1 ∨ 16 < d.v then s.reply (.kernel k) (ent (0x6880 + k) d.v) 0x06020000
  else (s.wr (0x6880 + k) d.v key).reply (.kernel k) (ent (0x6880 + k) d.v) 0

/-- The answer reaches the kernel: a value goes to the buffer, rd receives the code, and the kernel goes on, or stops
where a stop command came meanwhile (R391). -/
def State.endDict (s : State) (k : Nat) (d : DictReq) (code : Nat) (value : List Byte) : State :=
  let stop := (s.kernel k).stopAfter
  let s := s.setKernel k { s.kernel k with dict := none, dictMade := false, dictDone := none }
  let value := value.take 48
  let a := d.buf.toNat
  let fault := if d.fn = 0 ∧ code = 0 then bufferFault k a (4 + value.length) true else 0
  if fault ≠ 0 then s.kernelFault k fault
  else
    let s := if d.fn = 0 ∧ code = 0 then (s.writeBlock k a (natBytes 2 value.length)).writeBlock k (a + 4) value else s
    let s := s.writeReg k d.rd (BitVec.ofNat 32 code) 4
    if stop then s.stopKernel k else s

/-- The dictionary kernel takes up, or has answered, the stalled DICT of kernel k. -/
def State.answerDict (s : State) (k : Nat) : State :=
  match (s.kernel k).dict with
  | none => s
  | some d =>
    let s := if (s.kernel k).dictMade then s else s.makeDict k d
    match (s.kernel k).dictDone with
    | some (code, value) => s.endDict k d code value
    | none => s

end Sys2Proof.Machine
end

