-- ==== Sys2Proof/Machine/ReadoutCore.lean ====
section
/-! DEFINITION. ReadoutCore.lean: Dellarin's standard readout program (R355, R356, R389), as a whole: its trigger, the
walk of a descriptor table, its requests, the payload and the fragment. It has one trigger in hand and one request out
at a time (log entry 163). -/

namespace Sys2Proof.Machine

/-! ### Descriptor tables (R355, Table 11-4) -/

def descKind (u : BitVec 128) : Nat := (u.extractLsb' 124 4).toNat
def descCount (u : BitVec 128) : Nat := (u.extractLsb' 96 10).toNat
def descFirst (u : BitVec 128) : Nat := (u.extractLsb' 64 10).toNat
def descDxf (u : BitVec 128) : Int := (u.extractLsb' 56 8).toInt
def descNx (u : BitVec 128) : Nat := (u.extractLsb' 48 8).toNat
def descWcnt (u : BitVec 128) : Nat := (u.extractLsb' 40 5).toNat
def descAddr (u : BitVec 128) : Nat := (u.extractLsb' 0 31).toNat

/-- What an entry places in the payload for a trigger of crossing xn (R356): itself, then the slots of its streams,
crossing by crossing, or its words. -/
def descParts (xn : Nat) (u : BitVec 128) : List RdPart :=
  .entry u ::
    (if descKind u = 1 then
      (List.range (descNx u)).flatMap (fun i =>
        (List.range (descCount u)).map (fun j => .slot (descFirst u + j) (((xn : Int) + descDxf u + i) % 2 ^ 48).toNat))
    else [.words (descAddr u) (descWcnt u)])

/-- The walk of a table: its parts, and PARTIAL where a KIND of 3 to 15 ends it (R355). -/
def walkTable (xn : Nat) : List (BitVec 128) → List RdPart × Bool
  | [] => ([], false)
  | u :: l =>
    if descKind u = 0 then ([], false)
    else if 3 ≤ descKind u then ([], true)
    else (descParts xn u ++ (walkTable xn l).1, (walkTable xn l).2)

/-- Descriptor table DT of a readout kernel, at 0x0010_0000 + 512 × DT (R379): 32 entries of 16 bytes. -/
def State.tableEntries (s : State) (k dt : Nat) : List (BitVec 128) :=
  (List.range 32).map (fun i => BitVec.ofNat 128 (bytesNat (s.kbytes k (0x00100000 + 512 * dt + 16 * i) 16)))

/-! ### The program -/

/-- Where the program has the answer to its request: data memory above the tables (log entry 163). -/
abbrev answerBuf : Nat := 0x00102000
abbrev answerMax : Nat := 16384

def State.setJob (s : State) (k : Nat) (j : Option RdJob) : State := s.setKernel k { s.kernel k with job := j }

/-- The next trigger is taken (TRIG). -/
def State.takeJob (s : State) (k : Nat) : State :=
  match (s.kernel k).job, (s.kernel k).triggers with
  | none, (w0, w1) :: rest =>
    let (parts, bad) := walkTable (w0.extractLsb' 0 48).toNat (s.tableEntries k (w0.extractLsb' 52 4).toNat)
    (s.setKernel k { s.kernel k with
      triggers := rest
      job := some { w0 := w0, w1 := w1, parts := parts, part := bad } }).wr (0x6140 + (k - 64)) 0x05 rest.length
  | _, _ => s

/-- The era of a crossing number (R267). -/
def State.eraOf (s : State) (xn : Nat) : Nat := (s.resolve xn / 2 ^ 48 % 16).toNat

/-- The request for a part: a retrieval of one stream at the controller of its stack, or a read of the words. -/
def State.askFor (s : State) (k : Nat) (x : RdPart) : Option Packet :=
  match x with
  | .entry _ => none
  | .slot stream xn => some
    { dest := 0x080 + seStack (s.slotEntry stream)
      src := kernelNode k
      cmd := 4
      units := [BitVec.ofNat 128 (2 ^ 96 + stream * 2 ^ 64 + s.eraOf xn * 2 ^ 48 + xn)] }
  | .words addr wcnt => some
    { dest := addr / 2 ^ 23 % 64
      src := kernelNode k
      cmd := 1
      last := 7
      wcnt := wcnt
      addr := addr }

/-- A status word of a retrieval response and its slot, and whether its status is 5 or more (R271, R356). -/
def slotAnswer (got : List Byte) : List Byte × Bool :=
  let status := (got.getD 7 0).toNat
  (got.take (8 + (if status ≤ 4 then 32 * (got.getD 5 0).toNat else 0)), 5 ≤ status)

/-- A status unit and the words after it (R356), and whether a status is 2 or more. -/
def wordsPart (n statuses : Nat) (words : List Byte) : List Byte × Bool :=
  (natBytes 16 statuses ++ words, (List.range n).any (fun i => 2 ≤ statuses / 16 ^ i % 16))

/-- The two trains of a read of n words, each a status unit and its words (Table 10-4). -/
def wordsAnswer (n : Nat) (got : List Byte) : List Byte × Bool :=
  let m := min n 16
  let rest := got.drop (16 + 16 * ((m + 1) / 2))
  wordsPart n (bytesNat (got.take 8) + (if 16 < n then bytesNat (rest.take 8) * 2 ^ 64 else 0))
    ((got.drop 16).take (8 * m) ++ (rest.drop 16).take (8 * (n - 16)))

/-- n free bytes. -/
def State.drawBytes (s : State) (n : Nat) : List Byte × State :=
  let (v, s) := s.draw
  (natBytes n v, s)

/-- What a part places in the payload for the bytes that came; where none came, as NSTAT says, the spec gives no content:
free values (log entry 164). -/
def State.placed (s : State) (x : RdPart) (nstat : Nat) (got : List Byte) : (List Byte × Bool) × State :=
  match x with
  | .entry u => ((natBytes 16 u.toNat, false), s)
  | .slot stream _ =>
    if nstat = 0 then (slotAnswer got, s)
    else
      let (v, s) := s.draw
      ((natBytes 8 (s.statusWord stream (5 + v % 5)), true), s)
  | .words _ wcnt =>
    if nstat = 0 then (wordsAnswer (wcnt + 1) got, s)
    else
      let (v, s) := s.draw
      let (words, s) := s.drawBytes (8 * (wcnt + 1))
      (wordsPart (wcnt + 1) (v % 16 ^ (wcnt + 1)) words, s)

/-- The first part is placed. -/
def State.placePart (s : State) (k nstat : Nat) (got : List Byte) : State :=
  match (s.kernel k).job with
  | none => s
  | some j =>
    match j.parts with
    | [] => s
    | x :: rest =>
      let ((bytes, bad), s) := s.placed x nstat got
      s.setJob k (some { j with parts := rest, sent := false, payload := j.payload ++ bytes, part := j.part || bad })

/-- A completion entry is taken: the answer to the request. -/
def State.takeAnswer (s : State) (k : Nat) : State :=
  let x := s.kernel k
  if x.cqHead = x.cqTail then s
  else
    let e := bytesNat (s.kbytes k (0x00300000 + 8 * x.cqHead) 8)
    let got := s.kbytes k answerBuf (e % 2 ^ 32)
    let s := s.setKernel k { x with cqHead := (x.cqHead + 1) % 64 }
    if x.job.any (fun j => j.sent) then s.placePart k (e / 2 ^ 52 % 16) got else s

/-- The header of a fragment (Table 11-6); the engine fills in SEQ and DEVTIME. -/
def State.fragmentHeader (s : State) (k : Nat) (j : RdJob) : List Byte :=
  let xn := (j.w0.extractLsb' 0 48).toNat
  let flags := (if j.w1.getLsbD 63 then 1 else 0) + (if j.w1.getLsbD 62 then 2 else 0) + (if j.part then 4 else 0)
  natBytes 4 (32 + j.payload.length) ++ natBytes 4 0 ++ natBytes 8 (s.eraOf xn * 2 ^ 48 + xn) ++ natBytes 8 0
    ++ natBytes 1 (j.w0.extractLsb' 56 8).toNat ++ natBytes 1 ((k - 64) * 16) ++ natBytes 2 flags
    ++ natBytes 1 (s.rd 0x8000 0x03) ++ natBytes 1 (s.rd 0x8100 0x02) ++ natBytes 2 0

/-- The fragment is handed to the engine (FRAG), once the staging ring has room; one that is larger than the ring is
lost (log entry 163). The program has gone on where the first part is true. -/
def State.finishJob (s : State) (k : Nat) (j : RdJob) : Bool × State :=
  let f := s.fragmentHeader k j ++ j.payload
  if 1048576 < f.length then (true, s.setJob k none)
  else if s.stageFree k < f.length then (false, s)
  else (true, ((s.setJob k none).submitFragment (k - 64) f).2)

/-- One step of the program: an answer is placed, a trigger taken, a part placed or asked for, a fragment handed over. It
has gone on where the first part is true. -/
def State.readoutStep (s : State) (k : Nat) : Bool × State :=
  let x := s.kernel k
  if x.cqHead ≠ x.cqTail then (true, s.takeAnswer k)
  else
    match x.job with
    | none => (!x.triggers.isEmpty, s.takeJob k)
    | some j =>
      match j.parts with
      | [] => s.finishJob k j
      | y :: _ =>
        match s.askFor k y with
        | none => (true, s.placePart k 0 [])
        | some p =>
          if j.sent then (false, s)
          else
            let (r, s) := s.sendRequest k p answerBuf answerMax
            if r = 0 then (true, s.setJob k (some { j with sent := true })) else (false, s)

/-- Steps of the program that one command brings about at most. -/
def readoutFuel : Nat := 64

/-- A kernel's program goes on until it waits; what is left after the greatest number of steps goes on with the next
command. -/
def State.runReadout (s : State) (k : Nat) : Nat → State
  | 0 => s.readoutCall k
  | fuel + 1 =>
    match s.readoutStep k with
    | (true, t) => t.runReadout k fuel
    | (false, t) => t

/-- The standard readout programs go on, on the kernels that run. -/
def State.serveReadout (s : State) : State :=
  s.readoutDue.foldl (fun s k => if (s.kernel k).std && s.kernelSt k = 1 then s.runReadout k readoutFuel else s)
    { s with readoutDue := [] }

end Sys2Proof.Machine
end

