-- ==== Sys2Proof/Machine/Settle.lean ====
section
/-! DEFINITION. Settle.lean: what a command brings about before it ends: the reaction actions that its raises call for
(R484 to R486), the messages that the design has completed, retrievals whose slots have been written (R22), and the
items that a lead sends to its mirror (R303), and fragments that wait for a readout lane (R363). -/

namespace Sys2Proof.Machine

/-- A migration by reaction: the device chooses W; where it is refused, the source's region is halted (R161, R485). -/
def State.reactMigrate (s : State) (e src : Nat) : State :=
  if s.rd 0x4240 0x05 = e ∧ s.collector.migRaised = some e then s
  else
    let (reason, t) := s.startMigration e 0 true
    if reason = 0 then { t with collector := { t.collector with migRaised := some e } } else t.haltRegion (src - 64) src

/-- A device reset that a reaction started is under way: its start has not come to step 7 (R486; DESIGN CHOICE, log entry
211). -/
def State.resettingByRaise (s : State) : Bool := s.startup.cause = 3 && 2 ≤ s.startStep && s.startStep ≤ 6

/-- One action (Table 16-5). An action of code 2 to 7 that an earlier raise started and that is under way is not started
again (R486). -/
def State.takeAction (s : State) (a : Action) : State :=
  match a with
  | .replay n k => s.replayHeld n k
  | .haltRegion n src => s.haltRegion n src
  | .haltFabric src => s.haltFabric src
  | .migrate e src => s.reactMigrate e src
  | .throttle => s.reactThrottle
  | .yield => if s.pair.yieldDue || s.pair.yieldSent then s else s.requestYield
  | .warmReset => if s.startup.warm ∧ s.startup.cause = 9 then s else s.warmReset 9
  | .deviceReset =>
    if s.resettingByRaise then s
    else
      let (c, s) := s.drawConds
      s.deviceReset 3 c

/-- The actions that wait are taken in order, with those that they raise in turn. -/
def State.runActions (s : State) : Nat → State
  | 0 => s
  | fuel + 1 =>
    match s.collector.actions with
    | [] => s
    | a :: rest => ({ s with collector := { s.collector with actions := rest } }.takeAction a).runActions fuel

/-- Actions that one command takes at most. -/
def actionFuel : Nat := 256

/-- Record reads whose slot is closed are answered (R22, R273). -/
def State.serveRecords (s : State) : State :=
  let l := s.heldReqs
  l.foldl (fun s h =>
    match h.who with
    | none => { s with heldReqs := s.heldReqs ++ [h] }
    | some r =>
      match s.retrieve h.stream (h.c % 2 ^ 48) (h.c / 2 ^ 48 % 16) with
      | (none, _) => { s with heldReqs := s.heldReqs ++ [h] }
      | (some (status, bytes), s) =>
        ((s.wr 0x5840 0x03 status).countStatus status).reply r (ent 0x5841 0x00) 0 (if status ≤ 4 then bytes else []))
    { s with heldReqs := [] }

/-- A stream has claimed the pair that a readback reads (R190). -/
def State.dropReadbacks (s : State) : State :=
  let lost (t : Transfer) : Bool := t.key = ent 0x4321 0x00 && s.planeState (t.pair / 8) (t.pair % 8) = 1
  (s.transfers.filter lost).foldl (fun s t => s.cutTransfer t abortState) s

/-- The design's messages go to the dictionary kernel. -/
def State.servePort (s : State) : State :=
  s.portMsgs.foldl (fun s m => s.portMessage m) { s with portMsgs := [] }

/-- Nothing waits. -/
def State.quiet (s : State) : Bool :=
  s.collector.actions.isEmpty && s.portMsgs.isEmpty && s.heldReqs.isEmpty && s.bar2Held.isEmpty && s.bar4Held.isEmpty && s.transfers.isEmpty
    && s.designQ.isEmpty && !s.hasMirror && s.readoutDue.isEmpty && s.readoutQueue.isEmpty

/-- What is due at the end of a command. -/
def State.settleAll (s : State) : State :=
  let s := s.runActions actionFuel
  let s := if s.portMsgs.isEmpty then s else s.servePort
  let s := if s.heldReqs.isEmpty then s else s.serveHeld.serveRecords
  let s := s.serveReadout.drainReadouts
  let s := if s.bar2Held.isEmpty then s else s.bar2Resume
  let s := if s.bar4Held.isEmpty then s else s.bar4Resume
  let s := if s.transfers.isEmpty then s else s.dropReadbacks
  (s.runActions actionFuel).pumpDesign.syncItems

/-- The end of a command. -/
def State.settle (s : State) : State := if s.quiet then s else s.settleAll

end Sys2Proof.Machine
end

