-- ==== Sys2Proof/Machine/Operands.lean ====
section
/-! DEFINITION. Operands.lean: what the operands of commands name (units, entries, values in bytes), and the frame that
every command's meaning has: nothing given before it, and its consequences at its end. -/

namespace Sys2Proof.Machine

/-- A command that is no dictionary access: it acts, and what it brings about is settled. -/
def event (exists_ : Bool) (s : State) (f : State → State) : Result := onUnit exists_ (f s.fresh).settle

/-- The requester of a command exists: one of two channels and 127 nodes, 16 mailboxes, the port, 94 kernels. -/
def requesterOk (r : Requester) : Bool :=
  match r with
  | .can c n => c < 2 && 1 ≤ n && n ≤ 127
  | .mailbox m => m < 16
  | .port => true
  | .kernel k => k < 94

/-- A command that is a write of an entry: n bytes of v. -/
def writes (s : State) (r : Requester) (idx sub n v : Nat) : Result :=
  onUnit (requesterOk r) (s.fresh.dictWrite r idx sub (natBytes n v)).settle

/-- The same for an entry of a unit that the operand must name. -/
def writesOn (exists_ : Bool) (s : State) (r : Requester) (idx sub n v : Nat) : Result :=
  onUnit (requesterOk r && exists_) (s.fresh.dictWrite r idx sub (natBytes n v)).settle

/-- A whole segmented write. -/
def writesDomain (exists_ : Bool) (s : State) (r : Requester) (idx sub : Nat) (bytes : List Byte) : Result :=
  onUnit (requesterOk r && exists_) (s.fresh.domainWrite r idx sub bytes).settle

/-- An instruction of user kernel k. -/
def kernelInstr (s : State) (k : Nat) (i : Instr) (f : State → Except Nat State) : Result :=
  onUnit (k < 80) (s.instr k i f).settle

/-- A receiver of lane events: a lane, the receivers of a stack port, or a timing input (log entry 40). -/
def isReceiver (r : Nat) : Bool := r < 522

/-- A receiver of single blocks: a lane or a timing input (log entry 40). -/
def takesBlocks (r : Nat) : Bool := r < 512 || r = 520 || r = 521

end Sys2Proof.Machine
end

