-- ==== Sys2Proof/Machine/EventCore.lean ====
section
/-! DEFINITION. EventCore.lean: what the events of several chapters do that no operation of those chapters holds
alone: rails, alias writes, patrol reads, switch-on, power-off, resets of the host interface, restarts. -/

namespace Sys2Proof.Machine

/-! ### Power (R545, R452, R338) -/

/-- Rails whose tamper window trips the tamper sensors (Table 17-4): VL, VB and VAUX, numbered 0, 3 and 8 in the order of Table 15-1. -/
def isTamperRail (rail : Nat) : Bool := rail = 0 || rail = 3 || rail = 8

/-- A rail lies below 90 % of its setting for lowNs: the tamper response comes first where the rail has also left its
tamper window, and the power-on reset follows (R545). -/
def State.railLost (s : State) (rail lowNs : Nat) (window : Bool) : State :=
  if !s.startup.released ∨ 9 ≤ rail ∨ lowNs ≤ 10000 then s
  else
    let s : State := if window ∧ isTamperRail rail then
        let s := s.tamperResponse 1
        { s with startup := { s.startup with tamperWait := true } }
      else s
    s.powerLost

/-- A blank fill that is not complete in 40 µs (R137): the region stays off. -/
def State.fillTimeout (s : State) (n : Nat) : State :=
  if s.regState n ≠ rFilling then s else (s.powerOff n).raise 153 clsMemory 0x40B 2

/-- The region at the head of the queue is switched on, or its switch fails (R452, Table 15-6). -/
def State.regionSwitchOn (s : State) (n : Nat) (ok : Bool) : State :=
  if s.thermal.queue.head? ≠ some n ∨ !s.mayPower then s
  else if ok then (s.switchOn n).wr (0x6060 + n) 0x01 0
  else
    let s : State := { s with thermal := { s.thermal with queue := s.thermal.queue.filter (fun x => x ≠ n) } }
    s.raise 196 clsPower 0xF05 2

/-- An interface that holds nothing enters CLOSED, and power is removed (R338): no reserved slot of its own requests. An
accepted request is served in the command that brings it. -/
def State.closedOff (s : State) (n durationNs : Nat) : State :=
  if s.rd (0x6060 + n) 0x01 ≠ 1 ∨ s.outstanding n ≠ 0 then s
  else
    let s := s.regionClosed n durationNs
    if (s.region n).closing ∧ (s.regState n = rHalted ∨ s.regState n = rLoading) then s.powerOff n else s

/-- The close timeout (R338): the interface releases its reserved slots. -/
def State.closeLate (s : State) (n durationNs : Nat) : State :=
  if s.rd (0x6060 + n) 0x01 ≠ 1 then s
  else ({ s with outReqs := s.outReqs.filter (fun q => q.node ≠ n) }.closedOff n durationNs).raise 166 clsNetwork 0xA04 1

/-- Automatic gating (R453): the power-off command. -/
def State.gateRegion (s : State) (n : Nat) : State := if s.autoGate n then (s.powerOffCommand n).2 else s

/-! ### Memory (R112, R124) -/

/-- A write through the bit-set (1) or bit-clear (2) view, at the region that the address names: network status 2 where
that region's interface is not OPEN (R338), 4 where it covers no 1 to 32 words of one bank (R109, R330, R331). -/
def State.aliasWrite (s : State) (view master addr last : Nat) (data : List Word64) (waits : Nat) : State :=
  let n := addr / 2 ^ 23 % 64
  if s.rd (0x6060 + n) 0x01 ≠ 0 then (s.countNstat 2).emit (.netStatus 2)
  else if !wordsOk addr (data.length - 1) last ∨ data.isEmpty then s.emit (.netStatus 4)
  else
    let s := (s.countConflicts (quadrantOf n) master waits).bump 64 (0x6060 + n) 0x02
    let (sts, s) := s.openWrite (addrBank addr) (addrWord addr) (firstMask (addrLane addr)) (lastMask last) view data
    s.emit (.statuses sts)

/-- Completed passes of the patrol reader over all patrolled banks of region n: those of the bank that has the
fewest. -/
def State.patrolPasses (s : State) (n : Nat) : Nat :=
  let banks := ((List.range 64).map (bankKey n)).filter (fun k => dPatrol (s.descriptor k))
  match banks.map (fun k => Sparse.get (fun _ => 0) s.patrol k / 16384) with
  | [] => 0
  | x :: xs => xs.foldl min x

/-- The patrol reader reads the next word of a patrolled bank (R124), where 0x5000+n:0D lets it. A bank under a march
is read with the contents from before it (DESIGN CHOICE, log entry 221). -/
def State.patrolRead (s : State) (n b : Nat) : State :=
  let bank := bankKey n b
  if !dPatrol (s.descriptor bank) ∨ s.rd (0x5000 + n) 0x0C ≠ 0 ∨ s.rd (0x5000 + n) 0x0D = 0 then s
  else
    let w := Sparse.get (fun _ => 0) s.patrol bank
    let t := (s.readBankWord .patrol bank (w % 16384) 255).2.2
    let t := { t with patrol := Sparse.set (fun _ => 0) t.patrol bank (w + 1) }
    if s.patrolPasses n < t.patrolPasses n then t.bump 32 (0x5000 + n) 0x0E else t

/-! ### Streams (R185) -/

/-- What waited for clock domains that run again goes on: frames of both channels, updates of the probe pins,
voltage writes, and a load command's header (Table 14-4). Accesses that wait for domain KEEP are tried at the end of the command. -/
def State.restarted (s : State) : State := ((s.canFlush 0).canFlush 1).pinsRelease.avsRelease.keepRelease.loadResume

/-- A header row: the 128 bytes of Table 6-2, or a part of them. No byte of a path comes while its clock domain stands
still (R444). The path of a header that is refused is answered
(R184). -/
def State.headerRow (s : State) (path : Nat) (bytes : List Byte) : State :=
  if s.pathStill path then s
  else
    let (code, s) := if bytes.length = 128 ∧ !s.ownsLoad path then s.streamHeader path bytes else s.feed path bytes
    if code = 0 then s else s.emit (.streamAnswer path code)

/-- A record row: the 268 bytes of a record, or a part of them, on the path of the stream. -/
def State.recordRow (s : State) (bytes : List Byte) : State :=
  if s.pathStill s.load.path then s
  else if bytes.length = 268 then s.streamRecord bytes else (s.feed s.load.path bytes).2

/-- A trailer row, likewise. -/
def State.trailerRow (s : State) (bytes : List Byte) : State :=
  if s.pathStill s.load.path then s else s.streamTrailer bytes

/-! ### The look-back store (R277, R257) -/

/-- A slot that the store is to write (R258, R259, R275) is not written within R21. -/
def State.slotLate (s : State) (st c : Nat) : State :=
  let e := s.slotEntry st
  if s.stored st c ∧ s.slotClosed st c ∧ s.slotHolds st c ≠ c + 1 then s.raise (136 + seStack e) clsLookback 0x805 1 else s

/-- Class C starts again (R257). -/
def State.restartCool (s : State) : State := if s.storeCool then s.restartClass 2 else s

/-! ### Stack ports (R288, R290, R307, R308, R314, R315) -/

/-- The mirror accepts its lead's yield; a half that is still JOINING does not take over (R307). -/
def State.yieldMessage (s : State) (p : Nat) : State :=
  if s.portMode p ≠ 2 ∨ s.portSt p ≠ pUp ∨ !s.isMirror then s.dropMsg p
  else if s.pairSt = 1 then s
  else s.setPair (fun x => { x with yieldAccepted := true })

/-- An echo request is answered. -/
def State.echoRequest (s : State) (p : Nat) : State :=
  if s.takesMsgs p then s.portMsg p 0x07 0 0 [] else s.dropMsg p

/-- The answer to the port's own echo request. -/
def State.echoAnswer (s : State) (p roundTripPs : Nat) : State :=
  if s.takesMsgs p then s.cableMeasured p roundTripPs else s.dropMsg p

/-- A cable measured again. -/
def State.cableRecheck (s : State) (p roundTripPs : Nat) : State :=
  if s.portSt p = pUp then (s.portMsg p 0x06 0 0 []).cableMeasured p roundTripPs else s

/-- The mirror takes a pair reset in order, from a lead whose epoch is not earlier (R314). -/
def State.pairReset (s : State) (p mseq : Nat) : State :=
  if s.portMode p ≠ 2 ∨ s.portSt p ≠ pUp ∨ !s.isMirror then s.dropMsg p
  else if !s.inOrder mseq ∨ (s.port p).role ≠ 1 ∨ (s.port p).epoch.any (fun e => serialLater 16 e (s.rd 0x8100 0x04)) then s
  else (s.acceptMseq mseq).warmReset 10

/-- The lead arms the cool switch for its mirror. -/
def State.throttleMessage (s : State) (p : Nat) : State :=
  if s.portMode p ≠ 2 ∨ s.portSt p ≠ pUp ∨ s.pairSt ≠ 4 then s.dropMsg p else s.armCool

/-- The bellwether's run message, sent again downwards while the engine is not STOPPED (R295). -/
def State.repeatRun (s : State) : State := if s.flock.isSome ∧ s.isBellwether ∧ s.engineSt ≠ 1 then s.sendOwnRun else s

/-! ### The network (R334) -/

/-- An empty draining router enters OUT. -/
def State.routerOut (s : State) (x : Nat) : State := if s.routerSt x = 1 then s.setRouter x 2 else s

/-! ### The host interface (R350, R360, R364) -/

/-- An error on a descriptor read. -/
def State.descriptorError (s : State) (e : Nat) : State :=
  if s.engState e = 1 ∨ s.engState e = 2 then (s.wr (0x6120 + e) 0x06 3).raise 278 clsHost 0xB07 1 else s

/-- A pending vector, with its entry of the MSI-X table as the host has it. -/
def State.msixMessage (s : State) (v : Nat) (entry : BitVec 128) : State := (s.setMsix v entry).msixTry v

/-- The holdoff of a vector ends. -/
def State.msixHoldoff (s : State) (v : Nat) (entry : BitVec 128) : State :=
  let s := s.setMsix v entry
  { s with msixHold := s.msixHold.filter (fun x => x ≠ v) }.msixTry v

/-- A reset of the host interface: 0 PERST_N, 1 hot reset, 2 link-down reset, 3 function-level reset. The first three
take the link down. The mailboxes end their transfers and sessions (R424, R504). -/
def State.pcieReset (s : State) (kind : Nat) : State :=
  let ofHost : Requester → Bool := fun r => match r with
    | .mailbox _ => true
    | _ => false
  let s := s.abortTransfers ofHost 0x08000060
  let s := (s.closeSessions ofHost).hostReset
  if kind = 3 then s else s.linkDown

/-! ### Kernels (R377, R378) -/

/-- A vendor kernel faults: its program, and so its PC, is not in the spec, a free value (log entry 196). -/
def State.vendorFault (s : State) (k code : Nat) : State :=
  let (v, s) := s.draw
  (s.setPc k (BitVec.ofNat 32 v)).kernelFault k code

/-- A running kernel has not waited within its watchdog time; watchdogs pause while domain SYS is stopped (R444). -/
def State.kernelWatchdog (s : State) (k : Nat) : State :=
  if s.kernelSt k ≠ 1 ∨ s.domSt 0 ≠ 1 then s
  else if 80 ≤ k then s.vendorFault k 8
  else (s.holdEq k).kernelFault k 8

/-- An illegal encoding at the program counter, or a program counter outside code memory. -/
def State.illegalInstruction (s : State) (k : Nat) : State :=
  if 80 ≤ k then (if s.kernelSt k = 1 then s.vendorFault k 1 else s)
  else if !s.canRun k then s
  else if !s.pcOk k then s.kernelFault k 3
  else if (s.fetched k).isNone then s.kernelFault k 1
  else s

/-- A faulted kernel restarts; the dictionary kernel's transfers end (R424). -/
def State.kernelRestart (s : State) (k : Nat) : State :=
  if k = 88 ∧ s.kernelSt k = 3 then (s.restartAfterFault k).abortTransfers (fun _ => true) 0x08000060
  else s.restartAfterFault k

/-! ### Start-up, warm-up, update -/

/-- The sensors are read; a warm-up that start-up waits for may end (R457, R460, R461). -/
def State.sensorsRead (s : State) (l : List SensorIn) : State :=
  let s := s.sensorRead l
  if s.rd 0x2280 0x0A = 1 ∧ s.allWarm then
    let s := s.leaveWarmup
    match s.thermal.warmStart with
    | some c => { s with thermal := { s.thermal with warmStart := none } }.start6 c
    | none => s
  else s

/-- A cold start is tried again (R459). -/
def State.coldRetry (s : State) (c : StartConds) : State := if s.startup.coldWait then s.afterFirmware c else s

/-- RESET_N is held low (R552): 10 µs or longer is a device reset. -/
def State.resetPin (s : State) (widthNs : Nat) (c : StartConds) : State :=
  if 10000 ≤ widthNs then s.deviceReset 1 c else s

/-- The firmware watchdog (Table 18-5): the base firmware's device reset. -/
def State.firmwareWatchdog (s : State) (c : StartConds) : State :=
  if s.startup.firmware then (s.raiseLater 339 0x1204 0).deviceReset 4 c else s

/-- A part of a committed transaction is activated once the engine has stopped; a lead with a TRACKING partner
yields first (R519, R308). -/
def State.partActivation (s : State) (c : StartConds) : State :=
  match s.nextPart with
  | none => s
  | some k =>
    if !s.mayActivate then s
    else if s.pairSt = 4 ∧ s.partner = 3 then s.requestYield
    else (s.activatePart k).deviceReset 6 c

/-- The device reset after a confirmation timeout, once the engine is STOPPED (R521). -/
def State.fallbackReset (s : State) (c : StartConds) : State :=
  if s.security.fallbackDue ∧ s.engineSt ≤ 1 then s.deviceReset 7 c else s

/-- A switch wave; the start-up switch ends step 9 (R149, R531). -/
def State.switchWave (s : State) (k : Nat) : State :=
  let armed := s.slotArmed k
  let s := s.performSwitch k
  if armed ∧ s.slot k 0x06 = 2 ∧ s.slot k 0x07 = 3 then s.startDone else s

/-- A lane whose expected identifier has changed, and which no longer matches it, becomes a stranger at its first
crossing marker; a stranger counts the matches with the new one from 0 (R222). -/
def State.expectNow (s before : State) : State :=
  (List.range 512).foldl (fun s l =>
    let sid := s.grp l (0x08 + l % 8)
    let held := s.laneSt l = lAdmitted || (s.laneSt l = lAligning && (s.lane l).matched)
    if before.grp l (0x08 + l % 8) ≠ sid ∧ held ∧ s.ln l 0x07 ≠ sid then
      s.setLane l { s.lane l with
        mismatch := true
        matched := false }
    else if before.grp l (0x08 + l % 8) ≠ sid ∧ s.laneSt l = lStranger then
      s.setLane l { s.lane l with
        matches_ := 0
        matched := false
        pendSi := false }
    else s) s

/-- A run boundary, after which the lanes match against new expected identifiers (R222) and the design is given the persisted user values (R56, R422). -/
def State.boundary (s : State) : State :=
  let before := s
  let s := s.runBoundary
  if before.engineSt = 1 ∧ s.engineSt = 2 then
    let s := s.expectNow before
    if s.userServed then s.pushUserValues else s
  else s

end Sys2Proof.Machine
end

