-- ==== Sys2Proof/Machine/ClockRows.lean ====
section
/-! DEFINITION. ClockRows.lean: clock sources and domains (chapter 14), as commands. -/

namespace Sys2Proof.Machine

/-- MONITOR_TRIP (R429): the reason as 0x2010+i:04 shows it, 3 for a loop only, and what the window of a count trip
measured. OSC_S has no monitor. -/
def execMonitorTrip (i reason hz : Nat) (s : State) : Result :=
  event (hasTrip i reason) s (fun s => s.tripSource i reason hz)

/-- SOURCE_PROVEN (R430): hz is what the monitor's window measures. OSC_S has no monitor. -/
def execSourceProven (i hz : Nat) (s : State) : Result :=
  event (1 ≤ i && i < 8) s (fun s => if s.srcSt i = 1 then (s.sourceProven i hz).restarted else s.sourceProven i hz)

/-- SOURCE_EDGE_AFTER_TRIP (R430). -/
def execSourceEdgeAfterTrip (i : Nat) (s : State) : Result := event (i < 8) s (fun s => s.sourceEdge i)

/-- SLOW_RATIO_MEASURE (R432). -/
def execSlowRatioMeasure (num den : Nat) (s : State) : Result := event true s (fun s => s.slowRatio num den)

/-- PLLX_LOCK (R433). -/
def execPllxLock (phasePs : Int) (hz : Nat) (s : State) : Result := event true s (fun s => s.pllxLocked phasePs hz)

/-- PLLX_HOLDOVER (R435). -/
def execPllxHoldover (phasePs : Int) (s : State) : Result := event true s (fun s => s.pllxHoldover phasePs)

/-- DOMAIN_SWITCH_COMMAND (R443): a write of 0x2040+d:04. -/
def execDomainSwitchCommand (r : Requester) (d target : Nat) (s : State) : Result :=
  writesOn (d < 7) s r (0x2040 + d) 0x04 1 target

/-- DOMAIN_SWITCH_DONE (R440). -/
def execDomainSwitchDone (d stopUs : Nat) (s : State) : Result := 
  event (d < 7) s (fun s => if s.domSt d = 2 then (s.switchDone d stopUs).restarted else s)

/-- DEAD_CLOCK_TIMEOUT (R441). -/
def execDeadClockTimeout (d : Nat) (s : State) : Result := event (d < 7) s (fun s => s.deadClock d)

/-- DEAD_CLOCK_FLAG_CLEAR (R448): a write of 1 to 0x2040+d:09. -/
def execDeadClockFlagClear (r : Requester) (d : Nat) (s : State) : Result := writesOn (d < 7) s r (0x2040 + d) 0x09 1 1

/-- GATE_CLOSE (R445): block b of domain d. -/
def execGateClose (d b : Nat) (s : State) : Result := event (gated d b) s (fun s => s.gateClose d b)

end Sys2Proof.Machine
end

