-- ==== Sys2Proof/Machine/DictRows.lean ====
section
/-! DEFINITION. DictRows.lean: the dictionary and its access paths (chapter 13), as commands. -/

namespace Sys2Proof.Machine

/-- REGISTER_WRITE (R396, R398, R558): a write of any entry. -/
def execRegisterWrite (r : Requester) (index sub : Nat) (bytes : List Byte) (s : State) : Result :=
  onUnit (requesterOk r && index < 65536 && sub < 256) (s.fresh.dictWrite r index sub bytes).settle

/-- SAVE (R401): a write of 0x65766173 ("save") to 0x1002:02. -/
def execSave (r : Requester) (s : State) : Result := writes s r 0x1002 0x02 4 0x65766173

/-- RESTORE_DEFAULTS (R402): a write of 0x64616F6C ("load") to 0x1002:03. -/
def execRestoreDefaults (r : Requester) (s : State) : Result := writes s r 0x1002 0x03 4 0x64616F6C

/-- SAVE_COMPLETE (R401, R404). -/
def execSaveComplete (ok : Bool) (s : State) : Result := event true s (fun s => s.saveDone ok)

/-- NODE_NUMBER_WRITE (R413): a write of 0x1008:01. -/
def execNodeNumberWrite (r : Requester) (v : Nat) (s : State) : Result := writes s r 0x1008 0x01 1 v

/-! ### The field bus (R408 to R417) -/

/-- A channel, a node that may send a request, and an entry. -/
def canUnit (c prio node : Nat) : Bool := c < 2 && prio < 8 && 1 ≤ node && node ≤ 127

/-- CAN_FRAME_RECEIVED (R410). -/
def execCanFrameReceived (c : Nat) (f : CanFrame) (s : State) : Result := event (c < 2) s (fun s => s.canFrame c f)

/-- CAN_EXPEDITED_READ (R411): CS 0x01. -/
def execCanExpeditedRead (c prio node tid index sub : Nat) (s : State) : Result :=
  let o : CanOpen := {
    c := c
    node := node
    prio := prio
    cs := 1
    tid := tid % 256
    key := ent (index % 65536) (sub % 256) }
  event (canUnit c prio node) s (fun s => s.canArrives c (fun s =>
    s.canOnce o (canRequestBytes 1 o.tid o.key 0 []) (fun o s => s.canRead o)))

/-- CAN_EXPEDITED_WRITE (R411): CS 0x02. -/
def execCanExpeditedWrite (c prio node tid index sub : Nat) (bytes : List Byte) (s : State) : Result :=
  let o : CanOpen := {
    c := c
    node := node
    prio := prio
    cs := 2
    tid := tid % 256
    key := ent (index % 65536) (sub % 256) }
  event (canUnit c prio node) s (fun s => s.canArrives c (fun s =>
    s.canOnce o (canRequestBytes 2 o.tid o.key bytes.length bytes) (fun o s => s.canWrite o bytes)))

/-- CAN_SEGMENTED_READ (R412): CS 0x03. -/
def execCanSegmentedRead (c prio node tid index sub win : Nat) (s : State) : Result :=
  let o : CanOpen := {
    c := c
    node := node
    prio := prio
    cs := 3
    tid := tid % 256
    key := ent (index % 65536) (sub % 256)
    win := win % 256 }
  event (canUnit c prio node) s (fun s => s.canArrives c (fun s =>
    s.canOnce o (canRequestBytes 3 o.tid o.key 0 (natBytes 4 0 ++ natBytes 1 win)) (fun o s => s.canReadInit o)))

/-- CAN_SEGMENTED_WRITE (R412): CS 0x04. -/
def execCanSegmentedWrite (c prio node tid index sub size win : Nat) (s : State) : Result :=
  let o : CanOpen := {
    c := c
    node := node
    prio := prio
    cs := 4
    tid := tid % 256
    key := ent (index % 65536) (sub % 256)
    win := win % 256 }
  event (canUnit c prio node) s (fun s => s.canArrives c (fun s =>
    s.canOnce o (canRequestBytes 4 o.tid o.key 0 (natBytes 4 size ++ natBytes 1 win))
      (fun o s => s.canWriteInit o (size % 2 ^ 32))))

/-- CAN_SEGMENT (R412): CS 0x05. -/
def execCanSegment (c node tid seq : Nat) (bytes : List Byte) (s : State) : Result :=
  event (c < 2) s (fun s => s.canArrives c (fun s => s.canSegment c node tid seq (bytes.take 60)))

/-- CAN_ACKNOWLEDGE (R412): CS 0x06. -/
def execCanAcknowledge (c node tid seq win : Nat) (s : State) : Result :=
  event (c < 2) s (fun s => s.canArrives c (fun s => s.canAck c node tid seq win))

/-- CAN_ABORT (R412): CS 0x07. -/
def execCanAbort (c node tid : Nat) (code : BitVec 32) (s : State) : Result :=
  event (c < 2) s (fun s => s.canArrives c (fun s => s.canAbort c node tid code.toNat))

/-- TRANSFER_TIMEOUT (R412, R419, R423): the requester's transfer; TID names it on the field bus only. -/
def execTransferTimeout (r : Requester) (tid : Nat) (s : State) : Result :=
  event (requesterOk r) s (fun s =>
    match s.transfers.find? (fun t => t.r = r && t.tid = tid) with
    | some t => s.cutTransfer t 0x05040000
    | none => s)

/-- CAN_HEARTBEAT (R417). -/
def execCanHeartbeat (s : State) : Result := event true s (fun s => s.canHeartbeat)

/-- BUS_OFF (R416). -/
def execBusOff (c : Nat) (s : State) : Result := event (c < 2) s (fun s => s.busOff c)

/-- BUS_OFF_RECOVERY (R416): recessive counts the occurrences of 11 recessive bits. -/
def execBusOffRecovery (c recessive : Nat) (s : State) : Result := event (c < 2) s (fun s => s.busOffRecovery c recessive)

/-- ERROR_PASSIVE (R416): the channel's transmit and receive error counters, and the arbitrations that it has lost since
they were last given. -/
def execErrorPassive (c tec rec losses : Nat) (s : State) : Result :=
  event (c < 2) s (fun s => s.errorCounters c tec rec losses)

/-! ### The mailboxes (R418, R419): the host's writes of LEN, VALUE or DATA, and the write of CMD that starts the
operation -/

/-- MAILBOX_READ (R418): OP 1. -/
def execMailboxRead (m index sub : Nat) (s : State) : Result :=
  event (m < 16) s (fun s => s.mailboxAsk m id (cmdWord 1 index sub))

/-- MAILBOX_WRITE (R418): OP 2. -/
def execMailboxWrite (m index sub : Nat) (bytes : List Byte) (s : State) : Result :=
  event (m < 16) s (fun s => s.mailboxAsk m (fun x => { x with len := bytes.length, value := bytes.take 48 })
    (cmdWord 2 index sub))

/-- MAILBOX_SEGMENTED_READ (R419): OP 3. -/
def execMailboxSegmentedRead (m index sub : Nat) (s : State) : Result :=
  event (m < 16) s (fun s => s.mailboxAsk m id (cmdWord 3 index sub))

/-- MAILBOX_SEGMENTED_WRITE (R419): OP 4. -/
def execMailboxSegmentedWrite (m index sub total : Nat) (s : State) : Result :=
  event (m < 16) s (fun s => s.mailboxAsk m (fun x => { x with len := total % 2 ^ 32 }) (cmdWord 4 index sub))

/-- MAILBOX_SEGMENT (R419): OP 5. -/
def execMailboxSegment (m : Nat) (bytes : List Byte) (s : State) : Result :=
  event (m < 16) s (fun s => s.mailboxAsk m (fun x => { x with len := bytes.length, data := bytes.take mailboxBytes })
    (cmdWord 5 0 0))

/-- MAILBOX_ABORT (R418): OP 6. -/
def execMailboxAbort (m : Nat) (s : State) : Result :=
  event (m < 16) s (fun s => s.mailboxAsk m id (cmdWord 6 0 0))

/-! ### The dictionary port (R421 to R423) -/

/-- DICT_PORT_READ (R423): OP 0x01. -/
def execDictPortRead (tag index sub : Nat) (s : State) : Result :=
  event true s (fun s => s.portRead (tag % 256) (index % 65536) (sub % 256))

/-- DICT_PORT_WRITE (R423): OP 0x02. -/
def execDictPortWrite (tag index sub : Nat) (bytes : List Byte) (s : State) : Result :=
  event true s (fun s => s.portWrite (tag % 256) (index % 65536) (sub % 256) bytes)

/-- DICT_PORT_SEGMENTED_OPEN (R423): OP 0x03. -/
def execDictPortSegmentedOpen (tag index sub : Nat) (s : State) : Result :=
  event true s (fun s => s.portOpen (tag % 256) (index % 65536) (sub % 256))

/-- DICT_PORT_SEGMENT (R423): OP 0x04. -/
def execDictPortSegment (tag : Nat) (bytes : List Byte) (s : State) : Result :=
  event true s (fun s => s.portSegment (tag % 256) bytes)

/-- DICT_PORT_SEGMENTED_CLOSE (R423): OP 0x05. -/
def execDictPortSegmentedClose (tag : Nat) (s : State) : Result := event true s (fun s => s.portClose (tag % 256))

/-- DESIGN_ANSWER (R422). -/
def execDesignAnswer (tag res : Nat) (bytes : List Byte) (s : State) : Result :=
  event true s (fun s => s.designAnswer tag res bytes)

/-- DESIGN_TIMEOUT (R422). -/
def execDesignTimeout (s : State) : Result := event true s (fun s => s.designTimeout)

end Sys2Proof.Machine
end

