-- ==== Sys2Proof/Machine/FaultRows.lean ====
section
/-! DEFINITION. FaultRows.lean: the fault collector (chapter 16), as commands. Events that meet at the collector are
resolved as Table 16-8 has it (R495). -/

namespace Sys2Proof.Machine

/-- STATUS_ACKNOWLEDGE (R488): a write of 1 to 0x7100+s:01. -/
def execStatusAcknowledge (r : Requester) (src : Nat) (s : State) : Result := writesOn (src < 384) s r (0x7100 + src) 0x01 1 1

/-- ACKNOWLEDGE_CLASSES (R488): a write of a class mask to 0x7000:05. -/
def execAcknowledgeClasses (r : Requester) (mask : BitVec 16) (s : State) : Result := writes s r 0x7000 0x05 2 mask.toNat

/-- ACKNOWLEDGE_ALL (R488): a write of 1 to 0x7000:06. -/
def execAcknowledgeAll (r : Requester) (s : State) : Result := writes s r 0x7000 0x06 1 1

/-- FORCE (R490): a write of 1 to 0x7100+s:02. -/
def execForce (r : Requester) (src : Nat) (s : State) : Result := writesOn (src < 384) s r (0x7100 + src) 0x02 1 1

/-- USER_RAISE (R491): a write of 0x7002:01. -/
def execUserRaise (r : Requester) (v : BitVec 64) (s : State) : Result := writes s r 0x7002 0x01 8 v.toNat

/-- CLEAR_HISTORY (R496): a write of 1 to 0x7010:04. -/
def execClearHistory (r : Requester) (s : State) : Result := writes s r 0x7010 0x04 1 1

/-- CLEAR_LOG (R493): a write of 1 to 0x7031:03. -/
def execClearLog (r : Requester) (s : State) : Result := writes s r 0x7031 0x03 1 1

/-- FAULT_LOG_WRITE (R493). -/
def execFaultLogWrite (ok : Bool) (s : State) : Result := event true s (fun s => s.logWrite ok)

end Sys2Proof.Machine
end

