-- ==== Sys2Proof/Machine/HostRows.lean ====
section
/-! DEFINITION. HostRows.lean: the host interface and the readout (chapter 11), as commands. -/

namespace Sys2Proof.Machine

/-- PCIE_CONFIGURATION_REQUEST (R342, R343): a read of the 32-bit register reg, or a write of it. -/
def execPcieConfigurationRequest (reg : Nat) (write : Option (BitVec 32)) (s : State) : Result :=
  event (reg < 1024) s (fun s => s.configRequest reg write)

/-- BAR4_READ (R344 to R346). -/
def execBar4Read (offset : Nat) (firstBe lastBe : BitVec 4) (dws waits : Nat) (s : State) : Result :=
  event (offset + 4 * dws ≤ 2 ^ 31) s (fun s => s.bar4Read offset firstBe lastBe dws waits)

/-- BAR4_WRITE (R344 to R346). -/
def execBar4Write (offset : Nat) (firstBe lastBe : BitVec 4) (data : List (BitVec 32)) (waits : Nat) (s : State) :
    Result := event (offset + 4 * data.length ≤ 2 ^ 31) s (fun s => s.bar4Write offset firstBe lastBe data waits)

/-- MSIX_MESSAGE (R350). -/
def execMsixMessage (v : Nat) (entry : BitVec 128) (s : State) : Result := event (v < 512) s (fun s => s.msixMessage v entry)

/-- MSIX_HOLDOFF_END (R350). -/
def execMsixHoldoffEnd (v : Nat) (entry : BitVec 128) (s : State) : Result :=
  event (v < 512) s (fun s => s.msixHoldoff v entry)

/-- SOFTWARE_TRIGGER (R354): a write of 0x6140+k:04. -/
def execSoftwareTrigger (r : Requester) (k : Nat) (token : Word64) (s : State) : Result :=
  writesOn (k < 16) s r (0x6140 + k) 0x04 8 token.toNat

/-- PRODUCER_INDEX_WRITE (R357): a write of 0x6120+e:03. -/
def execProducerIndexWrite (r : Requester) (e : Nat) (p : BitVec 32) (s : State) : Result :=
  writesOn (e < 16) s r (0x6120 + e) 0x03 4 p.toNat

/-- ENGINE_START (R357): engine command 1. -/
def execEngineStart (r : Requester) (e : Nat) (s : State) : Result := writesOn (e < 16) s r (0x6120 + e) 0x05 1 1

/-- ENGINE_STOP (R357): engine command 2. -/
def execEngineStop (r : Requester) (e : Nat) (s : State) : Result := writesOn (e < 16) s r (0x6120 + e) 0x05 1 2

/-- ENGINE_CLEAR_ERROR (R360): engine command 3. -/
def execEngineClearError (r : Requester) (e : Nat) (s : State) : Result := writesOn (e < 16) s r (0x6120 + e) 0x05 1 3

/-- FRAGMENT_WRITTEN (R358): bufAddr and bufSize are the descriptor that the engine takes where it needs one. -/
def execFragmentWritten (e : Nat) (bufAddr : Word64) (bufSize : BitVec 32) (s : State) : Result :=
  event (e < 16) s (fun s => s.writeFragment e bufAddr.toNat bufSize.toNat)

/-- BUFFER_FLUSH (R358). -/
def execBufferFlush (e : Nat) (s : State) : Result := event (e < 16) s (fun s => s.flushBuffer e)

/-- DESCRIPTOR_READ_ERROR (R360). -/
def execDescriptorReadError (e : Nat) (s : State) : Result := event (e < 16) s (fun s => s.descriptorError e)

/-- READOUT_LANE_FRAGMENT (R362). -/
def execReadoutLaneFragment (i : Nat) (bytes : List Byte) (s : State) : Result :=
  event (i < 16) s (fun s => s.readoutFragment i bytes)

/-- PCIE_RESET (R364). -/
def execPcieReset (kind : Nat) (s : State) : Result := event (kind < 4) s (fun s => s.pcieReset kind)

/-- LINK_TRAINING_DONE (R342, R343): correctable and uncorrectable are the errors that the link has logged since the last
training (Table 11-8). -/
def execLinkTrainingDone (speed width payload correctable uncorrectable : Nat) (s : State) : Result :=
  event (linkOk speed width payload) s (fun s => s.linkTrained speed width payload correctable uncorrectable)

end Sys2Proof.Machine
end

