-- ==== Sys2Proof/Machine/KernelRows.lean ====
section
/-! DEFINITION. KernelRows.lean: the instructions of the user kernels (R374 to R387) and the events at kernels, as
commands. Causes are those of Table 12-19 (R393). -/

namespace Sys2Proof.Machine

/-- MV (R374): rd = rs. -/
def execMv (k rd rs : Nat) (s : State) : Result :=
  kernelInstr s k (.mv k rd rs) (fun s => .ok (s.writeReg k rd (s.greg k rs) 2))

/-- ADD (R374): rd = rd + rs. -/
def execAdd (k rd rs : Nat) (s : State) : Result :=
  kernelInstr s k (.add k rd rs) (fun s => .ok (s.writeReg k rd (s.greg k rd + s.greg k rs) 2))

/-- SUB (R374): rd = rd - rs. -/
def execSub (k rd rs : Nat) (s : State) : Result :=
  kernelInstr s k (.sub k rd rs) (fun s => .ok (s.writeReg k rd (s.greg k rd - s.greg k rs) 2))

/-- AND (R374): rd = rd AND rs. -/
def execAnd (k rd rs : Nat) (s : State) : Result :=
  kernelInstr s k (.and k rd rs) (fun s => .ok (s.writeReg k rd (s.greg k rd &&& s.greg k rs) 2))

/-- OR (R374): rd = rd OR rs. -/
def execOr (k rd rs : Nat) (s : State) : Result :=
  kernelInstr s k (.or k rd rs) (fun s => .ok (s.writeReg k rd (s.greg k rd ||| s.greg k rs) 2))

/-- XOR (R374): rd = rd XOR rs. -/
def execXor (k rd rs : Nat) (s : State) : Result :=
  kernelInstr s k (.xor k rd rs) (fun s => .ok (s.writeReg k rd (s.greg k rd ^^^ s.greg k rs) 2))

/-- SLL (R374): rd = rd shifted left by rs[4:0]. -/
def execSll (k rd rs : Nat) (s : State) : Result :=
  kernelInstr s k (.sll k rd rs) (fun s => .ok (s.writeReg k rd (shiftLeft (s.greg k rd) (s.greg k rs)) 2))

/-- SRL (R374): rd = rd shifted right by rs[4:0]. -/
def execSrl (k rd rs : Nat) (s : State) : Result :=
  kernelInstr s k (.srl k rd rs) (fun s => .ok (s.writeReg k rd (shiftRight (s.greg k rd) (s.greg k rs)) 2))

/-- SRA (R374): rd = rd shifted right with its sign by rs[4:0]. -/
def execSra (k rd rs : Nat) (s : State) : Result :=
  kernelInstr s k (.sra k rd rs) (fun s => .ok (s.writeReg k rd (shiftArith (s.greg k rd) (s.greg k rs)) 2))

/-- JR (R374): PC = rs AND NOT 1. -/
def execJr (k rs : Nat) (s : State) : Result :=
  kernelInstr s k (.jr k rs) (fun s => .ok (s.setPc k (s.greg k rs &&& ~~~1)))

/-- NOP (R374). -/
def execNop (k : Nat) (s : State) : Result :=
  kernelInstr s k (.nop k) (fun s => .ok (s.setPc k ((s.kernel k).pc + 2)))

/-- LI (R374): rd = sext(imm7). -/
def execLi (k rd : Nat) (imm : BitVec 7) (s : State) : Result :=
  kernelInstr s k (.li k rd imm) (fun s => .ok (s.writeReg k rd (sext imm) 2))

/-- C_ADDI (R374): rd = rd + sext(imm7). -/
def execCAddi (k rd : Nat) (imm : BitVec 7) (s : State) : Result :=
  kernelInstr s k (.cAddi k rd imm) (fun s => .ok (s.writeReg k rd (s.greg k rd + sext imm) 2))

/-- LWS (R374): rd = word at g13 + 4 × zext(imm7). -/
def execLws (k rd : Nat) (imm : BitVec 7) (s : State) : Result :=
  kernelInstr s k (.lws k rd imm) (fun s => s.loadReg k rd (s.greg k 13 + 4 * zext imm) 4 false 2)

/-- SWS (R374): word at g13 + 4 × zext(imm7) = rd. -/
def execSws (k rd : Nat) (imm : BitVec 7) (s : State) : Result :=
  kernelInstr s k (.sws k rd imm) (fun s => s.storeReg k (s.greg k 13 + 4 * zext imm) (s.greg k rd) 4 2)

/-- BEQZ (R374): if rs = 0, PC = PC + 2 × sext(off7). -/
def execBeqz (k rs : Nat) (off : BitVec 7) (s : State) : Result :=
  kernelInstr s k (.beqz k rs off) (fun s => .ok (s.branch k (s.greg k rs = 0) (sext off) 2))

/-- BNEZ (R374): if rs ≠ 0, PC = PC + 2 × sext(off7). -/
def execBnez (k rs : Nat) (off : BitVec 7) (s : State) : Result :=
  kernelInstr s k (.bnez k rs off) (fun s => .ok (s.branch k (s.greg k rs ≠ 0) (sext off) 2))

/-- BLTZ (R374): if rs < 0, PC = PC + 2 × sext(off7). -/
def execBltz (k rs : Nat) (off : BitVec 7) (s : State) : Result :=
  kernelInstr s k (.bltz k rs off) (fun s => .ok (s.branch k ((s.greg k rs).toInt < 0) (sext off) 2))

/-- BGEZ (R374): if rs ≥ 0, PC = PC + 2 × sext(off7). -/
def execBgez (k rs : Nat) (off : BitVec 7) (s : State) : Result :=
  kernelInstr s k (.bgez k rs off) (fun s => .ok (s.branch k (0 ≤ (s.greg k rs).toInt) (sext off) 2))

/-- ALU_ADD (R375, Table 12-6). -/
def execAluAdd (k rd rs1 rs2 : Nat) (s : State) : Result :=
  kernelInstr s k (.aluAdd k rd rs1 rs2) (fun s => .ok (s.writeReg k rd ((s.greg k rs1) + (s.greg k rs2)) 4))

/-- ALU_SUB (R375, Table 12-6). -/
def execAluSub (k rd rs1 rs2 : Nat) (s : State) : Result :=
  kernelInstr s k (.aluSub k rd rs1 rs2) (fun s => .ok (s.writeReg k rd ((s.greg k rs1) - (s.greg k rs2)) 4))

/-- ALU_AND (R375, Table 12-6). -/
def execAluAnd (k rd rs1 rs2 : Nat) (s : State) : Result :=
  kernelInstr s k (.aluAnd k rd rs1 rs2) (fun s => .ok (s.writeReg k rd ((s.greg k rs1) &&& (s.greg k rs2)) 4))

/-- ALU_OR (R375, Table 12-6). -/
def execAluOr (k rd rs1 rs2 : Nat) (s : State) : Result :=
  kernelInstr s k (.aluOr k rd rs1 rs2) (fun s => .ok (s.writeReg k rd ((s.greg k rs1) ||| (s.greg k rs2)) 4))

/-- ALU_XOR (R375, Table 12-6). -/
def execAluXor (k rd rs1 rs2 : Nat) (s : State) : Result :=
  kernelInstr s k (.aluXor k rd rs1 rs2) (fun s => .ok (s.writeReg k rd ((s.greg k rs1) ^^^ (s.greg k rs2)) 4))

/-- ALU_SLL (R375, Table 12-6). -/
def execAluSll (k rd rs1 rs2 : Nat) (s : State) : Result :=
  kernelInstr s k (.aluSll k rd rs1 rs2) (fun s => .ok (s.writeReg k rd (shiftLeft (s.greg k rs1) (s.greg k rs2)) 4))

/-- ALU_SRL (R375, Table 12-6). -/
def execAluSrl (k rd rs1 rs2 : Nat) (s : State) : Result :=
  kernelInstr s k (.aluSrl k rd rs1 rs2) (fun s => .ok (s.writeReg k rd (shiftRight (s.greg k rs1) (s.greg k rs2)) 4))

/-- ALU_SRA (R375, Table 12-6). -/
def execAluSra (k rd rs1 rs2 : Nat) (s : State) : Result :=
  kernelInstr s k (.aluSra k rd rs1 rs2) (fun s => .ok (s.writeReg k rd (shiftArith (s.greg k rs1) (s.greg k rs2)) 4))

/-- SETLT (R375, Table 12-6). -/
def execSetlt (k rd rs1 rs2 : Nat) (s : State) : Result :=
  kernelInstr s k (.setlt k rd rs1 rs2) (fun s => .ok (s.writeReg k rd (flagWord ((s.greg k rs1).slt (s.greg k rs2))) 4))

/-- SETLO (R375, Table 12-6). -/
def execSetlo (k rd rs1 rs2 : Nat) (s : State) : Result :=
  kernelInstr s k (.setlo k rd rs1 rs2) (fun s => .ok (s.writeReg k rd (flagWord ((s.greg k rs1).ult (s.greg k rs2))) 4))

/-- MUL (R375, Table 12-6). -/
def execMul (k rd rs1 rs2 : Nat) (s : State) : Result :=
  kernelInstr s k (.mul k rd rs1 rs2) (fun s => .ok (s.writeReg k rd ((s.greg k rs1) * (s.greg k rs2)) 4))

/-- MULHI (R375, Table 12-6). -/
def execMulhi (k rd rs1 rs2 : Nat) (s : State) : Result :=
  kernelInstr s k (.mulhi k rd rs1 rs2) (fun s => .ok (s.writeReg k rd (mulHigh (s.greg k rs1) (s.greg k rs2)) 4))

/-- ADDI (R375): rd = rs1 + sext(imm17). -/
def execAddi (k rd rs1 : Nat) (imm : BitVec 17) (s : State) : Result :=
  kernelInstr s k (.addi k rd rs1 imm) (fun s => .ok (s.writeReg k rd (s.greg k rs1 + sext imm) 4))

/-- ANDI (R375): rd = rs1 AND zext(imm17). -/
def execAndi (k rd rs1 : Nat) (imm : BitVec 17) (s : State) : Result :=
  kernelInstr s k (.andi k rd rs1 imm) (fun s => .ok (s.writeReg k rd (s.greg k rs1 &&& zext imm) 4))

/-- ORI (R375): rd = rs1 OR zext(imm17). -/
def execOri (k rd rs1 : Nat) (imm : BitVec 17) (s : State) : Result :=
  kernelInstr s k (.ori k rd rs1 imm) (fun s => .ok (s.writeReg k rd (s.greg k rs1 ||| zext imm) 4))

/-- XORI (R375): rd = rs1 XOR zext(imm17). -/
def execXori (k rd rs1 : Nat) (imm : BitVec 17) (s : State) : Result :=
  kernelInstr s k (.xori k rd rs1 imm) (fun s => .ok (s.writeReg k rd (s.greg k rs1 ^^^ zext imm) 4))

/-- SHI_SLL (R375): rs1 shifted left by imm17[4:0]. -/
def execShiSll (k rd rs1 : Nat) (sh : BitVec 5) (s : State) : Result :=
  kernelInstr s k (.shiSll k rd rs1 sh) (fun s => .ok (s.writeReg k rd (shiftLeft (s.greg k rs1) (zext sh)) 4))

/-- SHI_SRL (R375): rs1 shifted right by imm17[4:0]. -/
def execShiSrl (k rd rs1 : Nat) (sh : BitVec 5) (s : State) : Result :=
  kernelInstr s k (.shiSrl k rd rs1 sh) (fun s => .ok (s.writeReg k rd (shiftRight (s.greg k rs1) (zext sh)) 4))

/-- SHI_SRA (R375): rs1 shifted right with its sign by imm17[4:0]. -/
def execShiSra (k rd rs1 : Nat) (sh : BitVec 5) (s : State) : Result :=
  kernelInstr s k (.shiSra k rd rs1 sh) (fun s => .ok (s.writeReg k rd (shiftArith (s.greg k rs1) (zext sh)) 4))

/-- SETLTI (R375): rd = 1 if rs1 < sext(imm17), signed, else 0. -/
def execSetlti (k rd rs1 : Nat) (imm : BitVec 17) (s : State) : Result :=
  kernelInstr s k (.setlti k rd rs1 imm) (fun s => .ok (s.writeReg k rd (flagWord ((s.greg k rs1).slt (sext imm))) 4))

/-- LHI (R375): rd = imm21 × 2^11. -/
def execLhi (k rd : Nat) (imm : BitVec 21) (s : State) : Result :=
  kernelInstr s k (.lhi k rd imm) (fun s => .ok (s.writeReg k rd (zext imm <<< 11) 4))

/-- LW (R375): 32 bits at rs1 + sext(imm17). -/
def execLw (k rd rs1 : Nat) (imm : BitVec 17) (s : State) : Result :=
  kernelInstr s k (.lw k rd rs1 imm) (fun s => s.loadReg k rd (s.greg k rs1 + sext imm) 4 false 4)

/-- LH (R375): 16 bits at rs1 + sext(imm17), sign-extended. -/
def execLh (k rd rs1 : Nat) (imm : BitVec 17) (s : State) : Result :=
  kernelInstr s k (.lh k rd rs1 imm) (fun s => s.loadReg k rd (s.greg k rs1 + sext imm) 2 true 4)

/-- LHU (R375): 16 bits at rs1 + sext(imm17). -/
def execLhu (k rd rs1 : Nat) (imm : BitVec 17) (s : State) : Result :=
  kernelInstr s k (.lhu k rd rs1 imm) (fun s => s.loadReg k rd (s.greg k rs1 + sext imm) 2 false 4)

/-- LB (R375): 8 bits at rs1 + sext(imm17), sign-extended. -/
def execLb (k rd rs1 : Nat) (imm : BitVec 17) (s : State) : Result :=
  kernelInstr s k (.lb k rd rs1 imm) (fun s => s.loadReg k rd (s.greg k rs1 + sext imm) 1 true 4)

/-- LBU (R375): 8 bits at rs1 + sext(imm17). -/
def execLbu (k rd rs1 : Nat) (imm : BitVec 17) (s : State) : Result :=
  kernelInstr s k (.lbu k rd rs1 imm) (fun s => s.loadReg k rd (s.greg k rs1 + sext imm) 1 false 4)

/-- SW (R375): the low 32 bits of rs2 at rs1 + sext(imm17). -/
def execSw (k rs1 rs2 : Nat) (imm : BitVec 17) (s : State) : Result :=
  kernelInstr s k (.sw k rs1 rs2 imm) (fun s => s.storeReg k (s.greg k rs1 + sext imm) (s.greg k rs2) 4 4)

/-- SH (R375): the low 16 bits of rs2 at rs1 + sext(imm17). -/
def execSh (k rs1 rs2 : Nat) (imm : BitVec 17) (s : State) : Result :=
  kernelInstr s k (.sh k rs1 rs2 imm) (fun s => s.storeReg k (s.greg k rs1 + sext imm) (s.greg k rs2) 2 4)

/-- SB (R375): the low 8 bits of rs2 at rs1 + sext(imm17). -/
def execSb (k rs1 rs2 : Nat) (imm : BitVec 17) (s : State) : Result :=
  kernelInstr s k (.sb k rs1 rs2 imm) (fun s => s.storeReg k (s.greg k rs1 + sext imm) (s.greg k rs2) 1 4)

/-- BEQ (R375): if rs1 = rs2, PC = PC + 2 × sext(imm17). -/
def execBeq (k rs1 rs2 : Nat) (imm : BitVec 17) (s : State) : Result :=
  kernelInstr s k (.beq k rs1 rs2 imm) (fun s => .ok (s.branch k (s.greg k rs1 = s.greg k rs2) (sext imm) 4))

/-- BNE (R375): if rs1 ≠ rs2, PC = PC + 2 × sext(imm17). -/
def execBne (k rs1 rs2 : Nat) (imm : BitVec 17) (s : State) : Result :=
  kernelInstr s k (.bne k rs1 rs2 imm) (fun s => .ok (s.branch k (s.greg k rs1 ≠ s.greg k rs2) (sext imm) 4))

/-- BLT (R375): if rs1 < rs2, signed, PC = PC + 2 × sext(imm17). -/
def execBlt (k rs1 rs2 : Nat) (imm : BitVec 17) (s : State) : Result :=
  kernelInstr s k (.blt k rs1 rs2 imm) (fun s => .ok (s.branch k ((s.greg k rs1).toInt < (s.greg k rs2).toInt) (sext imm) 4))

/-- BGE (R375): if rs1 ≥ rs2, signed, PC = PC + 2 × sext(imm17). -/
def execBge (k rs1 rs2 : Nat) (imm : BitVec 17) (s : State) : Result :=
  kernelInstr s k (.bge k rs1 rs2 imm) (fun s => .ok (s.branch k ((s.greg k rs2).toInt ≤ (s.greg k rs1).toInt) (sext imm) 4))

/-- BLO (R375): if rs1 < rs2, unsigned, PC = PC + 2 × sext(imm17). -/
def execBlo (k rs1 rs2 : Nat) (imm : BitVec 17) (s : State) : Result :=
  kernelInstr s k (.blo k rs1 rs2 imm) (fun s => .ok (s.branch k ((s.greg k rs1).toNat < (s.greg k rs2).toNat) (sext imm) 4))

/-- BHS (R375): if rs1 ≥ rs2, unsigned, PC = PC + 2 × sext(imm17). -/
def execBhs (k rs1 rs2 : Nat) (imm : BitVec 17) (s : State) : Result :=
  kernelInstr s k (.bhs k rs1 rs2 imm) (fun s => .ok (s.branch k ((s.greg k rs2).toNat ≤ (s.greg k rs1).toNat) (sext imm) 4))

/-- CALL (R375): rd = PC + 4; PC = PC + 2 × sext(imm21). -/
def execCall (k rd : Nat) (imm : BitVec 21) (s : State) : Result :=
  kernelInstr s k (.call k rd imm) (fun s => .ok ((s.setGreg k rd ((s.kernel k).pc + 4)).branch k true (sext imm) 4))

/-- CALLR (R375): rd = PC + 4; PC = (rs1 + sext(imm17)) AND NOT 1. -/
def execCallr (k rd rs1 : Nat) (imm : BitVec 17) (s : State) : Result :=
  kernelInstr s k (.callr k rd rs1 imm) (fun s => .ok ((s.setGreg k rd ((s.kernel k).pc + 4)).setPc k ((s.greg k rs1 + sext imm) &&& ~~~1)))

/-- SEND (R384): a request block at rs1. -/
def execSend (k rd rs1 : Nat) (s : State) : Result :=
  kernelInstr s k (.send k rd rs1) (fun s => s.sendBlock k rd (s.greg k rs1).toNat)

/-- RECV (R385): the oldest message, to rs1. -/
def execRecv (k rd rs1 : Nat) (s : State) : Result :=
  kernelInstr s k (.recv k rd rs1) (fun s => s.recvMessage k rd (s.greg k rs1).toNat)

/-- TRIG (R386): the next trigger, to rs1. -/
def execTrig (k rd rs1 : Nat) (s : State) : Result :=
  kernelInstr s k (.trig k rd rs1) (fun s => s.takeTrigger k rd (s.greg k rs1).toNat)

/-- FRAG (R386): rs2 bytes at staging offset rs1. -/
def execFrag (k rd rs1 rs2 : Nat) (s : State) : Result :=
  kernelInstr s k (.frag k rd rs1 rs2) (fun s => s.fragment k rd (s.greg k rs1).toNat (s.greg k rs2).toNat)

/-- WAIT (R381): the mask is rs1[7:0]. -/
def execWait (k rd rs1 : Nat) (s : State) : Result :=
  kernelInstr s k (.wait k rd rs1) (fun s => s.waitEvent k rd ((s.greg k rs1).setWidth 8))

/-- WAIT_WAKEUP (R381). -/
def execWaitWakeup (k : Nat) (s : State) : Result := event (k < 80) s (fun s => s.wakeUp k)

/-- CRD (R375, R382): rd = CSR; an undefined CSR is fault 1. -/
def execCrd (k rd : Nat) (csr : BitVec 12) (s : State) : Result :=
  kernelInstr s k (.crd k rd csr) (fun s =>
    match s.csrRead k csr with
    | some (v, t) => .ok (t.writeReg k rd v 4)
    | none => .error 1)

/-- The PC goes past a 32-bit instruction that writes no register. -/
def pastLong (k : Nat) (x : Except Nat State) : Except Nat State :=
  match x with
  | .ok t => .ok (t.setPc k ((t.kernel k).pc + 4))
  | .error c => .error c

/-- CWR (R375, R382): CSR = rs1. -/
def execCwr (k rs1 : Nat) (csr : BitVec 12) (s : State) : Result :=
  kernelInstr s k (.cwr k rs1 csr) (fun s => pastLong k (s.csrWrite k csr (s.greg k rs1)))

/-- COR (R375, R382): CSR = CSR OR rs1. -/
def execCor (k rs1 : Nat) (csr : BitVec 12) (s : State) : Result :=
  kernelInstr s k (.cor k rs1 csr) (fun s => pastLong k (s.csrOr k csr (s.greg k rs1)))

/-- DICT_READ (R387): entry rs1, value to the buffer at rs2. -/
def execDictRead (k rd rs1 rs2 : Nat) (s : State) : Result :=
  kernelInstr s k (.dictRead k rd rs1 rs2) (fun s => s.stallDict k {
    fn := 0
    rd := rd
    arg := s.greg k rs1
    buf := s.greg k rs2 })

/-- DICT_WRITE (R387): entry rs1, value from the buffer at rs2. -/
def execDictWrite (k rd rs1 rs2 : Nat) (s : State) : Result :=
  kernelInstr s k (.dictWrite k rd rs1 rs2) (fun s => s.stallDict k {
    fn := 1
    rd := rd
    arg := s.greg k rs1
    buf := s.greg k rs2 })

/-- DICT_PUBLISH (R387): rs1 becomes user value v. -/
def execDictPublish (k rd rs1 v : Nat) (s : State) : Result :=
  kernelInstr s k (.dictPublish k rd rs1 v) (fun s => s.stallDict k {
    fn := 2
    rd := rd
    arg := s.greg k rs1
    v := v })

/-- DICT_ANSWER (R387): the dictionary kernel answers a stalled kernel. -/
def execDictAnswer (k : Nat) (s : State) : Result := event (k < 80) s (fun s => s.answerDict k)

/-- TRAP (R377): fault 7, with rs1 as the trap code. -/
def execTrap (k rs1 : Nat) (s : State) : Result :=
  kernelInstr s k (.trap k rs1) (fun s => .ok ((s.wr (0x6810 + k) 0x05 (s.greg k rs1).toNat).kernelFault k 7))

/-- SYNC (R376). -/
def execSync (k : Nat) (s : State) : Result := kernelInstr s k (.sync k) (fun s => .ok (s.syncCode k))

/-- ILLEGAL_INSTRUCTION (R377). -/
def execIllegalInstruction (k : Nat) (s : State) : Result := event (k < 94) s (fun s => s.illegalInstruction k)

/-- KERNEL_WATCHDOG (R377). -/
def execKernelWatchdog (k : Nat) (s : State) : Result := event (k < 94) s (fun s => s.kernelWatchdog k)

/-- KERNEL_RESTART (R378). -/
def execKernelRestart (k : Nat) (s : State) : Result := event (k < 94) s (fun s => s.kernelRestart k)

/-- KERNEL_TIMER (R381). -/
def execKernelTimer (k : Nat) (s : State) : Result := event (k < 80) s (fun s => s.timerEnd k)

/-- EYE_MEASUREMENT_DONE (R380): of lane position p. -/
def execEyeMeasurementDone (k p : Nat) (errors : BitVec 24) (s : State) : Result :=
  event (k < 64 && p < 8) s (fun s => s.eyeDone k p errors)

/-- KERNEL_RESTART_COMMAND (R392): kernel command 1. -/
def execKernelRestartCommand (r : Requester) (k : Nat) (s : State) : Result := writesOn (k < 94) s r (0x6810 + k) 0x08 1 1

/-- KERNEL_STOP (R392): kernel command 2. -/
def execKernelStop (r : Requester) (k : Nat) (s : State) : Result := writesOn (k < 94) s r (0x6810 + k) 0x08 1 2

end Sys2Proof.Machine
end

