-- ==== Sys2Proof/Machine/LaneRows.lean ====
section
/-! DEFINITION. LaneRows.lean: field lanes and timing inputs (chapter 7), as commands. Events that meet are resolved
as Table 7-9 has it (R239). A control block that a row names has the header of one, as its line carries it. -/

namespace Sys2Proof.Machine

/-- SIGNAL_DETECTED (R210). -/
def execSignalDetected (l : Nat) (s : State) : Result := event (isReceiver l) s (fun s => (s.signalDetected l).afterLane)

/-- SIGNAL_LOST (R210). -/
def execSignalLost (l : Nat) (s : State) : Result := event (isReceiver l) s (fun s => (s.signalLost l).afterLane)

/-- TRAINING_DONE (R210). -/
def execTrainingDone (l : Nat) (s : State) : Result := event (isReceiver l) s (fun s => (s.trainingDone l).afterLane)

/-- BLOCK_LOCK (R210). -/
def execBlockLock (l : Nat) (s : State) : Result := event (isReceiver l) s (fun s => (s.blockLock l).afterLane)

/-- LOSS_OF_LOCK (R210). -/
def execLossOfLock (l : Nat) (s : State) : Result := event (isReceiver l) s (fun s => (s.lossOfLock l).afterLane)

/-- DATA_BLOCK (R214): any block, with its header bits. -/
def execDataBlock (l : Nat) (header : BitVec 2) (raw : Word64) (marginPs : Int) (s : State) : Result :=
  event (takesBlocks l) s (fun s => s.blockRow l header raw 0 (some marginPs) 0)

/-- CROSSING_MARKER (R207, R213, R236): offsetPs is its edge, as a timing source's, less the kept edge. -/
def execCrossingMarker (l : Nat) (raw : Word64) (offsetPs : Int) (s : State) : Result :=
  event (takesBlocks l) s (fun s => s.blockRow l (s.controlHeader l) raw 0 none offsetPs)

/-- ALIGNMENT_MARKER (R208, R216, R221). -/
def execAlignmentMarker (l : Nat) (raw : Word64) (skewPs : Nat) (s : State) : Result :=
  event (takesBlocks l) s (fun s => s.blockRow l (s.controlHeader l) raw skewPs none 0)

/-- SOURCE_IDENTIFIER_BLOCK (R217). -/
def execSourceIdentifierBlock (l : Nat) (raw : Word64) (s : State) : Result :=
  event (takesBlocks l) s (fun s => s.blockRow l (s.controlHeader l) raw 0 none 0)

/-- USER_CONTROL_BLOCK (R205, R212, R224): a payload block, with its margin. -/
def execUserControlBlock (l : Nat) (raw : Word64) (marginPs : Int) (s : State) : Result :=
  event (takesBlocks l) s (fun s => s.blockRow l (s.controlHeader l) raw 0 (some marginPs) 0)

/-- PAIR_ROLE_BLOCK (R205, R212, R224, R311): a payload block, with its margin. -/
def execPairRoleBlock (l : Nat) (raw : Word64) (marginPs : Int) (s : State) : Result :=
  event (takesBlocks l) s (fun s => s.blockRow l (s.controlHeader l) raw 0 (some marginPs) 0)

/-- IDLE_BLOCK (R205). -/
def execIdleBlock (l : Nat) (raw : Word64) (s : State) : Result :=
  event (takesBlocks l) s (fun s => s.blockRow l (s.controlHeader l) raw 0 none 0)

/-- TYPE_ERROR (R205). -/
def execTypeError (l : Nat) (raw : Word64) (s : State) : Result :=
  event (takesBlocks l) s (fun s => s.blockRow l (s.controlHeader l) raw 0 none 0)

/-- READMIT (R222): a write of a mask to 0x3000+g:13. -/
def execReadmit (r : Requester) (g : Nat) (mask : BitVec 8) (s : State) : Result :=
  writesOn (g < 64) s r (0x3000 + g) 0x13 1 mask.toNat

/-- LANE_CONFIGURATION_WRITE (R202): a write of 0x3000+g:p. -/
def execLaneConfigurationWrite (r : Requester) (l : Nat) (w : Word64) (s : State) : Result :=
  writesOn (l < 512) s r (0x3000 + l / 8) (l % 8) 8 w.toNat

/-- CLEAR_COUNTERS (R242): a write of 1 to 0x3100+l:16. -/
def execClearCounters (r : Requester) (l : Nat) (s : State) : Result := writesOn (l < 512) s r (0x3100 + l) 0x16 1 1

/-- TX_ALIGNMENT_MARKER (R226, R229): a lane, or the row of a stack port (512 + p). -/
def execTxAlignmentMarker (l : Nat) (s : State) : Result :=
  event (l < 520) s (fun s => if l < 512 then s.txMarker l else s.portMarkers (l - 512))

/-- TRANSMIT_LOOP_RELOCK (R225). -/
def execTransmitLoopRelock (g : Nat) (s : State) : Result := event (g < 64) s (fun s => s.txLoopsLocked g)

/-- TIMING_CROSSING_MARKER (R230 to R232): a block at block 0 of a frame, as it arrives. -/
def execTimingCrossingMarker (inp : Nat) (header : BitVec 2) (raw : Word64) (offsetPs : Int) (s : State) : Result :=
  event (inp < 2) s (fun s => s.timingBlock inp header raw offsetPs)

/-- TIMING_INPUT_LOST (R232). -/
def execTimingInputLost (inp : Nat) (s : State) : Result := event (inp < 2) s (fun s => s.timingLost inp)

/-- SOURCE_MOVE (R233). -/
def execSourceMove (s : State) : Result := event true s (fun s => s.moveSource)

/-- SELECTION_MODE_WRITE (R233): a write of 0x3300:01. -/
def execSelectionModeWrite (r : Requester) (v : Nat) (s : State) : Result := writes s r 0x3300 0x01 1 v

/-- TIMING_USER_CONTROL (R230, R238). -/
def execTimingUserControl (inp : Nat) (header : BitVec 2) (raw : Word64) (s : State) : Result :=
  event (inp < 2) s (fun s => s.timingBlock inp header raw 0)

end Sys2Proof.Machine
end

