-- ==== Sys2Proof/Machine/LookbackRows.lean ====
section
/-! DEFINITION. LookbackRows.lean: the look-back store (chapter 8) and BAR2, as commands. -/

namespace Sys2Proof.Machine

/-- SLOT_WRITTEN (R255). -/
def execSlotWritten (stream c : Nat) (s : State) : Result := event (stream < 577) s (fun s => s.writeSlot stream c)

/-- SLOT_WRITE_LATE (R277). -/
def execSlotWriteLate (stream c : Nat) (s : State) : Result := event (stream < 577) s (fun s => s.slotLate stream c)

/-- CLASS_C_RESTART (R257). -/
def execClassCRestart (s : State) : Result := event true s (fun s => s.restartCool)

/-- REFRESH (R264). -/
def execRefresh (k : Nat) (s : State) : Result := event (k < 8) s (fun s => s.startWindow k)

/-- LOOKBACK_SCRUB_READ (R265). -/
def execLookbackScrubRead (k : Nat) (s : State) : Result := event (k < 8) s (fun s => s.scrubLine k)

/-- RECORD_READ (R273): a segmented read of 0x5841:00. -/
def execRecordRead (r : Requester) (s : State) : Result :=
  onUnit (requesterOk r) (s.fresh.dictRead r true 0x5841 0x00).settle

/-- BAR2_READ (R347). -/
def execBar2Read (offset length : Nat) (s : State) : Result :=
  event (offset + length ≤ 2 ^ 41) s (fun s => s.bar2Read offset length)

/-- BAR2_WRITE (R347): discarded and counted. -/
def execBar2Write (offset : Nat) (bytes : List Byte) (s : State) : Result :=
  event (offset + bytes.length ≤ 2 ^ 41) s (fun s => s.bump 32 0x6101 0x03)

/-- INJECT_LINE_ERROR (R276): a write of 0x5860:00. -/
def execInjectLineError (r : Requester) (v : BitVec 64) (s : State) : Result := writes s r 0x5860 0x00 8 v.toNat

/-- STACK_FAILED (R277, Table 18-5). -/
def execStackFailed (k : Nat) (s : State) : Result := event (k < 8) s (fun s => s.stackFailed k)

end Sys2Proof.Machine
end

