-- ==== Sys2Proof/Machine/Memory.lean ====
section
/-! DEFINITION. Memory.lean: the memory layer (chapter 4), as commands. Events that meet at one bank are commands one
after the other, resolved as Table 4-7 has it (R125). -/

namespace Sys2Proof.Machine

/-- A word count and a last byte that an open write can have (R109). -/
def aliasOk (wcnt last : Nat) (data : List Word64) : Bool := data.length = wcnt + 1 && last < 8

/-- BIT_SET_ALIAS_WRITE (R112). -/
def execBitSetAliasWrite (master addr wcnt last : Nat) (data : List Word64) (waits : Nat) (s : State) : Result :=
  event (aliasOk wcnt last data) s (fun s => s.aliasWrite 1 master addr last data waits)

/-- BIT_CLEAR_ALIAS_WRITE (R112). -/
def execBitClearAliasWrite (master addr wcnt last : Nat) (data : List Word64) (waits : Nat) (s : State) : Result :=
  event (aliasOk wcnt last data) s (fun s => s.aliasWrite 2 master addr last data waits)

/-- PATROL_READ (R124). -/
def execPatrolRead (n b : Nat) (s : State) : Result := event (n < 64 && b < 64) s (fun s => s.patrolRead n b)

/-- BLANK_FILL_END (R120). -/
def execBlankFillEnd (n : Nat) (s : State) : Result := event (n < 64) s (fun s => s.fillEnd n)

/-- BLANK_FILL_TIMEOUT (R137). -/
def execBlankFillTimeout (n : Nat) (s : State) : Result := event (n < 64) s (fun s => s.fillTimeout n)

/-- MARCH_START (R134): a write of a march word with OP 0b01 to 0x5100+q:01. -/
def execMarchStart (r : Requester) (q : Nat) (w : BitVec 32) (s : State) : Result :=
  writesOn (q < 4) s r (0x5100 + q) 0x01 4 ((w &&& 0x3FFFFFFF) ||| 0x40000000).toNat

/-- MARCH_CANCEL (R134): a write of a march word with OP 0b10 to 0x5100+q:01. -/
def execMarchCancel (r : Requester) (q : Nat) (w : BitVec 32) (s : State) : Result :=
  writesOn (q < 4) s r (0x5100 + q) 0x01 4 ((w &&& 0x3FFFFFFF) ||| 0x80000000).toNat

/-- MARCH_BANK_END (R130). -/
def execMarchBankEnd (q n b : Nat) (faults : List MarchFault) (waits : Nat) (s : State) : Result :=
  event (q < 4 && n < 64 && b < 64) s (fun s => s.marchBank q (bankKey n b) faults waits)

/-- MARCH_END (R131). -/
def execMarchEnd (q : Nat) (written : Bool) (s : State) : Result := event (q < 4) s (fun s => s.marchEnded q written)

/-- CLEAR_REPAIR_MAP (R136): a write of 1 to 0x5111:05. -/
def execClearRepairMap (r : Requester) (s : State) : Result := writes s r 0x5111 0x05 1 1

/-- CONFLICT_COUNTER_CLEAR (R136): a write of 0x51F0+q:(m + 1). -/
def execConflictCounterClear (r : Requester) (q m : Nat) (s : State) : Result :=
  writesOn (q < 4 && m < 7) s r (0x51F0 + q) (m + 1) 4 0

end Sys2Proof.Machine
end

