-- ==== Sys2Proof/Machine/NocRows.lean ====
section
/-! DEFINITION. NocRows.lean: the network on chip (chapter 10), as commands. Events that meet are resolved as Table
10-6 has it (R339). -/

namespace Sys2Proof.Machine

/-- NOC_READ (R330): a request of any CMD is taken as its header says (R331). -/
def execNocRead (p : Packet) (waits : Nat) (s : State) : Result := event true s (fun s => s.nocRequest p waits)

/-- NOC_WRITE (R330). -/
def execNocWrite (p : Packet) (waits : Nat) (s : State) : Result := event true s (fun s => s.nocRequest p waits)

/-- NOC_MESSAGE (R385). -/
def execNocMessage (p : Packet) (s : State) : Result := event true s (fun s => s.nocRequest p 0)

/-- NOC_RETRIEVE (R270). -/
def execNocRetrieve (p : Packet) (s : State) : Result := event true s (fun s => s.nocRequest p 0)

/-- NOC_RESPONSE (R332, R384). -/
def execNocResponse (p : Packet) (s : State) : Result := event true s (fun s => s.nocResponse p)

/-- RESPONSE_TIMEOUT (R333). -/
def execResponseTimeout (node tag : Nat) (s : State) : Result := event true s (fun s => s.responseTimeout node tag)

/-- ROUTER_DRAIN (R334): a write of 1 to 0x6010+x:02. -/
def execRouterDrain (r : Requester) (x : Nat) (s : State) : Result := writesOn (x < 69) s r (0x6010 + x) 0x02 1 1

/-- ROUTER_RETURN (R334): a write of 2 to 0x6010+x:02. -/
def execRouterReturn (r : Requester) (x : Nat) (s : State) : Result := writesOn (x < 69) s r (0x6010 + x) 0x02 1 2

/-- ROUTER_OUT (R334). -/
def execRouterOut (x : Nat) (s : State) : Result := event (x < 69) s (fun s => s.routerOut x)

/-- DRAIN_TIMEOUT (R334). -/
def execDrainTimeout (x held : Nat) (s : State) : Result := event (x < 69) s (fun s => s.forceOut x held)

/-- BOUNCE (R335): the port is where the packet waits. -/
def execBounce (x port : Nat) (p : Packet) (s : State) : Result := event (x < 69) s (fun s => s.bounce x port p)

/-- REGION_CLOSED (R338). -/
def execRegionClosed (n durationNs : Nat) (s : State) : Result := event (n < 64) s (fun s => s.closedOff n durationNs)

/-- CLOSE_TIMEOUT (R338). -/
def execCloseTimeout (n durationNs : Nat) (s : State) : Result := event (n < 64) s (fun s => s.closeLate n durationNs)

end Sys2Proof.Machine
end

