-- ==== Sys2Proof/Machine/PortCore.lean ====
section
/-! DEFINITION. PortCore.lean: what arrives on a stack port (R279 to R290): the block code of its 16 lanes, its word
order, control blocks by TYPE, messages by OP, and the near-end loopback. -/

namespace Sys2Proof.Machine

/-- A block of lane i through the receive side of port p's block code (R279). -/
def State.portDecode (s : State) (p : Nat) (b : PortBlock) : CodeRec × RxBlock :=
  decodeBlock (Sparse.get (fun _ => {}) (s.port p).lanes (b.lane % 16)) b.header b.raw

/-- The block code of a lane of port p. -/
def State.setPortLane (s : State) (p lane : Nat) (x : CodeRec) : State :=
  s.setPort p { s.port p with lanes := Sparse.set (fun _ => {}) (s.port p).lanes lane x }

/-! ### Messages (R289, R290) -/

/-- Continuation blocks of an item (Table 9-10); none for a code that the table does not have. -/
def itemBlocks (code : Nat) : Option Nat :=
  if code = 1 ∨ code = 2 then some 3
  else if 0x10 ≤ code ∧ code < 0x20 then some 4
  else if 0x100 ≤ code ∧ code < 0x140 then some 1
  else none

/-- A whole message, by its OP (Table 9-5). One that the table does not have is dropped and counted (R290). -/
def State.stackMessage (s : State) (p op mseq arg : Nat) (data : List (BitVec 48)) (roundTripPs : Nat) : State :=
  match op, data with
  | 0x01, [c] => s.heartbeat p mseq arg c
  | 0x03, [c] => s.refusalMessage p arg (c.toNat / 2 ^ 40)
  | 0x04, [start, stop, join] => s.runMessage p start.toNat stop.toNat join.toNat
  | 0x05, [] => s.yieldMessage p
  | 0x06, [] => s.echoRequest p
  | 0x07, [] => s.echoAnswer p roundTripPs
  | 0x08, [] => s.pairReset p mseq
  | 0x09, [] => s.throttleMessage p
  | 0x02, d => if itemBlocks arg = some d.length then s.itemMessage p mseq arg d else s.dropMsg p
  | _, _ => s.dropMsg p

/-- A user-control block with a good CHK: the first block of a message or the next continuation block (Table 9-4). -/
def State.portMsgBlock (s : State) (p : Nat) (b : BitVec 56) (roundTripPs : Nat) : State :=
  let x := s.port p
  if x.msgOff then s
  else
    let (first, data) := match x.msg with
      | none => (b, [])
      | some (h, l) => (h, l ++ [b.extractLsb' 8 48])
    if data.length = bodyField first 47 44 then
      (s.setPort p { x with msg := none }).stackMessage p (bodyField first 55 48) (bodyField first 39 24)
        (bodyField first 23 8) data roundTripPs
    else s.setPort p { x with msg := some (first, data) }

/-- Messages are ignored up to the next crossing marker; one that is under way is lost and counted (R289). -/
def State.portMsgError (s : State) (p : Nat) : State :=
  if (s.port p).msgOff then s else (s.setPort p { s.port p with msg := none, msgOff := true }).dropMsg p

/-! ### Blocks (R279, R281, R287) -/

/-- A crossing marker ends what is ignored in the crossing before it, and a message that it cuts. -/
def State.stackOpen (s : State) (p : Nat) : State :=
  let x := s.port p
  let s := if x.msg.isSome then s.dropMsg p else s
  s.setPort p { x with msg := none, msgOff := false, wordsOff := false, words := if x.wordsOff then [] else x.words }

/-- A descrambled control block on a lane, by its TYPE (Table 7-1). One with a wrong CHK is dropped (R206, R279). -/
def State.portControl (s : State) (p lane : Nat) (w : Word64) (m : PortMeas) : State :=
  let b := ctlBody w
  if !chkOk b then (if ctlType w = 0x66 then s.portMsgError p else s)
  else
    match ctlType w with
    | 0x33 => (s.stackOpen p).portCrossingMarker p (bodyField b 55 8) m.arrivalPs
    | 0x55 => s.portSi p lane b m.skewPs
    | 0x66 => s.portMsgBlock p b m.roundTripPs
    | 0x78 => s.portRole p b
    | _ => s

/-- A data block: the next word of the port's data stream; 1 + w_p of them make a wave record (R279, R282). -/
def State.portData (s : State) (p : Nat) (w : Word64) : State :=
  let x := s.port p
  if x.wordsOff then s
  else
    let words := x.words ++ [w]
    match words with
    | head :: data =>
      if data.length = s.pt p 0x09 then (s.setPort p { x with words := [] }).waveRecord p head data
      else s.setPort p { x with words := words }
    | [] => s

/-- A header error (R203, R319): the block is dropped and counted. The message and the record that it may have been a
part of are lost; words are taken again from the next crossing marker on. -/
def State.portHeaderError (s : State) (p : Nat) : State :=
  let s := s.bump 64 (0x3400 + p) 0x0B
  let x := s.port p
  s.setPort p { x with msg := none, msgOff := true, wordsOff := true, words := [] }

/-- A decoded block on a lane. -/
def State.portDecoded (s : State) (p lane : Nat) (b : RxBlock) (m : PortMeas) : State :=
  match b with
  | .marker body => s.portAm p lane body
  | .data w => s.portData p w
  | .control w => s.portControl p lane w m
  | .headerError => s.portHeaderError p

/-- A block on a lane while the port is LOCKING: headers alone are looked at, and errors count on lanes that hold block
lock (R203). The port leaves LOCKING once all 16 lanes
hold block lock (R210, R287). -/
def State.portLocking (s : State) (p lane : Nat) (code : CodeRec) (bad : Bool) : State :=
  let code := { code with sinceAm := none }
  let locked := (s.port p).locked
  if locked.contains lane then
    let s := if bad then s.bump 64 (0x3400 + p) 0x0B else s
    if headersLost code then
      let s := s.setPortLane p lane { code with hdrs := [] }
      s.setPort p { s.port p with locked := locked.filter (fun i => i ≠ lane) }
    else s.setPortLane p lane code
  else if bad then s.setPortLane p lane { code with hdrs := [] }
  else if headersLock code then
    let s := s.setPortLane p lane { code with hdrs := [] }
    let s := s.setPort p { s.port p with locked := locked ++ [lane] }
    if 15 ≤ locked.length then s.portAligning p else s
  else s.setPortLane p lane code

/-- A block as it arrives on a lane of a port (R279, R287). -/
def State.portBlock (s : State) (p : Nat) (b : PortBlock) (m : PortMeas) : State :=
  let lane := b.lane % 16
  let (code, d) := s.portDecode p b
  let st := s.portSt p
  if st = 2 then s.portLocking p lane code (d = .headerError)
  else if pAligning ≤ st ∧ st ≤ pStranger then
    let s := (s.setPortLane p lane code).portDecoded p lane d m
    if d = .headerError ∧ headersLost code then s.portLockLost p else s
  else s

/-- Blocks in the port's word order (R279). -/
def State.portBlocks (s : State) (p : Nat) (l : List PortBlock) (m : PortMeas) : State :=
  l.foldl (fun s b => s.portBlock p b m) s

/-- Blocks that arrive from outside; a port with its near-end loopback on does not see them (Table 9-13). -/
def State.portRows (s : State) (p : Nat) (l : List PortBlock) (m : PortMeas) : State :=
  if s.portLooped p then s else s.portBlocks p l m

/-- The near-end loopback brings a port its own blocks by the end of their crossing. Its measures are those of a
cable of no length. -/
def State.servePortLoop (s : State) (p : Nat) : State :=
  let l := (s.port p).loop
  if l.isEmpty then s
  else (s.setPort p { s.port p with loop := [] }).portBlocks p l { arrivalPs := 18000, roundTripPs := 60000 }

/-- A crossing edge, with what the loopbacks have brought before it. -/
def State.crossingEdge (s : State) : State := (portNos.foldl (fun s p => s.servePortLoop p) s).openXn

end Sys2Proof.Machine
end

