-- ==== Sys2Proof/Machine/PortRows.lean ====
section
/-! DEFINITION. PortRows.lean: stack ports, the flock and the redundant pair (chapter 9), as commands. Events that
meet are resolved as Table 9-12 has it (R318). -/

namespace Sys2Proof.Machine

/-- PORT_CROSSING_MARKER (R284, R293). -/
def execPortCrossingMarker (p : Nat) (blocks : List PortBlock) (arrivalPs : Int) (s : State) : Result :=
  event (p < 8) s (fun s => s.portRows p blocks { arrivalPs := arrivalPs })

/-- PORT_PAIR_ROLE_BLOCK (R309). -/
def execPortPairRoleBlock (p : Nat) (blocks : List PortBlock) (s : State) : Result :=
  event (p < 8) s (fun s => s.portRows p blocks {})

/-- PORT_ALIGNMENT_MARKER (R280, R287). -/
def execPortAlignmentMarker (p : Nat) (blocks : List PortBlock) (skewPs : Nat) (s : State) : Result :=
  event (p < 8) s (fun s => s.portRows p blocks { skewPs := skewPs })

/-- WAVE_RECORD (R284 to R286). -/
def execWaveRecord (p : Nat) (blocks : List PortBlock) (s : State) : Result :=
  event (p < 8) s (fun s => s.portRows p blocks {})

/-- HEARTBEAT (R301, R305). -/
def execHeartbeat (p : Nat) (blocks : List PortBlock) (s : State) : Result :=
  event (p < 8) s (fun s => s.portRows p blocks {})

/-- ITEM (R302, R303). -/
def execItem (p : Nat) (blocks : List PortBlock) (s : State) : Result := event (p < 8) s (fun s => s.portRows p blocks {})

/-- REFUSAL (R304). -/
def execRefusal (p : Nat) (blocks : List PortBlock) (s : State) : Result :=
  event (p < 8) s (fun s => s.portRows p blocks {})

/-- RUN (R295). -/
def execRun (p : Nat) (blocks : List PortBlock) (s : State) : Result := event (p < 8) s (fun s => s.portRows p blocks {})

/-- RUN_MESSAGE_REPEAT (R295). -/
def execRunMessageRepeat (s : State) : Result := event true s (fun s => s.repeatRun)

/-- YIELD (R307, R308). -/
def execYield (p : Nat) (blocks : List PortBlock) (s : State) : Result := event (p < 8) s (fun s => s.portRows p blocks {})

/-- ECHO_REQUEST (R290). -/
def execEchoRequest (p : Nat) (blocks : List PortBlock) (s : State) : Result :=
  event (p < 8) s (fun s => s.portRows p blocks {})

/-- ECHO_ANSWER (R288). -/
def execEchoAnswer (p : Nat) (blocks : List PortBlock) (roundTripPs : Nat) (s : State) : Result :=
  event (p < 8) s (fun s => s.portRows p blocks { roundTripPs := roundTripPs })

/-- PAIR_RESET (R314). -/
def execPairReset (p : Nat) (blocks : List PortBlock) (s : State) : Result :=
  event (p < 8) s (fun s => s.portRows p blocks {})

/-- THROTTLE (R315). -/
def execThrottle (p : Nat) (blocks : List PortBlock) (s : State) : Result :=
  event (p < 8) s (fun s => s.portRows p blocks {})

/-- CABLE_RECHECK (R288). -/
def execCableRecheck (p roundTripPs : Nat) (s : State) : Result := event (p < 8) s (fun s => s.cableRecheck p roundTripPs)

/-- TAKEOVER (R307). -/
def execTakeover (s : State) : Result := event true s (fun s => s.takeover)

/-- PARTNER_ABSENT (R313). -/
def execPartnerAbsent (s : State) : Result := event true s (fun s => s.partnerAbsent)

/-- MIRROR_RESEND (R302). -/
def execMirrorResend (s : State) : Result := event true s (fun s => s.mirrorResend)

/-- PAIR_JOIN_TIMEOUT (R299). -/
def execPairJoinTimeout (s : State) : Result := event true s (fun s => s.joinTimeout)

/-- PAIR_YIELD_COMMAND (R308): a write of 1 to 0x8100:0D. -/
def execPairYieldCommand (r : Requester) (s : State) : Result := writes s r 0x8100 0x0D 1 1

/-- PAIR_RESET_COMMAND (R314): a write of 2 to 0x8100:0D. -/
def execPairResetCommand (r : Requester) (s : State) : Result := writes s r 0x8100 0x0D 1 2

/-- PORT_CONFIGURATION_WRITE (R279): a write of 0x3400+p:01. -/
def execPortConfigurationWrite (r : Requester) (p : Nat) (w : Word64) (s : State) : Result :=
  writesOn (p < 8) s r (0x3400 + p) 0x01 8 w.toNat

/-- PORT_CLEAR_COUNTERS (R317): a write of 1 to 0x3400+p:11. -/
def execPortClearCounters (r : Requester) (p : Nat) (s : State) : Result := writesOn (p < 8) s r (0x3400 + p) 0x11 1 1

end Sys2Proof.Machine
end

