-- ==== Sys2Proof/Machine/PowerRows.lean ====
section
/-! DEFINITION. PowerRows.lean: power and thermal management (chapter 15), as commands. Rails are those of Table 15-1
(R450); events that meet are resolved as Table 15-4 has it (R474). -/

namespace Sys2Proof.Machine

/-- AUTOMATIC_GATING (R453). -/
def execAutomaticGating (n : Nat) (s : State) : Result := event (n < 64) s (fun s => s.gateRegion n)

/-- AVS_TRANSACTION_FAIL (R455). -/
def execAvsTransactionFail (rail : Nat) (afterSuccess : Bool) (s : State) : Result :=
  event (rail < 3) s (fun s => s.avsFail rail afterSuccess)

/-- VC_HOLD (R456): a write of 1 to 0x2102:02. -/
def execVcHold (r : Requester) (s : State) : Result := writes s r 0x2102 0x02 1 1

/-- VC_LEAVE (R456): a write of 2 to 0x2102:02. -/
def execVcLeave (r : Requester) (s : State) : Result := writes s r 0x2102 0x02 1 2

/-- VC_RETURNED (R456). -/
def execVcReturned (s : State) : Result := event true s (fun s => s.vcReturned)

/-- SENSOR_READ (R457 to R465, R471). -/
def execSensorRead (readings : List SensorIn) (s : State) : Result := event true s (fun s => s.sensorsRead readings)

/-- WARMUP_TIMEOUT (R461). -/
def execWarmupTimeout (s : State) : Result :=
  event true s (fun s => if s.rd 0x2280 0x0A = 1 then s.raise 210 clsThermal 0xF10 1 else s)

/-- THERMTRIP (R464). -/
def execThermtrip (s : State) : Result := event true s (fun s => s.thermTrip)

/-- THROTTLE_ENFORCE (R467). -/
def execThrottleEnforce (s : State) : Result := event true s (fun s => s.throttleEnforce)

/-- THROTTLE_STEP (R468): a further step of an enforced throttling, while the request holds. -/
def execThrottleStep (s : State) : Result := event true s (fun s => s.throttleStep)

/-- THROTTLE_RELEASE (R469). -/
def execThrottleRelease (s : State) : Result := event true s (fun s => s.throttleRelease)

/-- THROTTLE_COMMAND_REQUEST (R466): a write of 1 to 0x2290:08. -/
def execThrottleCommandRequest (r : Requester) (s : State) : Result := writes s r 0x2290 0x08 1 1

/-- THROTTLE_COMMAND_WITHDRAW (R466): a write of 2 to 0x2290:08. -/
def execThrottleCommandWithdraw (r : Requester) (s : State) : Result := writes s r 0x2290 0x08 1 2

/-- CLEAR_SENSOR_FAILURE (R472): a write of 1 to 0x2200+i:08. -/
def execClearSensorFailure (r : Requester) (i : Nat) (s : State) : Result :=
  writesOn (i < 128) s r (0x2200 + i) 0x08 1 1

/-- HOTSPOT_MIGRATION (R473). -/
def execHotspotMigration (n : Nat) (s : State) : Result := event (n < 64) s (fun s => s.hotSpot n)

end Sys2Proof.Machine
end

