-- ==== Sys2Proof/Machine/RegionRows.lean ====
section
/-! DEFINITION. RegionRows.lean: regions, switches and migrations (chapter 5), as commands. -/

namespace Sys2Proof.Machine

/-- A write of region command v to 0x4100+n:12. -/
def regionRow (r : Requester) (n v : Nat) (s : State) : Result := writesOn (n < 64) s r (0x4100 + n) 0x12 1 v

/-- HALT (R142): region command 1. -/
def execHalt (r : Requester) (n : Nat) (s : State) : Result := regionRow r n 1 s

/-- RESUME (R158): region command 2. -/
def execResume (r : Requester) (n : Nat) (s : State) : Result := regionRow r n 2 s

/-- RESET (R158): region command 3. -/
def execReset (r : Requester) (n : Nat) (s : State) : Result := regionRow r n 3 s

/-- POWER_OFF (R142, R338): region command 4. -/
def execPowerOff (r : Requester) (n : Nat) (s : State) : Result := regionRow r n 4 s

/-- POWER_ON (R158): region command 5. -/
def execPowerOn (r : Requester) (n : Nat) (s : State) : Result := regionRow r n 5 s

/-- REGION_SWITCH_ON (R452). -/
def execRegionSwitchOn (n : Nat) (switchOk : Bool) (s : State) : Result :=
  event (n < 64) s (fun s => s.regionSwitchOn n switchOk)

/-- RESUME_WAVE (R142). -/
def execResumeWave (n : Nat) (s : State) : Result := event (n < 64) s (fun s => s.resumeWave n)

/-- REJOIN_WAVE (R142). -/
def execRejoinWave (n : Nat) (s : State) : Result := event (n < 64) s (fun s => s.rejoinWave n)

/-- SLOT_ARM (R148, R169): slot command 1. -/
def execSlotArm (r : Requester) (k : Nat) (s : State) : Result := writesOn (k < 16) s r (0x4210 + k) 0x05 1 1

/-- SLOT_CANCEL (R169): slot command 2. -/
def execSlotCancel (r : Requester) (k : Nat) (s : State) : Result := writesOn (k < 16) s r (0x4210 + k) 0x05 1 2

/-- SWITCH_WAVE (R149, R532). -/
def execSwitchWave (k : Nat) (s : State) : Result := event (k < 16) s (fun s => s.switchWave k)

/-- GOLDEN_PLANE_WRITE (R154): a write of 0x4100+n:15. -/
def execGoldenPlaneWrite (r : Requester) (n v : Nat) (s : State) : Result := writesOn (n < 64) s r (0x4100 + n) 0x15 1 v

/-- GOLDEN_SWITCH (R155). -/
def execGoldenSwitch (n : Nat) (s : State) : Result := event (n < 64) s (fun s => s.goldenSwitch n)

/-- MIGRATION_START (R160): migration command 1. -/
def execMigrationStart (r : Requester) (s : State) : Result := writes s r 0x4240 0x01 1 1

/-- MIGRATION_REVERT (R164): migration command 2. -/
def execMigrationRevert (r : Requester) (s : State) : Result := writes s r 0x4240 0x01 1 2

/-- MIGRATION_CANCEL (R169): migration command 3. -/
def execMigrationCancel (r : Requester) (s : State) : Result := writes s r 0x4240 0x01 1 3

/-- MIGRATION_OVERLAP_WAVE (R160). -/
def execMigrationOverlapWave (s : State) : Result := event true s (fun s => s.overlapWave)

/-- MIGRATION_SWITCH_WAVE (R160). -/
def execMigrationSwitchWave (s : State) : Result := event true s (fun s => s.migrationWave)

end Sys2Proof.Machine
end

