-- ==== Sys2Proof/Machine/Resets.lean ====
section
/-! DEFINITION. Resets.lean: power-up, activation and the resets (chapter 18), as commands. -/

namespace Sys2Proof.Machine

/-- POWER_ON_RESET (R529, R508). -/
def execPowerOnReset (straps : BitVec 18) (c : StartConds) (s : State) : Result := event true s (fun s => s.powerOn straps c)

/-- BUNDLE_ACTIVATION (R56, R531): fxMeasured is the crossing rate that PLL_X is given, in Hz. -/
def execBundleActivation (fxMeasured : Nat) (s : State) : Result := event true s (fun s => s.activateBundle fxMeasured)

/-- DEVICE_RESET_COMMAND (R533): a write of 1 to 0x1100:01. -/
def execDeviceResetCommand (r : Requester) (c : StartConds) (s : State) : Result :=
  onUnit (requesterOk r) (s.fresh.dictWriteAt (some c) r 0x1100 0x01 [1]).settle

/-- WARM_RESET_COMMAND (R534): a write of 2 to 0x1100:01. -/
def execWarmResetCommand (r : Requester) (s : State) : Result := writes s r 0x1100 0x01 1 2

/-- RESET_N_ASSERT (R552). -/
def execResetNAssert (widthNs : Nat) (c : StartConds) (s : State) : Result := event true s (fun s => s.resetPin widthNs c)

/-- POWER_LOSS (R545). -/
def execPowerLoss (rail lowNs : Nat) (tamperWindow : Bool) (s : State) : Result :=
  event (rail < 17) s (fun s => s.railLost rail lowNs tamperWindow)

/-- WARM_RESET_DONE (R534). -/
def execWarmResetDone (s : State) : Result := event true s (fun s => s.warmEnd)

/-- COLD_START_RETRY (R459). -/
def execColdStartRetry (c : StartConds) (s : State) : Result := event true s (fun s => s.coldRetry c)

/-- FIRMWARE_WATCHDOG (Table 18-5). -/
def execFirmwareWatchdog (c : StartConds) (s : State) : Result := event true s (fun s => s.firmwareWatchdog c)

/-- VIO_OUT_OF_RANGE (R549). -/
def execVioOutOfRange (k mv : Nat) (s : State) : Result := event (k < 8) s (fun s => s.vioOut k mv)

/-- VIO_RESTORED (R549). -/
def execVioRestored (k mv : Nat) (s : State) : Result := event (k < 8) s (fun s => s.vioBack k mv)

end Sys2Proof.Machine
end

