-- ==== Sys2Proof/Machine/SecurityRows.lean ====
section
/-! DEFINITION. SecurityRows.lean: security and update (chapter 17), as commands. Causes are those of Table 17-13
(R527). -/

namespace Sys2Proof.Machine

/-- PROGRAM_OWNER_KEY (R500): a segmented write of a key to 0x2401:01 or 0x2401:02. -/
def execProgramOwnerKey (r : Requester) (which : Nat) (bytes : List Byte) (s : State) : Result :=
  writesDomain (which < 2) s r 0x2401 (which + 1) bytes

/-- REVOKE_OWNER_KEY_0 (R500): fuse command 1. -/
def execRevokeOwnerKey0 (r : Requester) (s : State) : Result := writes s r 0x2401 0x03 1 1

/-- REVOKE_OWNER_KEY_1 (R500): fuse command 2. -/
def execRevokeOwnerKey1 (r : Requester) (s : State) : Result := writes s r 0x2401 0x03 1 2

/-- REQUIRE_SIGNATURES (R499): fuse command 3. -/
def execRequireSignatures (r : Requester) (s : State) : Result := writes s r 0x2401 0x03 1 3

/-- DISABLE_DEBUG (R499): fuse command 4. -/
def execDisableDebug (r : Requester) (s : State) : Result := writes s r 0x2401 0x03 1 4

/-- SVN_FLOOR_COMMAND (R513): a write of 0x2401:04. -/
def execSvnFloorCommand (r : Requester) (v : BitVec 32) (s : State) : Result := writes s r 0x2401 0x04 4 v.toNat

/-- INSTALL_KEY (R502): a segmented write of a blob to 0x2410+k:03. -/
def execInstallKey (r : Requester) (k : Nat) (blob : List Byte) (s : State) : Result :=
  writesDomain (k < 16) s r (0x2410 + k) 0x03 blob

/-- REVOKE_KEY (R501): a write of 1 to 0x2410+k:04. -/
def execRevokeKey (r : Requester) (k : Nat) (s : State) : Result := writesOn (k < 16) s r (0x2410 + k) 0x04 1 1

/-- CHALLENGE (R503): a read of 0x2420:01. -/
def execChallenge (r : Requester) (s : State) : Result :=
  onUnit (requesterOk r) (s.fresh.dictRead r false 0x2420 0x01).settle

/-- RESPONSE (R503): a segmented write of 0x2420:02. -/
def execResponse (r : Requester) (bytes : List Byte) (s : State) : Result := writesDomain true s r 0x2420 0x02 bytes

/-- CLOSE_SESSION (R504): a write of 1 to 0x2420:05. -/
def execCloseSession (r : Requester) (s : State) : Result := writes s r 0x2420 0x05 1 1

/-- SESSION_IDLE_TIMEOUT (R504). -/
def execSessionIdleTimeout (r : Requester) (s : State) : Result := event (requesterOk r) s (fun s => s.closeSession r)

/-- DEBUG_UNLOCK (R506): debug command 1. -/
def execDebugUnlock (r : Requester) (s : State) : Result := writes s r 0x2430 0x06 1 1

/-- DEBUG_LOCK (R506): debug command 2. -/
def execDebugLock (r : Requester) (s : State) : Result := writes s r 0x2430 0x06 1 2

/-- TAMPER (R507): kind 1 voltage, 2 clock, 3 light, 4 temperature. -/
def execTamper (kind : Nat) (s : State) : Result := event (1 ≤ kind && kind ≤ 4) s (fun s => s.tamper kind)

/-- TAMPER_WAIT_END (R508). -/
def execTamperWaitEnd (c : StartConds) (s : State) : Result := event true s (fun s => s.tamperWaitEnd c)

/-- TAMPER_COUNT_EXPIRY (R508): the device has run for 60 s without a trip. -/
def execTamperCountExpiry (s : State) : Result :=
  event true s (fun s => if s.startup.firmware then s.wr 0x2430 0x05 0 else s)

/-- LOCK_CLAIM (R514): a write of 1 to 0x2500:01. -/
def execLockClaim (r : Requester) (s : State) : Result := writes s r 0x2500 0x01 1 1

/-- LOCK_RELEASE (R514): a write of 2 to 0x2500:01. -/
def execLockRelease (r : Requester) (s : State) : Result := writes s r 0x2500 0x01 1 2

/-- LOCK_IDLE_TIMEOUT (R514). -/
def execLockIdleTimeout (s : State) : Result := event true s (fun s => s.releaseLock)

/-- IMAGE_WRITE (R515): a segmented write of 0x2510+j:06. -/
def execImageWrite (r : Requester) (j : Nat) (bytes : List Byte) (s : State) : Result :=
  writesDomain (j < 3) s r (0x2510 + j) 0x06 bytes

/-- TRANSACTION_BEGIN (R516): transaction command 1. -/
def execTransactionBegin (r : Requester) (s : State) : Result := writes s r 0x2520 0x01 1 1

/-- TRANSACTION_COMMIT (R517): transaction command 2. -/
def execTransactionCommit (r : Requester) (s : State) : Result := writes s r 0x2520 0x01 1 2

/-- TRANSACTION_ABORT (R518): transaction command 3. -/
def execTransactionAbort (r : Requester) (s : State) : Result := writes s r 0x2520 0x01 1 3

/-- PART_ACTIVATION (R519). -/
def execPartActivation (c : StartConds) (s : State) : Result := event true s (fun s => s.partActivation c)

/-- PART_CONFIRM (R520). -/
def execPartConfirm (s : State) : Result := event true s (fun s => s.confirmPart)

/-- HOST_CONFIRM (R520): a write of 1 to 0x2501:06. -/
def execHostConfirm (r : Requester) (s : State) : Result := writes s r 0x2501 0x06 1 1

/-- CONFIRMATION_TIMEOUT (R521). -/
def execConfirmationTimeout (s : State) : Result := event true s (fun s => s.confirmTimeout)

/-- FALLBACK_RESET (R521). -/
def execFallbackReset (c : StartConds) (s : State) : Result := event true s (fun s => s.fallbackReset c)

end Sys2Proof.Machine
end

