-- ==== Sys2Proof/Machine/StreamRows.lean ====
section
/-! DEFINITION. StreamRows.lean: configuration streams, scrubbing and readback (chapter 6), as commands. -/

namespace Sys2Proof.Machine

/-- STREAM_HEADER (R184). -/
def execStreamHeader (path : Nat) (bytes : List Byte) (s : State) : Result :=
  event (path < 6) s (fun s => s.headerRow path bytes)

/-- STREAM_RECORD (R185). -/
def execStreamRecord (bytes : List Byte) (s : State) : Result := event true s (fun s => s.recordRow bytes)

/-- STREAM_TRAILER (R186). -/
def execStreamTrailer (bytes : List Byte) (s : State) : Result := event true s (fun s => s.trailerRow bytes)

/-- SIGNATURE_VERIFIED (R183). -/
def execSignatureVerified (s : State) : Result := event true s (fun s => s.signatureDone)

/-- FRAME_VALIDATION_DONE (R188). -/
def execFrameValidationDone (s : State) : Result := event true s (fun s => s.validationDone)

/-- STREAM_INACTIVITY_TIMEOUT (R185). -/
def execStreamInactivityTimeout (path : Nat) (s : State) : Result := event (path < 6) s (fun s => s.streamInactive (s.senderOn path))

/-- STREAM_PATH_END (R185). -/
def execStreamPathEnd (path : Nat) (s : State) : Result := event (path < 6) s (fun s => s.pathEnd (s.senderOn path))

/-- ZEROISE_DONE (R187). -/
def execZeroiseDone (s : State) : Result := event true s (fun s => s.zeroiseDone)

/-- LOAD_START (R180): load command 1. -/
def execLoadStart (r : Requester) (s : State) : Result := writes s r 0x4300 0x01 1 1

/-- LOAD_CANCEL (R196): load command 2. -/
def execLoadCancel (r : Requester) (s : State) : Result := writes s r 0x4300 0x01 1 2

/-- READBACK (R190): a segmented read of 0x4321:00. -/
def execReadback (r : Requester) (s : State) : Result :=
  onUnit (requesterOk r) (s.fresh.dictRead r true 0x4321 0x00).settle

/-- INJECT_FRAME_ERROR (R197): a write of 0x4330:00. -/
def execInjectFrameError (r : Requester) (v : BitVec 64) (s : State) : Result := writes s r 0x4330 0x00 8 v.toNat

/-- SCRUB_READ (R192). -/
def execScrubRead (n p addr : Nat) (s : State) : Result :=
  event (n < 64 && p < 8 && addr < 8192) s (fun s => s.scrubFrame n p addr)

/-- SCRUB_PASS (R193). -/
def execScrubPass (n : Nat) (s : State) : Result := event (n < 64) s (fun s => s.scrubPass n)

end Sys2Proof.Machine
end

