-- ==== Sys2Proof/Machine/Waves.lean ====
section
/-! DEFINITION. Waves.lean: crossings, waves, pace and runs (chapters 1 to 3), as commands. -/

namespace Sys2Proof.Machine

/-- CROSSING_START (R25). -/
def execCrossingStart (s : State) : Result := event true s (fun s => s.crossingEdge)

/-- WAVE_INJECTION (R27). -/
def execWaveInjection (w : WaveIn) (s : State) : Result := event true s (fun s => s.injectWave w)

/-- LATE_TOKEN_DISCARD (R41). -/
def execLateTokenDiscard (reg wtag : Nat) (s : State) : Result := event true s (fun s => s.discardLate reg wtag)

/-- INPUT_DEADLINE_MISSED (R45). -/
def execInputDeadlineMissed (lane block : Nat) (s : State) : Result :=
  event (lane < 512) s (fun s => s.deadlineMissed lane block)

/-- PACE_SAMPLE (R49, R52, R454). -/
def execPaceSample (readings : List (Nat × Nat)) (s : State) : Result := event true s (fun s => s.paceSample readings)

/-- LEAST_SLACK_RESET (R64): a write of 0x4040+n:05. -/
def execLeastSlackReset (r : Requester) (n : Nat) (s : State) : Result := writesOn (n < 64) s r (0x4040 + n) 0x05 4 0

/-- RUN_START (R57): run command 1. -/
def execRunStart (r : Requester) (s : State) : Result := writes s r 0x4003 0x01 1 1

/-- RUN_STOP (R57): run command 2. -/
def execRunStop (r : Requester) (s : State) : Result := writes s r 0x4003 0x01 1 2

/-- RUN_CANCEL (R57): run command 3. -/
def execRunCancel (r : Requester) (s : State) : Result := writes s r 0x4003 0x01 1 3

/-- RUN_BOUNDARY (R56). -/
def execRunBoundary (s : State) : Result := event true s (fun s => s.boundary)

/-- PRIMING_END (R56). -/
def execPrimingEnd (s : State) : Result := event true s (fun s => s.primingEnd)

/-- STOP_WAVE (R56). -/
def execStopWave (s : State) : Result := event true s (fun s => s.stopWave)

/-- DRAIN_END (R56). -/
def execDrainEnd (s : State) : Result := event true s (fun s => s.drainEnd)

/-- SPAN_REARM (R86). -/
def execSpanRearm (span : Nat) (s : State) : Result := event true s (fun s => s.rearmSpan span)

/-- REARM_SPANS (R86): a write of 1 to 0x4100+n:08. -/
def execRearmSpans (r : Requester) (n : Nat) (s : State) : Result := writesOn (n < 64) s r (0x4100 + n) 0x08 1 1

end Sys2Proof.Machine
end

