-- ==== Sys2Proof/Machine/Dispatch.lean ====
section
/-! DEFINITION. Dispatch.lean: one arm for each constructor of Instr, each a call of that command's meaning. -/

namespace Sys2Proof.Machine

def exec (i : Instr) (s : State) : Host.Outcome State Fault Refusal :=
  match i with
  | .powerOnReset straps c => Sys2Proof.Machine.execPowerOnReset straps c s
  | .bundleActivation fxMeasured => Sys2Proof.Machine.execBundleActivation fxMeasured s
  | .deviceResetCommand r c => Sys2Proof.Machine.execDeviceResetCommand r c s
  | .warmResetCommand r => Sys2Proof.Machine.execWarmResetCommand r s
  | .resetNAssert widthNs c => Sys2Proof.Machine.execResetNAssert widthNs c s
  | .powerLoss rail lowNs tamperWindow => Sys2Proof.Machine.execPowerLoss rail lowNs tamperWindow s
  | .crossingStart => Sys2Proof.Machine.execCrossingStart s
  | .waveInjection w => Sys2Proof.Machine.execWaveInjection w s
  | .lateTokenDiscard reg wtag => Sys2Proof.Machine.execLateTokenDiscard reg wtag s
  | .inputDeadlineMissed lane block => Sys2Proof.Machine.execInputDeadlineMissed lane block s
  | .paceSample readings => Sys2Proof.Machine.execPaceSample readings s
  | .leastSlackReset r n => Sys2Proof.Machine.execLeastSlackReset r n s
  | .runStart r => Sys2Proof.Machine.execRunStart r s
  | .runStop r => Sys2Proof.Machine.execRunStop r s
  | .runCancel r => Sys2Proof.Machine.execRunCancel r s
  | .runBoundary => Sys2Proof.Machine.execRunBoundary s
  | .primingEnd => Sys2Proof.Machine.execPrimingEnd s
  | .stopWave => Sys2Proof.Machine.execStopWave s
  | .drainEnd => Sys2Proof.Machine.execDrainEnd s
  | .spanRearm span => Sys2Proof.Machine.execSpanRearm span s
  | .rearmSpans r n => Sys2Proof.Machine.execRearmSpans r n s
  | .nocRead p waits => Sys2Proof.Machine.execNocRead p waits s
  | .nocWrite p waits => Sys2Proof.Machine.execNocWrite p waits s
  | .nocMessage p => Sys2Proof.Machine.execNocMessage p s
  | .nocRetrieve p => Sys2Proof.Machine.execNocRetrieve p s
  | .bitSetAliasWrite master addr wcnt last data waits => Sys2Proof.Machine.execBitSetAliasWrite master addr wcnt last data waits s
  | .bitClearAliasWrite master addr wcnt last data waits => Sys2Proof.Machine.execBitClearAliasWrite master addr wcnt last data waits s
  | .patrolRead n b => Sys2Proof.Machine.execPatrolRead n b s
  | .blankFillEnd n => Sys2Proof.Machine.execBlankFillEnd n s
  | .blankFillTimeout n => Sys2Proof.Machine.execBlankFillTimeout n s
  | .marchStart r q w => Sys2Proof.Machine.execMarchStart r q w s
  | .marchCancel r q w => Sys2Proof.Machine.execMarchCancel r q w s
  | .marchBankEnd q n b faults waits => Sys2Proof.Machine.execMarchBankEnd q n b faults waits s
  | .marchEnd q written => Sys2Proof.Machine.execMarchEnd q written s
  | .clearRepairMap r => Sys2Proof.Machine.execClearRepairMap r s
  | .conflictCounterClear r q m => Sys2Proof.Machine.execConflictCounterClear r q m s
  | .halt r n => Sys2Proof.Machine.execHalt r n s
  | .resume r n => Sys2Proof.Machine.execResume r n s
  | .reset r n => Sys2Proof.Machine.execReset r n s
  | .powerOff r n => Sys2Proof.Machine.execPowerOff r n s
  | .powerOn r n => Sys2Proof.Machine.execPowerOn r n s
  | .regionSwitchOn n switchOk => Sys2Proof.Machine.execRegionSwitchOn n switchOk s
  | .resumeWave n => Sys2Proof.Machine.execResumeWave n s
  | .rejoinWave n => Sys2Proof.Machine.execRejoinWave n s
  | .slotArm r k => Sys2Proof.Machine.execSlotArm r k s
  | .slotCancel r k => Sys2Proof.Machine.execSlotCancel r k s
  | .switchWave k => Sys2Proof.Machine.execSwitchWave k s
  | .goldenPlaneWrite r n v => Sys2Proof.Machine.execGoldenPlaneWrite r n v s
  | .goldenSwitch n => Sys2Proof.Machine.execGoldenSwitch n s
  | .migrationStart r => Sys2Proof.Machine.execMigrationStart r s
  | .migrationRevert r => Sys2Proof.Machine.execMigrationRevert r s
  | .migrationCancel r => Sys2Proof.Machine.execMigrationCancel r s
  | .migrationOverlapWave => Sys2Proof.Machine.execMigrationOverlapWave s
  | .migrationSwitchWave => Sys2Proof.Machine.execMigrationSwitchWave s
  | .streamHeader path bytes => Sys2Proof.Machine.execStreamHeader path bytes s
  | .streamRecord bytes => Sys2Proof.Machine.execStreamRecord bytes s
  | .streamTrailer bytes => Sys2Proof.Machine.execStreamTrailer bytes s
  | .signatureVerified => Sys2Proof.Machine.execSignatureVerified s
  | .frameValidationDone => Sys2Proof.Machine.execFrameValidationDone s
  | .streamInactivityTimeout path => Sys2Proof.Machine.execStreamInactivityTimeout path s
  | .streamPathEnd path => Sys2Proof.Machine.execStreamPathEnd path s
  | .zeroiseDone => Sys2Proof.Machine.execZeroiseDone s
  | .loadStart r => Sys2Proof.Machine.execLoadStart r s
  | .loadCancel r => Sys2Proof.Machine.execLoadCancel r s
  | .readback r => Sys2Proof.Machine.execReadback r s
  | .injectFrameError r v => Sys2Proof.Machine.execInjectFrameError r v s
  | .scrubRead n p addr => Sys2Proof.Machine.execScrubRead n p addr s
  | .scrubPass n => Sys2Proof.Machine.execScrubPass n s
  | .signalDetected l => Sys2Proof.Machine.execSignalDetected l s
  | .signalLost l => Sys2Proof.Machine.execSignalLost l s
  | .trainingDone l => Sys2Proof.Machine.execTrainingDone l s
  | .blockLock l => Sys2Proof.Machine.execBlockLock l s
  | .lossOfLock l => Sys2Proof.Machine.execLossOfLock l s
  | .dataBlock l header raw marginPs => Sys2Proof.Machine.execDataBlock l header raw marginPs s
  | .crossingMarker l raw offsetPs => Sys2Proof.Machine.execCrossingMarker l raw offsetPs s
  | .alignmentMarker l raw skewPs => Sys2Proof.Machine.execAlignmentMarker l raw skewPs s
  | .sourceIdentifierBlock l raw => Sys2Proof.Machine.execSourceIdentifierBlock l raw s
  | .userControlBlock l raw marginPs => Sys2Proof.Machine.execUserControlBlock l raw marginPs s
  | .pairRoleBlock l raw marginPs => Sys2Proof.Machine.execPairRoleBlock l raw marginPs s
  | .idleBlock l raw => Sys2Proof.Machine.execIdleBlock l raw s
  | .readmit r g mask => Sys2Proof.Machine.execReadmit r g mask s
  | .laneConfigurationWrite r l w => Sys2Proof.Machine.execLaneConfigurationWrite r l w s
  | .clearCounters r l => Sys2Proof.Machine.execClearCounters r l s
  | .txAlignmentMarker l => Sys2Proof.Machine.execTxAlignmentMarker l s
  | .timingCrossingMarker inp header raw offsetPs => Sys2Proof.Machine.execTimingCrossingMarker inp header raw offsetPs s
  | .timingInputLost inp => Sys2Proof.Machine.execTimingInputLost inp s
  | .sourceMove => Sys2Proof.Machine.execSourceMove s
  | .selectionModeWrite r v => Sys2Proof.Machine.execSelectionModeWrite r v s
  | .timingUserControl inp header raw => Sys2Proof.Machine.execTimingUserControl inp header raw s
  | .slotWritten stream c => Sys2Proof.Machine.execSlotWritten stream c s
  | .slotWriteLate stream c => Sys2Proof.Machine.execSlotWriteLate stream c s
  | .classCRestart => Sys2Proof.Machine.execClassCRestart s
  | .refresh k => Sys2Proof.Machine.execRefresh k s
  | .lookbackScrubRead k => Sys2Proof.Machine.execLookbackScrubRead k s
  | .recordRead r => Sys2Proof.Machine.execRecordRead r s
  | .bar2Read offset length => Sys2Proof.Machine.execBar2Read offset length s
  | .bar2Write offset bytes => Sys2Proof.Machine.execBar2Write offset bytes s
  | .injectLineError r v => Sys2Proof.Machine.execInjectLineError r v s
  | .stackFailed k => Sys2Proof.Machine.execStackFailed k s
  | .portCrossingMarker p blocks arrivalPs => Sys2Proof.Machine.execPortCrossingMarker p blocks arrivalPs s
  | .portPairRoleBlock p blocks => Sys2Proof.Machine.execPortPairRoleBlock p blocks s
  | .portAlignmentMarker p blocks skewPs => Sys2Proof.Machine.execPortAlignmentMarker p blocks skewPs s
  | .waveRecord p blocks => Sys2Proof.Machine.execWaveRecord p blocks s
  | .heartbeat p blocks => Sys2Proof.Machine.execHeartbeat p blocks s
  | .item p blocks => Sys2Proof.Machine.execItem p blocks s
  | .refusal p blocks => Sys2Proof.Machine.execRefusal p blocks s
  | .run p blocks => Sys2Proof.Machine.execRun p blocks s
  | .runMessageRepeat => Sys2Proof.Machine.execRunMessageRepeat s
  | .yield p blocks => Sys2Proof.Machine.execYield p blocks s
  | .echoRequest p blocks => Sys2Proof.Machine.execEchoRequest p blocks s
  | .echoAnswer p blocks roundTripPs => Sys2Proof.Machine.execEchoAnswer p blocks roundTripPs s
  | .pairReset p blocks => Sys2Proof.Machine.execPairReset p blocks s
  | .throttle p blocks => Sys2Proof.Machine.execThrottle p blocks s
  | .cableRecheck p roundTripPs => Sys2Proof.Machine.execCableRecheck p roundTripPs s
  | .takeover => Sys2Proof.Machine.execTakeover s
  | .partnerAbsent => Sys2Proof.Machine.execPartnerAbsent s
  | .mirrorResend => Sys2Proof.Machine.execMirrorResend s
  | .pairJoinTimeout => Sys2Proof.Machine.execPairJoinTimeout s
  | .pairYieldCommand r => Sys2Proof.Machine.execPairYieldCommand r s
  | .pairResetCommand r => Sys2Proof.Machine.execPairResetCommand r s
  | .portConfigurationWrite r p w => Sys2Proof.Machine.execPortConfigurationWrite r p w s
  | .portClearCounters r p => Sys2Proof.Machine.execPortClearCounters r p s
  | .nocResponse p => Sys2Proof.Machine.execNocResponse p s
  | .responseTimeout node tag => Sys2Proof.Machine.execResponseTimeout node tag s
  | .routerDrain r x => Sys2Proof.Machine.execRouterDrain r x s
  | .routerReturn r x => Sys2Proof.Machine.execRouterReturn r x s
  | .routerOut x => Sys2Proof.Machine.execRouterOut x s
  | .drainTimeout x held => Sys2Proof.Machine.execDrainTimeout x held s
  | .bounce x port p => Sys2Proof.Machine.execBounce x port p s
  | .regionClosed n durationNs => Sys2Proof.Machine.execRegionClosed n durationNs s
  | .closeTimeout n durationNs => Sys2Proof.Machine.execCloseTimeout n durationNs s
  | .pcieConfigurationRequest reg write => Sys2Proof.Machine.execPcieConfigurationRequest reg write s
  | .bar4Read offset firstBe lastBe dws waits => Sys2Proof.Machine.execBar4Read offset firstBe lastBe dws waits s
  | .bar4Write offset firstBe lastBe data waits => Sys2Proof.Machine.execBar4Write offset firstBe lastBe data waits s
  | .msixMessage v entry => Sys2Proof.Machine.execMsixMessage v entry s
  | .msixHoldoffEnd v entry => Sys2Proof.Machine.execMsixHoldoffEnd v entry s
  | .softwareTrigger r k token => Sys2Proof.Machine.execSoftwareTrigger r k token s
  | .producerIndexWrite r e p => Sys2Proof.Machine.execProducerIndexWrite r e p s
  | .engineStart r e => Sys2Proof.Machine.execEngineStart r e s
  | .engineStop r e => Sys2Proof.Machine.execEngineStop r e s
  | .engineClearError r e => Sys2Proof.Machine.execEngineClearError r e s
  | .fragmentWritten e bufAddr bufSize => Sys2Proof.Machine.execFragmentWritten e bufAddr bufSize s
  | .bufferFlush e => Sys2Proof.Machine.execBufferFlush e s
  | .descriptorReadError e => Sys2Proof.Machine.execDescriptorReadError e s
  | .readoutLaneFragment trig bytes => Sys2Proof.Machine.execReadoutLaneFragment trig bytes s
  | .pcieReset kind => Sys2Proof.Machine.execPcieReset kind s
  | .mv k rd rs => Sys2Proof.Machine.execMv k rd rs s
  | .add k rd rs => Sys2Proof.Machine.execAdd k rd rs s
  | .sub k rd rs => Sys2Proof.Machine.execSub k rd rs s
  | .and k rd rs => Sys2Proof.Machine.execAnd k rd rs s
  | .or k rd rs => Sys2Proof.Machine.execOr k rd rs s
  | .xor k rd rs => Sys2Proof.Machine.execXor k rd rs s
  | .sll k rd rs => Sys2Proof.Machine.execSll k rd rs s
  | .srl k rd rs => Sys2Proof.Machine.execSrl k rd rs s
  | .sra k rd rs => Sys2Proof.Machine.execSra k rd rs s
  | .jr k rs => Sys2Proof.Machine.execJr k rs s
  | .nop k => Sys2Proof.Machine.execNop k s
  | .li k rd imm => Sys2Proof.Machine.execLi k rd imm s
  | .cAddi k rd imm => Sys2Proof.Machine.execCAddi k rd imm s
  | .lws k rd imm => Sys2Proof.Machine.execLws k rd imm s
  | .sws k rd imm => Sys2Proof.Machine.execSws k rd imm s
  | .beqz k rs off => Sys2Proof.Machine.execBeqz k rs off s
  | .bnez k rs off => Sys2Proof.Machine.execBnez k rs off s
  | .bltz k rs off => Sys2Proof.Machine.execBltz k rs off s
  | .bgez k rs off => Sys2Proof.Machine.execBgez k rs off s
  | .aluAdd k rd rs1 rs2 => Sys2Proof.Machine.execAluAdd k rd rs1 rs2 s
  | .aluSub k rd rs1 rs2 => Sys2Proof.Machine.execAluSub k rd rs1 rs2 s
  | .aluAnd k rd rs1 rs2 => Sys2Proof.Machine.execAluAnd k rd rs1 rs2 s
  | .aluOr k rd rs1 rs2 => Sys2Proof.Machine.execAluOr k rd rs1 rs2 s
  | .aluXor k rd rs1 rs2 => Sys2Proof.Machine.execAluXor k rd rs1 rs2 s
  | .aluSll k rd rs1 rs2 => Sys2Proof.Machine.execAluSll k rd rs1 rs2 s
  | .aluSrl k rd rs1 rs2 => Sys2Proof.Machine.execAluSrl k rd rs1 rs2 s
  | .aluSra k rd rs1 rs2 => Sys2Proof.Machine.execAluSra k rd rs1 rs2 s
  | .setlt k rd rs1 rs2 => Sys2Proof.Machine.execSetlt k rd rs1 rs2 s
  | .setlo k rd rs1 rs2 => Sys2Proof.Machine.execSetlo k rd rs1 rs2 s
  | .mul k rd rs1 rs2 => Sys2Proof.Machine.execMul k rd rs1 rs2 s
  | .mulhi k rd rs1 rs2 => Sys2Proof.Machine.execMulhi k rd rs1 rs2 s
  | .addi k rd rs1 imm => Sys2Proof.Machine.execAddi k rd rs1 imm s
  | .andi k rd rs1 imm => Sys2Proof.Machine.execAndi k rd rs1 imm s
  | .ori k rd rs1 imm => Sys2Proof.Machine.execOri k rd rs1 imm s
  | .xori k rd rs1 imm => Sys2Proof.Machine.execXori k rd rs1 imm s
  | .shiSll k rd rs1 sh => Sys2Proof.Machine.execShiSll k rd rs1 sh s
  | .shiSrl k rd rs1 sh => Sys2Proof.Machine.execShiSrl k rd rs1 sh s
  | .shiSra k rd rs1 sh => Sys2Proof.Machine.execShiSra k rd rs1 sh s
  | .setlti k rd rs1 imm => Sys2Proof.Machine.execSetlti k rd rs1 imm s
  | .lhi k rd imm => Sys2Proof.Machine.execLhi k rd imm s
  | .lw k rd rs1 imm => Sys2Proof.Machine.execLw k rd rs1 imm s
  | .lh k rd rs1 imm => Sys2Proof.Machine.execLh k rd rs1 imm s
  | .lhu k rd rs1 imm => Sys2Proof.Machine.execLhu k rd rs1 imm s
  | .lb k rd rs1 imm => Sys2Proof.Machine.execLb k rd rs1 imm s
  | .lbu k rd rs1 imm => Sys2Proof.Machine.execLbu k rd rs1 imm s
  | .sw k rs1 rs2 imm => Sys2Proof.Machine.execSw k rs1 rs2 imm s
  | .sh k rs1 rs2 imm => Sys2Proof.Machine.execSh k rs1 rs2 imm s
  | .sb k rs1 rs2 imm => Sys2Proof.Machine.execSb k rs1 rs2 imm s
  | .beq k rs1 rs2 imm => Sys2Proof.Machine.execBeq k rs1 rs2 imm s
  | .bne k rs1 rs2 imm => Sys2Proof.Machine.execBne k rs1 rs2 imm s
  | .blt k rs1 rs2 imm => Sys2Proof.Machine.execBlt k rs1 rs2 imm s
  | .bge k rs1 rs2 imm => Sys2Proof.Machine.execBge k rs1 rs2 imm s
  | .blo k rs1 rs2 imm => Sys2Proof.Machine.execBlo k rs1 rs2 imm s
  | .bhs k rs1 rs2 imm => Sys2Proof.Machine.execBhs k rs1 rs2 imm s
  | .call k rd imm => Sys2Proof.Machine.execCall k rd imm s
  | .callr k rd rs1 imm => Sys2Proof.Machine.execCallr k rd rs1 imm s
  | .send k rd rs1 => Sys2Proof.Machine.execSend k rd rs1 s
  | .recv k rd rs1 => Sys2Proof.Machine.execRecv k rd rs1 s
  | .trig k rd rs1 => Sys2Proof.Machine.execTrig k rd rs1 s
  | .frag k rd rs1 rs2 => Sys2Proof.Machine.execFrag k rd rs1 rs2 s
  | .wait k rd rs1 => Sys2Proof.Machine.execWait k rd rs1 s
  | .waitWakeup k => Sys2Proof.Machine.execWaitWakeup k s
  | .crd k rd csr => Sys2Proof.Machine.execCrd k rd csr s
  | .cwr k rs1 csr => Sys2Proof.Machine.execCwr k rs1 csr s
  | .cor k rs1 csr => Sys2Proof.Machine.execCor k rs1 csr s
  | .dictRead k rd rs1 rs2 => Sys2Proof.Machine.execDictRead k rd rs1 rs2 s
  | .dictWrite k rd rs1 rs2 => Sys2Proof.Machine.execDictWrite k rd rs1 rs2 s
  | .dictPublish k rd rs1 v => Sys2Proof.Machine.execDictPublish k rd rs1 v s
  | .dictAnswer k => Sys2Proof.Machine.execDictAnswer k s
  | .trap k rs1 => Sys2Proof.Machine.execTrap k rs1 s
  | .sync k => Sys2Proof.Machine.execSync k s
  | .kernelWatchdog k => Sys2Proof.Machine.execKernelWatchdog k s
  | .kernelRestart k => Sys2Proof.Machine.execKernelRestart k s
  | .kernelTimer k => Sys2Proof.Machine.execKernelTimer k s
  | .eyeMeasurementDone k p errors => Sys2Proof.Machine.execEyeMeasurementDone k p errors s
  | .kernelRestartCommand r k => Sys2Proof.Machine.execKernelRestartCommand r k s
  | .kernelStop r k => Sys2Proof.Machine.execKernelStop r k s
  | .registerWrite r index sub bytes => Sys2Proof.Machine.execRegisterWrite r index sub bytes s
  | .canFrameReceived c f => Sys2Proof.Machine.execCanFrameReceived c f s
  | .canExpeditedRead c prio node tid index sub => Sys2Proof.Machine.execCanExpeditedRead c prio node tid index sub s
  | .canExpeditedWrite c prio node tid index sub bytes => Sys2Proof.Machine.execCanExpeditedWrite c prio node tid index sub bytes s
  | .canSegmentedRead c prio node tid index sub win => Sys2Proof.Machine.execCanSegmentedRead c prio node tid index sub win s
  | .canSegmentedWrite c prio node tid index sub size win => Sys2Proof.Machine.execCanSegmentedWrite c prio node tid index sub size win s
  | .canSegment c node tid seq bytes => Sys2Proof.Machine.execCanSegment c node tid seq bytes s
  | .canAcknowledge c node tid seq win => Sys2Proof.Machine.execCanAcknowledge c node tid seq win s
  | .canAbort c node tid code => Sys2Proof.Machine.execCanAbort c node tid code s
  | .transferTimeout r tid => Sys2Proof.Machine.execTransferTimeout r tid s
  | .canHeartbeat => Sys2Proof.Machine.execCanHeartbeat s
  | .busOff c => Sys2Proof.Machine.execBusOff c s
  | .busOffRecovery c recessive => Sys2Proof.Machine.execBusOffRecovery c recessive s
  | .save r => Sys2Proof.Machine.execSave r s
  | .restoreDefaults r => Sys2Proof.Machine.execRestoreDefaults r s
  | .nodeNumberWrite r v => Sys2Proof.Machine.execNodeNumberWrite r v s
  | .mailboxRead m index sub => Sys2Proof.Machine.execMailboxRead m index sub s
  | .mailboxWrite m index sub bytes => Sys2Proof.Machine.execMailboxWrite m index sub bytes s
  | .mailboxSegmentedRead m index sub => Sys2Proof.Machine.execMailboxSegmentedRead m index sub s
  | .mailboxSegmentedWrite m index sub total => Sys2Proof.Machine.execMailboxSegmentedWrite m index sub total s
  | .mailboxSegment m bytes => Sys2Proof.Machine.execMailboxSegment m bytes s
  | .mailboxAbort m => Sys2Proof.Machine.execMailboxAbort m s
  | .dictPortRead tag index sub => Sys2Proof.Machine.execDictPortRead tag index sub s
  | .dictPortWrite tag index sub bytes => Sys2Proof.Machine.execDictPortWrite tag index sub bytes s
  | .dictPortSegmentedOpen tag index sub => Sys2Proof.Machine.execDictPortSegmentedOpen tag index sub s
  | .dictPortSegment tag bytes => Sys2Proof.Machine.execDictPortSegment tag bytes s
  | .dictPortSegmentedClose tag => Sys2Proof.Machine.execDictPortSegmentedClose tag s
  | .designAnswer tag res bytes => Sys2Proof.Machine.execDesignAnswer tag res bytes s
  | .designTimeout => Sys2Proof.Machine.execDesignTimeout s
  | .monitorTrip source reason hz => Sys2Proof.Machine.execMonitorTrip source reason hz s
  | .sourceProven source hz => Sys2Proof.Machine.execSourceProven source hz s
  | .slowRatioMeasure num den => Sys2Proof.Machine.execSlowRatioMeasure num den s
  | .pllxLock phasePs hz => Sys2Proof.Machine.execPllxLock phasePs hz s
  | .pllxHoldover phasePs => Sys2Proof.Machine.execPllxHoldover phasePs s
  | .domainSwitchCommand r d target => Sys2Proof.Machine.execDomainSwitchCommand r d target s
  | .domainSwitchDone d stopUs => Sys2Proof.Machine.execDomainSwitchDone d stopUs s
  | .deadClockTimeout d => Sys2Proof.Machine.execDeadClockTimeout d s
  | .deadClockFlagClear r d => Sys2Proof.Machine.execDeadClockFlagClear r d s
  | .gateClose d block => Sys2Proof.Machine.execGateClose d block s
  | .automaticGating n => Sys2Proof.Machine.execAutomaticGating n s
  | .avsTransactionFail rail afterSuccess => Sys2Proof.Machine.execAvsTransactionFail rail afterSuccess s
  | .vcHold r => Sys2Proof.Machine.execVcHold r s
  | .vcLeave r => Sys2Proof.Machine.execVcLeave r s
  | .vcReturned => Sys2Proof.Machine.execVcReturned s
  | .sensorRead readings => Sys2Proof.Machine.execSensorRead readings s
  | .warmupTimeout => Sys2Proof.Machine.execWarmupTimeout s
  | .coldStartRetry c => Sys2Proof.Machine.execColdStartRetry c s
  | .thermtrip => Sys2Proof.Machine.execThermtrip s
  | .throttleEnforce => Sys2Proof.Machine.execThrottleEnforce s
  | .throttleStep => Sys2Proof.Machine.execThrottleStep s
  | .throttleRelease => Sys2Proof.Machine.execThrottleRelease s
  | .throttleCommandRequest r => Sys2Proof.Machine.execThrottleCommandRequest r s
  | .throttleCommandWithdraw r => Sys2Proof.Machine.execThrottleCommandWithdraw r s
  | .clearSensorFailure r sensor => Sys2Proof.Machine.execClearSensorFailure r sensor s
  | .hotspotMigration n => Sys2Proof.Machine.execHotspotMigration n s
  | .statusAcknowledge r src => Sys2Proof.Machine.execStatusAcknowledge r src s
  | .acknowledgeClasses r mask => Sys2Proof.Machine.execAcknowledgeClasses r mask s
  | .acknowledgeAll r => Sys2Proof.Machine.execAcknowledgeAll r s
  | .force r src => Sys2Proof.Machine.execForce r src s
  | .userRaise r v => Sys2Proof.Machine.execUserRaise r v s
  | .clearHistory r => Sys2Proof.Machine.execClearHistory r s
  | .clearLog r => Sys2Proof.Machine.execClearLog r s
  | .faultLogWrite ok => Sys2Proof.Machine.execFaultLogWrite ok s
  | .programOwnerKey r which bytes => Sys2Proof.Machine.execProgramOwnerKey r which bytes s
  | .revokeOwnerKey0 r => Sys2Proof.Machine.execRevokeOwnerKey0 r s
  | .revokeOwnerKey1 r => Sys2Proof.Machine.execRevokeOwnerKey1 r s
  | .requireSignatures r => Sys2Proof.Machine.execRequireSignatures r s
  | .disableDebug r => Sys2Proof.Machine.execDisableDebug r s
  | .svnFloorCommand r v => Sys2Proof.Machine.execSvnFloorCommand r v s
  | .installKey r k blob => Sys2Proof.Machine.execInstallKey r k blob s
  | .revokeKey r k => Sys2Proof.Machine.execRevokeKey r k s
  | .challenge r => Sys2Proof.Machine.execChallenge r s
  | .response r bytes => Sys2Proof.Machine.execResponse r bytes s
  | .closeSession r => Sys2Proof.Machine.execCloseSession r s
  | .sessionIdleTimeout r => Sys2Proof.Machine.execSessionIdleTimeout r s
  | .debugUnlock r => Sys2Proof.Machine.execDebugUnlock r s
  | .debugLock r => Sys2Proof.Machine.execDebugLock r s
  | .tamper kind => Sys2Proof.Machine.execTamper kind s
  | .tamperWaitEnd c => Sys2Proof.Machine.execTamperWaitEnd c s
  | .lockClaim r => Sys2Proof.Machine.execLockClaim r s
  | .lockRelease r => Sys2Proof.Machine.execLockRelease r s
  | .lockIdleTimeout => Sys2Proof.Machine.execLockIdleTimeout s
  | .imageWrite r j bytes => Sys2Proof.Machine.execImageWrite r j bytes s
  | .transactionBegin r => Sys2Proof.Machine.execTransactionBegin r s
  | .transactionCommit r => Sys2Proof.Machine.execTransactionCommit r s
  | .transactionAbort r => Sys2Proof.Machine.execTransactionAbort r s
  | .partActivation c => Sys2Proof.Machine.execPartActivation c s
  | .partConfirm => Sys2Proof.Machine.execPartConfirm s
  | .hostConfirm r => Sys2Proof.Machine.execHostConfirm r s
  | .confirmationTimeout => Sys2Proof.Machine.execConfirmationTimeout s
  | .fallbackReset c => Sys2Proof.Machine.execFallbackReset c s
  | .firmwareWatchdog c => Sys2Proof.Machine.execFirmwareWatchdog c s
  | .vioOutOfRange k mv => Sys2Proof.Machine.execVioOutOfRange k mv s
  | .vioRestored k mv => Sys2Proof.Machine.execVioRestored k mv s
  | .illegalInstruction k => Sys2Proof.Machine.execIllegalInstruction k s
  | .sourceEdgeAfterTrip source => Sys2Proof.Machine.execSourceEdgeAfterTrip source s
  | .errorPassive c tec rec losses => Sys2Proof.Machine.execErrorPassive c tec rec losses s
  | .linkTrainingDone speed width payload correctable uncorrectable => Sys2Proof.Machine.execLinkTrainingDone speed width payload correctable uncorrectable s
  | .tamperCountExpiry => Sys2Proof.Machine.execTamperCountExpiry s
  | .transmitLoopRelock g => Sys2Proof.Machine.execTransmitLoopRelock g s
  | .saveComplete ok => Sys2Proof.Machine.execSaveComplete ok s
  | .warmResetDone => Sys2Proof.Machine.execWarmResetDone s
  | .typeError l raw => Sys2Proof.Machine.execTypeError l raw s

end Sys2Proof.Machine
end

