-- ==== Sys2Proof/Machine/Idle.lean ====
section
/-! DEFINITION. Idle.lean: what a step does when no command waits. -/

namespace Sys2Proof.Machine

/-- A nanosecond passes: device time, clocked by domain SYS, counts one while that domain runs (Table 14-2, R444); a
stop of domain LBIF or LREF is measured against it (R259, R444).
DESIGN CHOICE: the tick stands in place of idling (log entry 1). -/
def idle (s : State) : State :=
  if s.rd 0x2040 0x01 = 1 then s.fresh.wr 0x2030 0x02 ((s.now + 1) % 2 ^ 64) |>.lbifTick.lrefTick
  else s.fresh

end Sys2Proof.Machine
end

