-- ==== Sys2Proof/Safety.lean ====
section
/-! DEFINITION. Safety.lean: the terms that claims use: when a command's own effect takes place, and what a step may
not do. -/

namespace Sys2Proof.Machine

/-- Kernel k runs, no DICT stalls it, and the instruction at its PC is i: then the command i is that instruction
(log entry 34). -/
def State.atInstr (s : State) (k : Nat) (i : Instr) : Bool :=
  k < 80 && s.canRun k && s.pcOk k && decide ((s.fetched k).map (fun x => x.1) = some i)

/-- A requester that exists, on a path that answers, passes checks 2 to 5 of R558 for a write of v. -/
def State.mayWrite (s : State) (r : Requester) (idx sub v : Nat) : Bool :=
  requesterOk r && s.answers r &&
    (match s.entryRow idx sub with
    | some row => s.writeCode r row idx sub v false = 0
    | none => false)

/-- The same for a segmented write of a DOMAIN. -/
def State.maySend (s : State) (r : Requester) (idx sub : Nat) : Bool :=
  requesterOk r && s.answers r &&
    (match s.entryRow idx sub with
    | some row => s.writeCode r row idx sub 0 true = 0
    | none => false)

/-- The same for a read, segmented or not. -/
def State.mayRead (s : State) (r : Requester) (segmented : Bool) (idx sub : Nat) : Bool :=
  requesterOk r && s.answers r &&
    (match s.entryRow idx sub with
    | some row => s.readCode r row idx sub segmented = 0
    | none => false)

/-- A write of a device entry that does no more than hold its value: every check of R558 lets it through. -/
def State.mayStore (s : State) (r : Requester) (idx sub : Nat) (bytes : List Byte) : Bool :=
  let v := bytesNat bytes
  s.mayWrite r idx sub v && idx < 0xA000 && idx ≠ 0x1008 && sub < 256 &&
    (match rowOf idx sub with
    | some row => decide (row.acc = .rw) && lengthOk row.ty bytes.length && typeOk row.ty v && s.rangeOk row.rng v
        && s.valueOk idx sub v && s.stateOk idx sub v && (s.entryAct r idx sub v).isNone
    | none => false)

/-- A read of a device entry that only shows its value: every check of R558 lets it through. -/
def State.mayShow (s : State) (r : Requester) (segmented : Bool) (idx sub : Nat) : Bool :=
  s.mayRead r segmented idx sub && idx < 0xA000 && sub < 256 && !([0x2420, 0x4321, 0x5841].contains idx)

/-- The bytes that such a read shows. -/
def State.shownBytes (s : State) (r : Requester) (idx sub : Nat) : List Byte :=
  match rowOf idx sub with
  | some row => (s.tableBytes idx sub).getD (valueBytes row.ty (s.shownNat r idx sub))
  | none => []

/-- A write of an entry that has been done: what it did to the state, and the positive answer. -/
def State.accepted (t : State) (r : Requester) (idx sub : Nat) : Result := .next (t.reply r (ent idx sub) 0).settle

/-- The command answers a next state: t, which its own effect gives and of which P holds, once what t leaves waiting
(reaction actions, answers, a lead's items) has been dealt with. Where t is quiet, it is t itself. -/
def Completes (o : Result) (P : State → Prop) : Prop := ∃ t : State, o = .next t.settle ∧ P t

/-- The write that the command is has been done: t is what it does to the state, of which P holds, and its requester
gets the positive answer. -/
def Accepted (o : Result) (r : Requester) (idx sub : Nat) (P : State → Prop) : Prop :=
  ∃ t : State, o = t.accepted r idx sub ∧ P t

/-- Of s, nothing but what is given and the listed entries of the dictionary changes. -/
def State.OnlyEntries (s t : State) (l : List (Nat × Nat)) : Prop :=
  t = { s with out := t.out, dict := t.dict } ∧ ∀ a b, b < 256 → (a, b) ∉ l → t.rd a b = s.rd a b

/-- Nothing waits for a clock domain to run again (R444): frames, pin updates, voltage writes, a load's header. -/
def State.nothingHeld (s : State) : Bool :=
  (s.canCh 0).queue.isEmpty && (s.canCh 1).queue.isEmpty && s.pinsHeld.isEmpty && s.thermal.avsHeld.isEmpty
    && s.loadHeld.isNone

/-- Nothing changes; what was given before is gone. -/
def State.Unchanged (s t : State) : Prop := t = s.fresh

/-- The load in progress in s has failed with a result code: t zeroises, and shows, counts and raises it. -/
def State.Failed (t s : State) (code : Nat) : Prop :=
  t.rd 0x4301 0x01 = 5 ∧ t.rd 0x4301 0x02 = code ∧
    t.rd 0x4301 0x0A = counterNext 32 (ent 0x4301 0x0A) (s.rd 0x4301 0x0A) ∧
    t.rd (0x7100 + loadSource (hRegions s.load.header)) 0x01 = 1

/-- The lines of the keep store that the network wrote stand in t as in s, but in the areas listed, which the device has
written (R509). -/
def State.KeepsLines (s t : State) (l : List KeepArea) : Prop :=
  ∀ a, (keepArea a).1 ∉ l →
    Sparse.get (fun _ => none) t.keepLines a = Sparse.get (fun _ => none) s.keepLines a

/-- A command that writes the keep store (R510; which writes fail is the outside's, log entry 214): t is what it does to
the state, of which P holds, with the positive answer; or the write fails, a spare line takes the place of the one that
failed, and nothing else of the command takes place. -/
def Kept (s : State) (o : Result) (r : Requester) (idx sub : Nat) (P : State → Prop) : Prop :=
  ∃ t : State, o = .next (t.reply r (ent idx sub) (if Config.keepFails s.now then 0x08000050 else 0)).settle ∧
    (Config.keepFails s.now = false → P t) ∧ (Config.keepFails s.now = true → t = s.fresh.keepFault)

/-- The memories of the device hold their canonical form: addresses strictly rising, and no entry that equals what an
unlisted address reads as; so do those that the log of the waves a region may hold keeps (R145). -/
abbrev State.Canonical (s : State) : Prop :=
  Sparse.wf dfltKey s.dict ∧ Sparse.wf bankDflt s.bankMem ∧ Sparse.wf (fun _ => none) s.lines ∧
    Sparse.wf (fun _ => {}) s.frames ∧ Sparse.wf (fun _ => none) s.regs ∧
    ∀ w ∈ s.waveLog, Sparse.wf bankDflt w.before.bankMem ∧ Sparse.wf (fun _ => none) w.before.regs

/-- t comes out of a device reset of s with a code: no bundle is left, the code waits to be reported, and what waits in
the queue waits on. Where the key check of step 2 fails, the sequence stops there, and the device is as the reset leaves
it (Table 18-4): planes, registers and memory gone, regions OFF, sessions closed, stores kept. In the wait after a tamper response the sequence does not start (R508). -/
def State.DeviceReset (s t : State) (c : StartConds) (code : Nat) : Prop :=
  t.bundle = none ∧ t.startup.cause = code ∧ t.startup.released = true ∧ t.pending = s.pending ∧
    (s.startup.tamperWait = true → t.startup.tamperWait = true ∧ t.startup.firmware = false) ∧
    (s.startup.tamperWait = false → c.pufOk = false → t.startStep = 0xFE ∧ t.rd 0x1100 0x07 = 2 ∧ t.engineSt = 0 ∧
      (∀ n, n < 64 → t.regState n = rOff) ∧ t.planes = [] ∧ t.frames = [] ∧ t.regs = [] ∧ t.bankMem = [] ∧
      t.security.sessions = [] ∧ t.security.lock = none ∧ t.startup.firmware = false ∧ t.lines = s.lines ∧
      s.keepReset.KeepsLines t [.log, .journal])

/-- What the blocks of a row decode to, in order, each on its own lane of the port (R279). -/
def rowDecode (lanes : Sparse CodeRec) : List PortBlock → List RxBlock
  | [] => []
  | b :: l =>
    let y := decodeBlock (Sparse.get (fun _ => {}) lanes (b.lane % 16)) b.header b.raw
    y.2 :: rowDecode (Sparse.set (fun _ => {}) lanes (b.lane % 16) y.1) l

/-- The body of a user-control block with a good CHK. -/
def userBody : RxBlock → Option (BitVec 56)
  | .control w => if ctlType w = 0x66 ∧ chkOk (ctlBody w) then some (ctlBody w) else none
  | _ => none

/-- The blocks are a message of R289: a first block with OP, LEN, MSEQ and ARG, and LEN continuation blocks, each a
user-control block with a good CHK. -/
def isMessage (l : List RxBlock) (op mseq arg : Nat) (data : List (BitVec 48)) : Bool :=
  match l.map userBody with
  | some first :: cont =>
    bodyField first 55 48 = op && bodyField first 47 44 = data.length && bodyField first 39 24 = mseq
      && bodyField first 23 8 = arg && cont.map (Option.map (fun b => b.extractLsb' 8 48)) = data.map some
  | _ => false

/-- A row brings port p, which looks at messages and is in none, the whole of one. -/
abbrev State.Brings (s : State) (p : Nat) (blocks : List PortBlock) (op mseq arg : Nat) (data : List (BitVec 48)) : Prop :=
  s.portLooped p = false ∧ pAligning ≤ s.portSt p ∧ s.portSt p ≤ pStranger ∧ (s.port p).msg = none ∧
    (s.port p).msgOff = false ∧ isMessage (rowDecode (s.port p).lanes blocks) op mseq arg data = true

/-- A row brings port p one control block with a good CHK. -/
abbrev State.BringsControl (s : State) (p : Nat) (blocks : List PortBlock) (w : Word64) : Prop :=
  s.portLooped p = false ∧ pAligning ≤ s.portSt p ∧ s.portSt p ≤ pStranger ∧
    rowDecode (s.port p).lanes blocks = [.control w] ∧ chkOk (ctlBody w) = true

/-- A message that port p does not take there is dropped and counted (R290). -/
def State.Dropped (s : State) (p : Nat) (t : State) : Prop :=
  t.pt p 0x0F = counterNext 32 (ent (0x3400 + p) 0x0F) (s.pt p 0x0F) ∧
    { s with ports := t.ports }.OnlyEntries t [(0x3400 + p, 0x0F)]

/-- An instruction of kernel k touches its registers and its PC only. -/
def State.KernelFrame (s t : State) (k : Nat) : Prop :=
  t = { s with out := [], kernels := t.kernels } ∧ (∀ j, j ≠ k → t.kernel j = s.kernel j) ∧
    t.kernel k = { s.kernel k with regs := (t.kernel k).regs, pc := (t.kernel k).pc }

/-- The record of kernel k becomes x, and nothing else changes. -/
def State.GivesKernel (s : State) (k : Nat) (x : KernelRec) (t : State) : Prop :=
  t = { s with out := [], kernels := t.kernels } ∧ (∀ j, j ≠ k → t.kernel j = s.kernel j) ∧ t.kernel k = x

/-- Register rd of kernel k takes v (g0 discards it), the PC goes on by n bytes, and nothing else changes. -/
def State.GivesReg (s : State) (k rd : Nat) (v : Word) (n : Nat) (t : State) : Prop :=
  s.KernelFrame t k ∧ (∀ q, t.greg k q = if q = rd ∧ rd ≠ 0 then v else s.greg k q) ∧
    (t.kernel k).pc = (s.kernel k).pc + BitVec.ofNat 32 n

/-- Register rd of kernel k takes the address of the next 32-bit instruction, the PC becomes pc, and nothing else
changes. -/
def State.GivesCall (s : State) (k rd : Nat) (pc : Word) (t : State) : Prop :=
  s.KernelFrame t k ∧ (∀ q, t.greg k q = if q = rd ∧ rd ≠ 0 then (s.kernel k).pc + 4 else s.greg k q) ∧
    (t.kernel k).pc = pc

/-- Byte o of kernel k's staging ring has been written and not handed over since (R386). -/
def State.stagedAt (s : State) (k o : Nat) : Bool := Sparse.get (fun _ => false) (s.kernel k).staged o

/-- m bytes stored at an address write byte o of the staging ring. -/
def stagesAt (k a m o : Nat) : Bool :=
  decide (areaOf k (0x00400000 + o) = .staging ∧ a ≤ 0x00400000 + o ∧ 0x00400000 + o < a + m)

/-- The bytes l are stored at address a of kernel k's memory, the PC goes on by n bytes, and nothing else changes: no
register, no other byte, and not the code that fetch sees (R376). -/
def State.GivesStore (s : State) (k a : Nat) (l : List Byte) (n : Nat) (t : State) : Prop :=
  t = { s with out := [], kernels := t.kernels } ∧ (∀ j, j ≠ k → t.kernel j = s.kernel j) ∧
    t.kernel k = { s.kernel k with
      mem := (t.kernel k).mem
      staged := (t.kernel k).staged
      pc := (s.kernel k).pc + BitVec.ofNat 32 n } ∧
    (∀ b, t.kbyte k b = if a ≤ b ∧ b < a + l.length then l.getD (b - a) 0 else s.kbyte k b) ∧
    ∀ o, t.stagedAt k o = (s.stagedAt k o || stagesAt k a l.length o)

/-- What a load gives of the lane window of kernel k from offset w on (R380, Table 12-9), as far as the field there goes;
offsets that are not listed read 0. The write-only fields, at 0x38 to 0x3F, are not in it. -/
def State.windowValue (s : State) (k w : Nat) : Nat :=
  let l := 8 * k + w / 256
  let o := w % 256
  if o < 0x20 then s.eqState l / 256 ^ o
  else if o < 0x28 then s.laneSt l % 256 / 256 ^ (o - 0x20)
  else if o < 0x30 then (s.lane l).blocks % 2 ^ 64 / 256 ^ (o - 0x28)
  else if o < 0x38 then (s.lane l).hdrErr % 2 ^ 64 / 256 ^ (o - 0x30)
  else if 0x40 ≤ o ∧ o < 0x48 then
    (s.winWord k (w / 256 * 256 + 0x40) + 2 ^ 32 * s.winWord k (w / 256 * 256 + 0x44)) / 256 ^ (o - 0x40)
  else if 0x48 ≤ o ∧ o < 0x4C then s.rd (0x3100 + l) 0x07 % 2 ^ 24 / 256 ^ (o - 0x48)
  else 0

/-- Kernel k is FAULTED with a code, at the PC of the faulting instruction, its registers as they were (R377). -/
def State.GivesFault (s : State) (k code : Nat) (t : State) : Prop :=
  t.rd (0x6810 + k) 0x01 = 3 ∧ t.rd (0x6810 + k) 0x03 = code ∧ t.rd (0x6810 + k) 0x04 = (s.kernel k).pc.toNat ∧
    (∀ q, t.greg k q = s.greg k q) ∧ (t.kernel k).pc = (s.kernel k).pc ∧ t.rd (0x7100 + kernelSource k) 0x01 = 1

/-- User kernel k runs its program from the start (R388, R390): PC at ENTRY, g13 at STACK, every other register 0, an
empty inbox, no event pending; it is RUNNING, and its restart is counted. -/
def State.GivesStart (s : State) (k : Nat) (t : State) : Prop :=
  t.rd (0x6810 + k) 0x01 = 1 ∧ t.rd (0x6810 + k) 0x02 = s.progId k ∧
    t.rd (0x6810 + k) 0x07 = counterNext 32 (ent (0x6810 + k) 0x07) (s.rd (0x6810 + k) 0x07) ∧
    (t.kernel k).pc = BitVec.ofNat 32 (s.programOf k).entry ∧
    (∀ q, t.greg k q = if q = 13 then BitVec.ofNat 32 (s.programOf k).stack else 0) ∧ (t.kernel k).inbox = [] ∧
    (t.kernel k).edges = 0 ∧ (t.kernel k).wait = none ∧ (t.kernel k).dict = none

/-- The PC of kernel k becomes pc, and nothing else changes. -/
def State.GivesPc (s : State) (k : Nat) (pc : Word) (t : State) : Prop :=
  s.KernelFrame t k ∧ (∀ q, t.greg k q = s.greg k q) ∧ (t.kernel k).pc = pc

end Sys2Proof.Machine
end

