-- ==== Sys2Proof/WellFormed.lean ====
section
/-! DEFINITION. WellFormed.lean: a command names units that the device has (R1, R7 to R10), a kernel instruction
registers g0 to g15 (R370), and a dictionary access an index and a sub-index that R6 can write. -/

namespace Sys2Proof

/-- The requester exists: a node of one of two channels, a mailbox, the port, a kernel (R399, R408, R418). -/
def requesterExists (r : Requester) : Bool :=
  match r with
  | .can c n => c < 2 && 1 ≤ n && n ≤ 127
  | .mailbox m => m < 16
  | .port => true
  | .kernel k => k < 94

/-- Every unit, register, index and sub-index that the command names exists or can be written. -/
def wellFormed (i : Instr) : Bool :=
  match i with
  | .powerOnReset _ _ => true
  | .bundleActivation _ => true
  | .deviceResetCommand r _ => requesterExists r
  | .warmResetCommand r => requesterExists r
  | .resetNAssert _ _ => true
  | .powerLoss rail _ _ => rail < 17
  | .crossingStart => true
  | .waveInjection _ => true
  | .lateTokenDiscard _ _ => true
  | .inputDeadlineMissed lane _ => lane < 512
  | .paceSample _ => true
  | .leastSlackReset r n => requesterExists r && n < 64
  | .runStart r => requesterExists r
  | .runStop r => requesterExists r
  | .runCancel r => requesterExists r
  | .runBoundary => true
  | .primingEnd => true
  | .stopWave => true
  | .drainEnd => true
  | .spanRearm _ => true
  | .rearmSpans r n => requesterExists r && n < 64
  | .nocRead _ _ => true
  | .nocWrite _ _ => true
  | .nocMessage _ => true
  | .nocRetrieve _ => true
  | .bitSetAliasWrite _ _ wcnt last data _ => data.length = wcnt + 1 && last < 8
  | .bitClearAliasWrite _ _ wcnt last data _ => data.length = wcnt + 1 && last < 8
  | .patrolRead n b => n < 64 && b < 64
  | .blankFillEnd n => n < 64
  | .blankFillTimeout n => n < 64
  | .marchStart r q _ => requesterExists r && q < 4
  | .marchCancel r q _ => requesterExists r && q < 4
  | .marchBankEnd q n b _ _ => q < 4 && n < 64 && b < 64
  | .marchEnd q _ => q < 4
  | .clearRepairMap r => requesterExists r
  | .conflictCounterClear r q m => requesterExists r && q < 4 && m < 7
  | .halt r n => requesterExists r && n < 64
  | .resume r n => requesterExists r && n < 64
  | .reset r n => requesterExists r && n < 64
  | .powerOff r n => requesterExists r && n < 64
  | .powerOn r n => requesterExists r && n < 64
  | .regionSwitchOn n _ => n < 64
  | .resumeWave n => n < 64
  | .rejoinWave n => n < 64
  | .slotArm r k => requesterExists r && k < 16
  | .slotCancel r k => requesterExists r && k < 16
  | .switchWave k => k < 16
  | .goldenPlaneWrite r n _ => requesterExists r && n < 64
  | .goldenSwitch n => n < 64
  | .migrationStart r => requesterExists r
  | .migrationRevert r => requesterExists r
  | .migrationCancel r => requesterExists r
  | .migrationOverlapWave => true
  | .migrationSwitchWave => true
  | .streamHeader path _ => path < 6
  | .streamRecord _ => true
  | .streamTrailer _ => true
  | .signatureVerified => true
  | .frameValidationDone => true
  | .streamInactivityTimeout path => path < 6
  | .streamPathEnd path => path < 6
  | .zeroiseDone => true
  | .loadStart r => requesterExists r
  | .loadCancel r => requesterExists r
  | .readback r => requesterExists r
  | .injectFrameError r _ => requesterExists r
  | .scrubRead n p addr => n < 64 && p < 8 && addr < 8192
  | .scrubPass n => n < 64
  | .signalDetected l => l < 522
  | .signalLost l => l < 522
  | .trainingDone l => l < 522
  | .blockLock l => l < 522
  | .lossOfLock l => l < 522
  | .dataBlock l _ _ _ => l < 512 || l = 520 || l = 521
  | .crossingMarker l _ _ => l < 512 || l = 520 || l = 521
  | .alignmentMarker l _ _ => l < 512 || l = 520 || l = 521
  | .sourceIdentifierBlock l _ => l < 512 || l = 520 || l = 521
  | .userControlBlock l _ _ => l < 512 || l = 520 || l = 521
  | .pairRoleBlock l _ _ => l < 512 || l = 520 || l = 521
  | .idleBlock l _ => l < 512 || l = 520 || l = 521
  | .readmit r g _ => requesterExists r && g < 64
  | .laneConfigurationWrite r l _ => requesterExists r && l < 512
  | .clearCounters r l => requesterExists r && l < 512
  | .txAlignmentMarker l => l < 520
  | .timingCrossingMarker inp _ _ _ => inp < 2
  | .timingInputLost inp => inp < 2
  | .sourceMove => true
  | .selectionModeWrite r _ => requesterExists r
  | .timingUserControl inp _ _ => inp < 2
  | .slotWritten stream _ => stream < 577
  | .slotWriteLate stream _ => stream < 577
  | .classCRestart => true
  | .refresh k => k < 8
  | .lookbackScrubRead k => k < 8
  | .recordRead r => requesterExists r
  | .bar2Read offset length => offset + length ≤ 2 ^ 41
  | .bar2Write offset bytes => offset + bytes.length ≤ 2 ^ 41
  | .injectLineError r _ => requesterExists r
  | .stackFailed k => k < 8
  | .portCrossingMarker p _ _ => p < 8
  | .portPairRoleBlock p _ => p < 8
  | .portAlignmentMarker p _ _ => p < 8
  | .waveRecord p _ => p < 8
  | .heartbeat p _ => p < 8
  | .item p _ => p < 8
  | .refusal p _ => p < 8
  | .run p _ => p < 8
  | .runMessageRepeat => true
  | .yield p _ => p < 8
  | .echoRequest p _ => p < 8
  | .echoAnswer p _ _ => p < 8
  | .pairReset p _ => p < 8
  | .throttle p _ => p < 8
  | .cableRecheck p _ => p < 8
  | .takeover => true
  | .partnerAbsent => true
  | .mirrorResend => true
  | .pairJoinTimeout => true
  | .pairYieldCommand r => requesterExists r
  | .pairResetCommand r => requesterExists r
  | .portConfigurationWrite r p _ => requesterExists r && p < 8
  | .portClearCounters r p => requesterExists r && p < 8
  | .nocResponse _ => true
  | .responseTimeout _ _ => true
  | .routerDrain r x => requesterExists r && x < 69
  | .routerReturn r x => requesterExists r && x < 69
  | .routerOut x => x < 69
  | .drainTimeout x _ => x < 69
  | .bounce x _ _ => x < 69
  | .regionClosed n _ => n < 64
  | .closeTimeout n _ => n < 64
  | .pcieConfigurationRequest reg _ => reg < 1024
  | .bar4Read offset _ _ dws _ => offset + 4 * dws ≤ 2 ^ 31
  | .bar4Write offset _ _ data _ => offset + 4 * data.length ≤ 2 ^ 31
  | .msixMessage v _ => v < 512
  | .msixHoldoffEnd v _ => v < 512
  | .softwareTrigger r k _ => requesterExists r && k < 16
  | .producerIndexWrite r e _ => requesterExists r && e < 16
  | .engineStart r e => requesterExists r && e < 16
  | .engineStop r e => requesterExists r && e < 16
  | .engineClearError r e => requesterExists r && e < 16
  | .fragmentWritten e _ _ => e < 16
  | .bufferFlush e => e < 16
  | .descriptorReadError e => e < 16
  | .readoutLaneFragment i _ => i < 16
  | .pcieReset kind => kind < 4
  | .mv k rd rs => k < 80 && rd < 16 && rs < 16
  | .add k rd rs => k < 80 && rd < 16 && rs < 16
  | .sub k rd rs => k < 80 && rd < 16 && rs < 16
  | .and k rd rs => k < 80 && rd < 16 && rs < 16
  | .or k rd rs => k < 80 && rd < 16 && rs < 16
  | .xor k rd rs => k < 80 && rd < 16 && rs < 16
  | .sll k rd rs => k < 80 && rd < 16 && rs < 16
  | .srl k rd rs => k < 80 && rd < 16 && rs < 16
  | .sra k rd rs => k < 80 && rd < 16 && rs < 16
  | .jr k rs => k < 80 && rs < 16
  | .nop k => k < 80
  | .li k rd _ => k < 80 && rd < 16
  | .cAddi k rd _ => k < 80 && rd < 16
  | .lws k rd _ => k < 80 && rd < 16
  | .sws k rd _ => k < 80 && rd < 16
  | .beqz k rs _ => k < 80 && rs < 16
  | .bnez k rs _ => k < 80 && rs < 16
  | .bltz k rs _ => k < 80 && rs < 16
  | .bgez k rs _ => k < 80 && rs < 16
  | .aluAdd k rd rs1 rs2 => k < 80 && rd < 16 && rs1 < 16 && rs2 < 16
  | .aluSub k rd rs1 rs2 => k < 80 && rd < 16 && rs1 < 16 && rs2 < 16
  | .aluAnd k rd rs1 rs2 => k < 80 && rd < 16 && rs1 < 16 && rs2 < 16
  | .aluOr k rd rs1 rs2 => k < 80 && rd < 16 && rs1 < 16 && rs2 < 16
  | .aluXor k rd rs1 rs2 => k < 80 && rd < 16 && rs1 < 16 && rs2 < 16
  | .aluSll k rd rs1 rs2 => k < 80 && rd < 16 && rs1 < 16 && rs2 < 16
  | .aluSrl k rd rs1 rs2 => k < 80 && rd < 16 && rs1 < 16 && rs2 < 16
  | .aluSra k rd rs1 rs2 => k < 80 && rd < 16 && rs1 < 16 && rs2 < 16
  | .setlt k rd rs1 rs2 => k < 80 && rd < 16 && rs1 < 16 && rs2 < 16
  | .setlo k rd rs1 rs2 => k < 80 && rd < 16 && rs1 < 16 && rs2 < 16
  | .mul k rd rs1 rs2 => k < 80 && rd < 16 && rs1 < 16 && rs2 < 16
  | .mulhi k rd rs1 rs2 => k < 80 && rd < 16 && rs1 < 16 && rs2 < 16
  | .addi k rd rs1 _ => k < 80 && rd < 16 && rs1 < 16
  | .andi k rd rs1 _ => k < 80 && rd < 16 && rs1 < 16
  | .ori k rd rs1 _ => k < 80 && rd < 16 && rs1 < 16
  | .xori k rd rs1 _ => k < 80 && rd < 16 && rs1 < 16
  | .shiSll k rd rs1 _ => k < 80 && rd < 16 && rs1 < 16
  | .shiSrl k rd rs1 _ => k < 80 && rd < 16 && rs1 < 16
  | .shiSra k rd rs1 _ => k < 80 && rd < 16 && rs1 < 16
  | .setlti k rd rs1 _ => k < 80 && rd < 16 && rs1 < 16
  | .lhi k rd _ => k < 80 && rd < 16
  | .lw k rd rs1 _ => k < 80 && rd < 16 && rs1 < 16
  | .lh k rd rs1 _ => k < 80 && rd < 16 && rs1 < 16
  | .lhu k rd rs1 _ => k < 80 && rd < 16 && rs1 < 16
  | .lb k rd rs1 _ => k < 80 && rd < 16 && rs1 < 16
  | .lbu k rd rs1 _ => k < 80 && rd < 16 && rs1 < 16
  | .sw k rs1 rs2 _ => k < 80 && rs1 < 16 && rs2 < 16
  | .sh k rs1 rs2 _ => k < 80 && rs1 < 16 && rs2 < 16
  | .sb k rs1 rs2 _ => k < 80 && rs1 < 16 && rs2 < 16
  | .beq k rs1 rs2 _ => k < 80 && rs1 < 16 && rs2 < 16
  | .bne k rs1 rs2 _ => k < 80 && rs1 < 16 && rs2 < 16
  | .blt k rs1 rs2 _ => k < 80 && rs1 < 16 && rs2 < 16
  | .bge k rs1 rs2 _ => k < 80 && rs1 < 16 && rs2 < 16
  | .blo k rs1 rs2 _ => k < 80 && rs1 < 16 && rs2 < 16
  | .bhs k rs1 rs2 _ => k < 80 && rs1 < 16 && rs2 < 16
  | .call k rd _ => k < 80 && rd < 16
  | .callr k rd rs1 _ => k < 80 && rd < 16 && rs1 < 16
  | .send k rd rs1 => k < 80 && rd < 16 && rs1 < 16
  | .recv k rd rs1 => k < 80 && rd < 16 && rs1 < 16
  | .trig k rd rs1 => k < 80 && rd < 16 && rs1 < 16
  | .frag k rd rs1 rs2 => k < 80 && rd < 16 && rs1 < 16 && rs2 < 16
  | .wait k rd rs1 => k < 80 && rd < 16 && rs1 < 16
  | .waitWakeup k => k < 80
  | .crd k rd _ => k < 80 && rd < 16
  | .cwr k rs1 _ => k < 80 && rs1 < 16
  | .cor k rs1 _ => k < 80 && rs1 < 16
  | .dictRead k rd rs1 rs2 => k < 80 && rd < 16 && rs1 < 16 && rs2 < 16
  | .dictWrite k rd rs1 rs2 => k < 80 && rd < 16 && rs1 < 16 && rs2 < 16
  | .dictPublish k rd rs1 v => k < 80 && rd < 16 && rs1 < 16 && v < 1024
  | .dictAnswer k => k < 80
  | .trap k rs1 => k < 80 && rs1 < 16
  | .sync k => k < 80
  | .kernelWatchdog k => k < 94
  | .kernelRestart k => k < 94
  | .kernelTimer k => k < 80
  | .eyeMeasurementDone k p _ => k < 64 && p < 8
  | .kernelRestartCommand r k => requesterExists r && k < 94
  | .kernelStop r k => requesterExists r && k < 94
  | .registerWrite r index sub _ => requesterExists r && index < 65536 && sub < 256
  | .canFrameReceived c _ => c < 2
  | .canExpeditedRead c prio node tid index sub => c < 2 && prio < 8 && node < 128 && tid < 256 && index < 65536 && sub < 256 && 1 ≤ node
  | .canExpeditedWrite c prio node tid index sub _ => c < 2 && prio < 8 && node < 128 && tid < 256 && index < 65536 && sub < 256 && 1 ≤ node
  | .canSegmentedRead c prio node tid index sub _ => c < 2 && prio < 8 && node < 128 && tid < 256 && index < 65536 && sub < 256 && 1 ≤ node
  | .canSegmentedWrite c prio node tid index sub _ _ => c < 2 && prio < 8 && node < 128 && tid < 256 && index < 65536 && sub < 256 && 1 ≤ node
  | .canSegment c node tid _ _ => c < 2 && node < 128 && tid < 256
  | .canAcknowledge c node tid _ _ => c < 2 && node < 128 && tid < 256
  | .canAbort c node tid _ => c < 2 && node < 128 && tid < 256
  | .transferTimeout r _ => requesterExists r
  | .canHeartbeat => true
  | .busOff c => c < 2
  | .busOffRecovery c _ => c < 2
  | .save r => requesterExists r
  | .restoreDefaults r => requesterExists r
  | .nodeNumberWrite r _ => requesterExists r
  | .mailboxRead m index sub => m < 16 && index < 65536 && sub < 256
  | .mailboxWrite m index sub _ => m < 16 && index < 65536 && sub < 256
  | .mailboxSegmentedRead m index sub => m < 16 && index < 65536 && sub < 256
  | .mailboxSegmentedWrite m index sub _ => m < 16 && index < 65536 && sub < 256
  | .mailboxSegment m _ => m < 16
  | .mailboxAbort m => m < 16
  | .dictPortRead _ index sub => index < 65536 && sub < 256
  | .dictPortWrite _ index sub _ => index < 65536 && sub < 256
  | .dictPortSegmentedOpen _ index sub => index < 65536 && sub < 256
  | .dictPortSegment _ _ => true
  | .dictPortSegmentedClose _ => true
  | .designAnswer _ _ _ => true
  | .designTimeout => true
  | .monitorTrip i reason _ => 1 ≤ i && i < 8 && (reason = 1 || reason = 2 || (reason = 3 && 4 ≤ i))
  | .sourceProven i _ => 1 ≤ i && i < 8
  | .slowRatioMeasure _ _ => true
  | .pllxLock _ _ => true
  | .pllxHoldover _ => true
  | .domainSwitchCommand r d _ => requesterExists r && d < 7
  | .domainSwitchDone d _ => d < 7
  | .deadClockTimeout d => d < 7
  | .deadClockFlagClear r d => requesterExists r && d < 7
  | .gateClose d b => (d = 3 && b < 1) || (d = 4 && b < 2) || ((d = 5 || d = 6) && b < 3)
  | .automaticGating n => n < 64
  | .avsTransactionFail rail _ => rail < 3
  | .vcHold r => requesterExists r
  | .vcLeave r => requesterExists r
  | .vcReturned => true
  | .sensorRead _ => true
  | .warmupTimeout => true
  | .coldStartRetry _ => true
  | .thermtrip => true
  | .throttleEnforce => true
  | .throttleStep => true
  | .throttleRelease => true
  | .throttleCommandRequest r => requesterExists r
  | .throttleCommandWithdraw r => requesterExists r
  | .clearSensorFailure r i => requesterExists r && i < 128
  | .hotspotMigration n => n < 64
  | .statusAcknowledge r src => requesterExists r && src < 384
  | .acknowledgeClasses r _ => requesterExists r
  | .acknowledgeAll r => requesterExists r
  | .force r src => requesterExists r && src < 384
  | .userRaise r _ => requesterExists r
  | .clearHistory r => requesterExists r
  | .clearLog r => requesterExists r
  | .faultLogWrite _ => true
  | .programOwnerKey r which _ => requesterExists r && which < 2
  | .revokeOwnerKey0 r => requesterExists r
  | .revokeOwnerKey1 r => requesterExists r
  | .requireSignatures r => requesterExists r
  | .disableDebug r => requesterExists r
  | .svnFloorCommand r _ => requesterExists r
  | .installKey r k _ => requesterExists r && k < 16
  | .revokeKey r k => requesterExists r && k < 16
  | .challenge r => requesterExists r
  | .response r _ => requesterExists r
  | .closeSession r => requesterExists r
  | .sessionIdleTimeout r => requesterExists r
  | .debugUnlock r => requesterExists r
  | .debugLock r => requesterExists r
  | .tamper kind => 1 ≤ kind && kind ≤ 4
  | .tamperWaitEnd _ => true
  | .lockClaim r => requesterExists r
  | .lockRelease r => requesterExists r
  | .lockIdleTimeout => true
  | .imageWrite r j _ => requesterExists r && j < 3
  | .transactionBegin r => requesterExists r
  | .transactionCommit r => requesterExists r
  | .transactionAbort r => requesterExists r
  | .partActivation _ => true
  | .partConfirm => true
  | .hostConfirm r => requesterExists r
  | .confirmationTimeout => true
  | .fallbackReset _ => true
  | .firmwareWatchdog _ => true
  | .vioOutOfRange k _ => k < 8
  | .vioRestored k _ => k < 8
  | .illegalInstruction k => k < 94
  | .sourceEdgeAfterTrip i => i < 8
  | .errorPassive c _ _ _ => c < 2
  | .linkTrainingDone speed width payload _ _ => linkOk speed width payload
  | .tamperCountExpiry => true
  | .transmitLoopRelock g => g < 64
  | .saveComplete _ => true
  | .warmResetDone => true
  | .typeError l _ => l < 512 || l = 520 || l = 521

end Sys2Proof
end

