-- ==== Sys2Proof/Certificates/Slice0/Obligations.lean ====
section
/-! DEFINITION. Obligations.lean: the statements for the provers. In each statement about commands, every clause has as
its conclusion that exec answers a next state, under hypotheses on the state and the operands alone. -/

open Sys2Proof Sys2Proof.Machine

/-! ### The machine as a whole -/

/-- One step takes the command at the front of the queue and does what exec does with it on the state with the rest of
the queue; a command that leaves nothing waiting ends as its own effect leaves the state. -/
def Obligations.StepRunsFrontCommand : Prop :=
  ∀ (s : State) (c : Instr) (rest : List Instr),
    step { s with pending := c :: rest } = exec c { s with pending := rest } ∧
    (s.pending = c :: rest → step s = exec c { s with pending := rest }) ∧
    (s.quiet = true → s.settle = s)

/-- The model's choice (log entry 1): on an empty queue a step is a nanosecond of device time, which counts while the
SYS domain runs. Nothing else changes, but that a stop of domain LBIF that has lasted longer than 2 µs opens an
interval of every class in the skip log of each stack, from the first crossing that it touches (R259), where it stands as
the newest, beside those that still lie in the store's window; and that one of domain LREF longer than 1 µs takes the signal from every field lane,
stack port and timing input (R444). -/
def Obligations.EmptyQueueTick : Prop :=
  ∀ s : State, s.pending = [] → ∃ t : State, step s = .next t ∧
    let long := s.domSt 0 = 1 ∧ (s.dom 1).started = true ∧ s.domSt 1 ≠ 1 ∧ (s.dom 1).lost = false ∧
      (s.dom 1).since + 1000 < t.now
    t.now = (if s.domSt 0 = 1 then (s.now + 1) % 2 ^ 64 else s.now) ∧
    (¬long → s.lbif = none → t.skips = s.skips ∧ t.lbif = none) ∧
    (∀ x, ¬long → s.lbif = some x →
      let opens := x.long = false ∧ s.domSt 0 = 1 ∧ x.since + 2000 < t.now
      t.lbif = some { x with long := decide (x.long = true ∨ opens) } ∧
      (¬opens → t.skips = s.skips ∧ t.storeStops = s.storeStops) ∧
      ∀ k, k < 8 → opens →
        let i : SkipRec := { first := x.firsts.getD k s.crossing, last := none, classes := 7, holders := 8 }
        (Sparse.get (fun _ => []) t.skips k).getLast? = some i ∧
        (Sparse.get (fun _ => []) t.storeStops k).getLast? = some i ∧
        ((s.dropSkips k).length < 64 → Sparse.get (fun _ => []) t.skips k = s.dropSkips k ++ [i])) ∧
    (¬long → t = { s with
        dict := t.dict
        out := []
        skips := t.skips
        storeStops := t.storeStops
        lbif := t.lbif } ∧
      ∀ a b, b < 256 → (a ≠ 0x2030 ∨ b ≠ 0x02) → t.rd a b = s.rd a b) ∧
    (long → t.dom 1 = { s.dom 1 with lost := true } ∧
      (∀ l, l < 512 → t.laneSt l = if s.laneSt l = lOff then lOff else lLost) ∧
      (∀ p, p < 8 → t.portSt p = if s.portSt p = 0 then 0 else pLost) ∧ ∀ i, i < 2 → t.timSt i = 0)

/-- Every command that names units that exist answers a next state in every state; the only other answer of any command
is the fault that a unit does not exist, and none is refused.
That fault is the model's choice (log entry 8, DESIGN CHOICE). -/
def Obligations.CommandsAnswer : Prop :=
  ∀ (i : Instr) (s : State),
    (wellFormed i = true → ∃ t, exec i s = .next t) ∧
    ((∃ t, exec i s = .next t) ∨ exec i s = .fault .noSuchUnit)

/-- R394, R56, R138, R142, R209, R232, R478, R529: the machine right after reset: entries at their defaults: the engine
OFF, no crossing source, regions OFF, planes INVALID, lanes OFF, no cause open; no command waits; memories list nothing,
in canonical form.
The model's choices: values that no rule gives before the first power-on or the first measurement (log entry 17),
reset as the power-on reset asserted (log entry 18), and the state beside the dictionary (log entry 41). -/
def Obligations.ResetState : Prop :=
  let s := State.reset
  s.engineSt = 0 ∧ s.source = 0xFF ∧ s.pending = [] ∧ s.out = [] ∧ s.bundle = none ∧ s.startup.firmware = false ∧
  s.quiet = true ∧ s.rd 0x1008 0x01 = 0x60 ∧
  (∀ n, n < 64 → s.regState n = rOff ∧ ∀ p, p < 8 → s.planeState n p = 0) ∧
  (∀ l, l < 512 → s.laneSt l = 0 ∧ s.ln l 0x13 = 0) ∧ (∀ i, i < 2 → s.timSt i = 0) ∧
  (∀ src, src < 384 → s.rd (0x7100 + src) 0x01 = 0 ∧ s.rd (0x7100 + src) 0x0A = 0) ∧
  s.frames = [] ∧ s.lines = [] ∧ s.bankMem = [] ∧ s.Canonical ∧
  (∀ k q, s.greg k q = 0)

/-- R371 to R375: the words of the kernels' instructions: an instruction that the tables encode in one halfword or in
two is read back from them as it was, with its length; no instruction has two encodings; an illegal lead halfword is no
instruction.
The model's deduction: bits that a form has and its instruction does not use are not checked (log entry 32). -/
def Obligations.KernelEncoding : Prop :=
  (∀ (i : Instr) (next : BitVec 16), wellFormed i = true →
    (∀ h, encodeShort i = some h → ∃ k, decodeKernel k h next = some (i, 2)) ∧
    (∀ w, encodeLong i = some w → ∃ k, decodeKernel k (w.extractLsb' 16 16) (w.extractLsb' 0 16) = some (i, 4)) ∧
    (encodeShort i = none ∨ encodeLong i = none)) ∧
  (∀ (k : Nat) (lead next : BitVec 16), (lead = 0xFFFF ∨ lead.extractLsb' 13 3 = 3) → decodeKernel k lead next = none)

/-- Table 12-17: words of the worked example, as the tables give them, and the instructions they stand for. -/
def Obligations.KernelWords : Prop :=
  decodeKernel 25 0x2090 0 = some (.li 25 1 0x10, 2) ∧
  decodeKernel 25 0x8E40 0x0400 = some (.lhi 25 2 0x400, 4) ∧
  decodeKernel 25 0x8260 0x0400 = some (.addi 25 3 0 0x400, 4) ∧
  decodeKernel 25 0x9084 0x0030 = some (.lw 25 4 2 0x30, 4) ∧
  decodeKernel 25 0xB2A2 0x0000 = some (.wait 25 5 1, 4) ∧
  decodeKernel 25 0x80EC 0x8001 = some (.aluSub 25 7 6 4, 4) ∧
  decodeKernel 25 0xB406 0x1013 = some (.cwr 25 3 0x013, 4) ∧
  decodeKernel 25 0xB402 0x1011 = some (.cwr 25 1 0x011, 4)

/-! ### Crossings, waves, runs (chapters 1 to 3) -/

/-- R56: PRIMING ends at S0 + L, the stop wave is E, DRAINING ends at E + L: the wave engine takes its next state,
and no other entry changes but that the stop wave is shown. At any other wave, nothing changes. -/
def Obligations.WaveEngineStates : Prop :=
  ∀ s : State,
    (s.engineSt = 2 → s.nextWaveIdx = s.startIdx + s.L → Completes (exec .primingEnd s) (fun t =>
      t.engineSt = 3 ∧ s.OnlyEntries t [(0x4000, 0x00)])) ∧
    (s.stopPending = true → (s.engineSt = 2 ∨ s.engineSt = 3) → s.nextWave = mkWave (s.rd 0x4003 0x03) 0 →
      Completes (exec .stopWave s) (fun t => t.engineSt = 4 ∧ t.rd 0x4003 0x05 = s.rd 0x4003 0x03 % 2 ^ 48 ∧
        { s with stopPending := false }.OnlyEntries t [(0x4000, 0x00), (0x4003, 0x05)])) ∧
    (s.engineSt = 4 → s.nextWaveIdx = s.stopIdx + s.L → Completes (exec .drainEnd s) (fun t =>
      t.engineSt = 1 ∧ { s with sourceDue := t.sourceDue }.OnlyEntries t [(0x4000, 0x00)])) ∧
    ((s.engineSt ≠ 2 ∨ s.nextWaveIdx ≠ s.startIdx + s.L) → Completes (exec .primingEnd s) s.Unchanged) ∧
    ((s.stopPending = false ∨ s.engineSt ≠ 2 ∧ s.engineSt ≠ 3 ∨ s.nextWave ≠ mkWave (s.rd 0x4003 0x03) 0) →
      Completes (exec .stopWave s) s.Unchanged) ∧
    ((s.engineSt ≠ 4 ∨ s.nextWaveIdx ≠ s.stopIdx + s.L) → Completes (exec .drainEnd s) s.Unchanged)

/-- R35, R55, R56, R102, R103, R396: the run boundary. The engine enters PRIMING at the pending start, pending values
take effect, every region's registers and queues are at their initial state, and no wave is held. At any other wave
nothing changes.
R57: the three run commands: where each is done, and what it leaves pending. A start leaves VC hold. -/
def Obligations.Runs : Prop :=
  (∀ s : State, s.startPending = true → s.engineSt = 1 → s.nextWave = mkWave (s.rd 0x4003 0x02) 0 →
     (s.rwr.map (fun c => c.1)).Nodup →
     (∀ c ∈ s.rwr, c.1 / 256 ∉ [0x1002, 0x1010, 0x1011, 0x4000, 0x4001, 0x4002, 0x4003]) →
     Completes (exec .runBoundary s) (fun t =>
       t.engineSt = 2 ∧ t.rd 0x4003 0x04 = s.rd 0x4003 0x02 % 2 ^ 48 ∧ t.startPending = false ∧ t.rwr = [] ∧
         (s.waveDue = true → 0 < s.S → t.runEra = s.crossing / 2 ^ 48) ∧ t.delivered = [] ∧ t.readTokens = [] ∧
         (∀ c ∈ s.rwr, t.rd (c.1 / 256) (c.1 % 256) = c.2) ∧
         ∀ n, n < 64 → (t.region n).held = 0 ∧ (t.region n).wasActive = false ∧
           (∀ k, k / 131072 = n → Sparse.get (fun _ => none) t.regs k = none) ∧
           ∀ k, k / 64 = n → t.queue k = {})) ∧
  (∀ s : State, (s.startPending = false ∨ s.engineSt ≠ 1 ∨ s.nextWave ≠ mkWave (s.rd 0x4003 0x02) 0) →
     Completes (exec .runBoundary s) s.Unchanged) ∧
  (∀ (s : State) (r : Requester),
     let start := mkWave (s.rd 0x4003 0x02) 0
     let stop := mkWave (s.rd 0x4003 0x03) 0
     (s.mayWrite r 0x4003 0x01 1 = true → laterByCrossings 1024 s.wave start = true →
       (s.engineSt = 1 ∨ s.engineSt = 4 ∧ s.stopIdx + s.L ≤ s.idxOf start) → s.mayRun = true → s.flockReady = true →
       s.startPending = false → Accepted (exec (.runStart r) s) r 0x4003 0x01 (fun t =>
         t.startPending = true ∧ t.stopPending = s.stopPending ∧ t.engineSt = s.engineSt ∧
         t.rd 0x2102 0x01 = if s.rd 0x2102 0x01 = 1 ∧ s.rdBit 0x2103 0x01 2 = false then 2 else s.rd 0x2102 0x01)) ∧
     (s.mayWrite r 0x4003 0x01 2 = true → laterByCrossings 1024 s.wave stop = true → s.mayRun = true →
       s.stopPending = false → (s.startPending = true → waveLater start stop = true) →
       (s.engineSt = 2 ∨ s.engineSt = 3 ∨ (s.engineSt = 1 ∨ s.engineSt = 4) ∧ s.startPending = true) →
       Accepted (exec (.runStop r) s) r 0x4003 0x01 (fun t => t.stopPending = true ∧
         t.startPending = s.startPending ∧ t.engineSt = s.engineSt)) ∧
     (s.mayWrite r 0x4003 0x01 3 = true → s.mayRun = true → s.stopPending = true →
       Accepted (exec (.runCancel r) s) r 0x4003 0x01 (fun t => t = { s with out := [], stopPending := false })) ∧
     (s.mayWrite r 0x4003 0x01 3 = true → s.mayRun = true → s.stopPending = false → s.startPending = true →
       Accepted (exec (.runCancel r) s) r 0x4003 0x01 (fun t => t = { s with out := [], startPending := false })))

/-- R25, R27, R28, R55, R86: a crossing opens at step 0 with XN one more, 0 after its greatest value with the era
counter one more; its first wave is due while the engine is not OFF, and the rearms requested in the crossing before
fall due with it. A wave takes the first step of its crossing, or the next one, with its tag; in OFF there is none, and
in STOPPED every release register emits a void token that is not late.
R41, R45: late tokens and missed deadlines are counted; a token whose boundary is still to come is not.
R86: a latched span is rearmed at the first wave of a crossing, and only then.
R52, R64, R86: pace. A sample shows the worst of a region's readings, its margin and its slack, and the least slack; a
write of the least slack makes it the slack; rearm spans requests the rearm of the region's latched spans.
The model's choices: the data 0 of a void token that a release register makes (log entry 179), the least slack that
starts from 0 (log entry 138), and the rounding of computed values (log entry 22). -/
def Obligations.CrossingsAndWaves : Prop :=
  (∀ (s : State) (w : WaveIn) (reg n wtag lane j span : Nat),
     ((∀ p, p < 8 → (s.port p).loop = []) → Completes (exec .crossingStart s) (fun t =>
       (s.xn + 1 < 2 ^ 48 → t.xn = s.xn + 1 ∧ t.era = s.era) ∧
       (2 ^ 48 ≤ s.xn + 1 → t.xn = 0 ∧ t.era = (s.era + 1) % 65536) ∧
       t.stepNo = 0 ∧ t.waveDue = true ∧ t.engineSt = s.engineSt ∧
       t.rd 0x4002 0x04 = t.waveIdx % 256 ∧ t.rearm = [] ∧ t.rearmDue = s.rearmDue ++ s.rearm ∧
       t.regs = s.regs ∧ t.bankMem = s.bankMem ∧ t.frames = s.frames)) ∧
     (s.engineSt = 0 → Completes (exec (.waveInjection w) s) s.Unchanged) ∧
     (s.waveDue = false → s.S ≤ s.stepNo + 1 → Completes (exec (.waveInjection w) s) s.Unchanged) ∧
     (s.engineSt ≠ 0 → (s.waveDue = true ∨ s.stepNo + 1 < s.S) → Completes (exec (.waveInjection w) s) (fun t =>
       t.waveDue = false ∧ t.xn = s.xn ∧ t.era = s.era ∧
       t.stepNo = (if s.waveDue then s.stepNo else s.stepNo + 1) ∧ t.rd 0x4002 0x04 = t.waveIdx % 256 ∧
       (s.engineSt = 1 → t.delivered = [] ∧ t.readTokens = [] ∧ t.regs = s.regs ∧
         ∀ id tag void late data, .release id tag void late data ∈ t.out →
           void = true ∧ late = false ∧ data = 0 ∧ tag = (t.waveIdx + 255) % 256))) ∧
     ((reg < 512 → s.releaseRegion reg = some (reg / 8)) ∧
       (reg < 8 → s.releaseRegion (512 + reg) = some (9 * reg))) ∧
     (s.releaseRegion reg = some n → serialLater 8 wtag ((s.nextWaveIdx + 255) % 256) = true →
       Completes (exec (.lateTokenDiscard reg wtag) s) (fun t =>
         t.rd (0x4040 + n) 0x06 = counterNext 32 (ent (0x4040 + n) 0x06) (s.rd (0x4040 + n) 0x06) ∧
         s.OnlyEntries t [(0x4040 + n, 0x06)])) ∧
     (serialLater 8 wtag ((s.nextWaveIdx + 255) % 256) = false →
       Completes (exec (.lateTokenDiscard reg wtag) s) s.Unchanged) ∧
     (lane < 512 → (s.engineSt = 2 ∨ s.engineSt = 3) → Completes (exec (.inputDeadlineMissed lane j) s) (fun t =>
       t.rd (0x3100 + lane) 0x10 = min (s.rd (0x3100 + lane) 0x10 + 1) (2 ^ 64 - 1) ∧
         t.rd 0x4006 0x03 = counterNext 64 (ent 0x4006 0x03) (s.rd 0x4006 0x03) ∧
         t.rd (0x7100 + lane / 8) 0x01 = 1 ∧ t.rd (0x7100 + lane / 8) 0x08 = 0x204 ∧
         (∀ b, b ∈ (t.lane lane).deskew ↔ b ∈ (s.lane lane).deskew ∧ ¬(b.c = s.dueCrossing lane ∧ b.j = j)) ∧
         ∀ m, m ≠ lane → t.lane m = s.lane m)) ∧
     (lane < 512 → s.engineSt ≠ 2 → s.engineSt ≠ 3 →
       Completes (exec (.inputDeadlineMissed lane j) s) s.Unchanged) ∧
     (s.rearmDue.contains span = true → s.waveDue = true → Completes (exec (.spanRearm span) s) (fun t =>
       t.latched.contains span = false ∧ t.rearmDue.contains span = false ∧
         Sparse.get (fun _ => 0) t.latchXn span = 0 ∧
         (∀ x, x ≠ span → t.latched.contains x = s.latched.contains x) ∧
         t = { s with out := [], latched := t.latched, latchXn := t.latchXn, rearmDue := t.rearmDue })) ∧
     ((s.rearmDue.contains span = false ∨ s.waveDue = false) →
       Completes (exec (.spanRearm span) s) s.Unchanged)) ∧
  (∀ (s : State) (r : Requester) (n : Nat) (l : List (Nat × Nat)), n < 64 →
     Completes (exec (.paceSample l) s) (fun t =>
       (l.any (fun x => x.1 = n) = false → t.rd (0x4040 + n) 0x04 = s.rd (0x4040 + n) 0x04 ∧
         t.rd (0x4040 + n) 0x05 = s.rd (0x4040 + n) 0x05) ∧
       (l.any (fun x => x.1 = n) = true → t.rd (0x4040 + n) 0x02 = f32OfRatio (worstReading l n) 10) ∧
       (l.any (fun x => x.1 = n) = true → s.counted n = true →
         let x := s.slackOf n (worstReading l n)
         t.rd (0x4040 + n) 0x03 = s.marginOf n ∧ t.slack n = x ∧ (t.region n).least = min x (s.region n).least ∧
           (-2147483648 ≤ x → x ≤ 2147483647 → t.rd (0x4040 + n) 0x04 = i32 x ∧
             (x < (s.region n).least → t.rd (0x4040 + n) 0x05 = i32 x) ∧
             ((s.region n).least ≤ x → t.rd (0x4040 + n) 0x05 = s.rd (0x4040 + n) 0x05)))) ∧
     (s.mayWrite r (0x4040 + n) 0x05 0 = true → Accepted (exec (.leastSlackReset r n) s) r (0x4040 + n) 0x05 (fun t =>
       t.rd (0x4040 + n) 0x05 = s.rd (0x4040 + n) 0x04 ∧ (t.region n).least = s.slack n ∧ t.slack n = s.slack n ∧
         { s with regions := t.regions }.OnlyEntries t [(0x4040 + n, 0x05)])) ∧
     (s.mayWrite r (0x4100 + n) 0x08 1 = true → Accepted (exec (.rearmSpans r n) s) r (0x4100 + n) 0x08 (fun t =>
       (∀ id, id ∈ t.rearm ↔ id ∈ s.rearm ∨ id ∈ s.latched ∧ spanOwner id = n ∧ id ∉ s.rearmDue) ∧
         t = { s with out := [], rearm := t.rearm })))

/-! ### The memory layer (chapter 4) -/

/-- R115: the byte address BA = 8w + k, its tag, and that one bit of BA feeds one tag bit. R116 to R119: the byte-tag
code. A clean byte reads clean; one wrong bit of data or check field is corrected, two are found uncorrectable; void and
blank bytes read as such; a byte read at an address whose tag differs in one bit is an address fault. -/
def Obligations.ByteTagCode : Prop :=
  ∀ (d : Byte) (ba other i j bank w k : Nat),
    (w < 16384 → k < 8 → 8 * w + k < 2 ^ 17 ∧ bankDflt (byteKey bank w k) = blankByte (8 * w + k)) ∧
    (ba < 2 ^ 17 → byteTag ba = BitVec.ofNat 8 ba ^^^ BitVec.ofNat 8 (ba / 256) ^^^ BitVec.ofNat 8 (ba / 65536)) ∧
    (i < 17 → ∃ b, b < 8 ∧ byteTag (ba ^^^ 2 ^ i) = byteTag ba ^^^ (1#8 <<< b)) ∧
    classify (cleanByte d ba) ba = (bClean, d, cleanByte d ba) ∧
    (i < 14 → classify (cleanByte d ba ^^^ (1#14 <<< i)) ba = (bCorrected, d, cleanByte d ba)) ∧
    (i < 14 → j < 14 → i ≠ j → classify (cleanByte d ba ^^^ (1#14 <<< i) ^^^ (1#14 <<< j)) ba
      = (bUncorrectable, 0, cleanByte d ba ^^^ (1#14 <<< i) ^^^ (1#14 <<< j))) ∧
    (classify (voidByte ba) ba).1 = bVoid ∧ (classify (blankByte ba) ba).1 = bUnwritten ∧
    (i < 8 → byteTag other = byteTag ba ^^^ (1#8 <<< i) → (classify (cleanByte d ba) other).1 = bAddressFault)

/-- R107, R117: a write writes only the byte lanes that its byte enables select, each byte with its own check field,
and as a void byte for a void token; a word written is read back clean.
R112: a write through the bit-set view sets, in each enabled byte, the bits that are 1 in the written data, one
through the bit-clear view clears them; no other byte changes; reads through either view are plain reads. -/
def Obligations.BankWords : Prop :=
  (∀ (s : State) (bank w en key : Nat) (data : List Byte), data.length = 8 →
     let t := s.writeBankWord bank w en data false
     let v := s.writeBankWord bank w en data true
     (∀ k, k < 8 → en.testBit k = true → v.bankByte (byteKey bank w k) = voidByte (w * 8 + k)) ∧
     ((∀ k, k < 8 → en.testBit k = true → key ≠ byteKey bank w k) → v.bankByte key = s.bankByte key) ∧
     (∀ k, k < 8 → en.testBit k = true → t.bankByte (byteKey bank w k) = cleanByte (data.getD k 0) (w * 8 + k)) ∧
     ((∀ k, k < 8 → en.testBit k = true → key ≠ byteKey bank w k) → t.bankByte key = s.bankByte key) ∧
     ((s.writeBankWord bank w 255 data false).readBankWord .open_ bank w 255).1 = bClean ∧
     ((s.writeBankWord bank w 255 data false).readBankWord .open_ bank w 255).2.1 = data) ∧
  (∀ (s : State) (bank w en key m first last : Nat) (d : Nat → Byte) (data : List Byte),
     (∀ k, k < 8 → en.testBit k = true → s.bankByte (byteKey bank w k) = cleanByte (d k) (w * 8 + k)) →
     let set := s.openWriteWord bank w en 1 data
     let clear := s.openWriteWord bank w en 2 data
     set.1 = 0 ∧ clear.1 = 0 ∧ set.2 = { s with bankMem := set.2.bankMem } ∧ clear.2 = { s with bankMem := clear.2.bankMem } ∧
       (∀ k, k < 8 → en.testBit k = true →
         set.2.bankByte (byteKey bank w k) = cleanByte (d k ||| data.getD k 0) (w * 8 + k) ∧
           clear.2.bankByte (byteKey bank w k) = cleanByte (d k &&& ~~~(data.getD k 0)) (w * 8 + k)) ∧
       ((∀ k, k < 8 → en.testBit k = true → key ≠ byteKey bank w k) →
         set.2.bankByte key = s.bankByte key ∧ clear.2.bankByte key = s.bankByte key) ∧
       s.openRead bank w m first last 1 = s.openRead bank w m first last 0 ∧
       s.openRead bank w m first last 2 = s.openRead bank w m first last 0)

/-- R95, R120: every step keeps the canonical form of the device's memories: the dictionary, the array, the look-back
store, the configuration frames and the cells' registers. It holds at reset; every operation on the array keeps it, and a
blank region reads blank.
The model's choice: what a byte reads before anything has written it (log entry 128). -/
def Obligations.MemoryCanonical : Prop :=
  (∀ s t : State, s.Canonical → step s = .next t → t.Canonical) ∧
  State.reset.Canonical ∧
  ∀ (s : State) (bank w en n key : Nat) (data : List Byte) (void : Bool), Sparse.wf bankDflt s.bankMem →
    Sparse.wf bankDflt State.reset.bankMem ∧ Sparse.wf bankDflt (s.writeBankWord bank w en data void).bankMem ∧
      Sparse.wf bankDflt (s.readBankWord .open_ bank w en).2.2.bankMem ∧
      Sparse.wf bankDflt (s.blankBank bank).bankMem ∧ Sparse.wf bankDflt (s.blankRegion n).bankMem ∧
      (key / 131072 / 64 = n → (s.blankRegion n).bankByte key = blankByte (key % 131072)) ∧
      (key / 131072 / 64 ≠ n → (s.blankRegion n).bankByte key = s.bankByte key)

/-- R110, R112, R113, R114, R123, R124, R127, R130, R131, R134, R136: the commands of the memory layer: writes through
the bit-set and bit-clear views, patrol reads, march commands, what they leave of a bank and of the repair map.
The model's choices: a cancel of any scope (log entry 143), the final states of a march (log entry 223), a bank that
passes and loses its failed mark (log entry 219), and patrol reads during a march (log entry 221). -/
def Obligations.MemoryCommands : Prop :=
  ∀ (s : State) (r : Requester) (master addr wcnt last waits n b q m : Nat) (data : List Word64) (w c : BitVec 32)
    (l : List Nat) (faults : List MarchFault) (d : Nat → Nat → Byte) (written : Bool),
    let reg := addr / 2 ^ 23 % 64
    let ab := addrBank addr
    let w0 := addrWord addr
    let on := fun i k : Nat => ((if i = 0 then firstMask (addrLane addr) else 255) &&&
      (if i + 1 = data.length then lastMask last else 255)).testBit k
    let old := s.repairs.filter (fun x => rBank x = bankKey n b)
    let at_ := Sparse.get (fun _ => 0) s.patrol (bankKey n b)
    let pw := at_ % 16384
    let scope := marchScope q ((w &&& 0x3FFFFFFF) ||| 0x40000000)
    (data.length = wcnt + 1 → wordsOk addr wcnt last = true → s.rd (0x6060 + reg) 0x01 = 0 → s.openBlock ab true 1 = 0 →
      (∀ i k, i < data.length → k < 8 → on i k = true →
        s.bankByte (byteKey ab (w0 + i) k) = cleanByte (d i k) ((w0 + i) * 8 + k)) →
      ∀ f ∈ [(Instr.bitSetAliasWrite master addr wcnt last data waits, fun x y : Byte => x ||| y),
          (Instr.bitClearAliasWrite master addr wcnt last data waits, fun x y : Byte => x &&& ~~~y)],
        Completes (exec f.1 s) (fun t => t.out = [.statuses (List.replicate data.length 0)] ∧
          (∀ i k, i < data.length → k < 8 → on i k = true → t.bankByte (byteKey ab (w0 + i) k)
            = cleanByte (f.2 (d i k) ((natBytes 8 (data.getD i 0).toNat).getD k 0)) ((w0 + i) * 8 + k)) ∧
          (∀ key, (∀ i k, i < data.length → k < 8 → on i k = true → key ≠ byteKey ab (w0 + i) k) →
            t.bankByte key = s.bankByte key) ∧
          (master < 7 → t.rd (0x51F0 + quadrantOf reg) (master + 1)
            = min (s.rd (0x51F0 + quadrantOf reg) (master + 1) + waits) (2 ^ 32 - 1)))) ∧
    (data.length = wcnt + 1 → wordsOk addr wcnt last = true → s.rd (0x6060 + reg) 0x01 = 0 → s.openBlock ab true 1 ≠ 0 →
      Completes (exec (.bitSetAliasWrite master addr wcnt last data waits) s) (fun t =>
        t.out = [.statuses (List.replicate data.length (s.openBlock ab true 1))] ∧ t.bankMem = s.bankMem)) ∧
    (n < 64 → b < 64 → dPatrol (s.descriptor (bankKey n b)) = true → s.rd (0x5000 + n) 0x0C = 0 →
      s.rd (0x5000 + n) 0x0D ≠ 0 → Completes (exec (.patrolRead n b) s) (fun t =>
        Sparse.get (fun _ => 0) t.patrol (bankKey n b) = at_ + 1 ∧
        (∀ k, k < 8 → t.bankByte (byteKey (bankKey n b) pw k)
          = (classify (s.bankByte (byteKey (bankKey n b) pw k)) (pw * 8 + k)).2.2) ∧
        (∀ key, (∀ k, k < 8 → key ≠ byteKey (bankKey n b) pw k) → t.bankByte key = s.bankByte key) ∧
        t.rd (0x5000 + n) 0x0E = if s.patrolPasses n < t.patrolPasses n
          then counterNext 32 (ent (0x5000 + n) 0x0E) (s.rd (0x5000 + n) 0x0E) else s.rd (0x5000 + n) 0x0E)) ∧
    (n < 64 → b < 64 → (dPatrol (s.descriptor (bankKey n b)) = false ∨ s.rd (0x5000 + n) 0x0C ≠ 0 ∨
      s.rd (0x5000 + n) 0x0D = 0) → Completes (exec (.patrolRead n b) s) s.Unchanged) ∧
    (q < 4 → s.mayWrite r (0x5100 + q) 0x01 ((w &&& 0x3FFFFFFF) ||| 0x40000000).toNat = true →
      marchWordOk q ((w &&& 0x3FFFFFFF) ||| 0x40000000) = true → s.marchOf q = none →
      scope.any (s.marchBars (!mPreserving ((w &&& 0x3FFFFFFF) ||| 0x40000000))) = false →
      Accepted (exec (.marchStart r q w) s) r (0x5100 + q) 0x01 (fun t =>
        t.marchOf q = some ((w &&& 0x3FFFFFFF) ||| 0x40000000, scope) ∧ t.rd (0x5100 + q) 0x02 = 1 ∧
        (∀ i ∈ [0x03, 0x04, 0x05, 0x06], t.rd (0x5100 + q) i = 0) ∧ t.bankMem = s.bankMem ∧
        ∀ i, i < 4 → i ≠ q → t.marchOf i = s.marchOf i)) ∧
    (q < 4 → s.mayWrite r (0x5100 + q) 0x01 ((w &&& 0x3FFFFFFF) ||| 0x80000000).toNat = true →
      marchWordOk q ((w &&& 0x3FFFFFFF) ||| 0x80000000) = true → s.marchOf q = some (c, l) →
      Accepted (exec (.marchCancel r q w) s) r (0x5100 + q) 0x01 (fun t =>
        t.marchOf q = some (c, []) ∧ t.rd (0x5100 + q) 0x02 = 5 ∧ (mPreserving c = true → t.bankMem = s.bankMem) ∧
        (mPreserving c = false → ∀ key, key / 131072 ∉ l → t.bankByte key = s.bankByte key))) ∧
    (q < 4 → n < 64 → b < 64 → s.marchOf q = some (c, l) → l.contains (bankKey n b) = true →
      Completes (exec (.marchBankEnd q n b faults waits) s) (fun t =>
        t.marchOf q = some (c, l.filter (fun x => x ≠ bankKey n b)) ∧
        (mPreserving c = true → t.bankMem = s.bankMem ∧
          t.rd (0x51F0 + q) 0x07 = min (s.rd (0x51F0 + q) 0x07 + waits) (2 ^ 32 - 1)) ∧
        (mPreserving c = false → (∀ key, key / 131072 = bankKey n b → t.bankByte key = blankByte (key % 131072)) ∧
          ∀ key, key / 131072 ≠ bankKey n b → t.bankByte key = s.bankByte key) ∧
        (∀ x, rBank x ≠ bankKey n b → (x ∈ t.repairs ↔ x ∈ s.repairs)) ∧
        (allocate (bankKey n b) old faults = none → t.rdBit (0x5000 + n) 0x0B b = true ∧
          t.rd (0x7100 + 148 + q) 0x01 = 1 ∧ t.rd (0x7100 + 148 + q) 0x08 = 0x409) ∧
        (faults = [] → t.rdBit (0x5000 + n) 0x0B b = false ∧ t.rd (0x5100 + q) 0x04 = s.rd (0x5100 + q) 0x04))) ∧
    (q < 4 → s.marchOf q = some (c, []) → Completes (exec (.marchEnd q written) s) (fun t =>
      let failed := (marchScope q c).any (fun k => (s.rd (0x5000 + k / 64) 0x0B).testBit (k % 64))
      t.marchOf q = none ∧
      t.rd (0x5100 + q) 0x02 = (if s.rd (0x5100 + q) 0x02 = 5 then 5 else if failed then 4
        else if s.rd (0x5100 + q) 0x05 ≠ 0 ∨ s.rd (0x5100 + q) 0x06 ≠ 0 then 3 else 2) ∧
      (written = true → t.storedMap = s.repairs ∧ t.rd 0x5111 0x04 = (s.rd 0x5111 0x04 + 1) % 2 ^ 32) ∧
      (written = false → t.storedMap = s.storedMap ∧ t.rd (0x7100 + 247) 0x01 = 1 ∧ t.rd (0x7100 + 247) 0x08 = 0x1110))) ∧
    (q < 4 → (s.marchOf q = none ∨ (s.marchOf q).any (fun x => x.2 ≠ []) = true) →
      Completes (exec (.marchEnd q written) s) s.Unchanged) ∧
    (s.mayWrite r 0x5111 0x05 1 = true → Kept s (exec (.clearRepairMap r) s) r 0x5111 0x05 (fun t => t.storedMap = [] ∧ t = { s with
        out := []
        storedMap := []
        gates := t.gates
        keepCopy := t.keepCopy
        keepLines := t.keepLines } ∧ t.intact .repairMap = true)) ∧
    (q < 4 → m < 7 → s.mayWrite r (0x51F0 + q) (m + 1) 0 = true →
      Accepted (exec (.conflictCounterClear r q m) s) r (0x51F0 + q) (m + 1) (fun t =>
        t.rd (0x51F0 + q) (m + 1) = 0 ∧ s.OnlyEntries t [(0x51F0 + q, m + 1)]))

/-! ### Regions, switches, migrations (chapter 5) -/

/-- R142, R145: a halt. An ACTIVE region becomes HALTED with the cause recorded, from the first wave that it has not
accepted, holds no wave, and its husk stands for the plane it had; a RESETTING region becomes HALTED and loses its rejoin; in a HALTED region
the cause is recorded; in any other state nothing changes. No other region's state changes.
R86, R142, R158: what a reset of a region leaves: RESETTING until its wave, every register at its initial value, its
queues empty, a rearm of its latched spans requested. -/
def Obligations.RegionHaltsAndResets : Prop :=
  (∀ (s : State) (n cause : Nat), n < 64 →
     let t := s.haltRegion n cause
     (s.regState n = rActive → t.regState n = rHalted ∧ t.rd (0x4100 + n) 0x19 = cause ∧
       t.rd (0x4100 + n) 0x1A = (if (s.region n).held = 0 then s.nextWave
         else waveSub s.S s.nextWave (s.region n).held) ∧ (t.region n).held = 0 ∧
       (t.region n).huskPlane = some (s.activePlane n)) ∧
     (s.regState n = rResetting → t.regState n = rHalted ∧ t.rd (0x4100 + n) 0x19 = cause ∧
       t.rd (0x4100 + n) 0x1A = s.nextWave ∧ (t.region n).rejoin = none) ∧
     (s.regState n = rHalted → t = s.wr (0x4100 + n) 0x19 cause) ∧
     (s.regState n < rActive → t = s) ∧
     (∀ m, m < 64 → m ≠ n → t.regState m = s.regState m)) ∧
  (∀ (s : State) (n w : Nat), n < 64 → (s.regState n = rActive ∨ s.regState n = rHalted) →
     let t := s.resetRegion n w
     t.regState n = rResetting ∧ (t.region n).rejoin = some w ∧ (t.region n).resume = none ∧ (t.region n).held = 0 ∧
       (∀ k, k / 131072 = n → Sparse.get (fun _ => none) t.regs k = none) ∧ (∀ k, k / 64 = n → t.queue k = {}) ∧
       (∀ id, s.latched.contains id = true → spanOwner id = n →
         t.rearm.contains id = true ∨ t.rearmDue.contains id = true))

/-- R129, R130, R142, R158, R489: the region commands, each in the states in which it is accepted, and what it does.
The model's choice: commands that meet a region whose power-off is accepted (log entry 139). -/
def Obligations.RegionCommands : Prop :=
  ∀ (s : State) (r : Requester) (n : Nat), n < 64 →
    let w := s.rd (0x4100 + n) 0x13
    let others := fun t : State => ∀ m, m < 64 → m ≠ n → t.regState m = s.regState m
    (s.mayWrite r (0x4100 + n) 0x12 1 = true → (s.regState n = rActive ∨ s.regState n = rResetting) →
      Accepted (exec (.halt r n) s) r (0x4100 + n) 0x12 (fun t => t.regState n = rHalted ∧
        t.rd (0x4100 + n) 0x19 = 0xFFFF ∧ t.rd (0x7100 + 64 + n) 0x01 = 1 ∧ t.rd (0x7100 + 64 + n) 0x08 = 0x508 ∧
        others t)) ∧
    (s.mayWrite r (0x4100 + n) 0x12 1 = true → s.regState n = rHalted →
      Accepted (exec (.halt r n) s) r (0x4100 + n) 0x12 s.Unchanged) ∧
    (s.mayWrite r (0x4100 + n) 0x12 2 = true → s.commandWaveOk n = true → s.regState n = rHalted →
      s.haltUnacknowledged n = false → s.hottest < toI32 (s.rd 0x2280 0x05) * 1000 → s.resumeBarred n = false →
      (s.region n).closing = false → Accepted (exec (.resume r n) s) r (0x4100 + n) 0x12 (fun t =>
        t.region n = { s.region n with resume := some (w, s.rd (0x4100 + n) 0x14) } ∧
        t = { s with out := [], regions := t.regions } ∧ ∀ m, m ≠ n → t.region m = s.region m)) ∧
    (s.mayWrite r (0x4100 + n) 0x12 3 = true → s.commandWaveOk n = true →
      (s.regState n = rActive ∨ s.regState n = rHalted ∧ s.haltUnacknowledged n = false ∧
        (s.region n).closing = false) → Accepted (exec (.reset r n) s) r (0x4100 + n) 0x12 (fun t =>
        t.regState n = rResetting ∧ (t.region n).rejoin = some w ∧
        (∀ k, k / 131072 = n → Sparse.get (fun _ => none) t.regs k = none) ∧ (∀ k, k / 64 = n → t.queue k = {}) ∧
        others t)) ∧
    (s.mayWrite r (0x4100 + n) 0x12 4 = true → (s.regState n = rHalted ∨ s.regState n = rLoading) →
      (∀ k, k < 16 → (s.slotArmed k && s.slotNames k n) = false) →
      (∀ e, e < 16 → (s.migOpen e && s.migNames e n) = false) → s.loadInits n = false →
      Accepted (exec (.powerOff r n) s) r (0x4100 + n) 0x12 (fun t => t.rd (0x6060 + n) 0x01 = 1 ∧
        t.region n = { s.region n with closing := true, resume := none } ∧ (∀ m, m ≠ n → t.region m = s.region m) ∧
        { s with regions := t.regions }.OnlyEntries t [(0x6060 + n, 0x01)])) ∧
    (s.mayWrite r (0x4100 + n) 0x12 5 = true → s.regState n = rOff → s.thermal.queue.contains n = false →
      Accepted (exec (.powerOn r n) s) r (0x4100 + n) 0x12 (fun t =>
        t = { s with out := [], thermal := { s.thermal with queue := s.thermal.queue ++ [n] } }))

/-- R120, R130, R142, R150, R158, R195, R338, R452, R453, R463: the waves and the ends that take a region from one power
state to the next. A resumed or rejoining region becomes ACTIVE at its wave; in thermal state 3 it stays HALTED with
source 203, in warm-up with 208, and with a failed bank on its ports it is not activated.
The model's deductions and choices: the source 208 that a region records in warm-up (log entry 131), HALTED for a
failed bank (log entry 135), the plane number kept through power-off (log entry 72), a rejoin that VC hold does not
put off (log entry 73), a wave that comes in OFF (log entry 205), and one that comes before VC is back (log entry
186). -/
def Obligations.RegionStates : Prop :=
  ∀ (s : State) (n w mode d : Nat), n < 64 →
    let others := fun t : State => ∀ m, m < 64 → m ≠ n → t.regState m = s.regState m
    let blank := fun t : State => (∀ key, key / 131072 / 64 = n → t.bankByte key = blankByte (key % 131072)) ∧
      (∀ key, key / 131072 / 64 ≠ n → t.bankByte key = s.bankByte key) ∧ ∀ k, k / 64 = n → t.queue k = {}
    let hot := s.thermal.haltOn = true
    let ordinary := ¬hot ∧ s.rd 0x2280 0x0A ≠ 1
    ((s.region n).resume = some (w, mode) → s.regState n = rHalted → s.isDue (16 + n) w = true →
      (s.region n).holdPasses = 0 → ordinary → s.portsFailed n = false →
      Completes (exec (.resumeWave n) s) (fun t => t.regState n = rActive ∧ t.rd (0x4100 + n) 0x1A = s.nextWave ∧
        (t.region n).resume = none ∧ (t.region n).held = 0 ∧ (t.region n).initWave = some (s.idxOf s.nextWave) ∧
        (mode = 1 → (∀ k, k / 131072 = n → Sparse.get (fun _ => none) t.regs k = none) ∧
          ∀ k, k / 64 = n → t.queue k = {}) ∧
        (mode ≠ 1 → t.regs = s.regs ∧ t.queues = s.queues) ∧ others t)) ∧
    ((s.region n).resume = some (w, mode) → s.regState n = rHalted → s.isDue (16 + n) w = true →
      (s.region n).holdPasses = 0 → hot → Completes (exec (.resumeWave n) s) (fun t =>
        t.regState n = rHalted ∧ t.rd (0x4100 + n) 0x19 = 203 ∧ (t.region n).resume = none ∧ others t)) ∧
    ((s.region n).resume = some (w, mode) → s.regState n = rHalted → s.isDue (16 + n) w = true →
      (s.region n).holdPasses ≠ 0 → s.deferred.contains (16 + n) = false → Completes (exec (.resumeWave n) s) (fun t =>
        t.deferred = s.deferred ++ [16 + n] ∧ t.region n = s.region n ∧
        t.rd (0x4340 + n) 0x07 = counterNext 32 (ent (0x4340 + n) 0x07) (s.rd (0x4340 + n) 0x07) ∧
        { s with deferred := t.deferred }.OnlyEntries t [(0x4340 + n, 0x07)])) ∧
    ((s.region n).rejoin = some w → s.regState n = rResetting → s.nextWave = w → ordinary →
      s.portsFailed n = false → Completes (exec (.rejoinWave n) s) (fun t => t.regState n = rActive ∧
        t.rd (0x4100 + n) 0x1A = w ∧ (t.region n).rejoin = none ∧ (t.region n).initWave = some (s.idxOf w) ∧
        (∀ k, k / 131072 = n → Sparse.get (fun _ => none) t.regs k = none) ∧ (∀ k, k / 64 = n → t.queue k = {}) ∧
        others t)) ∧
    ((s.region n).rejoin = some w → s.regState n = rResetting → s.nextWave = w → ¬hot → s.rd 0x2280 0x0A = 1 →
      Completes (exec (.rejoinWave n) s) (fun t => t.regState n = rHalted ∧ t.rd (0x4100 + n) 0x19 = 208 ∧
        (t.region n).rejoin = none ∧ others t)) ∧
    ((s.region n).rejoin = some w → s.regState n = rResetting → s.nextWave = w → hot →
      Completes (exec (.rejoinWave n) s) (fun t => t.regState n = rHalted ∧ t.rd (0x4100 + n) 0x19 = 203 ∧
        (t.region n).rejoin = none ∧ others t)) ∧
    ((s.region n).rejoin = some w → s.regState n = rResetting → s.nextWave = w → ordinary →
      s.portsFailed n = true → Completes (exec (.rejoinWave n) s) (fun t => t.regState n = rHalted)) ∧
    (s.thermal.queue.head? = some n → s.mayPower = true → Completes (exec (.regionSwitchOn n true) s) (fun t =>
      t.regState n = rFilling ∧ t.rd (0x5000 + n) 0x0C = 1 ∧ t.rd (0x6060 + n) 0x01 = 0 ∧
      t.thermal.queue = s.thermal.queue.filter (fun x => x ≠ n) ∧ blank t ∧ others t)) ∧
    (s.thermal.queue.head? = some n → s.mayPower = true → Completes (exec (.regionSwitchOn n false) s) (fun t =>
      t.regState n = s.regState n ∧ t.thermal.queue = s.thermal.queue.filter (fun x => x ≠ n) ∧
      t.rd (0x7100 + 196) 0x01 = 1 ∧ t.rd (0x7100 + 196) 0x08 = 0xF05 ∧ others t)) ∧
    (s.regState n = rFilling → (16 ≤ s.rd 0x4240 0x05 ∨ s.migComing (s.rd 0x4240 0x05) ≠ n ∨ s.migOverlap = true) →
      Completes (exec (.blankFillEnd n) s) (fun t => t.regState n = rLoading ∧ t.rd (0x5000 + n) 0x0C = 0 ∧
        t.activePlane n = 0xFF ∧ others t)) ∧
    (s.regState n = rFilling → s.rd 0x4240 0x05 < 16 → s.migComing (s.rd 0x4240 0x05) = n → s.migOverlap = false →
      s.activePlane n < 8 → s.planeState n (s.activePlane n) = 2 → ordinary → s.portsFailed n = false →
      Completes (exec (.blankFillEnd n) s) (fun t => t.regState n = rActive ∧ t.rd (0x5000 + n) 0x0C = 0 ∧
        t.activePlane n = s.activePlane n ∧ others t)) ∧
    (s.regState n = rFilling → Completes (exec (.blankFillTimeout n) s) (fun t => t.regState n = rOff ∧
      t.rd (0x5000 + n) 0x0C = 2 ∧ blank t ∧ t.rd (0x7100 + 153) 0x01 = 1 ∧ t.rd (0x7100 + 153) 0x08 = 0x40B ∧
      others t)) ∧
    (s.rd (0x6060 + n) 0x01 = 1 → s.outstanding n = 0 → (s.region n).closing = false → Completes (exec (.regionClosed n d) s) (fun t =>
      t.rd (0x6060 + n) 0x01 = 2 ∧ t.rd (0x6060 + n) 0x03 = d % 2 ^ 32 ∧
      s.OnlyEntries t [(0x6060 + n, 0x01), (0x6060 + n, 0x03)])) ∧
    (s.rd (0x6060 + n) 0x01 = 1 → s.outstanding n = 0 → (s.region n).closing = true →
      (s.regState n = rHalted ∨ s.regState n = rLoading) →
      Completes (exec (.regionClosed n d) s) (fun t => t.rd (0x6060 + n) 0x01 = 2 ∧ t.regState n = rOff ∧
        t.rd (0x5000 + n) 0x0C = 2 ∧ blank t ∧ (t.region n).closing = false ∧ others t)) ∧
    (s.rd (0x6060 + n) 0x01 = 1 → Completes (exec (.closeTimeout n d) s) (fun t => t.rd (0x6060 + n) 0x01 = 2 ∧
      t.rd (0x6060 + n) 0x03 = d % 2 ^ 32 ∧ t.rd (0x7100 + 166) 0x01 = 1 ∧ t.rd (0x7100 + 166) 0x08 = 0xA04 ∧
      ((s.region n).closing = true → (s.regState n = rHalted ∨ s.regState n = rLoading) → t.regState n = rOff) ∧
      t.outReqs = s.outReqs.filter (fun q => q.node ≠ n) ∧ others t)) ∧
    ((s.rd (0x6060 + n) 0x01 ≠ 1 ∨ s.outstanding n ≠ 0) → Completes (exec (.regionClosed n d) s) s.Unchanged) ∧
    (s.rd (0x6060 + n) 0x01 ≠ 1 → Completes (exec (.closeTimeout n d) s) s.Unchanged) ∧
    (s.autoGate n = true → (∀ k, k < 16 → (s.slotArmed k && s.slotNames k n) = false) →
      (∀ e, e < 16 → (s.migOpen e && s.migNames e n) = false) → s.loadInits n = false →
      Completes (exec (.automaticGating n) s) (fun t => t.rd (0x6060 + n) 0x01 = 1 ∧
        t.region n = { s.region n with closing := true, resume := none } ∧ (∀ m, m ≠ n → t.region m = s.region m) ∧
        { s with regions := t.regions }.OnlyEntries t [(0x6060 + n, 0x01)])) ∧
    (s.autoGate n = false → Completes (exec (.automaticGating n) s) s.Unchanged)

/-- R84, R148, R149, R165, R169, R195, R304: switch slots. A slot is armed, or refused with its reason; with a mirror
that is CATCHING or TRACKING it is armed once the mirror has confirmed it. A cancel needs 2 µs before the wave. At its
wave every region named takes the plane and no other region's plane changes; scrub passes that are owed put it off, and
a span with two drivers cancels it.
The model's choices: the reason where several conditions hold (log entry 224), a cancel after a deferral (log entry
64), a wave that comes in OFF (log entry 205), and one that comes before VC is back (log entry 186). -/
def Obligations.SwitchSlots : Prop :=
  ∀ (s : State) (r : Requester) (k : Nat), k < 16 →
    let reason := s.slotReason k true
    let pairs := s.pairSt = 4 ∧ (s.partner = 2 ∨ s.partner = 3)
    let p := s.slot k 0x03
    let meets := s.spanConflict (fun n => if (s.slotRegions k).contains n then p else s.activePlane n)
    (s.mayWrite r (0x4210 + k) 0x05 1 = true → s.slotArmed k = false →
      s.pair.confirm.any (fun c => c.1 = k) = false → reason = 0 → ¬pairs →
      Accepted (exec (.slotArm r k) s) r (0x4210 + k) 0x05 (fun t => t.slot k 0x06 = 1 ∧ t.slot k 0x07 = 0 ∧
        t.slot k 0x08 = 0 ∧ s.OnlyEntries t [(0x4210 + k, 0x06), (0x4210 + k, 0x07), (0x4210 + k, 0x08)])) ∧
    (s.mayWrite r (0x4210 + k) 0x05 1 = true → s.slotArmed k = false →
      s.pair.confirm.any (fun c => c.1 = k) = false → reason = 0 → pairs →
      Completes (exec (.slotArm r k) s) (fun t => (k, s.nextMseq, 0, some r) ∈ t.pair.confirm ∧
        ∀ i, i < 256 → t.slot k i = s.slot k i)) ∧
    (s.mayWrite r (0x4210 + k) 0x05 1 = true → s.slotArmed k = false →
      s.pair.confirm.any (fun c => c.1 = k) = false → reason ≠ 0 → Completes (exec (.slotArm r k) s) (fun t =>
        t.slot k 0x06 = 3 ∧ t.slot k 0x08 = reason ∧
        .answer r (if reason = 1 then abortValue else abortState) [] ∈ t.out ∧
        (∀ n, n < 64 → t.activePlane n = s.activePlane n))) ∧
    (s.mayWrite r (0x4210 + k) 0x05 2 = true → s.slotArmed k = true → s.within 2000 (s.slot k 0x02) = false →
      Accepted (exec (.slotCancel r k) s) r (0x4210 + k) 0x05 (fun t => t.slot k 0x06 = 4 ∧ k ∉ t.deferred ∧
        { s with deferred := t.deferred }.OnlyEntries t [(0x4210 + k, 0x06)])) ∧
    (s.slotArmed k = true → s.isDue k (s.slot k 0x02) = true → s.mustDefer (s.slotRegions k) = [] → meets = false →
      Completes (exec (.switchWave k) s) (fun t => t.slot k 0x06 = 2 ∧
        t.rd 0x4200 0x03 = counterNext 32 (ent 0x4200 0x03) (s.rd 0x4200 0x03) ∧ k ∉ t.deferred ∧
        ∀ n, n < 64 → t.activePlane n = if n ∈ s.slotRegions k then p else s.activePlane n)) ∧
    (s.slotArmed k = true → s.isDue k (s.slot k 0x02) = true → s.mustDefer (s.slotRegions k) = [] → meets = true →
      Completes (exec (.switchWave k) s) (fun t => t.slot k 0x06 = 4 ∧ t.slot k 0x08 = 6 ∧ k ∉ t.deferred ∧
        t.rd 0x4200 0x04 = counterNext 32 (ent 0x4200 0x04) (s.rd 0x4200 0x04) ∧
        (∀ n, n < 64 → t.activePlane n = s.activePlane n))) ∧
    (s.slotArmed k = true → s.isDue k (s.slot k 0x02) = true → s.mustDefer (s.slotRegions k) ≠ [] →
      s.deferred.contains k = false → Completes (exec (.switchWave k) s) (fun t => t.deferred = s.deferred ++ [k] ∧
        (∀ n, n < 64 → t.activePlane n = s.activePlane n) ∧ ∀ n, n < 64 → t.rd (0x4340 + n) 0x07
          = if n ∈ s.mustDefer (s.slotRegions k) then counterNext 32 (ent (0x4340 + n) 0x07) (s.rd (0x4340 + n) 0x07)
            else s.rd (0x4340 + n) 0x07)) ∧
    ((s.slotArmed k = false ∨ s.isDue k (s.slot k 0x02) = false) → Completes (exec (.switchWave k) s) s.Unchanged)

/-- R103, R149, R150, R154, R157, R167: a plane becomes the active plane of its region. INIT loads every register's
initial value and empties the queues; KEEP keeps every register, with the initial value of the plane before where
nothing has written it, and the queues of banks whose descriptor stays. A pending golden switch is dropped by a change
to another plane.
R154, R155, R156, R164: the golden designation is written, and a golden switch takes its plane at its wave; with a plane
that is not VALID the region is halted.
The model's choices: no cause at the halt of a golden switch that is not made (log entry 141), that halt at the golden
wave (log entry 226), and a wave that comes in OFF (log entry 205). -/
def Obligations.PlaneStates : Prop :=
  (∀ (s : State) (n p wave key : Nat) (x : Bit), n < 64 → p < 8 →
     let i := s.activatePlane n p 1 wave
     let j := s.activatePlane n p 0 wave
     let old := (s.activeNet n).descriptors
     let new := (s.plane n p).net.descriptors
     i.activePlane n = p ∧ j.activePlane n = p ∧ i.rd (0x4100 + n) 0x18 = (s.plane n p).personality ∧
       i.rd (0x4040 + n) 0x01 = (s.plane n p).depth ∧ i.rd (0x4100 + n) 0x1A = wave ∧
       (i.region n).golden = (if s.activePlane n = p then (s.region n).golden else none) ∧
       (∀ k, k / 131072 = n → Sparse.get (fun _ => none) i.regs k = none) ∧ (∀ k, k / 64 = n → i.queue k = {}) ∧
       (Sparse.get (fun _ => none) s.regs key = some x → Sparse.get (fun _ => none) j.regs key = some x) ∧
       (((s.activeNet n).cells.map Prod.fst).Nodup → (∀ c ∈ (s.activeNet n).cells, c.1 < 65536) →
         ∀ c ∈ (s.activeNet n).cells, c.2.reg0.used = true → Sparse.get (fun _ => none) s.regs (regKey n c.1 0) = none →
           Sparse.get (fun _ => none) j.regs (regKey n c.1 0) = some { d := c.2.reg0.init, v := false }) ∧
       (∀ k, k / 64 = n → old.getD (k % 64) 0 = new.getD (k % 64) 0 → j.queue k = s.queue k) ∧
       (∀ k, k / 64 = n → old.getD (k % 64) 0 ≠ new.getD (k % 64) 0 → j.queue k = {}) ∧
       (∀ k, k / 64 ≠ n → i.queue k = s.queue k ∧ j.queue k = s.queue k) ∧
       (∀ m, m < 64 → m ≠ n → i.activePlane m = s.activePlane m ∧ j.activePlane m = s.activePlane m)) ∧
  (∀ (s : State) (r : Requester) (n v w mode : Nat), n < 64 →
     let due := (s.region n).golden = some (w, v, mode) ∧ s.isDue (96 + n) w = true ∧ (s.region n).holdPasses = 0 ∧
       rLoading ≤ s.regState n ∧
       slotNos.any (fun k => s.slotArmed k && s.slotNames k n && s.slot k 0x02 = s.nextWave) = false
     (s.mayWrite r (0x4100 + n) 0x15 v = true → v < 8 → s.planeState n v = 2 → v ≠ s.activePlane n →
       s.activePlane n < 8 → (s.plane n v).personality = (s.plane n (s.activePlane n)).personality →
       (s.plane n v).layout = (s.plane n (s.activePlane n)).layout →
       Accepted (exec (.goldenPlaneWrite r n v) s) r (0x4100 + n) 0x15 (fun t => t.rd (0x4100 + n) 0x15 = v ∧
         t.rd 0x1002 0x01 = (s.rd 0x1002 0x01 + 1) % 2 ^ 32 ∧ s.OnlyEntries t [(0x4100 + n, 0x15), (0x1002, 0x01)])) ∧
     (s.mayWrite r (0x4100 + n) 0x15 0xFF = true →
       Accepted (exec (.goldenPlaneWrite r n 0xFF) s) r (0x4100 + n) 0x15 (fun t => t.rd (0x4100 + n) 0x15 = 0xFF)) ∧
     (due → s.planeState n v = 2 → s.spanConflict (fun m => if m = n then v else s.activePlane m) = false →
       s.planeBarred n v = false → slotNos.any (fun e => s.unreverted e && s.migNames e n) = false →
       Completes (exec (.goldenSwitch n) s) (fun t => t.activePlane n = v ∧
         t.rd (0x4100 + n) 0x1E = counterNext 32 (ent (0x4100 + n) 0x1E) (s.rd (0x4100 + n) 0x1E) ∧
         (t.region n).golden = none ∧ (∀ m, m < 64 → m ≠ n → t.activePlane m = s.activePlane m))) ∧
     (due → s.planeState n v ≠ 2 → s.regState n = rActive → Completes (exec (.goldenSwitch n) s) (fun t =>
       t.regState n = rHalted ∧ t.rd (0x4100 + n) 0x19 = 64 + n ∧ t.rd (0x4100 + n) 0x1C = s.crossing % 2 ^ 48 ∧
       t.activePlane n = s.activePlane n ∧ (t.region n).golden = none)))

/-- R84, R138, R160 to R164: migrations. A start arms the entry, with the roles of both regions, or is refused; at W − k
the coming region takes its plane, at W the leaving region takes its own and the entry is complete; a revert exchanges
the roles and ends with none; a cancel leaves the entry cancelled, and that of a revert leaves it complete.
The model's deductions: what a cancelled revert leaves (log entry 27), and the codes of a refused migration command
and the W that the device chooses (log entry 66). Its choice: the plane that the spare ran before (log entry 225). -/
def Obligations.Migrations : Prop :=
  ∀ (s : State) (r : Requester),
    let e := s.rd 0x4240 0x02
    let w := s.rd 0x4240 0x03
    let w' := if w = 0 then s.earliestW else w
    let m := s.rd 0x4240 0x05
    let f := s.mig e 0x01
    let sp := s.mig e 0x04
    let mf := s.mig m 0x01
    let ms := s.mig m 0x04
    let coming := s.migComing m
    let leaving := if s.migReverting then ms else mf
    let others := fun t : State => ∀ n, n < 64 → n ≠ mf → n ≠ ms → t.activePlane n = s.activePlane n
    (s.mayWrite r 0x4240 0x01 1 = true → e < 16 → f ≠ sp → (s.migReason e w' (w = 0)).1 = 0 →
      Accepted (exec (.migrationStart r) s) r 0x4240 0x01 (fun t => t.mig e 0x07 = 1 ∧ t.rd 0x4240 0x05 = e ∧
        t.rd (0x4100 + f) 0x1D = sp * 256 + 1 ∧ t.rd (0x4100 + sp) 0x1D = f * 256 + 2 ∧ t.migReverting = false ∧
        t.migOverlap = false ∧ (w ≠ 0 → t.migWave = w) ∧ (s.regState sp = rOff → sp ∈ t.thermal.queue) ∧
        ∀ n, n < 64 → t.activePlane n = s.activePlane n)) ∧
    (s.mayWrite r 0x4240 0x01 1 = true → e < 16 → (s.migReason e w' (w = 0)).1 ≠ 0 → m ≠ e → s.mig e 0x07 ≠ 3 →
      f ≠ 0xFF → Completes (exec (.migrationStart r) s) (fun t => t.mig e 0x07 = 6 ∧
        .answer r (if (s.migReason e w' (w = 0)).1 = 1 then abortValue else abortState) [] ∈ t.out ∧
        t.rd 0x4240 0x05 = m)) ∧
    (s.mayWrite r 0x4240 0x01 2 = true → e < 16 → (s.revertReason e w' (w = 0)).1 = 0 →
      Accepted (exec (.migrationRevert r) s) r 0x4240 0x01 (fun t => t.mig e 0x07 = 4 ∧ t.rd 0x4240 0x05 = e ∧
        t.migReverting = true ∧ t.migOverlap = false ∧ (w ≠ 0 → t.migWave = w) ∧
        (s.regState f = rOff → f ∈ t.thermal.queue) ∧ ∀ n, n < 64 → t.activePlane n = s.activePlane n)) ∧
    (s.mayWrite r 0x4240 0x01 3 = true → m = e → e < 16 → f < 64 → sp < 64 → s.migOverlap = false →
      Accepted (exec (.migrationCancel r) s) r 0x4240 0x01 (fun t => t.rd 0x4240 0x05 = 0xFF ∧
        (s.migReverting = false → t.mig e 0x07 = 5 ∧ t.rd (0x4100 + f) 0x1D = 0 ∧ t.rd (0x4100 + sp) 0x1D = 0) ∧
        (s.migReverting = true → t.mig e 0x07 = 3) ∧ t.migReverting = false ∧ t.migWave = 0 ∧
        t.rd (0x7100 + 64 + f) 0x01 = 1 ∧ t.rd (0x7100 + 64 + f) 0x08 = 0x507 ∧
        ∀ n, n < 64 → t.activePlane n = s.activePlane n)) ∧
    (m < 16 → mf < 64 → ms < 64 → mf ≠ ms → s.migOverlap = false → s.migWave ≠ 0 →
      s.isDue 200 (s.migEarly m) = true → (s.region coming).holdPasses = 0 → s.spanConflict (s.migAfter m) = false →
      s.migSpoilt m mf = false → s.migSpoilt m ms = false →
      (s.regState coming = rActive ∨ s.regState coming = rLoading) →
      Completes (exec .migrationOverlapWave s) (fun t => t.migOverlap = true ∧
        t.activePlane coming = s.migAfter m coming ∧ (s.migReverting = false → t.mig m 0x07 = 2) ∧
        (s.migHalted = false → t.activePlane leaving = s.activePlane leaving) ∧ others t)) ∧
    (m < 16 → mf < 64 → ms < 64 → s.migOverlap = false → s.migWave ≠ 0 → s.isDue 200 (s.migEarly m) = true →
      (s.region coming).holdPasses = 0 → s.spanConflict (s.migAfter m) = true →
      Completes (exec .migrationOverlapWave s) (fun t => t.rd 0x4240 0x05 = 0xFF ∧ t.migWave = 0 ∧
        t.mig m 0x07 = (if s.migReverting then 3 else 5) ∧ t.rd (0x7100 + 64 + mf) 0x08 = 0x507 ∧
        ∀ n, n < 64 → t.activePlane n = s.activePlane n)) ∧
    ((16 ≤ m ∨ s.migOverlap = true ∨ s.migWave = 0) → Completes (exec .migrationOverlapWave s) s.Unchanged) ∧
    (m < 16 → mf < 64 → ms < 64 → mf ≠ ms → s.migOverlap = true → s.isDue 201 s.migWave = true →
      (s.region leaving).holdPasses = 0 → s.migSpoilt m leaving = false → s.migReverting = false →
      Completes (exec .migrationSwitchWave s) (fun t => t.activePlane mf = s.mig m 0x03 ∧ t.mig m 0x07 = 3 ∧
        t.rd 0x4240 0x04 = counterNext 32 (ent 0x4240 0x04) (s.rd 0x4240 0x04) ∧ t.rd 0x4240 0x05 = 0xFF ∧
        t.migOverlap = false ∧ t.migWave = 0 ∧ t.rd (0x7100 + 64 + mf) 0x01 = 1 ∧
        t.rd (0x7100 + 64 + mf) 0x08 = 0x506 ∧ t.activePlane ms = s.activePlane ms ∧ others t)) ∧
    (m < 16 → mf < 64 → ms < 64 → mf ≠ ms → s.migOverlap = true → s.isDue 201 s.migWave = true →
      (s.region leaving).holdPasses = 0 → s.migSpoilt m leaving = false → s.migReverting = true →
      Completes (exec .migrationSwitchWave s) (fun t => t.mig m 0x07 = 0 ∧ t.rd 0x4240 0x05 = 0xFF ∧
        t.rd (0x4100 + mf) 0x1D = 0 ∧ t.rd (0x4100 + ms) 0x1D = 0 ∧ t.migReverting = false ∧ t.migOverlap = false ∧
        (∀ p, (s.region ms).beforeMigration = some p → p < 8 → t.activePlane ms = p) ∧
        t.activePlane mf = s.activePlane mf ∧ others t)) ∧
    ((16 ≤ m ∨ s.migOverlap = false) → Completes (exec .migrationSwitchWave s) s.Unchanged)

/-! ### Clocks (chapter 14) -/

/-- R429, R430, R432, R433, R435, R436, R439, R442, R449: a monitor's trip of a source that is STARTING or PROVEN takes
the loops on it with it: each is counted with its reason and raises its cause, 0xE01, or for PLL_X 0xE02 with a device
reset while the engine is not OFF; a domain on one of them switches to its next source, is held where that is not
PROVEN, or stops where there is none, and so does one that was to move to one of them. A source becomes PROVEN with its
frequency, and the domains that wait for it, or come earlier to it in their order for the first time before a bundle is
active, move to it. A TRIPPED one starts again at an edge; the measured ratio of OSC_S is shown; PLL_X locks, and leaves
lock for holdover.
The model's choices: a trip of the target in steps 1 and 2 of a switch (log entry 198), PLL_X from holdover to LOCKING
(log entry 35), and the rounded ratio (log entry 22). -/
def Obligations.ClockSources : Prop :=
  ∀ (s : State) (i reason hz num den : Nat) (phase : Int),
    let live := s.srcSt i = 1 ∨ s.srcSt i = 2
    let hit := s.tripsWith i
    let marked := hit.foldl (fun s k => s.setSrc k 3) s
    (hasTrip i reason = true → live → (i = 4 → s.bundle.isSome = true) →
      Completes (exec (.monitorTrip i reason hz) s) (fun u =>
        (∀ k, k < 8 → u.srcSt k = if k ∈ hit then 3 else s.srcSt k) ∧
        (∀ k, k ∈ hit →
          u.rd (0x2010 + k) 0x03 = counterNext 32 (ent (0x2010 + k) 0x03) (s.rd (0x2010 + k) 0x03) ∧
          u.rd (0x2010 + k) 0x04 = (if k = i then reason else 4) ∧
          (k ≠ 4 → u.rd (0x7100 + 176 + k) 0x01 = 1 ∧ u.rd (0x7100 + 176 + k) 0x08 = 0xE01)) ∧
        u.rd (0x2010 + i) 0x02 = (if reason = 2 then hz % 2 ^ 32 else s.rd (0x2010 + i) 0x02) ∧
        (i = 4 → u.rd 0x2020 0x01 = 1 ∧ (s.engineSt ≠ 0 → u.rd (0x7100 + 180) 0x01 = 1 ∧
          u.rd (0x7100 + 180) 0x08 = 0xE02 ∧ Action.deviceReset ∈ u.collector.actions)) ∧
        (∀ d, d < 7 → s.domSt d = 1 → s.domSrc d ∈ hit →
          match marked.nextSource d (s.domSrc d) with
          | some x => u.domSt d = (if s.srcSt x = 2 then 2 else 3) ∧ u.domSrc d = s.domSrc d ∧
            (s.srcSt x ≠ 2 → u.rd (0x7100 + 186) 0x01 = 1 ∧ u.rd (0x7100 + 186) 0x08 = 0xE05) ∧
            u.dom d = { s.dom d with
              target := some x
              waitingOld := true
              forced := false
              held := decide (s.srcSt x ≠ 2)
              since := s.now
              lost := false }
          | none => u.domSt d = 0 ∧ u.domSrc d = 0xFF ∧ (u.dom d).target = none ∧ (u.dom d).waitingOld = true ∧
            u.rd (0x7100 + 187) 0x01 = 1 ∧ u.rd (0x7100 + 187) 0x08 = 0xE06) ∧
        (∀ d x, d < 7 → (s.domSt d = 2 ∨ s.domSt d = 3) → (s.dom d).target = some x → x ∈ hit →
          match marked.nextSource d x with
          | some y => u.domSt d = (if s.srcSt y = 2 then 2 else 3) ∧ u.domSrc d = s.domSrc d ∧
            (s.domSt d = 2 → u.rd (0x7100 + 186) 0x01 = 1 ∧ u.rd (0x7100 + 186) 0x08 = 0xE05) ∧
            u.dom d = { s.dom d with target := some y, held := true }
          | none => u.domSt d = 0 ∧ u.domSrc d = 0xFF ∧ u.dom d = { s.dom d with target := none, held := true } ∧
            u.rd (0x7100 + 187) 0x01 = 1 ∧ u.rd (0x7100 + 187) 0x08 = 0xE06) ∧
        (∀ d, d < 7 → ¬(s.domSt d = 1 ∧ s.domSrc d ∈ hit) →
          ¬((s.domSt d = 2 ∨ s.domSt d = 3) ∧ ∃ x ∈ hit, (s.dom d).target = some x) →
          u.domSt d = s.domSt d ∧ u.domSrc d = s.domSrc d ∧ u.dom d = s.dom d))) ∧
    (hasTrip i reason = true → (¬live ∨ (i = 4 ∧ s.bundle = none)) →
      Completes (exec (.monitorTrip i reason hz) s) s.Unchanged) ∧
    (1 ≤ i → i < 8 → s.srcSt i = 2 → Completes (exec (.sourceProven i hz) s) (fun u =>
      u.rd (0x2010 + i) 0x02 = hz % 2 ^ 32 ∧ s.OnlyEntries u [(0x2010 + i, 0x02)])) ∧
    (1 ≤ i → i < 8 → s.srcSt i = 1 → s.refProven i = true → s.nothingHeld = true →
      Completes (exec (.sourceProven i hz) s) (fun u =>
        u.srcSt i = 2 ∧ u.rd (0x2010 + i) 0x02 = hz % 2 ^ 32 ∧ (∀ k, k < 8 → k ≠ i → u.srcSt k = s.srcSt k) ∧
        i ∈ u.startup.proven ∧
        (∀ d, d < 7 → s.domSt d = 0 → (s.dom d).started = false → i ∈ s.domOrder d →
          u.domSt d = 1 ∧ u.domSrc d = i ∧ (u.dom d).started = true) ∧
        (∀ d, d < 7 → s.domSt d = 0 → (s.dom d).started = true → i ∈ s.domOrder d →
          u.domSt d = 2 ∧ u.dom d = { s.dom d with target := some i }) ∧
        (∀ d, d < 7 → s.domSt d = 3 → (s.dom d).target = some i → u.domSt d = 2 ∧ u.dom d = s.dom d) ∧
        (∀ d, d < 7 → s.domSt d = 1 → i ∉ s.startup.proven → s.startup.everActive = false →
          s.earlier d i (s.domSrc d) = true → u.domSt d = 2 ∧ u.domSrc d = s.domSrc d ∧ (u.dom d).target = some i) ∧
        (∀ d, d < 7 → s.domSt d = 1 →
          (i ∈ s.startup.proven ∨ s.startup.everActive = true ∨ s.earlier d i (s.domSrc d) = false) →
          u.domSt d = 1 ∧ u.domSrc d = s.domSrc d ∧ u.dom d = s.dom d))) ∧
    (1 ≤ i → i < 8 → s.srcSt i ≠ 2 → (s.srcSt i = 1 → s.refProven i = false ∧ s.nothingHeld = true) →
      Completes (exec (.sourceProven i hz) s) s.Unchanged) ∧
    (i < 8 → s.srcSt i = 3 → Completes (exec (.sourceEdgeAfterTrip i) s) (fun u =>
      u.srcSt i = 1 ∧ s.OnlyEntries u [(0x2010 + i, 0x01)])) ∧
    (i < 8 → s.srcSt i ≠ 3 → Completes (exec (.sourceEdgeAfterTrip i) s) s.Unchanged) ∧
    (s.domSt 0 = 1 → den ≠ 0 → 85 * den ≤ 100 * num → 100 * num ≤ 115 * den →
      Completes (exec (.slowRatioMeasure num den) s) (fun u =>
        u.rd 0x2030 0x01 = f32OfRatio num den ∧ s.OnlyEntries u [(0x2030, 0x01)])) ∧
    (s.domSt 0 = 1 → den ≠ 0 → (100 * num < 85 * den ∨ 115 * den < 100 * num) →
      Completes (exec (.slowRatioMeasure num den) s) (fun u => u.rd 0x2030 0x01 = f32OfRatio num den ∧
        u.rd (0x7100 + 191) 0x01 = 1 ∧ u.rd (0x7100 + 191) 0x08 = 0xE07)) ∧
    ((s.domSt 0 ≠ 1 ∨ den = 0) → Completes (exec (.slowRatioMeasure num den) s) s.Unchanged) ∧
    ((s.rd 0x2020 0x01 = 1 ∨ s.rd 0x2020 0x01 = 3) → s.startup.switchDue = false → s.startup.engineDue = false →
      Completes (exec (.pllxLock phase hz) s) (fun u => u.rd 0x2020 0x01 = 2 ∧ u.srcSt 4 = 2 ∧
        u.rd 0x2014 0x02 = hz % 2 ^ 32 ∧
        (-2147483648 ≤ phase → phase ≤ 2147483647 → u.rd 0x2020 0x02 = i32 phase) ∧
        s.OnlyEntries u [(0x2020, 0x01), (0x2020, 0x02), (0x2014, 0x01), (0x2014, 0x02)])) ∧
    ((s.rd 0x2020 0x01 = 1 ∨ s.rd 0x2020 0x01 = 3) → s.startup.switchDue = false → s.startup.engineDue = true →
      s.startup.warm = false → Completes (exec (.pllxLock phase hz) s) (fun u => u.rd 0x2020 0x01 = 2 ∧ u.srcSt 4 = 2 ∧
        u.engineSt = 1 ∧ u.startup.engineDue = false ∧ ∀ k, k < 80 →
          (u.kernel k).pc = BitVec.ofNat 32 (s.programOf k).entry)) ∧
    (s.rd 0x2020 0x01 ≠ 1 → s.rd 0x2020 0x01 ≠ 3 → s.startup.switchDue = false → s.startup.engineDue = false →
      Completes (exec (.pllxLock phase hz) s) s.Unchanged) ∧
    (s.rd 0x2020 0x01 = 2 → Completes (exec (.pllxHoldover phase) s) (fun u => u.rd 0x2020 0x01 = 3 ∧
        (-2147483648 ≤ phase → phase ≤ 2147483647 → u.rd 0x2020 0x02 = i32 phase) ∧
        u.sourceDue = (if s.source = 3 then s.sourceDue else some 3) ∧
        { s with sourceDue := u.sourceDue }.OnlyEntries u [(0x2020, 0x01), (0x2020, 0x02)])) ∧
    (s.rd 0x2020 0x01 ≠ 2 → Completes (exec (.pllxHoldover phase) s) s.Unchanged)

/-- R439 to R446, R448: a domain's switch is commanded, or refused; it ends on its target with its counts and its cause,
with the time for which it was held, and for SYS with device time advanced, over which the kernels' timers paused; a
start-up move that fell due follows. A dead clock forces the stop, and its count is then unknown; its flag is cleared; a
block's gate closes where gating is on, and the block's work opens it. Pin updates wait for domain IO.
The model's choice: a start-up move that falls due while the domain is busy is made once it runs (log entry 198). -/
def Obligations.ClockDomains : Prop :=
  ∀ (s : State) (r : Requester) (d t us b v i : Nat), d < 7 →
    let others := fun u : State => ∀ j, j < 7 → j ≠ d → u.domSt j = s.domSt j ∧ u.domSrc j = s.domSrc j ∧ u.dom j = s.dom j
    let due := s.domSt d = 2 ∧ (s.dom d).target = some t ∧ s.nothingHeld = true
    (s.mayWrite r (0x2040 + d) 0x04 t = true → t < 256 → domainPermits d t = true → s.srcSt t = 2 → s.domSt d = 1 →
      Accepted (exec (.domainSwitchCommand r d t) s) r (0x2040 + d) 0x04 (fun u => u.domSt d = 2 ∧
        u.domSrc d = s.domSrc d ∧
        u.dom d = { s.dom d with
          target := some t
          waitingOld := true
          forced := false
          held := false
          since := s.now
          lost := false } ∧ others u)) ∧
    (s.mayWrite r (0x2040 + d) 0x04 t = true → t < 256 → domainPermits d t = false →
      Completes (exec (.domainSwitchCommand r d t) s) (fun u => .answer r abortValue [] ∈ u.out ∧
        u.domSt d = s.domSt d ∧ u.dom d = s.dom d ∧ others u)) ∧
    (s.mayWrite r (0x2040 + d) 0x04 t = true → t < 256 → domainPermits d t = true → (s.srcSt t ≠ 2 ∨ s.domSt d ≠ 1) →
      Completes (exec (.domainSwitchCommand r d t) s) (fun u => .answer r abortState [] ∈ u.out ∧
        u.domSt d = s.domSt d ∧ u.dom d = s.dom d ∧ others u)) ∧
    (due → (s.dom d).moveDue = none → Completes (exec (.domainSwitchDone d us) s) (fun u =>
      u.domSt d = 1 ∧ u.domSrc d = t ∧
      u.rd (0x2040 + d) 0x05 = counterNext 32 (ent (0x2040 + d) 0x05) (s.rd (0x2040 + d) 0x05) ∧
      u.rd (0x2040 + d) 0x06 = (if (s.dom d).forced then 0xFFFF else 2) ∧ u.rd (0x2040 + d) 0x07 = 4 ∧
      u.rd (0x2040 + d) 0x08 = (if (s.dom d).held then us % 2 ^ 32 else s.rd (0x2040 + d) 0x08) ∧
      u.dom d = { started := true } ∧ u.rd (0x7100 + 184) 0x01 = 1 ∧
      u.rd (0x7100 + 184) 0x08 = 0xE03 ∧ (d = 2 → u.lbif = none) ∧
      (d = 0 → u.now = (s.now + us * 1000) % 2 ^ 64 ∧
        u.rd 0x2030 0x03 = counterNext 32 (ent 0x2030 0x03) (s.rd 0x2030 0x03) ∧
        ∀ k, k < 80 → (u.kernel k).timer = (s.kernel k).timer.map (fun x => x + us * 1000)) ∧ others u)) ∧
    (due → (s.dom d).moveDue = some i → s.startup.everActive = false → s.srcSt i = 2 → s.earlier d i t = true →
      Completes (exec (.domainSwitchDone d us) s) (fun u =>
        u.domSt d = 2 ∧ u.domSrc d = t ∧ (u.dom d).target = some i ∧ others u)) ∧
    ((s.domSt d ≠ 2 ∨ s.domSt d = 2 ∧ (s.dom d).target = none ∧ s.nothingHeld = true) →
      Completes (exec (.domainSwitchDone d us) s) s.Unchanged) ∧
    (s.domSt 5 = 2 → (s.dom 5).target = some t → (s.dom 5).moveDue = none →
      { s with pinsHeld := [] }.nothingHeld = true → s.pinsHeld = [v] →
      Completes (exec (.domainSwitchDone 5 us) s) (fun u => u.probePins = v ∧ u.pinsHeld = [])) ∧
    (s.domSt d ≠ 1 → (s.dom d).waitingOld = true → Completes (exec (.deadClockTimeout d) s) (fun u =>
      u.dom d = { s.dom d with
        waitingOld := false
        forced := true } ∧ u.rd (0x2040 + d) 0x09 = 1 ∧ u.domSt d = s.domSt d ∧ u.rd (0x7100 + 185) 0x01 = 1 ∧
      u.rd (0x7100 + 185) 0x08 = 0xE04 ∧ others u)) ∧
    ((s.domSt d = 1 ∨ (s.dom d).waitingOld = false) → Completes (exec (.deadClockTimeout d) s) s.Unchanged) ∧
    (s.mayWrite r (0x2040 + d) 0x09 1 = true → Accepted (exec (.deadClockFlagClear r d) s) r (0x2040 + d) 0x09
      (fun u => u.rd (0x2040 + d) 0x09 = 0 ∧ s.OnlyEntries u [(0x2040 + d, 0x09)])) ∧
    (gated d b = true → s.rd (0x2040 + d) 0x0A = 1 → Completes (exec (.gateClose d b) s) (fun u =>
      (∀ g, g ∈ u.gates ↔ g = (d, b) ∨ g ∈ s.gates) ∧
      u = { s with
        out := []
        gates := u.gates })) ∧
    (gated d b = true → s.rd (0x2040 + d) 0x0A ≠ 1 → Completes (exec (.gateClose d b) s) s.Unchanged) ∧
    (∀ g, g ∈ (s.work d b).gates ↔ g ≠ (d, b) ∧ g ∈ s.gates)

/-! ### Power and heat (chapters 2, 15) -/

/-- R52, R454: the governor. Below the low threshold the VL target rises one step, to 860 mV at most; above the high one
it falls, not below the floor, and not sooner than the lower time after the last step down; between them it stays. A
target is written on AVSBus rail 0 (R451); a floor above the target raises it at once, unless domain AVS is stopped
(R444).
R195, R455, R456, R464: rails, VC hold and the trip: a third failed transaction in a row stops a rail's writes; VC is
held, leaves hold and is back, with eight scrub passes owed by every region; it stays where it is once its rail has
failed; THERMTRIP_N holds the device in reset.
The model's choices: VC hold with a failed rail is done and leaves VC as it was (log entry 200), the sample after a
raise of VL (log entry 104), and the readings of the rails and the moment of their reading (log entries 105, 199,
210). -/
def Obligations.PowerRails : Prop :=
  (∀ (s : State) (x : Int),
     let v := max (s.rd 0x2100 0x01) s.vlFloor
     s.vlStuck = false → s.domSt 6 = 1 → s.thermal.awaitReport = false → s.leastSlack = some x →
       (x < s.slackLow → v < 860 → s.governor.rd 0x2100 0x01 = min 860 (v + s.rd 0x2100 0x04) ∧
         s.governor.thermal.awaitReport = true ∧
         .avsBus 0 0 (min 860 (v + s.rd 0x2100 0x04)) ∈ s.governor.out) ∧
       (s.slackLow ≤ x → s.slackHigh < x → s.thermal.lowerAt = none → s.vlFloor < v → 0 < s.rd 0x2100 0x05 →
         s.governor.rd 0x2100 0x01 = max s.vlFloor (v - s.rd 0x2100 0x05)) ∧
       (s.slackLow ≤ x → x ≤ s.slackHigh → s.governor.rd 0x2100 0x01 = v) ∧
       (s.governor.rd 0x2100 0x02 = s.railReading 0)) ∧
  (∀ s : State,
     (s.rd 0x2100 0x01 < s.vlFloor → s.vlStuck = false → s.domSt 6 = 1 →
       s.refreshFloor.rd 0x2100 0x01 = s.vlFloor ∧ .avsBus 0 0 s.vlFloor ∈ s.refreshFloor.out) ∧
     ((s.vlFloor ≤ s.rd 0x2100 0x01 ∨ s.vlStuck = true ∨ s.domSt 6 ≠ 1) →
       s.refreshFloor.rd 0x2100 0x01 = s.rd 0x2100 0x01 ∧ s.refreshFloor.out = s.out)) ∧
  (∀ (s : State) (rail : Nat), rail < 3 →
     let t := s.checkRail rail
     let off := (s.railNominal rail).any (fun v =>
       3 * v < 100 * (max v (s.railReading rail) - min v (s.railReading rail)))
     t.thermal.railsOut.contains rail = off ∧
       (if off = true ∧ s.thermal.railsOut.contains rail = false then
         t.rd (0x7100 + 193 + rail) 0x01 = 1 ∧ t.rd (0x7100 + 193 + rail) 0x08 = 0xF02 + rail
       else t.collector = s.collector ∧ t.dict = s.dict)) ∧
  (∀ (s : State) (r : Requester) (rail : Nat) (after : Bool), rail < 3 →
     let fails := fun t : State => Sparse.get (fun _ => 0) t.thermal.railFails
     let n := if after then 1 else fails s rail + 1
     let may := s.rdBit 0x2103 0x01 2 = false
     Completes (exec (.avsTransactionFail rail after) s) (fun t => fails t rail = n ∧
       (∀ k, k ≠ rail → fails t k = fails s k) ∧
       t.rd 0x2103 0x02 = counterNext 32 (ent 0x2103 0x02) (s.rd 0x2103 0x02) ∧
       (n = 3 → s.rdBit 0x2103 0x01 rail = false → t.rdBit 0x2103 0x01 rail = true ∧ t.rd (0x7100 + 192) 0x01 = 1 ∧
         t.rd (0x7100 + 192) 0x08 = 0xF01) ∧
       ((n ≠ 3 ∨ s.rdBit 0x2103 0x01 rail = true) → t.rd 0x2103 0x01 = s.rd 0x2103 0x01 ∧
         t.collector = s.collector)) ∧
     (s.mayWrite r 0x2102 0x02 1 = true → s.engineSt < 2 → s.loadBusy = false → may →
       Accepted (exec (.vcHold r) s) r 0x2102 0x02 (fun t => t.rd 0x2102 0x01 = 1 ∧
         (s.rd 0x2102 0x01 ≠ 1 → s.domSt 6 = 1 → .avsBus 2 0 550 ∈ t.out ∧ t.thermal = s.thermal) ∧
         { s with gates := t.gates, thermal := t.thermal }.OnlyEntries t [(0x2102, 0x01)])) ∧
     (s.mayWrite r 0x2102 0x02 1 = true → s.engineSt < 2 → s.loadBusy = false → ¬may →
       Accepted (exec (.vcHold r) s) r 0x2102 0x02 s.Unchanged) ∧
     (s.mayWrite r 0x2102 0x02 1 = true → (2 ≤ s.engineSt ∨ s.loadBusy = true) → Completes (exec (.vcHold r) s)
       (fun t => .answer r abortState [] ∈ t.out ∧ t.rd 0x2102 0x01 = s.rd 0x2102 0x01)) ∧
     (s.mayWrite r 0x2102 0x02 2 = true → Accepted (exec (.vcLeave r) s) r 0x2102 0x02 (fun t =>
       t.rd 0x2102 0x01 = (if s.rd 0x2102 0x01 = 1 ∧ may then 2 else s.rd 0x2102 0x01) ∧
       (s.rd 0x2102 0x01 = 1 → may → s.domSt 6 = 1 → .avsBus 2 0 700 ∈ t.out ∧ t.thermal = s.thermal) ∧
       { s with gates := t.gates, thermal := t.thermal }.OnlyEntries t [(0x2102, 0x01)])) ∧
     (s.rd 0x2102 0x01 = 2 → may → s.thermal.avsHeld.any (fun x => x.1 = 2) = false → s.load.waiting = none → Completes (exec .vcReturned s) (fun t =>
       (∀ m, m < 64 → t.region m = { s.region m with holdPasses := 8 }) ∧ t.rd 0x2102 0x01 = 0 ∧
       { s with regions := t.regions }.OnlyEntries t [(0x2102, 0x01)])) ∧
     ((s.rd 0x2102 0x01 ≠ 2 ∨ ¬may ∨ s.thermal.avsHeld.any (fun x => x.1 = 2) = true) →
       Completes (exec .vcReturned s) s.Unchanged) ∧
     Completes (exec .thermtrip s) (fun t => t.thermal.thermtripN = 0 ∧ t.startup.tripped = true ∧
       t.startup.released = false ∧ t.startup.firmware = false ∧ t.bundle = none ∧ t.planes = [] ∧ t.regs = [] ∧
       t.out = [.pin "THERMTRIP_N" 0] ∧ t.rd 0x2280 0x0C = 1 ∧ t.pending = s.pending))

/-- R457, R458, R471: a read of 128 good sensors shows every reading with its band and keeps it in the sensor's history,
and shows the hottest and the coldest reading; bands have a hysteresis of 3 °C downwards. A reading out of range fails
the sensor; a sensor that is not read stays as it was.
R460, R461: in warm-up the engine is OFF, no region is ACTIVE and every region heats, every receive lane is OFF, and a
region that would become ACTIVE is HALTED; warm-up ends once all 128 sensors read −22 °C or more.
The model's deduction: a region halted at the entry into warm-up, or that would become ACTIVE in it, records source
208 (log entry 131). -/
def Obligations.Sensors : Prop :=
  ∀ (s : State) (l : List SensorIn) (i : Nat) (v : Int), i < 128 →
    (∀ val : Nat → Int, (∀ j, j < 128 → rawOf l j = some (some (val j)) ∧ inRange (val j) = true ∧
        s.rd (0x2200 + j) 0x03 = 0) → (∀ j k, j < 128 → k < 128 → val j - val k ≤ 20000) → s.rd 0x2280 0x0A ≠ 1 →
      Completes (exec (.sensorRead l) s) (fun t =>
        (∀ j, j < 128 → t.rd (0x2200 + j) 0x01 = i32 (val j) ∧ t.rd (0x2200 + j) 0x03 = 0 ∧
          t.bandOf j = nextBand (s.bandOf j) (val j) ∧
          (t.sensor j).history = (val j :: (s.sensor j).history).take 250 ∧
          val j ≤ toI32 (t.rd 0x2280 0x01) ∧ toI32 (t.rd 0x2280 0x03) ≤ val j) ∧
        val (t.rd 0x2280 0x02) = toI32 (t.rd 0x2280 0x01))) ∧
    (rawOf l i = some (some v) → inRange v = true → s.rd (0x2200 + i) 0x03 = 0 →
      (s.hottestNeighbour l i).all (fun y => v - y ≤ 20000 && y - v ≤ 20000) = true →
      let t := s.readSensor l i
      t.rd (0x2200 + i) 0x01 = i32 v ∧ t.rd (0x2200 + i) 0x02 = nextBand (s.bandOf i) v ∧
        t.rd (0x2200 + i) 0x03 = 0 ∧ (t.sensor i).history = (v :: (s.sensor i).history).take 250) ∧
    (rawOf l i = some (some v) → inRange v = false → s.rd (0x2200 + i) 0x03 = 0 → s.throttle = 0 →
      (s.readSensor l i).rd (0x2200 + i) 0x03 = 1 ∧ (s.readSensor l i).rd (0x7100 + 206) 0x01 = 1) ∧
    (rawOf l i = none → s.readSensor l i = s) ∧
    (let t := s.enterWarmup; t.rd 0x2280 0x0A = 1 ∧ t.engineSt = 0 ∧ (∀ n, n < 64 → t.heats n = true) ∧ (∀ m, m < 512 → t.laneSt m = lOff) ∧
        t.rd (0x7100 + 208) 0x01 = 1) ∧
    (i < 64 → s.rd 0x2280 0x0A = 1 → ∀ w b, (s.becomeActive i w b).regState i = rHalted ∧
      (s.becomeActive i w b).rd (0x4100 + i) 0x19 = if s.thermal.haltOn then 203 else 208) ∧
    (s.rd 0x2280 0x0A = 1 → Completes (exec (.signalDetected i) s) (fun t => t.laneSt i = s.laneSt i)) ∧
    (s.allWarm = true ↔ ∀ j, j < 128 → -22000 ≤ toI32 (s.rd (0x2200 + j) 0x01)) ∧
    (∀ old, old ≤ 5 → nextBand old v ≤ 5 ∧
      (nextBand old v < old → ∃ e ∈ bandEdges, v < e - 3000) ∧
      (old < nextBand old v → ∃ e ∈ bandEdges, e ≤ v))

/-- R461, R466 to R469, R472, R473: throttling. The request is enforced after its grace time, each step of the order
sets its bit and counts on, and the request ends once no cause is left; a command sets and withdraws its own cause; a
sensor's failure is cleared; a hot spot raises its cause, and a migration entry that covers its region is started.
R466, R467: while some cause of a throttle request holds, the request stands; the request's first moment lowers
THROTTLE_N, counts it and raises its cause.
The model's deductions: nibbles of the order after the first 0 are ignored (log entry 51), and the W of a migration
that the device starts (log entry 66). -/
def Obligations.Throttling : Prop :=
  (∀ (s : State) (r : Requester) (i n c : Nat),
     let rs := (List.range 64).map (fun j => toI32 (s.rd (0x2200 + j) 0x01))
     let hot := s.rd 0x22A0 0x01 = 1 ∧ twiceMedian rs < 2 * (rs.getD n 0 - (s.rd 0x22A0 0x02 * 1000 : Nat))
     let entry := slotNos.find? (fun e => s.mig e 0x01 = n && s.activePlane n = s.mig e 0x02)
     (s.rd 0x2280 0x0A = 1 → Completes (exec .warmupTimeout s) (fun t =>
       t.rd (0x7100 + 210) 0x01 = 1 ∧ t.rd (0x7100 + 210) 0x08 = 0xF10 ∧ t.rd 0x2280 0x0A = 1)) ∧
     (s.rd 0x2280 0x0A ≠ 1 → Completes (exec .warmupTimeout s) s.Unchanged) ∧
     (s.throttle = 1 → s.thermal.orderPos = 0 → s.rd 0x2290 0x05 % 16 = c → c ≠ 0 →
       Completes (exec .throttleEnforce s) (fun t => t.throttle = 2 ∧ t.rdBit 0x2290 0x03 (c - 1) = true ∧
         t.thermal.orderPos = 1)) ∧
     (s.throttle = 1 → s.thermal.orderPos = 0 → s.rd 0x2290 0x05 % 16 = 0 →
       Completes (exec .throttleEnforce s) (fun t => t.throttle = 2 ∧ s.OnlyEntries t [(0x2290, 0x01)])) ∧
     (s.throttle ≠ 1 → Completes (exec .throttleEnforce s) s.Unchanged) ∧
     (s.throttle = 2 → s.thermal.orderPos < 4 → s.rd 0x2290 0x05 / 16 ^ s.thermal.orderPos % 16 = c → c ≠ 0 →
       Completes (exec .throttleStep s) (fun t => t.throttle = 2 ∧ t.rdBit 0x2290 0x03 (c - 1) = true ∧
         (∀ b, b ≠ c - 1 → t.rdBit 0x2290 0x03 b = s.rdBit 0x2290 0x03 b) ∧
         t.thermal.orderPos = s.thermal.orderPos + 1 ∧ t.rd (0x7100 + 202) 0x01 = 1 ∧
         t.rd (0x7100 + 202) 0x08 = 0xF08 ∧ (c = 1 → t.rdBit 0x5800 0x06 2 = false) ∧
         (c = 2 → t.rdBit 0x5800 0x06 1 = false))) ∧
     ((s.throttle ≠ 2 ∨ 4 ≤ s.thermal.orderPos ∨ s.rd 0x2290 0x05 / 16 ^ s.thermal.orderPos % 16 = 0) →
       Completes (exec .throttleStep s) s.Unchanged) ∧
     (s.throttle ≠ 0 → s.rd 0x2290 0x02 = 0 → Completes (exec .throttleRelease s) (fun t => t.throttle = 0 ∧
       t.rd 0x2290 0x03 = 0 ∧ t.thermal.throttleN = 1 ∧ t.thermal.orderPos = 0 ∧ .pin "THROTTLE_N" 1 ∈ t.out ∧
       t.rdBit 0x5800 0x06 1 = true)) ∧
     ((s.throttle = 0 ∨ s.rd 0x2290 0x02 ≠ 0) → Completes (exec .throttleRelease s) s.Unchanged) ∧
     (s.mayWrite r 0x2290 0x08 1 = true → Accepted (exec (.throttleCommandRequest r) s) r 0x2290 0x08 (fun t =>
       t.rdBit 0x2290 0x02 3 = true ∧ t.throttle = (if s.throttle = 0 then 1 else s.throttle))) ∧
     (s.mayWrite r 0x2290 0x08 2 = true → Accepted (exec (.throttleCommandWithdraw r) s) r 0x2290 0x08 (fun t =>
       t.rdBit 0x2290 0x02 3 = false ∧ (s.throttle ≠ 0 → t.throttle = s.throttle))) ∧
     (i < 128 → s.mayWrite r (0x2200 + i) 0x08 1 = true → 1000 ≤ (s.sensor i).goodRun →
       Accepted (exec (.clearSensorFailure r i) s) r (0x2200 + i) 0x08 (fun t => t.rd (0x2200 + i) 0x03 = 0 ∧
         t.sensor i = { s.sensor i with
           plus5 := false
           apart := 0 } ∧ (∀ j, j < 128 → j ≠ i → t.sensor j = s.sensor j ∧
           t.rd (0x2200 + j) 0x03 = s.rd (0x2200 + j) 0x03))) ∧
     (i < 128 → s.mayWrite r (0x2200 + i) 0x08 1 = true → (s.sensor i).goodRun < 1000 →
       Completes (exec (.clearSensorFailure r i) s) (fun t => .answer r abortState [] ∈ t.out ∧
         t.rd (0x2200 + i) 0x03 = s.rd (0x2200 + i) 0x03 ∧ t.sensor i = s.sensor i)) ∧
     (n < 64 → hot → entry = none → Completes (exec (.hotspotMigration n) s) (fun t =>
       t.rd (0x7100 + 211) 0x01 = 1 ∧ t.rd (0x7100 + 211) 0x08 = 0xF11 ∧ t.rd 0x4240 0x05 = s.rd 0x4240 0x05)) ∧
     (n < 64 → hot → entry = some c → Completes (exec (.hotspotMigration n) s) (fun t =>
       t.rd (0x7100 + 211) 0x01 = 1 ∧ t.rd (0x7100 + 211) 0x08 = 0xF11 ∧
       ((s.fresh.startMigration c 0 true).1 = 0 → t.mig c 0x07 = 1 ∧ t.rd 0x4240 0x05 = c))) ∧
     (n < 64 → ¬hot → Completes (exec (.hotspotMigration n) s) s.Unchanged)) ∧
  (∀ s : State,
     (s.throttle = 0 → s.beginThrottle.throttle = 1 ∧ s.beginThrottle.thermal.throttleN = 0 ∧
       s.beginThrottle.rd 0x2290 0x0A = counterNext 32 (ent 0x2290 0x0A) (s.rd 0x2290 0x0A) ∧
       s.beginThrottle.rd (0x7100 + 201) 0x01 = 1 ∧ s.beginThrottle.rdBit 0x5800 0x06 2 = false) ∧
     (s.throttle ≠ 0 → s.beginThrottle = s) ∧
     (s.showCauses.rd 0x2290 0x02 ≠ 0 → s.showCauses.throttle ≠ 0) ∧
     (s.rdBit 0x2290 0x02 3 = true → s.showCauses.throttle ≠ 0))

/-! ### Resets and start-up (chapter 18) -/

/-- R56, R196, R403, R533, R545: a device reset, and the assertion of the power-on reset, leave every entry at its
default but those of fuses, straps and the device record; a device reset keeps the waves of the last run and the result
of a load that it ended; no plane, no register and no bundle is left; the keep store stays.
R452, R464, R508, R529, R533, R534, R545, R552: what begins a reset, and what the reset leaves.
The model's choices: RESET_N of less than 10 µs has no effect (log entry 117), the tamper rails and those that assert
the reset (log entry 127), the result 0x2E kept over the reset (log entry 151), and keep-store writes that wait when a
reset comes (log entry 229). -/
def Obligations.Resets : Prop :=
  (∀ (s : State) (power : Bool) (code : Nat),
     let t := s.keptOver power code
     let u := s.keepReset
     (s.startup.tripped = false → ∀ idx sub, sub < 256 → recordKey (ent idx sub) = false →
       (idx ≠ 0x4300 ∨ sub ≠ 0x07) → (idx ≠ 0x2430 ∨ sub ≠ 0x01) →
       (power = true ∨ idx ≠ 0x4003 ∧ idx ≠ 0x4301) → t.rd idx sub = dfltOf idx sub) ∧
     (t.rd 0x4300 0x07 = (if s.rdBit 0x2400 0x01 4 then 1 else dfltOf 0x4300 0x07) ∧
       t.rd 0x2430 0x01 = (if s.rdBit 0x2400 0x01 5 then 2 else dfltOf 0x2430 0x01)) ∧
     (∀ idx sub, sub < 256 → recordKey (ent idx sub) = true → t.rd idx sub = u.rd idx sub) ∧
     (s.keepCopy = none → u = s) ∧
     (∀ kc, s.keepCopy = some kc → u.security.images = kc.images ∧ u.security.areas = kc.areas ∧
       u.security.journal = kc.journal ∧ u.storedMap = kc.storedMap ∧ u.collector.log = kc.log ∧ u.keepLines = kc.lines ∧ u.keepCopy = none) ∧
     (power = false → t.rd 0x4003 0x02 = s.rd 0x4003 0x02 ∧ t.rd 0x4003 0x03 = s.rd 0x4003 0x03 ∧
       (Sparse.wf dfltKey s.dict → t.rd 0x4301 0x02 = if s.rd 0x4301 0x02 = 0x2E then 0x2E else 0)) ∧
     t.planes = [] ∧ t.frames = [] ∧ t.regs = [] ∧ t.bundle = none ∧ t.startPending = false ∧ t.bankMem = [] ∧
       t.security.sessions = [] ∧ t.security.lock = none ∧ t.security.duk = false ∧
       t.security.derived = [] ∧ t.security.slotKeys = [] ∧ t.storedMap = u.storedMap ∧
       t.security.images = u.security.images ∧ t.security.areas = u.security.areas ∧
       t.security.journal = u.security.journal ∧ u.KeepsLines t [.log] ∧
       (u.collector.logPending = [] → t.keepLines = u.keepLines) ∧ t.pending = s.pending ∧
       (power = false → t.lines = s.lines) ∧ (power = true → t.lines = [] ∧ t.startup.released = false)) ∧
  (∀ (s : State) (r : Requester) (straps : BitVec 18) (c : StartConds) (width rail low kind : Nat) (window : Bool),
     let up := s.startup.released = true
     let sound := ∀ x ∈ s.load.pairs, x.1 < 64 ∧ x.2 < 8
     let cold := (s.fresh.takeReadings c.readings).tooCold
     (s.startup.released = false → Completes (exec (.powerOnReset straps c) s) (fun t =>
       t.startup.released = true ∧ t.startup.tripped = false ∧ t.bundle = none ∧ t.pending = s.pending ∧
       (s.startup.tamperWait = true → t.startStep = 1 ∧ t.startup.firmware = false) ∧
       (s.startup.tamperWait = false → c.pufOk = false → t.startStep = 0xFE ∧ t.rd 0x1100 0x07 = 2 ∧
         t.rd 0x1100 0x06 = straps.toNat ∧ t.planes = [] ∧ t.lines = []))) ∧
     (up → Completes (exec (.powerOnReset straps c) s) s.Unchanged) ∧
     (s.mayWrite r 0x1100 0x01 1 = true → up → Completes (exec (.deviceResetCommand r c) s) (fun t =>
       s.DeviceReset t c 2 ∧ (c.pufOk = false → .answer r 0 [] ∈ t.out))) ∧
     (s.mayWrite r 0x1100 0x01 2 = true → s.startup.warm = false → s.startStep = 0xFF → sound →
       Completes (exec (.warmResetCommand r) s) (fun t => .answer r 0 [] ∈ t.out ∧ t.engineSt = 0 ∧
         t.startup.warm = true ∧ t.startup.cause = 8 ∧ t.bundle = s.bundle ∧
         t.rd 0x1102 0x01 = counterNext 32 (ent 0x1102 0x01) (s.rd 0x1102 0x01) ∧
         ∀ n, n < 64 → (s.regState n = rActive ∨ s.regState n = rHalted ∨ s.regState n = rResetting) →
           t.regState n = rResetting ∧ (t.region n).rejoin = none)) ∧
     (s.mayWrite r 0x1100 0x01 2 = true → up → (s.startup.warm = true ∨ s.startStep ≠ 0xFF) →
       Completes (exec (.warmResetCommand r) s) (fun t => t.bundle = none ∧ t.startup.cause = 2 ∧
         t.startup.warm = false)) ∧
     (up → 10000 ≤ width → Completes (exec (.resetNAssert width c) s) (fun t => s.DeviceReset t c 1)) ∧
     (up → 10000 ≤ width → s.startup.tamperWait = true → Completes (exec (.resetNAssert width c) s) (fun t =>
       t.startup.tamperWait = true ∧ t.startup.firmware = false ∧ t.startStep = 0)) ∧
     ((width < 10000 ∨ ¬up) → Completes (exec (.resetNAssert width c) s) s.Unchanged) ∧
     (up → rail < 9 → 10000 < low → Completes (exec (.powerLoss rail low window) s) (fun t =>
       t.startup.released = false ∧ t.startup.firmware = false ∧ t.bundle = none ∧ t.planes = [] ∧ t.lines = [] ∧
       t.bankMem = [] ∧ t.regs = [] ∧ s.keepReset.KeepsLines t [.log, .journal] ∧ t.pending = s.pending ∧
       (window = true → isTamperRail rail = true → t.startup.tamperWait = true ∧ t.rd 0x2430 0x03 = 1) ∧
       ((window = false ∨ isTamperRail rail = false) → t.startup.tamperWait = s.startup.tamperWait ∧
         t.rd 0x2430 0x03 = s.rd 0x2430 0x03))) ∧
     (rail < 17 → (¬up ∨ 9 ≤ rail ∨ low ≤ 10000) → Completes (exec (.powerLoss rail low window) s) s.Unchanged) ∧
     (up → s.startup.firmware = true → Completes (exec (.firmwareWatchdog c) s) (fun t => s.DeviceReset t c 4)) ∧
     (s.startup.firmware = false → Completes (exec (.firmwareWatchdog c) s) s.Unchanged) ∧
     (s.startup.coldWait = true → cold = true → Completes (exec (.coldStartRetry c) s) (fun t =>
       t.startup.coldWait = true ∧ t.rd 0x2280 0x0A = 2 ∧ t.rd (0x7100 + 209) 0x01 = 1 ∧
       t.rd (0x7100 + 209) 0x08 = 0xF0F)) ∧
     (s.startup.coldWait = true → cold = false → Completes (exec (.coldStartRetry c) s) (fun t =>
       t.startup.coldWait = false)) ∧
     (s.startup.coldWait = false → Completes (exec (.coldStartRetry c) s) s.Unchanged) ∧
     (1 ≤ kind → kind ≤ 4 → Completes (exec (.tamper kind) s) (fun t => t.startup.tamperWait = true ∧
       t.security.duk = false ∧ t.security.derived = [] ∧ t.security.slotKeys = [] ∧ t.security.sessions = [] ∧
       t.rd 0x2430 0x03 = kind ∧
       t.rd 0x2430 0x02 = counterNext 32 (ent 0x2430 0x02) (s.rd 0x2430 0x02) ∧
       (up → t.bundle = none ∧ t.startup.cause = 5 ∧ t.startup.firmware = false ∧ t.planes = [] ∧ t.regs = [] ∧
         t.bankMem = []))) ∧
     (s.startup.tamperWait = true → Completes (exec (.tamperWaitEnd c) s) (fun t => t.startup.tamperWait = false ∧
       t.bundle = s.bundle ∧ (up → c.pufOk = false → t.startStep = 0xFE ∧ t.rd 0x1100 0x07 = 2))) ∧
     (s.startup.tamperWait = false → Completes (exec (.tamperWaitEnd c) s) s.Unchanged))

/-- R498, R511, R529, R530, R531: a step of start-up that fails stops the device at it, with its cause; step 7 waits for
the host, or loads the streams of the bundle that BOOTSEL selects; the start-up switch ends the sequence.
R26, R56, R237, R337, R389, R531, R534, R549: a bundle is activated, or refused with its cause; a warm reset ends; the
supply of an I/O bank leaves its range and comes back.
The model's deductions and choices: the activation of the active bundle again (log entry 120), the wait in step 7 (log
entry 122), and what a start finds of a stored image (log entry 212). -/
def Obligations.StartUp : Prop :=
  (∀ (s : State) (c : StartConds) (b : Bundle) (n : Nat),
     let at7 := s.wr 0x1100 0x04 7
     let stops := (s.start7 c).startStep = 0xFE ∧ (s.start7 c).rd 0x1100 0x07 = 7
     let x := at7.activeSlot 2
     let stored := s.bootSel = 0 ∧ (at7.imageSt 2 x = imActive ∨ at7.imageSt 2 x = imTrial)
     let res := (at7.readImage 2 x).startResult 2 x (c.imageFails.contains 3)
     let kept (u : State) := u.rd 0x2512 0x08 = res
     let flash := s.bootSel = 1 ∧ c.imageFails.contains 3 = false
     let good (u : State) := (stored ∧ res = 1 ∧ u = (at7.readImage 2 x).wr 0x2512 0x08 1) ∨ (flash ∧ u = at7)
     ((s.stopAt n).startStep = 0xFE ∧ (s.stopAt n).rd 0x1100 0x07 = n ∧ (s.stopAt n).rd (0x7100 + 336) 0x01 = 1) ∧
     (c.pufOk = false → (s.start2 c).startStep = 0xFE ∧ (s.start2 c).rd 0x1100 0x07 = 2) ∧
     (c.selfTestOk = false → (s.start6 c).startStep = 0xFE ∧ (s.start6 c).rd 0x1100 0x07 = 6) ∧
     (2 ≤ s.bootSel → s.start7 c = at7) ∧
     (stored → res ≠ 1 → stops ∧ kept (s.start7 c) ∧ (s.start7 c).imageSt 2 x = imInvalid ∧
       (s.start7 c).rd (0x7100 + (imageCause (res = 0x36)).1) 0x01 = 1) ∧
     (s.bootSel = 0 → ¬stored → stops) ∧
     (s.bootSel = 1 → c.imageFails.contains 3 = true → stops) ∧
     (∀ u : State, good u → u.selectedBundle = none → stops) ∧
     (∀ u : State, good u → u.selectedBundle = some b → (u.loadStreams s.bootSel b.streams).1 = false → stops) ∧
     (∀ u : State, good u → u.selectedBundle = some b → (u.loadStreams s.bootSel b.streams).1 = true →
       programsOk b = false → stops ∧ (s.start7 c).rd (0x7100 + 317) 0x01 = 1) ∧
     (∀ u : State, good u → u.selectedBundle = some b → (u.loadStreams s.bootSel b.streams).1 = true →
       programsOk b = true → (s.start7 c).startStep = 8 ∧ (s.start7 c).startup.loaded = some b) ∧
     (s.startStep = 9 → s.startDone.startStep = 0xFF ∧
       s.startDone.rd 0x1100 0x05 = (s.startup.before + s.now) / 1000 % 2 ^ 32) ∧
     (s.startStep ≠ 9 → s.startDone = s)) ∧
  (∀ (s : State) (b : Bundle) (measured k mv : Nat),
     let ready := s.engineSt < 2 ∧ s.startup.warm = false ∧ s.rd 0x2280 0x0A ≠ 1 ∧
       (s.startStep = 8 ∨ s.startStep = 0xFF) ∧ s.tracking s.source = true
     let mine := s.startup.loaded = some b
     let legal := bundleLegal b = true
     let near := rateMismatch b.fx measured = false
     let ends := fun t : State => t.bundle = s.bundle ∧ t.engineSt = s.engineSt ∧
       (s.startStep = 8 → t.startStep = 0xFE ∧ t.rd 0x1100 0x07 = 8)
     (ready → mine → legal → near → s.tablesRefused b = false → programsOk b = true →
       Completes (exec (.bundleActivation measured) s) (fun t => t.bundle = some b ∧ t.startup.everActive = true ∧
         (s.rd 0x2020 0x01 = 2 → t.engineSt = 1 ∧ t.startup.engineDue = false) ∧
         (s.rd 0x2020 0x01 ≠ 2 → t.engineSt = s.engineSt ∧ t.startup.engineDue = true) ∧
         (s.bundle ≠ some b → t.rd 0x4001 0x01 = b.fx ∧ t.rd 0x4001 0x02 = b.S ∧ t.rd 0x4001 0x04 = b.L ∧
           t.rd 0x4001 0x03 = 10 ^ 15 / (b.S * b.fx) ∧ t.rd 0x5800 0x05 = b.slotMapId) ∧
         (s.bundle = some b → s.rd 0x2020 0x01 ≠ 2 → t.rd 0x2020 0x01 = 1 ∧ t.srcSt 4 = 1 ∧
           (s.startStep = 8 → t.startup.switchDue = true)))) ∧
     (ready → mine → bundleLegal b = false → Completes (exec (.bundleActivation measured) s) ends) ∧
     (ready → mine → legal → rateMismatch b.fx measured = true → Completes (exec (.bundleActivation measured) s)
       (fun t => ends t ∧ t.rd (0x7100 + 190) 0x01 = 1 ∧ t.rd (0x7100 + 190) 0x08 = 0x70A)) ∧
     (ready → mine → legal → near → s.tablesRefused b = true → Completes (exec (.bundleActivation measured) s)
       (fun t => ends t ∧ t.rd (0x7100 + 168) 0x01 = 1 ∧ t.rd (0x7100 + 168) 0x08 = 0xA06)) ∧
     (ready → mine → legal → near → s.tablesRefused b = false → programsOk b = false →
       Completes (exec (.bundleActivation measured) s)
         (fun t => ends t ∧ t.rd (0x7100 + 317) 0x01 = 1 ∧ t.rd (0x7100 + 317) 0x08 = 0xC06)) ∧
     ((s.startup.loaded = none ∨ ¬ready) → Completes (exec (.bundleActivation measured) s) s.Unchanged) ∧
     (s.startup.warm = true → Completes (exec .warmResetDone s) (fun t =>
       t.startup.warm = false ∧ t.rd 0x1100 0x02 = s.startup.cause ∧ t.rd (0x7100 + 338) 0x01 = 1 ∧
         t.rd (0x7100 + 338) 0x08 = 0x1203 ∧ (s.bundle.isSome = true → s.rd 0x2280 0x0A ≠ 1 → s.startup.engineDue = false → t.engineSt = 1) ∧
         ((s.rd 0x2280 0x0A = 1 ∨ s.startup.engineDue = true) → t.engineSt = s.engineSt) ∧
         (s.startup.cause = 10 → t.pairSt = 1) ∧
         ∀ n, n < 64 → s.regState n = rResetting →
           (t.region n).rejoin = some (mkWave (s.xn + s.rd 0x1101 0x02) 0))) ∧
     (s.startup.warm = false → Completes (exec .warmResetDone s) s.Unchanged) ∧
     (k < 8 → Completes (exec (.vioOutOfRange k mv) s) (fun t => t.rd (0x2120 + k) 0x01 = mv % 65536 ∧
       t.rd (0x2120 + k) 0x02 = (if s.rd (0x2120 + k) 0x02 = 1 ∧ vioOk (s.rd (0x2120 + k) 0x03) (mv % 65536) = false
         then 2 else s.rd (0x2120 + k) 0x02) ∧
       { s with startup := t.startup }.OnlyEntries t [(0x2120 + k, 0x01), (0x2120 + k, 0x02)])) ∧
     (k < 8 → Completes (exec (.vioRestored k mv) s) (fun t => t.rd (0x2120 + k) 0x01 = mv % 65536 ∧
       t.rd (0x2120 + k) 0x02 = (if s.rd (0x2120 + k) 0x02 = 2 ∧ vioOk (s.rd (0x2120 + k) 0x03) (mv % 65536) = true
         then 1 else s.rd (0x2120 + k) 0x02) ∧
       (s.rd (0x2120 + k) 0x02 = 2 → vioOk (s.rd (0x2120 + k) 0x03) (mv % 65536) = true → ∀ b pin mA,
         s.bundle = some b → (pin, mA) ∈ b.drives → pin / 24 = k → s.rd (0x2120 + k) 0x03 < 6 →
         .pinDrive pin mA ∈ t.out) ∧
       { s with startup := t.startup }.OnlyEntries t [(0x2120 + k, 0x01), (0x2120 + k, 0x02)])))

/-! ### Field lanes and timing inputs (chapter 7) -/

/-- R210, R217, R218, R222, R225, R240, R244: a lane's states, readmission, configuration, counters and transmit loops.
Where the device looks for no signal, and where nothing of an event applies, the lane stays as it was.
The model's deductions: an enabled lane is LOST until its signal comes (log entry 42), and the changes that retrain a
lane (log entry 43). -/
def Obligations.LaneStates : Prop :=
  ∀ (s : State) (r : Requester) (l g p : Nat) (mask : BitVec 8) (w raw : Word64) (header : BitVec 2) (margin : Int),
    l < 512 → g < 64 → p < 8 →
    let stays := fun t : State => t = { s with
      out := []
      sourceDue := t.sourceDue }
    let line := s.rxPolarity l header raw
    let rx := decodeBlock (s.lane l).toCodeRec line.1 line.2
    let bonded := fun t : State => ∀ m ∈ s.bondMembers l, m ≠ l → s.laneSt m = 4 → t.laneSt m = 3
    (s.mayReceive l = true → (s.dom 1).lost = false → (s.laneSt l = 0 ∨ s.laneSt l = 6) →
      Completes (exec (.signalDetected l) s) (fun t => t.laneSt l = 1 ∧
        ((s.lane l).trained = true → t.ln l 0x05 = min (s.ln l 0x05 + 1) (2 ^ 32 - 1)))) ∧
    ((s.mayReceive l = false ∨ (s.dom 1).lost = true ∨ (s.laneSt l ≠ 0 ∧ s.laneSt l ≠ 6)) →
      Completes (exec (.signalDetected l) s) stays) ∧
    (s.laneSt l ≠ 0 → s.laneSt l ≠ 6 → Completes (exec (.signalLost l) s) (fun t => t.laneSt l = 6 ∧
      (s.laneSt l = 4 → t.rd (0x7100 + l / 8) 0x01 = 1 ∧ t.rd (0x7100 + l / 8) 0x08 = 0x701 ∧ bonded t))) ∧
    ((s.laneSt l = 0 ∨ s.laneSt l = 6) → Completes (exec (.signalLost l) s) stays) ∧
    (s.laneSt l = 1 → Completes (exec (.trainingDone l) s) (fun t => t.laneSt l = 2 ∧ (t.lane l).sinceAm = none ∧
      (t.lane l).matched = false)) ∧
    (s.laneSt l ≠ 1 → Completes (exec (.trainingDone l) s) stays) ∧
    (s.laneSt l = 2 → Completes (exec (.blockLock l) s) (fun t => t.laneSt l = 3 ∧ (t.lane l).hdrs = [])) ∧
    (s.laneSt l = 2 → s.looped l = false → rx.2 ≠ .headerError → headersLock rx.1 = true →
      Completes (exec (.dataBlock l header raw margin) s) (fun t => t.laneSt l = 3)) ∧
    (s.laneSt l ≠ 2 → Completes (exec (.blockLock l) s) stays) ∧
    (s.seesBlocks l = true → Completes (exec (.lossOfLock l) s) (fun t => t.laneSt l = 2 ∧
      t.ln l 0x04 = min (s.ln l 0x04 + 1) (2 ^ 32 - 1) ∧
      (s.laneSt l = 4 → t.rd (0x7100 + l / 8) 0x01 = 1 ∧ t.rd (0x7100 + l / 8) 0x08 = 0x701 ∧ bonded t))) ∧
    (s.seesBlocks l = false → Completes (exec (.lossOfLock l) s) stays) ∧
    (s.mayWrite r (0x3000 + g) 0x13 mask.toNat = true →
      let m := 8 * g + p
      Accepted (exec (.readmit r g mask) s) r (0x3000 + g) 0x13 (fun t =>
        (mask.getLsbD p = true → s.laneSt m = 5 → s.grp m 0x12 ≤ (s.lane m).matches_ →
          t.laneSt m = 3 ∧ (t.lane m).permit = false) ∧
        (mask.getLsbD p = true → s.laneSt m = 5 → (s.lane m).matches_ < s.grp m 0x12 →
          t.laneSt m = 5 ∧ (t.lane m).permit = true) ∧
        ((mask.getLsbD p = false ∨ s.laneSt m ≠ 5) → t.laneSt m = s.laneSt m ∧ t.lane m = s.lane m))) ∧
    (s.mayWrite r (0x3000 + l / 8) (l % 8) w.toNat = true → s.laneWordOk l w.toNat = true → s.engineSt ≤ 1 →
      (w.getLsbD 58 = true → s.engineSt = 0) →
      (s.bundle = none ∨ (s.scheduleFits l w.toNat && s.transmitFits l w.toNat) = true) →
      let may := s.bundle.isSome && decide (s.rd 0x2280 0x0A ≠ 1)
      Accepted (exec (.laneConfigurationWrite r l w) s) r (0x3000 + l / 8) (l % 8) (fun t =>
        t.laneCfg l = w.toNat ∧ (w.getLsbD 63 = false → t.laneSt l = 0) ∧
        (w.getLsbD 63 = true → may = false → t.laneSt l = s.laneSt l) ∧
        (w.getLsbD 63 = true → may = true → s.laneSt l = 0 → t.laneSt l = 6) ∧
        (w.getLsbD 63 = true → may = true → s.laneSt l ≠ 0 → s.laneSt l ≠ 6 →
          (s.rxRate l ≠ cfgRx w.toNat ∨ s.txRate l ≠ cfgTx w.toNat ∨ (s.laneCfg l).testBit 61 ≠ w.getLsbD 61) →
          t.laneSt l = 1))) ∧
    (s.mayWrite r (0x3000 + l / 8) (l % 8) w.toNat = true → s.laneWordOk l w.toNat = true → 2 ≤ s.engineSt →
      Completes (exec (.laneConfigurationWrite r l w) s) (fun t => .answer r abortState [] ∈ t.out ∧
        t.laneCfg l = s.laneCfg l ∧ t.laneSt l = s.laneSt l)) ∧
    (s.mayWrite r (0x3100 + l) 0x16 1 = true → Accepted (exec (.clearCounters r l) s) r (0x3100 + l) 0x16 (fun t =>
      ∀ i ∈ [0x02, 0x03, 0x04, 0x05, 0x0A, 0x0C, 0x0D, 0x0E, 0x10, 0x14, 0x17], t.ln l i = 0)) ∧
    Completes (exec (.transmitLoopRelock g) s) (fun t => (t.txLane (8 * g + p)).relock = false ∧
      ((s.txLane (8 * g + p)).relock = false → t.ln (8 * g + p) 0x13 = s.ln (8 * g + p) 0x13) ∧
      ((s.txLane (8 * g + p)).relock = true → s.txEn (8 * g + p) = true → s.bundle.isSome = true →
        s.rd 0x2280 0x0A ≠ 1 → t.ln (8 * g + p) 0x13 ≠ 0))

/-- R203, R204, R208: what a block is: an alignment marker in clear, at its place; else descrambled, by its header.
R205 to R207, R210, R212 to R214, R217, R219, R220, R222, R223: the blocks that a lane receives: payload, header errors,
the control types, type and marker errors, crossing markers, admission, the entry into STRANGER; a lane in loopback takes
none from outside.
The model's deductions: the payload of a block with an invalid header goes through the descrambler (log entry 45); a
rejected marker counts on an ADMITTED lane only (log entry 206, DESIGN CHOICE). -/
def Obligations.LaneBlocks : Prop :=
  (∀ (x : CodeRec) (header : BitVec 2) (raw : Word64),
     let y := decodeBlock x header raw
     let clear := header = 0b10 ∧ ctlType raw = 0x4B ∧ chkOk (ctlBody raw) = true ∧
       (∀ k, x.sinceAm = some k → (k + 1) % 16384 = 0)
     (clear → y.2 = .marker (ctlBody raw) ∧ y.1.sinceAm = some 0 ∧ y.1.descr = x.descr) ∧
     (¬clear → y.1.descr = (descramble x.descr raw).1 ∧ y.1.sinceAm = x.sinceAm.map (· + 1) ∧
       (header = 0b01 → y.2 = .data (descramble x.descr raw).2) ∧
       (header = 0b10 → y.2 = .control (descramble x.descr raw).2) ∧
       (header = 0b00 ∨ header = 0b11 → y.2 = .headerError))) ∧
  (∀ (s : State) (l c n nb : Nat) (raw p : Word64) (body : BitVec 56) (header : BitVec 2) (margin off : Int)
     (skew : Nat), l < 512 → s.seesBlocks l = true → s.looped l = false →
     let x := s.lane l
     let rx := fun h => decodeBlock x.toCodeRec (s.rxPolarity l h raw).1 (s.rxPolarity l h raw).2
     let ctl := (rx 0b10).2
     let b := ctlBody p
     let xc := bodyField b 55 40
     let named := (s.namedCrossing xc).1
     let inTime := (s.namedCrossing xc).2 ≤ (s.laneSchedule l).offset ∧ x.refC.all (fun q => serialLater 16 q xc) = true
     let takes := x.cur = some (c, n, nb) ∧ s.laneSt l = 4 ∧ (nb = 1023 ∨ n < nb) ∧
       n < (s.laneSchedule l).steps.length ∧ s.slotPast l c = false
     let placed := fun (uc : Bool) (t : State) =>
       ((0 ≤ margin ∨ ∀ o ∈ x.slots, o.c = c → o.closed = false) → (t.lane l).cur = some (c, n + 1, nb)) ∧
       (t.lane l).deskew = x.deskew ++ (if margin < 0 then [] else [{ c := c, j := n, payload := p, uc := uc }])
     let frev := bodyField b 31 16
     let matching := bodyField b 55 32 = s.grp l (0x08 + l % 8) ∧ s.grp l 0x16 ≤ frev ∧ frev ≤ s.grp l 0x17
     let errs := fun t : State => t.ln l 0x03 = min (s.ln l 0x03 + 1) (2 ^ 32 - 1) ∧ (t.lane l).deskew = x.deskew
     ((rx header).2 = .data p → takes → Completes (exec (.dataBlock l header raw margin) s) (fun t => placed false t ∧
       (t.lane l).descr = (rx header).1.descr)) ∧
     ((rx header).2 = .data p → x.cur = some (c, n, nb) → s.laneSt l = 4 → nb ≠ 1023 → nb ≤ n →
       Completes (exec (.dataBlock l header raw margin) s) (fun t => (t.lane l).deskew = x.deskew ∧
         (n = nb → t.ln l 0x0E = min (s.ln l 0x0E + 1) (2 ^ 32 - 1) ∧ t.rd (0x7100 + l / 8) 0x01 = 1))) ∧
     ((rx header).2 = .data p → x.cur = none → Completes (exec (.dataBlock l header raw margin) s) (fun t =>
       (t.lane l).deskew = x.deskew ∧ (t.lane l).slots = x.slots)) ∧
     ((rx header).2 = .headerError → headersLost (rx header).1 = false →
       Completes (exec (.dataBlock l header raw margin) s) (fun t => (t.lane l).cur = none ∧
         t.ln l 0x02 = min (s.ln l 0x02 + 1) (2 ^ 64 - 1) ∧ (t.lane l).deskew = x.deskew ∧ t.laneSt l = s.laneSt l)) ∧
     ((rx header).2 = .headerError → headersLost (rx header).1 = true →
       Completes (exec (.dataBlock l header raw margin) s) (fun t => t.laneSt l = 2 ∧
         t.ln l 0x04 = min (s.ln l 0x04 + 1) (2 ^ 32 - 1))) ∧
     (ctl = .control p → ctlType p = 0x33 → chkOk b = true → s.laneSt l = 4 → x.mismatch = false → inTime →
       Completes (exec (.crossingMarker l raw off) s) (fun t => t.laneSt l = 4 ∧
         (t.lane l).cur = some (named, 0, bodyField b 39 30) ∧ (t.lane l).refC = some named)) ∧
     (ctl = .control p → ctlType p = 0x33 → chkOk b = true → s.laneSt l = 3 → x.mismatch = false → inTime →
       s.admissible l = true → Completes (exec (.crossingMarker l raw off) s) (fun t =>
         (∀ m ∈ s.bondMembers l, t.laneSt m = 4) ∧ (t.lane l).cur = some (named, 0, bodyField b 39 30))) ∧
     (ctl = .control p → ctlType p = 0x33 → chkOk b = true → (s.laneSt l = 3 ∨ s.laneSt l = 4) → x.mismatch = true →
       Completes (exec (.crossingMarker l raw off) s) (fun t => t.laneSt l = 5 ∧
         t.ln l 0x0A = min (s.ln l 0x0A + 1) (2 ^ 32 - 1) ∧ t.ln l 0x0B = named % 2 ^ 48 ∧
         t.rd (0x7100 + l / 8) 0x01 = 1 ∧ t.rd (0x7100 + l / 8) 0x08 = 0x702)) ∧
     (ctl = .control p → ctlType p = 0x33 → chkOk b = false → Completes (exec (.crossingMarker l raw off) s) (fun t =>
       errs t ∧ (t.lane l).cur = none)) ∧
     (ctl = .marker body → Completes (exec (.alignmentMarker l raw skew) s) (fun t =>
       t.ln l 0x07 = bodyField body 46 23 ∧ t.ln l 0x08 = bodyField body 55 47 ∧ t.ln l 0x11 = skew ∧
       (t.lane l).amcs.head? = some (bodyField body 22 8, skew) ∧ (t.lane l).descr = x.descr ∧
       (t.lane l).sinceAm = some 0 ∧ (t.lane l).matched = false ∧
       (if bodyField body 55 47 = l ∧ bodyField body 46 23 = s.grp l (0x08 + l % 8) then (t.lane l).pendSi = true
         else (t.lane l).matches_ = 0 ∧ (t.lane l).mismatch = (x.mismatch || s.laneSt l = 3 || s.laneSt l = 4)))) ∧
     (ctl = .control p → ctlType p = 0x55 → chkOk b = true → matching → x.pendSi = true → s.laneSt l ≠ 5 →
       Completes (exec (.sourceIdentifierBlock l raw) s) (fun t => (t.lane l).matched = true ∧
         (t.lane l).matches_ = x.matches_ + 1 ∧ t.ln l 0x09 = frev)) ∧
     (ctl = .control p → ctlType p = 0x55 → chkOk b = true → matching → x.pendSi = true → s.laneSt l = 5 →
       s.grp l 0x12 ≤ x.matches_ + 1 → (s.rdBit (0x3000 + l / 8) 0x11 1 = true ∨ x.permit = true) →
       Completes (exec (.sourceIdentifierBlock l raw) s) (fun t => t.laneSt l = 3 ∧ (t.lane l).mismatch = false)) ∧
     (ctl = .control p → ctlType p = 0x55 → chkOk b = true → ¬matching →
       Completes (exec (.sourceIdentifierBlock l raw) s) (fun t => (t.lane l).matched = false ∧
         (t.lane l).matches_ = 0 ∧ (t.lane l).mismatch = (x.mismatch || s.laneSt l = 3 || s.laneSt l = 4))) ∧
     (ctl = .control p → ctlType p = 0x1E → Completes (exec (.idleBlock l raw) s) (fun t =>
       (t.lane l).cur = x.cur ∧ (t.lane l).deskew = x.deskew ∧ (t.lane l).slots = x.slots ∧
       (t.lane l).descr = (rx 0b10).1.descr)) ∧
     (ctl = .control p → ctlType p = 0x66 → takes →
       Completes (exec (.userControlBlock l raw margin) s) (placed true)) ∧
     (ctl = .control p → ctlType p = 0x78 → chkOk b = true → takes →
       Completes (exec (.pairRoleBlock l raw margin) s) (placed true)) ∧
     (ctl = .control p → ctlType p = 0x78 → chkOk b = false →
       Completes (exec (.pairRoleBlock l raw margin) s) errs) ∧
     (ctl = .control p → (∀ y ∈ [0x1E, 0x33, 0x55, 0x66, 0x78], ctlType p ≠ y) →
       Completes (exec (.typeError l raw) s) (fun t => errs t ∧ (t.lane l).cur = x.cur))) ∧
  (∀ (s : State) (l : Nat) (header : BitVec 2) (raw : Word64) (margin : Int), l < 512 →
     (s.looped l = true ∨ (s.seesBlocks l = false ∧ s.laneSt l ≠ 2)) →
     Completes (exec (.dataBlock l header raw margin) s) (fun t => t = { s with
       out := []
       sourceDue := t.sourceDue }))

/-- R204: the descrambler undoes the scrambler from the same state and ends in the state that the scrambler ends in;
one payload received brings it into step from any state.
R205, R206, R208, R225, R226, R228, R241: the control blocks that the device sends carry their TYPE and a valid CHK; the
line is filled with idle up to the place of an alignment marker, which its source-identifier block follows; a release lane
opens each crossing with a marker, and a void token is one idle block; TXINV inverts every bit.
The model's choices: the idle fill up to the place of a marker (log entry 154), and what the polarity bit inverts (log
entry 156). -/
def Obligations.LaneTransmit : Prop :=
  (∀ (st st' : BitVec 58) (d : Word64),
     descramble st (scramble st d).2 = ((scramble st d).1, d) ∧
     (descramble st' (scramble st d).2).1 = (scramble st d).1) ∧
  (∀ (s : State) (l type upper wtag data : Nat) (late : Bool), l < 512 → type < 256 → upper < 2 ^ 48 →
     let inv := (s.laneCfg l).testBit 59
     let hdr : BitVec 2 := if inv then 0b01 else 0b10
     let onLine := fun v : Word64 => if inv then ~~~v else v
     let plain := s.looped l = false ∧ (∀ k, (s.txLane l).sent = some k → k < 16384)
     let gap := ((s.txLane l).sent.map (fun k => 16384 - k)).getD 0
     let marker := markerBlock 0x33 (s.xn % 2 ^ 16 * 2 ^ 32 + 1023 * 2 ^ 22)
     (ctlType (markerBlock type upper) = type ∧ chkOk (ctlBody (markerBlock type upper)) = true ∧
       (ctlBody (markerBlock type upper)).toNat / 256 = upper) ∧
     (s.txSends l = true → s.looped l = false → Completes (exec (.txAlignmentMarker l) s) (fun t =>
       ∃ fill am si raw, t.out = fill ++ [.block l hdr am (onLine am), .block l hdr si (onLine raw)] ∧
         fill.length = gap ∧ (∀ o ∈ fill, ∃ v, o = .block l hdr 0x1E v) ∧
         ctlType am = 0x4B ∧ chkOk (ctlBody am) = true ∧ bodyField (ctlBody am) 55 47 = l ∧
         bodyField (ctlBody am) 46 23 = s.grp l (0x18 + l % 8) % 2 ^ 24 ∧
         bodyField (ctlBody am) 22 8 = ((s.txLane l).amc + 1) % 2 ^ 15 ∧
         ctlType si = 0x55 ∧ chkOk (ctlBody si) = true ∧
         bodyField (ctlBody si) 55 32 = s.grp l (0x18 + l % 8) % 2 ^ 24 ∧
         (gap = 0 → (descramble (s.txLane l).scr raw).2 = si) ∧ (t.txLane l).sent = some 2 ∧
         (t.txLane l).amc = ((s.txLane l).amc + 1) % 2 ^ 15)) ∧
     (s.txSends l = false → Completes (exec (.txAlignmentMarker l) s) s.Unchanged) ∧
     (s.txSends l = true → s.isReleaseLane l = true → plain → (s.txRelease l wtag true late data).out = s.out ++
       [.block l hdr (voidIdle late wtag) (onLine (scramble (s.txLane l).scr (voidIdle late wtag)).2)]) ∧
     (s.txSends l = true → s.isReleaseLane l = true → s.engineSt ≠ 0 → (s.grp l 0x14).testBit (l % 8) = false → plain →
       (s.txCrossing l).out = s.out ++ [.block l hdr marker (onLine (scramble (s.txLane l).scr marker).2)]) ∧
     (s.engineSt = 0 → s.txCrossing l = s))

/-- R230 to R236, R238, R243: a timing input's states, the frame of its crossing markers, the source that the mode
selects, the moves at a crossing edge, the compensated edge of the other input, and the payload of the active input.
The model's deductions and choices: the adoption of an input (log entry 87), the way block 0 is found (log entry 157),
and the edge shown while neither input is active (log entry 189). -/
def Obligations.TimingInputs : Prop :=
  ∀ (s : State) (r : Requester) (i v w q : Nat) (header : BitVec 2) (raw p : Word64) (off margin : Int), i < 2 → w < 3 →
    let x := s.tim i
    let k := s.rd 0x3300 0x08
    let rx := decodeBlock x.toCodeRec header raw
    let b := ctlBody p
    let kept := headersLost rx.1 = false
    let marker := rx.2 = .control p ∧ ctlType p = 0x33 ∧ x.pos = some q
    let good := marker ∧ chkOk b = true ∧ k ≤ q + 1 ∧ bodyField b 55 8 = (x.lastXn + 1) % 2 ^ 48
    let row := exec (.timingCrossingMarker i header raw off) s
    let edge := off + (s.rd 0x3300 (0x05 + i) : Int) + toI32 (s.rd 0x8000 0x07)
    let downs := fun t : State => t.timSt i = 0 ∧ t.rd (0x7100 + 188 + i) 0x01 = 1 ∧ t.rd (0x7100 + 188 + i) 0x08 = 0x707
    let next := if w = 2 then s.xn / 2 ^ 16 * 2 ^ 16 + (s.tim 2).lastXn % 2 ^ 16 else (s.tim w).lastXn
    let due := (s.tim w).edgePs + (if w < 2 then (s.rd 0x3300 (0x05 + w) : Int) + toI32 (s.rd 0x8000 0x07) else 0)
    let near := next % 2 ^ 48 = s.xn ∧ -200 ≤ due ∧ due ≤ 200
    (s.timSt i = 0 → s.timRateOk = true → (s.dom 1).lost = false → Completes (exec (.signalDetected (520 + i)) s) (fun t => t.timSt i = 1)) ∧
    ((s.timSt i ≠ 0 ∨ s.timRateOk = false ∨ (s.dom 1).lost = true) → Completes (exec (.signalDetected (520 + i)) s) (fun t =>
      t.timSt i = s.timSt i)) ∧
    (s.timSt i = 1 → Completes (exec (.blockLock (520 + i)) s) (fun t => t.timSt i = 2 ∧ (t.tim i).good = 0 ∧
      (t.tim i).pos = none)) ∧
    (s.timSt i = 0 → Completes row s.Unchanged) ∧
    (2 ≤ s.timSt i → x.bad < 2 → kept → rx.2 = .control p → ctlType p = 0x33 → chkOk b = true → x.pos = none →
      x.good < 1024 → Completes row (fun t => t.timSt i = s.timSt i ∧ (t.tim i).pos = some 0 ∧
        (t.tim i).lastXn = bodyField b 55 8)) ∧
    (s.timSt i = 2 → kept → good → Completes row (fun t => (t.tim i).pos = some 0 ∧ (t.tim i).good = x.good + 1 ∧
      (t.tim i).bad = 0 ∧ t.timSt i = if x.good + 1 < 1024 then 2 else 3)) ∧
    (s.timSt i = 3 → kept → good → Completes row (fun t => t.timSt i = 3 ∧ (t.tim i).bad = 0 ∧
      (t.tim i).lastXn = bodyField b 55 8 ∧
      (s.source ≠ i → -2147483648 ≤ edge → edge ≤ 2147483647 → t.rd 0x3300 0x0D = i32 edge))) ∧
    ((s.timSt i = 2 ∨ s.timSt i = 3) → marker → ¬good → 1 ≤ x.bad → Completes row downs) ∧
    ((s.timSt i = 2 ∨ s.timSt i = 3) → marker → ¬good → x.bad = 0 → kept → Completes row (fun t =>
      t.timSt i = s.timSt i ∧ (t.tim i).bad = 1 ∧ (t.tim i).good = 0)) ∧
    ((s.timSt i = 2 ∨ s.timSt i = 3) → x.pos = some q → k ≤ q + 1 → (∀ y, rx.2 = .control y → ctlType y ≠ 0x33) →
      1 ≤ x.bad → Completes row downs) ∧
    ((s.timSt i = 2 ∨ s.timSt i = 3) → headersLost rx.1 = true → Completes row downs) ∧
    exec (.dataBlock (520 + i) header raw margin) s = exec (.timingUserControl i header raw) s ∧
    exec (.crossingMarker (520 + i) raw off) s = exec (.timingCrossingMarker i 0b10 raw off) s ∧
    Completes (exec (.timingInputLost i) s) downs ∧
    (s.mayWrite r 0x3300 0x01 v = true → v ≤ 5 → Accepted (exec (.selectionModeWrite r v) s) r 0x3300 0x01 (fun t =>
      t.rd 0x3300 0x01 = v ∧ t.source = s.source ∧ (v = 5 → t.sourceDue = if s.source = 3 then none else some 3) ∧
      (v < 2 → s.timSt v = 3 → t.sourceDue = if s.source = v then none else some v) ∧
      (v = 2 → s.timSt 0 = 3 → t.sourceDue = if s.source = 0 then none else some 0) ∧
      (v = 3 → s.timSt 1 = 3 → t.sourceDue = if s.source = 1 then none else some 1))) ∧
    (s.sourceDue = none → Completes (exec .sourceMove s) s.Unchanged) ∧
    (s.sourceDue = some 3 → Completes (exec .sourceMove s) (fun t => t.source = 3 ∧ t.sourceDue = none ∧
      t.rd 0x3300 0x0A = counterNext 32 (ent 0x3300 0x0A) (s.rd 0x3300 0x0A) ∧ t.rd (0x7100 + 190) 0x01 = 1 ∧
      t.rd (0x7100 + 190) 0x08 = 0x708 ∧ t.xn = s.xn)) ∧
    (s.sourceDue = some w → s.inRun = true → near → Completes (exec .sourceMove s) (fun t => t.source = w ∧
      t.xn = s.xn ∧ t.sourceDue = none ∧
      t.rd 0x3300 0x0A = counterNext 32 (ent 0x3300 0x0A) (s.rd 0x3300 0x0A))) ∧
    (s.sourceDue = some w → s.inRun = true → ¬near → Completes (exec .sourceMove s) (fun t => t.xn = s.xn ∧
      t.sourceDue = none ∧ t.rd 0x3300 0x0B = counterNext 32 (ent 0x3300 0x0B) (s.rd 0x3300 0x0B) ∧
      t.rd (0x7100 + 190) 0x01 = 1 ∧ t.source = (if s.tracking s.source then s.source else 3) ∧
      t.rd (0x7100 + 190) 0x08 = (if s.tracking s.source then 0x709 else 0x708))) ∧
    (s.sourceDue = some w → s.inRun = false → Completes (exec .sourceMove s) (fun t => t.source = w ∧ t.xn = next ∧
      t.rd 0x4002 0x04 = t.waveIdx % 256)) ∧
    (2 ≤ s.timSt i → x.bad < 2 → x.good < 1024 → kept → rx.2 = .control p → ctlType p = 0x66 →
      (∀ y, x.pos = some y → y + 1 < k) → Completes (exec (.timingUserControl i header raw) s) (fun t =>
        (s.source = i → t.rd 0x3300 0x0C = b.toNat ∧ t.timingNew = true) ∧
        (s.source ≠ i → (t.tim i).dropped = x.dropped + 1 ∧ t.rd 0x3300 0x0C = s.rd 0x3300 0x0C ∧
          t.timingNew = s.timingNew)))

/-! ### The look-back store (chapter 8) -/

/-- R251, R255, R257, R258, R262 to R265, R273, R276, R277, R345: slots as they are written, or late; class C; refresh
windows; scrub reads; injected errors; a failed stack; a record read; BAR2 writes, which have no effect but their
count.
The model's deduction: no slot is written during a stop of domain LBIF (log entry 161). -/
def Obligations.LookbackStore : Prop :=
  ∀ (s : State) (r : Requester) (st c k offset : Nat) (v : BitVec 64) (bytes : List Byte), st < 577 → k < 8 →
    let e := s.slotEntry st
    let lines := s.slotLines e c
    let ready := s.bundle.isSome = true ∧ s.lbif = none ∧ s.stored st c = true ∧ s.slotReady st c = true
    let late := s.stored st c = true ∧ s.slotClosed st c = true ∧ s.slotHolds st c ≠ c + 1
    let pos := Sparse.get (fun _ => 0) s.scrubPos k
    let window := fun t : State => Sparse.get (fun _ => 0) t.nextWindow k
    let x := classifyLine pos (s.line k pos)
    let scrub := exec (.lookbackScrubRead k) s
    let next := fun t : State => Sparse.get (fun _ => 0) t.scrubPos k = (pos + 1) % 2 ^ 32
    let stack := v.toNat / 2 ^ 61
    let j := v.toNat / 2 ^ 48 % 128
    let la := v.toNat % 2 ^ 32
    let asked := s.fresh.retrieve (s.rd 0x5840 0x01) (s.rd 0x5840 0x02 % 2 ^ 48) (s.rd 0x5840 0x02 / 2 ^ 48 % 16)
    (ready → (∀ a ∈ lines, a < 2 ^ 32) → Completes (exec (.slotWritten st c) s) (fun t =>
      t.slotHolds st c = c + 1 ∧ ∀ i a, a < 2 ^ 32 →
        t.line i a = if i = seStack e ∧ a ∈ lines then encodeLine a (s.frameLine i a c) else s.line i a)) ∧
    (¬ready → Completes (exec (.slotWritten st c) s) s.Unchanged) ∧
    (late → Completes (exec (.slotWriteLate st c) s) (fun t => t.rd (0x7100 + 136 + seStack e) 0x01 = 1 ∧
      t.rd (0x7100 + 136 + seStack e) 0x08 = 0x805 ∧ t.lines = s.lines)) ∧
    (¬late → Completes (exec (.slotWriteLate st c) s) s.Unchanged) ∧
    (s.storeCool = true → s.rdBit 0x5800 0x06 2 = false → Completes (exec .classCRestart s) (fun t =>
      t.rdBit 0x5800 0x06 2 = true ∧ t.rd (0x7100 + 136) 0x01 = 1 ∧ t.rd (0x7100 + 136) 0x08 = 0x807)) ∧
    ((s.storeCool = false ∨ s.rdBit 0x5800 0x06 2 = true) → Completes (exec .classCRestart s) s.Unchanged) ∧
    (window s ≠ 0 → s.rd 0x2280 0x0A ≠ 1 → Completes (exec (.refresh k) s) (fun t =>
      t.rd (0x5810 + k) 0x05 = window s ∧ window t = 0)) ∧
    ((window s = 0 ∨ s.rd 0x2280 0x0A = 1) → Completes (exec (.refresh k) s) s.Unchanged) ∧
    (s.lbif.isSome = true → Completes scrub s.Unchanged) ∧
    (s.lbif = none → s.lineDue k pos = true → Completes scrub (fun t => next t ∧ t.lines = s.lines ∧
      (pos + 1 = 2 ^ 32 →
        t.rd (0x5810 + k) 0x07 = counterNext 32 (ent (0x5810 + k) 0x07) (s.rd (0x5810 + k) 0x07)))) ∧
    (s.lbif = none → s.lineDue k pos = false → x.1 = lnClean → Completes scrub (fun t => next t ∧ t.lines = s.lines)) ∧
    (s.lbif = none → s.lineDue k pos = false → x.1 = lnCorrected → Completes scrub (fun t => next t ∧
      t.line k pos = x.2.2 ∧
      t.rd (0x5810 + k) 0x01 = counterNext 64 (ent (0x5810 + k) 0x01) (s.rd (0x5810 + k) 0x01))) ∧
    (s.lbif = none → s.lineDue k pos = false → (x.1 = lnUncorrectable ∨ x.1 = lnAddressFault) →
      Completes scrub (fun t => next t ∧ t.lines = s.lines ∧ t.rd (0x5810 + k) 0x08 = pos ∧
        t.rd (0x7100 + 136 + k) 0x01 = 1 ∧
        t.rd (0x7100 + 136 + k) 0x08 = (if x.1 = lnUncorrectable then 0x802 else 0x803))) ∧
    (s.mayWrite r 0x5860 0x00 v.toNat = true → v.toNat / 2 ^ 55 % 64 = 0 → v.toNat / 2 ^ 32 % 256 = 0 → j ≤ 71 →
      Accepted (exec (.injectLineError r v) s) r 0x5860 0x00 (fun t =>
        t.line stack la = s.line stack la ^^^
          BitVec.ofNat 576 (v.toNat / 2 ^ 40 % 256 * 256 ^ (if j < 8 then 64 + j else j - 8)) ∧
        (∀ i a, a < 2 ^ 32 → (i ≠ stack ∨ a ≠ la) → t.line i a = s.line i a) ∧
        t = { s with
          out := []
          lines := t.lines })) ∧
    (s.mayWrite r 0x5860 0x00 v.toNat = true →
      (v.toNat / 2 ^ 55 % 64 ≠ 0 ∨ v.toNat / 2 ^ 32 % 256 ≠ 0 ∨ 71 < j) →
      Completes (exec (.injectLineError r v) s) (fun t => .answer r abortValue [] ∈ t.out ∧ t.lines = s.lines)) ∧
    (s.rd 0x5801 (k + 1) ≠ 3 → Completes (exec (.stackFailed k) s) (fun t => t.rd 0x5801 (k + 1) = 3 ∧
      t.rd (0x7100 + 136 + k) 0x01 = 1 ∧ t.rd (0x7100 + 136 + k) 0x08 = 0x804 ∧
      (seStack e = k → t.stored st c = false))) ∧
    (s.rd 0x5801 (k + 1) = 3 → Completes (exec (.stackFailed k) s) s.Unchanged) ∧
    (s.mayRead r true 0x5841 0x00 = true → ∀ status slot, asked.1 = some (status, slot) →
      Completes (exec (.recordRead r) s) (fun t => t.rd 0x5840 0x03 = status ∧
        .answer r 0 (if status ≤ 4 then slot else []) ∈ t.out)) ∧
    (s.mayRead r true 0x5841 0x00 = true → asked.1 = none → Completes (exec (.recordRead r) s) (fun t =>
      (∃ h ∈ t.heldReqs, h.who = some r ∧ h.stream = s.rd 0x5840 0x01) ∧ t.rd 0x5840 0x03 = s.rd 0x5840 0x03)) ∧
    Completes (exec (.bar2Write offset bytes) s) (fun t =>
      t.rd 0x6101 0x03 = counterNext 32 (ent 0x6101 0x03) (s.rd 0x6101 0x03) ∧ s.OnlyEntries t [(0x6101, 0x03)])

/-- R261: the virtual symbols of a line address, and that one bit of LA feeds one bit of them. R260, R262, R263: a line
that was written reads back clean at its own address, and a stored symbol that is damaged afterwards is corrected. -/
def Obligations.LineCode : Prop :=
  ∀ (la i j mask : Nat) (data : List Byte), la < 2 ^ 32 → data.length = 64 → j < 72 → 0 < mask → mask < 256 →
    let a := fun x : Nat => BitVec.ofNat 16 x ^^^ BitVec.ofNat 16 (x / 65536)
    lineTag la = [(a la).extractLsb' 0 8, (a la).extractLsb' 8 8] ∧
    (i < 32 → ∃ b, b < 16 ∧ a (la ^^^ 2 ^ i) = a la ^^^ (1#16 <<< b)) ∧
    classifyLine la (encodeLine la data) = (lnClean, data, encodeLine la data) ∧
    classifyLine la (encodeLine la data ^^^ BitVec.ofNat 576 (mask * 256 ^ j)) = (lnCorrected, data, encodeLine la data)

/-- R19, R21, R22, R258, R263, R267 to R271, R444: what a retrieval of a stream's slot answers: 9 beyond the store's
horizon, 8 outside its window or where a later slot has taken the place, 5 for a slot that is not stored or that its
stack's controller does not have; a slot still to be written is waited for, and every slot while domain LBIF stands; a
stored one is answered with a status from 0 to 7, and no more bytes than its size.
The model's choice: status 5 for a stream of another stack (log entry 88). -/
def Obligations.LookbackRetrievals : Prop :=
  ∀ (s : State) (j st xn era : Nat),
    let c := s.resolve xn
    let n := c.toNat
    let now : Int := s.crossing
    let e := s.slotEntry st
    let inside := st < 577 ∧ c ≤ now + 64 ∧ 0 ≤ c ∧ c / 2 ^ 48 % 16 = ((era % 16 : Nat) : Int) ∧
      now - c < (s.depth : Int) ∧ (s.activationC : Int) ≤ c
    let open_ := inside ∧ seEn e = true ∧ s.lbif = none ∧ s.skipKnown st n = false
    ((577 ≤ st ∨ now + 64 < c) → s.retrieve st xn era = (some (9, []), s)) ∧
    (st < 577 → c ≤ now + 64 → ¬inside → s.retrieve st xn era = (some (8, []), s)) ∧
    (inside → seEn e = false → s.retrieve st xn era = (some (5, []), s)) ∧
    (inside → seEn e = true → s.lbif.isSome = true → s.retrieve st xn era = (none, s)) ∧
    (inside → seEn e = true → s.lbif = none → s.skipKnown st n = true → s.retrieve st xn era = (some (5, []), s)) ∧
    (open_ → n + 1 < s.slotHolds st n → s.retrieve st xn era = (some (8, []), s)) ∧
    (open_ → s.slotHolds st n ≤ n → s.slotClosed st n = true → s.stored st n = false →
      s.retrieve st xn era = (some (5, []), s)) ∧
    (open_ → s.slotHolds st n ≤ n → (s.slotClosed st n = false ∨ s.stored st n = true) →
      s.retrieve st xn era = (none, s)) ∧
    (open_ → s.slotHolds st n = n + 1 → s.stored st n = false → s.retrieve st xn era = (some (5, []), s)) ∧
    (open_ → s.slotHolds st n = n + 1 → s.stored st n = true → ∃ status slot u,
      s.retrieve st xn era = (some (status, slot), u) ∧ status ≤ 7 ∧ slot.length ≤ 32 * seSize e ∧
      (4 < status → slot = [])) ∧
    (inside → seEn e = true → seStack e ≠ j → s.retrieveAt j st xn era = (some (5, []), s))

/-! ### Stack ports, the flock and the redundant pair (chapter 9) -/

/-- R279, R280, R282, R284 to R290, R293, R295, R296, R316, R319: a port's states and what it was told: crossing markers,
pair-role blocks, whole rows of markers, wave records, echoes, run messages, messages that it does not take; its
configuration and counters. A port that is off, lost, training or in loopback takes nothing from outside.
The model's deductions: the run message is repeated in OFF, PRIMING, RUNNING and DRAINING (log entry 172), and the
source-identifier block of lane 15 ends a row of markers (log entry 171). -/
def Obligations.StackPorts : Prop :=
  ∀ (s : State) (r : Requester) (p q op mseq arg skew rt : Nat) (blocks : List PortBlock) (arrival : Int) (w : Word64)
    (word : Word64) (start stop join : BitVec 48) (head : Word64) (data : List Word64) (cont : List (BitVec 48))
    (am si : Nat → Word64), p < 8 →
    let x := s.port p
    let b := ctlBody w
    let xn := bodyField b 55 8
    let cable := (rt - 60000) / 2 / 10 * 10
    let e := arrival - 18000 - (s.pt p 0x07 : Nat)
    let cross := exec (.portCrossingMarker p blocks arrival) s
    let opens := s.BringsControl p blocks w ∧ ctlType w = 0x33
    let row := rowDecode x.lanes blocks = (List.range 16).map (fun i => .marker (ctlBody (am i))) ++
      (List.range 16).map (fun i => .control (si i)) ∧ blocks.map (fun y => y.lane) = List.range 16 ++ List.range 16 ∧
      ∀ i, i < 16 → ctlType (si i) = 0x55 ∧ chkOk (ctlBody (si i)) = true
    let sid := s.pt p 0x03
    let runs := exec (.run p blocks) s
    let mayRun := s.Brings p blocks 0x04 mseq arg [start, stop, join] ∧ s.portMode p = 1 ∧ s.isUpward p = true ∧
      s.isBellwether = false ∧ s.takesMsgs p = true
    let joins := start = 0 ∧ s.engineSt = 1 ∧ s.startPending = false ∧ s.rd 0x8000 0x01 = 2 ∧ stop = 0
    (opens → s.portSt p = 3 → x.mismatch = false → x.identityOk = true → x.frevOk = true → x.skewOk = true →
      x.measured = true → s.pt p 0x07 ≤ s.pt p 0x06 → Completes cross (fun t => t.portSt p = 4 ∧
        (t.port p).rxXn = xn ∧ (s.edgeLag p arrival = 0 → -2147483648 ≤ e → e ≤ 2147483647 → t.pt p 0x10 = i32 e))) ∧
    (opens → (s.portSt p = 3 ∨ s.portSt p = 4) → x.mismatch = true → Completes cross (fun t => t.portSt p = 5 ∧
      t.rd (0x7100 + 128 + p) 0x01 = 1 ∧ t.rd (0x7100 + 128 + p) 0x08 = 0x902)) ∧
    (opens → s.portSt p = 4 → x.mismatch = false → s.rd 0x8000 0x06 = p → s.edgeLag p arrival = 0 → Completes cross
      (fun t => t.portSt p = 4 ∧ (s.engineSt ≤ 1 → t.xn = xn ∧ t.pair.trimSet = true) ∧
        (2 ≤ s.engineSt → t.xn = s.xn ∧ (xn ≠ s.xn → t.rd (0x7100 + 257) 0x01 = 1 ∧
          t.rd 0x8000 0x0A = counterNext 32 (ent 0x8000 0x0A) (s.rd 0x8000 0x0A))))) ∧
    ((s.portSt p < 2 ∨ s.portSt p = 6 ∨ s.portLooped p = true) → Completes cross s.Unchanged ∧
      Completes (exec (.waveRecord p blocks) s) s.Unchanged) ∧
    (s.BringsControl p blocks w → ctlType w = 0x78 → s.takesMsgs p = true →
      Completes (exec (.portPairRoleBlock p blocks) s) (fun t => (t.port p).role = bodyField b 55 54 ∧
        (t.port p).epoch = some (bodyField b 47 32) ∧ (bodyField b 55 54 = 1 → t.pair.leadSeen = true))) ∧
    (s.portLooped p = false → (s.portSt p = 3 ∨ s.portSt p = 4) → row → s.portMode p = 1 →
      Completes (exec (.portAlignmentMarker p blocks skew) s) (fun t => t.pt p 0x0A = skew ∧
        t.pt p 0x04 = bodyField (ctlBody (am 15)) 46 23 ∧ t.pt p 0x05 = bodyField (ctlBody (si 15)) 31 16 ∧
        ((∀ i, i < 16 → bodyField (ctlBody (am i)) 46 23 = sid ∧ bodyField (ctlBody (am i)) 55 47 = 16 * q + i ∧
            bodyField (ctlBody (si i)) 55 32 = sid ∧ bodyField (ctlBody (si i)) 31 16 = 1) →
          (t.port p).identityOk = true ∧ (t.port p).matches_ = x.matches_ + 1 ∧ (t.port p).mismatch = x.mismatch) ∧
        ((∃ i, i < 16 ∧ bodyField (ctlBody (am i)) 46 23 ≠ sid) →
          (t.port p).identityOk = false ∧ (t.port p).matches_ = 0 ∧ (t.port p).mismatch = true))) ∧
    (s.portLooped p = false → s.portSt p = 4 → x.words = [] → x.wordsOff = false → data.length = s.pt p 0x09 →
      rowDecode x.lanes blocks = (head :: data).map .data → Completes (exec (.waveRecord p blocks) s) (fun t =>
        (t.port p).words = [] ∧
        (t.port p).buffer = x.buffer ++ (if s.engineSt = 0 then [] else [(head, data)]))) ∧
    (s.Brings p blocks 0x06 mseq arg [] → s.takesMsgs p = true → s.portMode p ≠ 0 → s.flock.isSome = true →
      x.msgs = [] → x.used < 16 → Completes (exec (.echoRequest p blocks) s) (fun t => ∃ lane payload raw,
        .portWord p lane 0b10 payload raw ∈ t.out ∧ ctlType payload = 0x66 ∧ bodyField (ctlBody payload) 55 48 = 0x07)) ∧
    (s.Brings p blocks 0x07 mseq arg [] → s.takesMsgs p = true → Completes (exec (.echoAnswer p blocks rt) s) (fun t =>
      t.pt p 0x07 = cable ∧ (t.port p).measured = true ∧ (s.pt p 0x06 < cable → t.rd (0x7100 + 128 + p) 0x01 = 1 ∧
        t.rd (0x7100 + 128 + p) 0x08 = 0x903))) ∧
    (s.portSt p = 4 → Completes (exec (.cableRecheck p rt) s) (fun t => t.pt p 0x07 = cable ∧ t.portSt p = 4)) ∧
    (s.portSt p ≠ 4 → Completes (exec (.cableRecheck p rt) s) s.Unchanged) ∧
    (mayRun → Completes runs (fun t => t.rd 0x8000 0x09 = join.toNat ∧
      (start ≠ 0 → s.engineSt ≠ 0 → waveLater s.wave (mkWave start.toNat 0) = true →
        t.rd 0x4003 0x02 = start.toNat ∧ t.startPending = true) ∧
      (stop ≠ 0 → s.engineSt ≠ 0 → waveLater s.wave (mkWave stop.toNat 0) = true →
        t.rd 0x4003 0x03 = stop.toNat ∧ t.stopPending = true) ∧
      (joins → waveLater s.wave (mkWave join.toNat 0) = true →
        t.rd 0x4003 0x02 = join.toNat ∧ t.startPending = true) ∧
      (joins → waveLater s.wave (mkWave join.toNat 0) = false → t.startPending = false ∧
        t.rd (0x7100 + 258) 0x01 = 1 ∧ t.rd (0x7100 + 258) 0x08 = 0x908))) ∧
    (s.Brings p blocks 0x04 mseq arg [start, stop, join] → (s.portMode p ≠ 1 ∨ s.isBellwether = true) →
      Completes runs (s.Dropped p)) ∧
    (s.Brings p blocks op mseq arg cont → (op = 0 ∨ 0x09 < op) → Completes runs (s.Dropped p)) ∧
    (s.flock.isSome = true → s.isBellwether = true → s.engineSt ≠ 1 → Completes (exec .runMessageRepeat s) (fun t =>
      t.rd 0x8000 0x09 = (s.xn + 1024 + 4095) / 4096 * 4096 % 2 ^ 48)) ∧
    ((s.flock = none ∨ s.isBellwether = false ∨ s.engineSt = 1) → Completes (exec .runMessageRepeat s) s.Unchanged) ∧
    (s.mayWrite r (0x3400 + p) 0x01 word.toNat = true → word.toNat / 2 ^ 62 ≠ 3 → word.toNat / 2 ^ 25 % 2 ^ 36 = 0 →
      10312500 ≤ word.toNat % 2 ^ 25 → word.toNat % 2 ^ 25 ≤ 32000000 → s.engineSt ≤ 1 →
      (word.getLsbD 61 = true → s.engineSt = 0) → word.toNat / 2 ^ 62 = (s.portPlan p).elim 0 (fun y => y.mode) →
      Accepted (exec (.portConfigurationWrite r p word) s) r (0x3400 + p) 0x01 (fun t => t.pt p 0x01 = word.toNat ∧
        (word.toNat / 2 ^ 62 = 0 → t.portSt p = 0) ∧ (word.toNat / 2 ^ 62 ≠ 0 → s.portSt p = 0 → t.portSt p = 6) ∧
        (word.toNat / 2 ^ 62 ≠ 0 → s.portSt p ≠ 0 → s.portSt p ≠ 6 → s.portRate p ≠ word.toNat % 2 ^ 25 →
          t.portSt p = 1))) ∧
    (s.mayWrite r (0x3400 + p) 0x11 1 = true → Accepted (exec (.portClearCounters r p) s) r (0x3400 + p) 0x11 (fun t =>
      ∀ i ∈ [0x0B, 0x0C, 0x0D, 0x0E, 0x0F], t.pt p i = 0))

/-- R299, R301 to R305, R307, R308, R310, R313 to R315: the roles of a pair: heartbeats and digests, items in order,
refusals, takeover, yield, the absent partner, the join at activation, the reset of the mirror and the throttle message;
a message on a port that does not take it is dropped and counted.
The model's deductions: the numbers of a full snapshot and of a first heartbeat (log entry 31), the row TAKEOVER (log
entry 81), the boundary of a yield (log entry 82), and items that are not in Table 9-10 (log entry 30). -/
def Obligations.PairRoles : Prop :=
  ∀ (s : State) (r : Requester) (p q mseq arg code : Nat) (blocks : List PortBlock) (cont : BitVec 48)
    (data : List (BitVec 48)), p < 8 → q < 8 →
    let x := s.pair
    let theirs := cont.toNat / 2 ^ 8 % 256
    let digest := cont.toNat / 2 ^ 16
    let own := x.digests.lookup arg
    let beats := exec (.heartbeat p blocks) s
    let beat := s.Brings p blocks 0x01 mseq arg [cont]
    let onTime := beat ∧ s.portMode p = 2 ∧ s.portSt p = 4 ∧ arg = ((s.port p).rxXn + 2 ^ 48 - 1) % 2 ^ 16
    let up := s.portMode p = 2 ∧ s.portSt p = 4
    let item := s.Brings p blocks 0x02 mseq code data ∧ itemBlocks code = some data.length ∧ up ∧ s.isMirror = true
    let received := fun t : State => t = { s with
      out := []
      ports := t.ports }
    let leads := fun (t : State) (epoch : Nat) => t.pairSt = 4 ∧ t.rd 0x8100 0x04 = epoch % 2 ^ 16 ∧
      t.rd 0x8000 0x06 = 0xFF ∧ t.pair.unacked = [] ∧ t.pair.nextSeq = 0
    let away := s.pairSt = 1 ∧ ∀ a, s.mirrorPort = some a → s.portSt a ≠ 4
    let resends := s.pairSt = 4 ∧ 4 ≤ x.stalled ∧ x.overrun = false
    (onTime → s.pairSt = 2 → theirs = 4 → x.acceptedAny = false → 15 ≤ x.sameDigests → own = some digest →
      s.itemsDiffer = false → Completes beats (fun t => t.pairSt = 3 ∧ t.rd 0x8100 0x06 = 0 ∧ t.partner = 4)) ∧
    (onTime → s.pairSt = 3 → theirs = 4 → x.acceptedAny = false → own.any (fun d => d ≠ digest) = true →
      Completes beats (fun t => t.pairSt = 2 ∧ t.rd (0x7100 + 262) 0x01 = 1 ∧ t.rd (0x7100 + 262) 0x08 = 0x90B ∧
        t.rd 0x8100 0x0A = counterNext 32 (ent 0x8100 0x0A) (s.rd 0x8100 0x0A) ∧ t.pair.sameDigests = 0)) ∧
    (onTime → s.pairSt = 4 → Completes beats (fun t => t.partner = theirs ∧ t.pair.heard = true ∧
      t.rd 0x8100 0x06 = 0 ∧ t.pair.absent = false ∧ t.pairSt = 4 ∧
      (theirs = 1 → s.partner ≠ 1 → t.pair.unacked = [] ∧ t.pair.nextSeq = 0))) ∧
    (onTime → s.pairSt = 1 → theirs = 1 → s.rd 0x8100 0x02 = 0 → Completes beats (fun t =>
      leads t (s.latestEpoch + 1))) ∧
    (beat → (s.portMode p ≠ 2 ∨ s.pairSt = 0) → Completes beats (s.Dropped p)) ∧
    (beat → s.portMode p = 2 → s.pairSt ≠ 0 → (s.portSt p ≠ 4 ∨ arg ≠ ((s.port p).rxXn + 2 ^ 48 - 1) % 2 ^ 16) →
      Completes beats received) ∧
    (item → s.inOrder mseq = true → Completes (exec (.item p blocks) s) (fun t => t.rd 0x8100 0x08 = mseq ∧
      t.pair.acceptedAny = true ∧ (s.pairSt = 1 → (∀ c ∈ itemCodes, c = code ∨ c ∈ x.snapshot) → t.pairSt = 2) ∧
      (s.pairSt ≠ 1 → t.pairSt = s.pairSt))) ∧
    (item → s.inOrder mseq = false → Completes (exec (.item p blocks) s) received) ∧
    (s.Brings p blocks 0x02 mseq code data → itemBlocks code ≠ some data.length →
      Completes (exec (.item p blocks) s) (s.Dropped p)) ∧
    (∀ c, s.Brings p blocks 0x03 mseq arg [cont] → up → s.pairSt = 4 → x.confirm.find? (fun y => y.2.1 = arg) = some c →
      c.1 < 16 → cont.toNat / 2 ^ 40 ≠ 0 → Completes (exec (.refusal p blocks) s) (fun t =>
        t.slot c.1 0x06 = 3 ∧ t.slot c.1 0x08 = cont.toNat / 2 ^ 40 ∧ ∀ y ∈ t.pair.confirm, y.1 ≠ c.1)) ∧
    (s.Brings p blocks 0x05 mseq arg [] → up → (s.pairSt = 2 ∨ s.pairSt = 3) → Completes (exec (.yield p blocks) s)
      (fun t => t.pair = { x with yieldAccepted := true } ∧ t.dict = s.dict)) ∧
    (s.Brings p blocks 0x05 mseq arg [] → up → s.pairSt = 1 → Completes (exec (.yield p blocks) s) received) ∧
    (s.Brings p blocks 0x08 mseq arg [] → up → s.isMirror = true → s.inOrder mseq = true → (s.port p).role = 1 →
      (∀ e, (s.port p).epoch = some e → serialLater 16 e (s.rd 0x8100 0x04) = false) → s.startup.warm = false →
      s.startStep = 0xFF → (∀ y ∈ s.load.pairs, y.1 < 64 ∧ y.2 < 8) → Completes (exec (.pairReset p blocks) s) (fun t =>
        t.startup.warm = true ∧ t.startup.cause = 10 ∧ t.engineSt = 0 ∧ t.rd 0x8100 0x08 = mseq)) ∧
    (s.Brings p blocks 0x08 mseq arg [] → up → s.isMirror = true → s.inOrder mseq = false →
      Completes (exec (.pairReset p blocks) s) received) ∧
    (s.Brings p blocks 0x09 mseq arg [] → up → s.pairSt = 4 →
      (∀ i, i < 8 → s.rd 0x4201 (i + 1) ≠ 3) → Completes (exec (.throttle p blocks) s) (fun t =>
        t.rd (0x7100 + 212) 0x01 = 1 ∧ t.rd (0x7100 + 212) 0x08 = 0xF12)) ∧
    (∀ k, s.Brings p blocks 0x09 mseq arg [] → up → s.pairSt = 4 → s.rd 0x4201 (q + 1) = 3 →
      (∀ i, i < q → s.rd 0x4201 (i + 1) ≠ 3) → s.freeSlot = some k → Completes (exec (.throttle p blocks) s) (fun t =>
        t.slot k 0x03 = q ∧ t.slot k 0x04 = s.rd 0x2290 0x09)) ∧
    (s.Brings p blocks 0x09 mseq arg [] → (s.portMode p ≠ 2 ∨ s.pairSt ≠ 4) →
      Completes (exec (.throttle p blocks) s) (s.Dropped p)) ∧
    (s.takeoverDue = true → Completes (exec .takeover s) (fun t => leads t (s.rd 0x8100 0x04 + 1) ∧
      t.rd 0x8100 0x11 = (s.xn + 1) % 2 ^ 48 ∧
      t.rd 0x8100 0x0B = counterNext 32 (ent 0x8100 0x0B) (s.rd 0x8100 0x0B) ∧ t.rd (0x7100 + 260) 0x01 = 1 ∧
      t.rd (0x7100 + 260) 0x08 = 0x909 ∧ (s.pairSt = 2 → t.rd (0x7100 + 265) 0x01 = 1))) ∧
    (s.takeoverDue = false → Completes (exec .takeover s) s.Unchanged) ∧
    (s.pairSt = 4 → x.absent = false → s.rd 0x8100 0x05 ≤ s.rd 0x8100 0x06 → Completes (exec .partnerAbsent s) (fun t =>
      t.partner = 0xFF ∧ t.pair = { x with absent := true, confirm := [] } ∧
      t.rd (0x7100 + 263) 0x01 = 1 ∧ t.rd (0x7100 + 263) 0x08 = 0x90C)) ∧
    ((s.pairSt ≠ 4 ∨ x.absent = true ∨ s.rd 0x8100 0x06 < s.rd 0x8100 0x05) →
      Completes (exec .partnerAbsent s) s.Unchanged) ∧
    (resends → Completes (exec .mirrorResend s) (fun t => t.pair.stalled = 0 ∧
      t.pair.unacked.map (fun y => y.mseq) = x.unacked.map (fun y => y.mseq) ∧
      (∀ m rest, x.unacked = m :: rest → s.mirrorPort = some p → s.portRoom p m = true →
        t.pair.unacked.head?.map (fun y => y.sent) = some true))) ∧
    (¬resends → Completes (exec .mirrorResend s) s.Unchanged) ∧
    (away → (s.rd 0x8100 0x02 = 0 ∨ x.leadSeen = false) → Completes (exec .pairJoinTimeout s) (fun t =>
      leads t (s.latestEpoch + 1))) ∧
    ((¬away ∨ (s.rd 0x8100 0x02 ≠ 0 ∧ x.leadSeen = true)) → Completes (exec .pairJoinTimeout s) s.Unchanged) ∧
    (s.mayWrite r 0x8100 0x0D 1 = true → s.pairSt = 4 → s.partner = 3 →
      Accepted (exec (.pairYieldCommand r) s) r 0x8100 0x0D (fun t => t = { s with
        out := []
        pair := { x with yieldDue := true } })) ∧
    (s.mayWrite r 0x8100 0x0D 1 = true → (s.pairSt ≠ 4 ∨ s.partner ≠ 3) → Completes (exec (.pairYieldCommand r) s)
      (fun t => .answer r abortState [] ∈ t.out ∧ t.pair = x)) ∧
    (s.mayWrite r 0x8100 0x0D 2 = true → s.hasMirror = true → s.mirrorPort.isSome = true →
      Accepted (exec (.pairResetCommand r) s) r 0x8100 0x0D (fun t => t.pair.nextSeq = (x.nextSeq + 1) % 2 ^ 16 ∧
        ∃ m ∈ t.pair.unacked, m.mseq = x.nextSeq ∧ m.op = 0x08)) ∧
    (s.mayWrite r 0x8100 0x0D 2 = true → s.hasMirror = false → Completes (exec (.pairResetCommand r) s)
      (fun t => .answer r abortState [] ∈ t.out ∧ t.pair = x))

/-! ### Configuration streams, readback and scrubbing (chapter 6) -/

/-- R180, R183 to R187, R189, R196: the load engine. A header that passes R184 starts the load, and its pairs enter
LOADING; one that fails is refused, its path is answered, and the planes stand; while VC is not running a header waits
in state HEADER. A sound frame record writes its frame and no other; a record that breaks a rule, a trailer that does
not fit, a tag or signature that is wrong, a silent or an ended path, and a cancel fail the load with their code. The
validator ends with VALID pairs or with a failure, and zeroising leaves the pairs INVALID with frames 0. An event that
finds no load in its state changes nothing.
The model's deductions and choices: a header refused while another stream loads (log entry 29), the order of the
header checks (log entry 150), a header that waits for VC (log entry 149), a load from the stored streams (log entry
76), and the state after zeroising (log entry 74). -/
def Obligations.ConfigurationLoads : Prop :=
  ∀ (s : State) (r : Requester) (path : Nat) (bytes : List Byte), path < 6 →
    let x := s.load
    let h := x.header
    let key := (s.security.slotKeys.lookup (hSlot h)).getD 0
    let plain := Config.gcmDecrypt key (hNonce h) x.cipher.length bytes
    let st := s.rd 0x4301 0x01
    let num := s.rd 0x4301 0x04
    let owns := x.active = true ∧ x.path = path
    let sender := s.senderOn path
    let held := x.active = true ∧ x.path = sender
    let waits := x.waiting.any (fun w => w.1 = sender) = true
    let begun (t : State) (p : Nat) (hd : List Byte) := t.load.active = true ∧ t.load.path = p ∧ t.load.header = hd ∧
      t.load.pairs = targetPairs (hRegions hd) (hPlanes hd) ∧ t.load.cipher = [] ∧ t.rd 0x4301 0x01 = 2 ∧
      t.rd 0x4301 0x02 = 2 ∧ t.rd 0x4301 0x03 = p ∧ t.rd 0x4301 0x04 = 0 ∧ t.frames = s.frames ∧
      ∀ q ∈ targetPairs (hRegions hd) (hPlanes hd), t.planeState q.1 q.2 = 1
    let turnedAway (t : State) (hd : List Byte) (code : Nat) := t.load.active = false ∧ t.rd 0x4301 0x01 = 0 ∧
      t.rd 0x4301 0x02 = code ∧ t.rd 0x4301 0x05 = 0xFFFFFFFF ∧ t.rd 0x4301 0x07 = hRegions hd ∧
      t.rd 0x4301 0x0A = counterNext 32 (ent 0x4301 0x0A) (s.rd 0x4301 0x0A) ∧ t.frames = s.frames ∧
      ∀ n p, n < 64 → p < 8 → t.planeState n p = s.planeState n p
    let done (t : State) := t.rd 0x4301 0x04 = num + 1 ∧ t.rd 0x4301 0x06 = s.rd 0x4301 0x06 + 268 ∧
      t.load.cipher = x.cipher ++ bytes ∧ t.rd 0x4301 0x01 = 2
    let kind := fieldAt plain 3 1
    let addr := fieldAt plain 4 4
    let pair := (fieldAt plain 1 1, fieldAt plain 2 1)
    let whole := fieldAt plain 264 4 = (crc32c (plain.take 264)).toNat
    let taken := s.pathStill x.path = false ∧ bytes.length = 268 ∧ x.active = true ∧ st = 2 ∧ num < hRecords h
    let good := s.ownerKeysOk.any (fun k => Config.ecdsaOk k (Config.sha384 (h ++ x.cipher ++ x.trailer.take 24))
      (x.trailer.drop 24))
    let nets := x.pairs.map (fun q => (q, netOf (s.framesOf q.1 q.2)))
    let forgotten (t : State) := t = { s with out := [], load := t.load } ∧ t.partialOf sender = [] ∧ t.discardOf sender = 0
    let slot := s.rd 0x4300 0x03 % 2
    let hd := s.storedHeader 1 slot
    let comes := s.pathStill path = false
    let flows := s.pathStill x.path = false
    let asks := s.mayWrite r 0x4300 0x01 1 = true ∧ (8 ≤ s.startStep ∨ s.startStep = 0) ∧ s.rd 0x4300 0x02 = 1
    let starts := asks ∧ s.loadBusy = false ∧ s.rd 0x2102 0x01 = 0 ∧ s.pathStill 1 = false
    (comes → bytes.length = 128 → s.loadBusy = false → s.rd 0x2102 0x01 = 0 → s.headerCheck path bytes = 0 →
      Completes (exec (.streamHeader path bytes) s) (fun t => begun t path bytes)) ∧
    (comes → bytes.length = 128 → s.loadBusy = false → s.rd 0x2102 0x01 = 0 → s.headerCheck path bytes ≠ 0 →
      Completes (exec (.streamHeader path bytes) s) (fun t => .streamAnswer path abortState ∈ t.out ∧
        turnedAway t bytes (s.headerCheck path bytes))) ∧
    (comes → bytes.length = 128 → s.loadBusy = false → s.rd 0x2102 0x01 ≠ 0 → Completes (exec (.streamHeader path bytes) s)
      (fun t => t.load.waiting = some (path, bytes) ∧ t.load.active = false ∧ t.rd 0x4301 0x01 = 1 ∧
        t.rd 0x2102 0x01 = (if s.rd 0x2102 0x01 = 1 ∧ s.rdBit 0x2103 0x01 2 = false then 2 else s.rd 0x2102 0x01) ∧
        t.frames = s.frames)) ∧
    (¬comes → Completes (exec (.streamHeader path bytes) s) s.Unchanged) ∧
    (¬flows → Completes (exec (.streamRecord bytes) s) s.Unchanged ∧
      Completes (exec (.streamTrailer bytes) s) s.Unchanged) ∧
    (comes → bytes.length = 128 → s.loadBusy = true → ¬owns → Completes (exec (.streamHeader path bytes) s)
      (fun t => .streamAnswer path abortState ∈ t.out ∧ t.load.active = x.active ∧ t.load.waiting = x.waiting ∧
        t.rd 0x4301 0x01 = st ∧ t.rd 0x4301 0x02 = s.rd 0x4301 0x02 ∧ t.rd 0x4301 0x03 = s.rd 0x4301 0x03 ∧
        t.frames = s.frames)) ∧
    (s.loadBusy = false → fieldAt bytes 0 4 ≠ 0x53434647 → s.headerCheck path bytes = 0x10) ∧
    (taken → whole → fieldAt plain 0 1 = 1 → kind = 0 → pair ∈ x.pairs → addr < 8192 →
      frameKey pair.1 pair.2 addr ∉ x.seen → Completes (exec (.streamRecord bytes) s) (fun t => done t ∧
        t.load.seen = frameKey pair.1 pair.2 addr :: x.seen ∧
        t.frame pair.1 pair.2 addr = encodeFrame (BitVec.ofNat 2048 (bytesNat ((plain.drop 8).take 256))) ∧
        ∀ n p a, frameKey n p a ≠ frameKey pair.1 pair.2 addr → t.frame n p a = s.frame n p a)) ∧
    (taken → whole → fieldAt plain 0 1 = 2 → kind = 0 → hMemInit h = true → (hRegions h).testBit pair.1 = true →
      pair.1 < 64 → pair.2 < 64 → addr % 32 = 0 → addr ≤ 16352 →
      (∀ i, i < 32 → bankKey pair.1 pair.2 * 16384 + addr + i ∉ x.memSeen) →
      Completes (exec (.streamRecord bytes) s) (fun t => done t ∧ t.frames = s.frames ∧
        bankKey pair.1 pair.2 ∈ t.load.banks)) ∧
    (taken → ¬whole → Completes (exec (.streamRecord bytes) s) (fun t => t.Failed s 0x22 ∧ t.rd 0x4301 0x05 = num ∧
      t.frames = s.frames)) ∧
    (taken → whole → fieldAt plain 0 1 = 1 → (kind ≠ 0 ∨ pair ∉ x.pairs ∨ 8192 ≤ addr) →
      Completes (exec (.streamRecord bytes) s) (fun t => t.Failed s 0x23 ∧ t.rd 0x4301 0x05 = num ∧
        t.frames = s.frames)) ∧
    (taken → whole → fieldAt plain 0 1 = 1 → kind = 0 → pair ∈ x.pairs → addr < 8192 →
      frameKey pair.1 pair.2 addr ∈ x.seen → Completes (exec (.streamRecord bytes) s) (fun t => t.Failed s 0x24 ∧
        t.rd 0x4301 0x05 = num ∧ t.frames = s.frames)) ∧
    (flows → bytes.length = 268 → x.active = true → (st = 3 ∨ st = 4 ∨ (st = 2 ∧ hRecords h ≤ num)) →
      Completes (exec (.streamRecord bytes) s) (fun t => t.Failed s 0x2C)) ∧
    (bytes.length = 268 → (x.active = false ∨ st < 2 ∨ 4 < st) →
      Completes (exec (.streamRecord bytes) s) s.Unchanged) ∧
    (flows → x.active = true → x.waiting = none → st = 2 → num < hRecords h → 0 < bytes.length →
      (s.partialOf x.path).length + bytes.length < 268 → Completes (exec (.streamRecord bytes) s) (fun t =>
        t.partialOf x.path = s.partialOf x.path ++ bytes ∧ t.frames = s.frames ∧ t.rd 0x4301 0x04 = num)) ∧
    (flows → x.active = true → st = 2 → bytes.length = trailerLen h → hRecords h ≤ num → fieldAt bytes 0 4 = 0x45434647 →
      fieldAt bytes 4 4 = hRecords h → (hPartial h = true ∨ x.seen.length = 8192 * x.pairs.length) →
      let tag := natBytes 16 (Config.gcmTag key (hNonce h) h x.cipher).toNat
      Completes (exec (.streamTrailer bytes) s) (fun t =>
        ((bytes.drop 8).take 16 = tag → t.rd 0x4301 0x01 = (if hSig h then 3 else 4) ∧ t.load.trailer = bytes) ∧
        ((bytes.drop 8).take 16 ≠ tag → t.Failed s 0x25))) ∧
    (flows → x.active = true → st = 2 → bytes.length ≤ trailerLen h → (bytes.length < trailerLen h ∨ num < hRecords h ∨
      fieldAt bytes 0 4 ≠ 0x45434647 ∨ fieldAt bytes 4 4 ≠ hRecords h) →
      Completes (exec (.streamTrailer bytes) s) (fun t => t.Failed s 0x20)) ∧
    (flows → x.active = true → (st = 3 ∨ st = 4 ∨ (st = 2 ∧ trailerLen h < bytes.length)) →
      Completes (exec (.streamTrailer bytes) s) (fun t => t.Failed s 0x2C)) ∧
    (x.active = true → st = 3 → hSig h = true → Completes (exec .signatureVerified s) (fun t =>
      (good = true → t.rd 0x4301 0x01 = 4 ∧ s.OnlyEntries t [(0x4301, 0x01)]) ∧ (good = false → t.Failed s 0x26))) ∧
    ((x.active = false ∨ st ≠ 3 ∨ hSig h = false) → Completes (exec .signatureVerified s) s.Unchanged) ∧
    (x.active = true → st = 4 → (∀ q ∈ x.pairs, q.1 < 64 ∧ q.2 < 8) → (∀ q ∈ x.roles, q.1 < 8) →
      let sound := s.loadConflict x.pairs nets = none
      let wired := ∀ q ∈ nets, ∀ d ∈ q.2.descriptors, descriptorOk d = true
      let made := ∀ q ∈ nets, ∀ c ∈ q.2.cells, cellBroken c = false
      let described := (∀ q ∈ x.pairs, ∃ m ∈ x.metas, m.1 = q.1 ∧ m.2.1 = q.2) ∧
        ∀ p ∈ bitsOf 8 (hPlanes h), ∃ m ∈ x.roles, m.1 = p
      Completes (exec .frameValidationDone s) (fun t => t.frames = s.frames ∧
        (¬sound → t.Failed s 0x27) ∧ (sound → ¬wired → t.Failed s 0x28) ∧ (sound → wired → ¬made → t.Failed s 0x29) ∧
        (sound → wired → made → (x.dupMeta = true ∨ hPartial h = false ∧ ¬described) → t.Failed s 0x2A) ∧
        (sound → wired → made → (hPartial h = true ∨ described) → x.dupMeta = false → t.rd 0x4301 0x01 = 6 ∧ t.rd 0x4301 0x02 = 1 ∧
          t.load.active = false ∧ t.rd 0x4301 0x09 = counterNext 32 (ent 0x4301 0x09) (s.rd 0x4301 0x09) ∧
          ∀ q ∈ x.pairs, t.planeState q.1 q.2 = 2 ∧ (t.plane q.1 q.2).personality = hPersonality h))) ∧
    ((x.active = false ∨ st ≠ 4) → Completes (exec .frameValidationDone s) s.Unchanged) ∧
    (held → ¬waits → st = 2 → Completes (exec (.streamInactivityTimeout path) s) (fun t => t.Failed s 0x21 ∧
      t.partialOf sender = [] ∧ t.discardOf sender = 0)) ∧
    ((waits ∨ (held ∧ st ≠ 2)) → Completes (exec (.streamInactivityTimeout path) s) s.Unchanged) ∧
    (¬waits → ¬held → Completes (exec (.streamInactivityTimeout path) s) forgotten) ∧
    (held → ¬waits → st = 2 → Completes (exec (.streamPathEnd path) s) (fun t => t.Failed s 0x20 ∧
      t.partialOf sender = [] ∧ t.discardOf sender = 0)) ∧
    (¬waits → ¬(held ∧ st = 2) → Completes (exec (.streamPathEnd path) s) forgotten) ∧
    (∀ w, x.waiting = some (sender, w) → Completes (exec (.streamPathEnd path) s) (fun t =>
      (hLength w ≤ 128 + (s.partialOf sender).length → t = s.fresh) ∧
      (128 + (s.partialOf sender).length < hLength w → t.load.waiting = none ∧ t.partialOf sender = [] ∧
        t.rd 0x4301 0x01 = 0 ∧ t.rd 0x4301 0x02 = 0x20 ∧ t.frames = s.frames))) ∧
    (x.active = true → st = 5 → (∀ q ∈ x.pairs, q.1 < 64 ∧ q.2 < 8) → Completes (exec .zeroiseDone s) (fun t =>
      t.load.active = false ∧ t.rd 0x4301 0x01 = 0 ∧
      ∀ q ∈ x.pairs, t.planeState q.1 q.2 = 0 ∧ ∀ a, a < 8192 → t.frame q.1 q.2 a = {})) ∧
    ((x.active = false ∨ st ≠ 5) → Completes (exec .zeroiseDone s) s.Unchanged) ∧
    (starts → s.headerCheck 1 hd = 0 → Accepted (exec (.loadStart r) s) r 0x4300 0x01 (fun t => begun t 1 hd)) ∧
    (starts → s.headerCheck 1 hd ≠ 0 → Completes (exec (.loadStart r) s) (fun t => .answer r abortState [] ∈ t.out ∧
      turnedAway t hd (s.headerCheck 1 hd) ∧ t.discardOf 1 = 0)) ∧
    (s.mayWrite r 0x4300 0x01 2 = true → x.active = true → st ≠ 5 → Accepted (exec (.loadCancel r) s) r 0x4300 0x01
      (fun t => t.Failed s 0x2B ∧ t.frames = s.frames)) ∧
    (asks → s.pathStill 1 = true → Accepted (exec (.loadStart r) s) r 0x4300 0x01 (fun t =>
      t.loadHeld = some (1, slot) ∧ t.load = x ∧ t.frames = s.frames)) ∧
    (s.mayWrite r 0x4300 0x01 2 = true → x.active = false → s.loadHeld.isSome = true →
      Accepted (exec (.loadCancel r) s) r 0x4300 0x01 (fun t => t.loadHeld = none ∧ t.load = x)) ∧
    (s.mayWrite r 0x4300 0x01 2 = true → x.active = false → x.waiting = none → s.loadHeld = none → Completes (exec (.loadCancel r) s)
      (fun t => .answer r abortState [] ∈ t.out ∧ t.load = x))

/-- R171, R172: a frame address names a tile and a half of it, and cell q of that half has its 256 bits at bytes 32 q to
32 q + 31 of the frame; those bits fall into seven groups, from bit 0 up.
R191, R192: the code of a frame: a frame as encoded is clean, one inverted bit is found and corrected, two are
found. -/
def Obligations.FrameCode : Prop :=
  (∀ data j i half q : Nat, j < 64 → i < 64 → half < 2 → q < 8 →
    (frameCells (j * 128 + i * 2 + half, data))[q]?
      = some ((64 * j + i) * 16 + 8 * half + q, cellBits (BitVec.ofNat 256 (data / 2 ^ (256 * q))))) ∧
  (∀ b : BitVec 256,
    (cellBits b).table.toNat = b.toNat % 2 ^ 64 ∧
    (cellBits b).inputs.toNat = b.toNat / 2 ^ 64 % 2 ^ 60 ∧
    (cellBits b).modes.toNat = b.toNat / 2 ^ 124 % 2 ^ 16 ∧
    (cellBits b).voids.toNat = b.toNat / 2 ^ 140 % 2 ^ 8 ∧
    (cellBits b).spans.toNat = b.toNat / 2 ^ 148 % 2 ^ 64 ∧
    (cellBits b).risers.toNat = b.toNat / 2 ^ 212 % 2 ^ 24 ∧
    (cellBits b).region.toNat = b.toNat / 2 ^ 236) ∧
  (∀ (d : BitVec 2048) (i j : Nat), i ≤ 2060 → j ≤ 2060 → i ≠ j →
    decodeFrame (encodeFrame d) = (0, encodeFrame d) ∧
    decodeFrame (flipFrame (encodeFrame d) i) = (1, encodeFrame d) ∧
    (decodeFrame (flipFrame (flipFrame (encodeFrame d) i) j)).1 = 2)

/-- R190, R192 to R195, R197: readback of a pair gives its frames in address order, corrected, and zeros for one that
cannot be; a frame error is injected as one inverted bit; a scrub read reports a clean frame, corrects one bit, and
finds a plane DAMAGED by two; a pass ends. A plane that is not scrubbed and a scrubber that is held change nothing. -/
def Obligations.Scrubbing : Prop :=
  ∀ (s : State) (r : Requester) (n p a : Nat) (v : BitVec 64), n < 64 → p < 8 → a < 8192 →
    let f := decodeFrame (s.frame n p a)
    let q := v.toNat / 2 ^ 42 % 64
    let pl := v.toNat / 2 ^ 39 % 8
    let addr := v.toNat / 2 ^ 26 % 8192
    let m := s.rd 0x4320 0x01
    let k := s.rd 0x4320 0x02
    let readable := (s.plane m k).flags % 2 = 1 ∧ (s.planeState m k = 2 ∨ s.planeState m k = 3)
    let asked := s.mayRead r true 0x4321 0x00 = true
    let injects := s.mayWrite r 0x4330 0x00 v.toNat = true
    let formed := v.toNat / 2 ^ 48 = 0 ∧ v.toNat / 2 ^ 12 % 2 ^ 14 = 0 ∧ v.toNat % 4096 ≤ 2060
    let reads := s.rd 0x2102 0x01 = 0 ∧ (s.planeState n p = 2 ∨ s.planeState n p = 3) ∧
      (p = s.activePlane n ∨ p = (s.region n).pass % 8)
    (asked → readable → Completes (exec (.readback r) s) (fun t => ∃ bytes, .answer r 0 bytes ∈ t.out ∧
      bytes.length = 8192 * 256 ∧ ∀ i, i < 8192 → (bytes.drop (256 * i)).take 256
        = if (decodeFrame (s.frame m k i)).1 = 2 then List.replicate 256 0
          else natBytes 256 (decodeFrame (s.frame m k i)).2.data.toNat)) ∧
    (asked → ¬readable → Completes (exec (.readback r) s) (fun t => .answer r abortState [] ∈ t.out ∧
      t.frames = s.frames)) ∧
    (injects → formed → 2 ≤ s.planeState q pl → Accepted (exec (.injectFrameError r v) s) r 0x4330 0x00 (fun t =>
      t.frame q pl addr = flipFrame (s.frame q pl addr) (v.toNat % 4096) ∧
      ∀ n' p' a', frameKey n' p' a' ≠ frameKey q pl addr → t.frame n' p' a' = s.frame n' p' a')) ∧
    (injects → formed → s.planeState q pl ≤ 1 → Completes (exec (.injectFrameError r v) s) (fun t =>
      .answer r abortState [] ∈ t.out ∧ t.frames = s.frames)) ∧
    (injects → ¬formed → Completes (exec (.injectFrameError r v) s) (fun t =>
      .answer r abortValue [] ∈ t.out ∧ t.frames = s.frames)) ∧
    (¬reads → Completes (exec (.scrubRead n p a) s) s.Unchanged) ∧
    (reads → f.1 = 0 → Completes (exec (.scrubRead n p a) s) (fun t =>
      t = { s with out := [], planes := t.planes, rearm := t.rearm } ∧
      Sparse.get (fun _ => 0) (t.plane n p).cleanXn a = s.crossing + 1 ∧
      ∀ id ∈ t.rearm, id ∈ s.rearm ∨ (id ∈ s.latched ∧ s.rd (0x4100 + spanOwner id) 0x09 = 1))) ∧
    (reads → f.1 = 1 → s.correctionHeld n p = false → Completes (exec (.scrubRead n p a) s) (fun t =>
      t.frame n p a = f.2 ∧ t.rd (0x4340 + n) 0x04 = p * 8192 + a ∧ t.rd (0x4340 + n) 0x05 = s.xn ∧
      t.rd (0x4340 + n) 0x01 = counterNext 32 (ent (0x4340 + n) 0x01) (s.rd (0x4340 + n) 0x01) ∧
      t.planeState n p = s.planeState n p)) ∧
    (reads → f.1 = 1 → s.correctionHeld n p = true → Completes (exec (.scrubRead n p a) s) s.Unchanged) ∧
    (reads → f.1 = 2 → Completes (exec (.scrubRead n p a) s) (fun t => t.planeState n p = 3 ∧ t.frames = s.frames ∧
      t.rd (0x4340 + n) 0x04 = p * 8192 + a ∧
      t.rd (0x4340 + n) 0x02 = counterNext 32 (ent (0x4340 + n) 0x02) (s.rd (0x4340 + n) 0x02))) ∧
    (s.rd 0x2102 0x01 = 0 → Completes (exec (.scrubPass n) s) (fun t => (t.region n).pass = (s.region n).pass + 1 ∧
      (t.region n).correctedInPass = false ∧
      t.rd (0x4340 + n) 0x03 = counterNext 32 (ent (0x4340 + n) 0x03) (s.rd (0x4340 + n) 0x03) ∧
      { s with regions := t.regions }.OnlyEntries t [(0x4340 + n, 0x03)])) ∧
    (s.rd 0x2102 0x01 ≠ 0 → Completes (exec (.scrubPass n) s) s.Unchanged)

/-! ### The network on chip (chapter 10) -/

/-- R325, R327: routes. A switch takes its output port from ROUTE[3:0], shifts ROUTE right by 4 and writes the port of
arrival into ROUTE[31:28]; within a quadrant a packet goes along X, then along Y, and passes no router of another.
R334, R335: a router drains, goes out of service and comes back; a drain that takes too long discards what it
holds; a request that it refuses goes back to its requester with network status 1.
The model's deductions: a drain of a router that is not IN is done without effect, and the code of a refused return
(log entry 92). -/
def Obligations.Routes : Prop :=
  ((∀ (route : BitVec 32) (arrival : Nat), arrival < 16 →
     (routeShift route arrival).toNat = route.toNat / 16 + arrival * 2 ^ 28) ∧
   (∀ a b : Nat, a < 64 → b < 64 → quadrantOf a = quadrantOf b →
     (meshPath a b).contains a = true ∧ (meshPath a b).contains b = true ∧
       (∀ x ∈ meshPath a b, quadrantOf x = quadrantOf a) ∧
       (meshPath a b).length = (max (a % 8) (b % 8) - min (a % 8) (b % 8))
         + (max (a / 8) (b / 8) - min (a / 8) (b / 8)) + 1) ∧
   (∀ (route : BitVec 32) (hops i : Nat), hops ≤ 8 → i < 8 →
     (routeBack route hops).toNat / 16 ^ i % 16 = if i < hops then route.toNat / 16 ^ (7 - i) % 16 else 15)) ∧
  (∀ (s : State) (r : Requester) (x port held : Nat) (p : Packet), x < 69 →
     let entries := [(0x6010 + x, 0x01), (0x6004, 0x01), (0x6004, 0x02)]
     let shows (t : State) (st : Nat) := t.routerSt x = st ∧
       (x < 64 → (t.rd 0x6004 0x01).testBit x = decide (st ≠ 0)) ∧
       (64 ≤ x → (t.rd 0x6004 0x02).testBit (x - 64) = decide (st ≠ 0)) ∧
       (∀ y, y < 64 → y ≠ x → (t.rd 0x6004 0x01).testBit y = decide (s.routerSt y ≠ 0))
     let drains := s.mayWrite r (0x6010 + x) 0x02 1 = true
     let returns := s.mayWrite r (0x6010 + x) 0x02 2 = true
     let dropped (t : State) := t.rd (0x6010 + x) 0x04
       = (if held = 0 then s.rd (0x6010 + x) 0x04
         else if s.rd (0x6010 + x) 0x04 + held < 2 ^ 32 then s.rd (0x6010 + x) 0x04 + held
         else Config.counterOver (ent (0x6010 + x) 0x04) (s.rd (0x6010 + x) 0x04) % 2 ^ 32)
     (drains → s.routerSt x = 0 → Accepted (exec (.routerDrain r x) s) r (0x6010 + x) 0x02 (fun t =>
       shows t 1 ∧ s.OnlyEntries t entries)) ∧
     (drains → s.routerSt x ≠ 0 → Accepted (exec (.routerDrain r x) s) r (0x6010 + x) 0x02 s.Unchanged) ∧
     (returns → s.routerSt x = 2 → Accepted (exec (.routerReturn r x) s) r (0x6010 + x) 0x02 (fun t =>
       shows t 0 ∧ s.OnlyEntries t entries)) ∧
     (returns → s.routerSt x ≠ 2 → Completes (exec (.routerReturn r x) s) (fun t => .answer r abortState [] ∈ t.out ∧
       t.routerSt x = s.routerSt x)) ∧
     (s.routerSt x = 1 → Completes (exec (.routerOut x) s) (fun t => shows t 2 ∧ s.OnlyEntries t entries)) ∧
     (s.routerSt x ≠ 1 → Completes (exec (.routerOut x) s) s.Unchanged) ∧
     (s.routerSt x = 1 → x < 64 → Completes (exec (.drainTimeout x held) s) (fun t => shows t 2 ∧ dropped t ∧
       t.rd (0x7100 + (160 + quadrantOf x)) 0x01 = 1 ∧ t.rd (0x7100 + (160 + quadrantOf x)) 0x08 = 0xA01)) ∧
     (s.routerSt x = 1 → 64 ≤ x → Completes (exec (.drainTimeout x held) s) (fun t => shows t 2 ∧ dropped t ∧
       t.rd (0x7100 + 164) 0x01 = 1 ∧ t.rd (0x7100 + 164) 0x08 = 0xA02)) ∧
     (s.routerSt x ≠ 1 → Completes (exec (.drainTimeout x held) s) s.Unchanged) ∧
     (s.routerSt x ≠ 0 → p.cmd < 0x80 → Completes (exec (.bounce x port p) s) (fun t =>
       t.rd (0x6010 + x) 0x03 = counterNext 32 (ent (0x6010 + x) 0x03) (s.rd (0x6010 + x) 0x03) ∧
       t.rd 0x6003 0x01 = counterNext 64 (ent 0x6003 0x01) (s.rd 0x6003 0x01))) ∧
     (s.routerSt x ≠ 0 → p.cmd < 0x80 → (∀ y ∈ (bouncePath x port p).drop 1, s.routerSt y ≠ 2) →
       Completes (exec (.bounce x port p) s) (fun t => .packet {
           route := routeBack p.route p.hops
           dest := p.src
           src := p.dest
           cmd := p.cmd + 0x80
           tag := p.tag
           hops := 0
           last := 4
           wcnt := 1
           addr := 0
           units := [] } ∈ t.out)) ∧
     (s.routerSt x = 2 → 0x80 ≤ p.cmd → Completes (exec (.bounce x port p) s) (fun t =>
       t.rd (0x6010 + x) 0x04 = counterNext 32 (ent (0x6010 + x) 0x04) (s.rd (0x6010 + x) 0x04) ∧ t.out = [] ∧
       s.OnlyEntries t [(0x6010 + x, 0x04)])) ∧
     ((s.routerSt x = 0 ∨ 0x80 ≤ p.cmd ∧ s.routerSt x ≠ 2) → Completes (exec (.bounce x port p) s) s.Unchanged))

/-- R330, R331, R338: a read and a write of a region's memory through its interface, the look-back stores and the keep
store; a target that is closed answers any request with network status 2, one that does not serve the request, and one
that is given a CMD outside Table 10-4, with 4. A look-back read waits while domain LBIF is stopped, a keep-store access
while domain KEEP is (R272, R444), and either behind a request of its requester to that target that is held (R328).
R22, R270, R333, R338, R384, R385: a message goes into its kernel's inbox, or waits while that holds 16; a retrieval is
answered, or held until its slot is written; a response that no request waits for is discarded and counted; one that comes for a request
completes it with its last packet; a request without its last response times out.
The model's choices: requests and responses on two routes (log entry 192), the contents of keep-store lines (log entry
90), a line that does not exist (log entry 148), and a stack that is not ready (log entry 91). -/
def Obligations.NetworkPackets : Prop :=
  (∀ (s : State) (p : Packet) (waits : Nat),
     let u := s.fresh.arrived p
     let n := p.dest
     let held (v : State) : State := { v with heldReqs := v.heldReqs ++ [{ packet := p }] }
     let isRead := p.cmd = 0x01
     let isWrite := p.cmd = 0x02
     let closed := n < 64 ∧ s.rd (0x6060 + n) 0x01 ≠ 0
     let named := n < 64 ∧ packetRangeOk p = true ∧ p.addr / 2 ^ 23 % 64 = n
     let full := p.units.length = (p.wcnt + 2) / 2
     let lines := 0x080 ≤ n ∧ n ≤ 0x087 ∧ p.units = [] ∧ p.wcnt < 32 ∧ p.last < 8 ∧
       p.addr % 2 ^ 38 / 8 + p.wcnt < 2 ^ 35
     let keeps := n = 0x090 ∧ 0x158 ≤ p.src ∧ p.src ≤ 0x15F ∧ p.wcnt < 32 ∧ p.last < 8 ∧
       p.addr % 2 ^ 32 + p.wcnt / 8 < 2 ^ 26 ∧
       ∀ i, i < p.wcnt / 8 + 1 → (keepArea (p.addr % 2 ^ 32 + i)).1 ≠ .spare
     let waitsBehind := s.mustWait p = true
     let conflicts := (u.countConflicts (quadrantOf n) (masterOf p.src) waits).bump 64 (0x6060 + n) 0x02
     (closed → (isRead → exec (.nocRead p waits) s = .next (u.respondBad p 2).settle) ∧
       (isWrite → exec (.nocWrite p waits) s = .next (u.respondBad p 2).settle)) ∧
     (isRead → ¬closed → named → p.units = [] →
       let a := conflicts.openRead (addrBank p.addr) (addrWord p.addr) (p.wcnt + 1) (firstMask (addrLane p.addr))
         (lastMask p.last) (addrView p.addr)
       exec (.nocRead p waits) s = .next (a.2.respond p (readTrains p.addr a.1)).settle) ∧
     (isRead → lines → s.lbif = none → ¬waitsBehind →
       let a := u.lineWords (n - 0x080) (p.addr % 2 ^ 38) (p.wcnt + 1)
       exec (.nocRead p waits) s = .next (a.2.respond p (readTrains p.addr a.1)).settle) ∧
     (isRead → lines → (s.lbif.isSome = true ∨ waitsBehind) → exec (.nocRead p waits) s = .next (held u).settle) ∧
     (isRead → keeps → p.units = [] → s.domSt 3 = 1 → ¬waitsBehind → exec (.nocRead p waits) s
       = .next ((u.work 3 0).respond p (keepTrains p.addr ((u.work 3 0).keepWords (p.addr % 2 ^ 32) (p.wcnt + 1)))).settle) ∧
     (isRead → keeps → p.units = [] → (s.domSt 3 ≠ 1 ∨ waitsBehind) → exec (.nocRead p waits) s
       = .next (held u).settle) ∧
     (isRead → ¬closed → ¬(named ∧ p.units = []) → ¬lines → ¬(keeps ∧ p.units = []) →
       exec (.nocRead p waits) s = .next (u.respondBad p 4).settle) ∧
     (isWrite → ¬closed → named → full →
       let a := conflicts.openWrite (addrBank p.addr) (addrWord p.addr) (firstMask (addrLane p.addr)) (lastMask p.last)
         (addrView p.addr) ((packetWords p).take (p.wcnt + 1))
       exec (.nocWrite p waits) s = .next (a.2.respond p [(0, [statusUnit a.1])]).settle) ∧
     (isWrite → keeps → full → s.domSt 3 = 1 → ¬waitsBehind →
       Completes (exec (.nocWrite p waits) s) (fun t => ∀ line j, j < 512 →
         let i := (line - p.addr % 2 ^ 32) * 8 + j / 64
         (t.keepLine line).getLsbD j = (if p.addr % 2 ^ 32 ≤ line ∧ i ≤ p.wcnt ∧ (i < p.wcnt ∨ j / 8 % 8 ≤ p.last)
           then ((packetWords p).getD i 0).getLsbD (j % 64) else (s.keepLine line).getLsbD j))) ∧
     (isWrite → keeps → full → (s.domSt 3 ≠ 1 ∨ waitsBehind) → exec (.nocWrite p waits) s
       = .next (held u).settle) ∧
     (isWrite → ¬closed → ¬(named ∧ full) → ¬(keeps ∧ full) →
       exec (.nocWrite p waits) s = .next (u.respondBad p 4).settle) ∧
     ((p.cmd = 0 ∨ 4 < p.cmd) → p.cmd < 0x80 → ∀ f ∈ [Instr.nocRead p waits, .nocWrite p waits, .nocMessage p,
       .nocRetrieve p], (closed → exec f s = .next (u.respondBad p 2).settle) ∧
         (¬closed → exec f s = .next (u.respondBad p 4).settle)) ∧
     (0x80 ≤ p.cmd → ∀ f ∈ [Instr.nocRead p waits, .nocWrite p waits, .nocMessage p, .nocRetrieve p],
       exec f s = .next s.fresh.settle)) ∧
  (∀ (s : State) (p : Packet) (k node tag : Nat) (q : OutReq),
     let u := s.fresh.arrived p
     let held (v : State) : State := { v with heldReqs := v.heldReqs ++ [{ packet := p }] }
     let isMessage := p.cmd = 0x03
     let isRetrieval := p.cmd = 0x04
     let closed := p.dest < 64 ∧ s.rd (0x6060 + p.dest) 0x01 ≠ 0
     let toLookback := 0x080 ≤ p.dest ∧ p.dest ≤ 0x087 ∧ p.units.length = 1
     let sized := p.units ≠ [] ∧ p.units.length ≤ 16 ∧ p.addr < 2 ^ 16
     let queued := s.heldReqs.any (fun x => x.packet.dest = p.dest) = true
     let room := (s.kernel k).inbox.length < 16
     let found := s.outReqs.find? (fun z => z.node = p.dest ∧ z.tag = p.tag ∧ z.dest = p.src ∧ z.sent)
     let late := s.outReqs.find? (fun z => z.node = node ∧ z.tag = tag ∧ z.sent)
     let ends := 0x80 ≤ p.cmd ∧ p.last / 4 % 2 = 1
     let noneWaits := ∀ z ∈ s.outReqs, z.node = p.dest → z.dest = p.src → z.sent = true
     let uncounted (t : State) := t.rd 0x6003 0x04 = s.rd 0x6003 0x04
     let discarded (t : State) := t.outReqs = s.outReqs ∧ t.kernels = s.kernels ∧ t.out = [] ∧
       t.rd 0x6003 0x04 = counterNext 32 (ent 0x6003 0x04) (s.rd 0x6003 0x04)
     (isMessage → nodeKernel p.dest = some k → k < 80 → sized → ¬queued → room →
       let v := u.bump 64 (0x6810 + k) 0x0A
       exec (.nocMessage p) s = .next ((v.setKernel k { s.kernel k with
         inbox := (s.kernel k).inbox ++ [p] }).respond p [(0, [])]).settle) ∧
     (isMessage → nodeKernel p.dest = some k → 80 ≤ k → sized → ¬queued →
       exec (.nocMessage p) s = .next ((u.bump 64 (0x6810 + k) 0x0A).respond p [(0, [])]).settle) ∧
     (isMessage → nodeKernel p.dest = some k → sized → (queued ∨ k < 80 ∧ ¬room) →
       exec (.nocMessage p) s = .next (held u).settle) ∧
     (isMessage → nodeKernel p.dest = some k → ¬sized → exec (.nocMessage p) s = .next (u.respondBad p 4).settle) ∧
     (isMessage → nodeKernel p.dest = none → ¬closed → exec (.nocMessage p) s = .next (u.respondBad p 4).settle) ∧
     (closed → (isMessage → exec (.nocMessage p) s = .next (u.respondBad p 2).settle) ∧
       (isRetrieval → exec (.nocRetrieve p) s = .next (u.respondBad p 2).settle)) ∧
     (isRetrieval → toLookback →
       let t := u.tryHeld { packet := p }
       exec (.nocRetrieve p) s = .next (if t.1 = false then held (t.2.bump 64 0x5850 0x03)
         else if s.mustWait p then held u else t.2).settle) ∧
     (isRetrieval → ¬closed → ¬toLookback → exec (.nocRetrieve p) s = .next (u.respondBad p 4).settle) ∧
     (p.cmd < 0x80 → exec (.nocResponse p) s = .next s.fresh.settle) ∧
     (0x80 ≤ p.cmd → found = none → Completes (exec (.nocResponse p) s) discarded) ∧
     (0x80 ≤ p.cmd → p.dest < 64 → s.rd (0x6060 + p.dest) 0x01 = 2 → Completes (exec (.nocResponse p) s) discarded) ∧
     (ends → found = some q → (q.stale = true ∨ userKernelOf p.dest = none ∧ p.dest ≠ 0x050) → noneWaits →
       (64 ≤ p.dest ∨ s.rd (0x6060 + p.dest) 0x01 ≠ 2) → Completes (exec (.nocResponse p) s) (fun t =>
         t.outReqs = s.outReqs.erase q ∧ t.kernels = s.kernels ∧ t.out = [] ∧ uncounted t)) ∧
     (0x80 ≤ p.cmd → p.last / 4 % 2 = 0 → found = some q → (q.stale = true ∨ userKernelOf p.dest = none ∧ p.dest ≠ 0x050) →
       (64 ≤ p.dest ∨ s.rd (0x6060 + p.dest) 0x01 ≠ 2) → Completes (exec (.nocResponse p) s) (fun t =>
         t.outReqs = s.outReqs ∧ t.kernels = s.kernels ∧ t.out = [] ∧ uncounted t)) ∧
     (ends → found = some q → q.stale = false → noneWaits → nodeKernel p.dest = some k → k < 80 → p.units = [] →
       q.excess = false → Completes (exec (.nocResponse p) s) (fun t => t.outReqs = s.outReqs.erase q ∧ uncounted t ∧
         (t.kernel k).cqTail = ((s.kernel k).cqTail + 1) % 64 ∧
         bytesNat (t.kbytes k (0x00300000 + 8 * (s.kernel k).cqTail) 8)
           = p.tag % 256 * 2 ^ 56 + p.wcnt % 16 * 2 ^ 52 + q.got % 2 ^ 32)) ∧
     (late = some q → nodeKernel node = some k → k < 80 → q.stale = false → exec (.responseTimeout node tag) s
       = .next (((s.fresh.countNstat 3).complete k tag 3 q.excess q.got).release q).settle) ∧
     (late = some q → (q.stale = true ∧ (userKernelOf node).isSome = true ∨ userKernelOf node = none ∧ node ≠ 0x050) →
       exec (.responseTimeout node tag) s = .next ((s.fresh.countNstat 3).release q).settle) ∧
     (late = some q → node = 0x050 → exec (.responseTimeout node tag) s
       = .next (((s.fresh.countNstat 3).hostRefused (q.cmd = 0x02) 3 (q.packet.addr % 2 ^ 31)).release q).settle) ∧
     (late = none → Completes (exec (.responseTimeout node tag) s) s.Unchanged))

/-! ### The host interface and the readout (chapter 11) -/

/-- R272, R342, R343, R345, R346, R347, R349, R350, R364: what the host sees. A configuration request is answered with a
retry status until the firmware runs; then a read gives its register, and a write sets those that are not read only;
a BAR4 read of one word gives its enabled bytes, a BAR4 write of one word stores
them, and either is refused where no route is clear, and waits where the endpoint has no credit; a BAR2 read gives the bytes of a line, or waits while domain LBIF
is stopped; a vector that is pending sends its message unless it is masked or held off; the link trains, and its errors are counted; a reset of the
interface masks every vector, drops the BAR accesses in flight and stops every engine, and one that takes the link down leaves it DOWN.
The model's choices: the layout of the configuration space (log entry 194), how a BAR4 access splits and ends (log
entries 89, 193), routes before the first bundle (log entry 53), the link's target width and retrain count (log
entries 97, 96), and what a reset of the interface leaves (log entry 98). -/
def Obligations.HostInterface : Prop :=
  ∀ (s : State) (reg offset len dws waits v speed width payload corr uncorr a en kind : Nat) (be le : BitVec 4)
    (data : List (BitVec 32)) (value : BitVec 32) (write : Option (BitVec 32)) (entry : BitVec 128) (route : BitVec 32) (d : Nat → Byte),
    let gives (o : List Output) := fun t : State => t = { s with out := o }
    let reads := offset + 4 * dws ≤ 2 ^ 31 ∧ s.bar4Held = []
    let writes := offset + 4 * data.length ≤ 2 ^ 31 ∧ s.bar4Held = []
    let n := a / 2 ^ 23 % 64
    let bank := addrBank a
    let w := addrWord a
    let x := s.fresh.readLine (offset / 2 ^ 38) (offset / 64 % 2 ^ 32)
    let inLine := offset % 64 + len ≤ 64 ∧ 0 < len ∧ offset + len ≤ 2 ^ 41 ∧ s.lbif = none
    let routed := s.missesPort 0x050 n route = none ∧ s.missesPort n 0x050 (s.responseRoute n 0x050) = none
    let ready := s.rd 0x5801 (offset / 2 ^ 38 + 1) = 2
    let refused (t : State) := t.rd 0x6101 0x02 = counterNext 32 (ent 0x6101 0x02) (s.rd 0x6101 0x02) ∧
      t.rd 0x6101 0x04 = (12 + (s.requestStatus 0x050 n).1) % 16 * 2 ^ 60 + a % 2 ^ 31
    let trained := linkOk speed width payload = true ∧ s.rd 0x6100 0x07 + corr < 2 ^ 32 ∧
      s.rd 0x6100 0x08 + uncorr < 2 ^ 32
    let up (t : State) := t.rd 0x6100 0x01 = 2 ∧ t.rd 0x6100 0x02 = speed ∧ t.rd 0x6100 0x03 = width ∧
      t.rd 0x6100 0x05 = payload ∧ t.rd 0x6100 0x07 = s.rd 0x6100 0x07 + corr ∧
      t.rd 0x6100 0x08 = s.rd 0x6100 0x08 + uncorr
    let pends := s.msixPend.contains v = true
    let held := s.msixHold.contains v = true
    let masked := entry.getLsbD 96 = true
    let sent (t : State) := t.out = [.msix v] ∧ t.msixPend.contains v = false ∧ t.msixEntry v = entry
    let quiet (t : State) := t.out = [] ∧ t.msixPend = s.msixPend ∧ t.msixEntry v = entry
    (reg < 1024 → s.startup.firmware = false → Completes (exec (.pcieConfigurationRequest reg write) s)
      (gives [.completion 3 []])) ∧
    (reg < 1024 → s.startup.firmware = true → Completes (exec (.pcieConfigurationRequest reg none) s)
      (gives [.completion 0 (natBytes 4 (s.cfgReg reg).toNat)])) ∧
    ((s.cfgReg 0).toNat = s.rd 0x6100 0x09 % 65536 * 65536 + s.rd 0x6100 0x0A % 65536 ∧
      (s.cfgReg 2).toNat / 256 = 0x118000) ∧
    (reg < 1024 → s.startup.firmware = true → Completes (exec (.pcieConfigurationRequest reg (some value)) s) (fun t =>
      t = { s with out := [.completion 0 []], cfgSpace := t.cfgSpace } ∧
      (∀ j, j ≠ reg → t.cfgReg j = s.cfgReg j) ∧ (reg = 0 ∨ reg = 2 → t.cfgReg reg = s.cfgReg reg) ∧
      (reg = 4 ∨ reg = 6 ∨ reg = 8 → t.cfgReg reg = (value &&& barMask reg) ||| barFixed reg))) ∧
    (offset + 4 ≤ 2 ^ 31 → Completes (exec (.bar4Read offset 0 le 1 waits) s) (gives [.completion 0 [0, 0, 0, 0]])) ∧
    (reads → be ≠ 0 → splitAccesses (bar4Words offset be le dws) = [[(a, en)]] → s.requestStatus 0x050 n = (0, route) →
      routed → s.bar4May n = true → s.openBlock bank false (addrView a) = 0 → openPops (s.descriptor bank) = false →
      (∀ k, k < 8 → en.testBit k = true → s.bankByte (byteKey bank w k) = cleanByte (d k) (w * 8 + k)) →
      Completes (exec (.bar4Read offset be le dws waits) s) (fun t => t.out = [.completion 0 ((List.range 8).filterMap
        (fun k => if en.testBit k then some (d k) else none))] ∧ ∀ key, t.bankByte key = s.bankByte key)) ∧
    (reads → be ≠ 0 → splitAccesses (bar4Words offset be le dws) = [[(a, en)]] → (s.requestStatus 0x050 n).1 ≠ 0 →
      Completes (exec (.bar4Read offset be le dws waits) s) (fun t => .completion 1 [] ∈ t.out ∧ refused t ∧
        t.bankMem = s.bankMem)) ∧
    (reads → be ≠ 0 → splitAccesses (bar4Words offset be le dws) = [[(a, en)]] → s.requestStatus 0x050 n = (0, route) →
      s.bar4May n = false → Completes (exec (.bar4Read offset be le dws waits) s) (fun t =>
        t = { s with
          out := []
          bar4Held := [{ accs := [[(a, en)]], waits := waits }] })) ∧
    (writes → splitAccesses ((bar4Words offset be le data.length).filter (fun y => y.2 ≠ 0)) = [[(a, en)]] →
      s.requestStatus 0x050 n = (0, route) → routed → s.bar4May n = true → s.openBlock bank true (addrView a) = 0 →
      addrView a = 0 → Completes (exec (.bar4Write offset be le data waits) s) (fun t =>
        (∀ k, k < 8 → en.testBit k = true → t.bankByte (byteKey bank w k)
          = cleanByte ((natBytes 8 (bar4Data offset data a).toNat).getD k 0) (w * 8 + k)) ∧
        ∀ key, (∀ k, k < 8 → en.testBit k = true → key ≠ byteKey bank w k) → t.bankByte key = s.bankByte key)) ∧
    (writes → splitAccesses ((bar4Words offset be le data.length).filter (fun y => y.2 ≠ 0)) = [[(a, en)]] →
      (s.requestStatus 0x050 n).1 ≠ 0 → Completes (exec (.bar4Write offset be le data waits) s) (fun t =>
        refused t ∧ t.bankMem = s.bankMem)) ∧
    (offset + len ≤ 2 ^ 41 → s.lbif.isSome = true → Completes (exec (.bar2Read offset len) s) (fun t =>
      t = { s with out := [], bar2Held := s.bar2Held ++ [(offset, len)] })) ∧
    (inLine → ready → x.1 ≠ lnUncorrectable → x.1 ≠ lnAddressFault → Completes (exec (.bar2Read offset len) s) (fun t =>
      .completion 0 ((x.2.1.drop (offset % 64)).take len) ∈ t.out)) ∧
    (inLine → ready → (x.1 = lnUncorrectable ∨ x.1 = lnAddressFault) → Completes (exec (.bar2Read offset len) s)
      (fun t => .completion 2 (List.replicate len 0) ∈ t.out)) ∧
    (inLine → ¬ready → Completes (exec (.bar2Read offset len) s) (fun t => t.out = [.completion 1 []] ∧
      t.rd 0x6101 0x02 = counterNext 32 (ent 0x6101 0x02) (s.rd 0x6101 0x02) ∧
      s.OnlyEntries t [(0x6101, 0x02)])) ∧
    (v < 512 → pends → ¬held → ¬masked → Completes (exec (.msixMessage v entry) s) (fun t => sent t ∧
      t.msixHold = (if s.rd 0x6113 0x01 = 0 then s.msixHold else s.msixHold ++ [v]))) ∧
    (v < 512 → (¬pends ∨ held ∨ masked) → Completes (exec (.msixMessage v entry) s) (fun t => quiet t ∧
      t.msixHold = s.msixHold)) ∧
    (v < 512 → (¬pends ∨ masked) → Completes (exec (.msixHoldoffEnd v entry) s) (fun t => quiet t ∧
      t.msixHold = s.msixHold.filter (fun y => y ≠ v))) ∧
    (v < 512 → pends → ¬masked → Completes (exec (.msixHoldoffEnd v entry) s) sent) ∧
    (trained → 16 ≤ width → s.rd 0x6100 0x04 ≤ speed → uncorr = 0 →
      Completes (exec (.linkTrainingDone speed width payload corr uncorr) s) (fun t => up t ∧
        s.OnlyEntries t [(0x6100, 0x01), (0x6100, 0x02), (0x6100, 0x03), (0x6100, 0x05), (0x6100, 0x07)])) ∧
    (trained → (width < 16 ∨ speed < s.rd 0x6100 0x04) →
      Completes (exec (.linkTrainingDone speed width payload corr uncorr) s) (fun t => up t ∧
        t.rd (0x7100 + 273) 0x01 = 1)) ∧
    (trained → 0 < uncorr → Completes (exec (.linkTrainingDone speed width payload corr uncorr) s) (fun t => up t ∧
      t.rd (0x7100 + 274) 0x01 = 1)) ∧
    (kind < 4 → Completes (exec (.pcieReset kind) s) (fun t => t.msixTable = [] ∧ t.msixHold = [] ∧ t.cfgSpace = [] ∧
      t.bar2Held = [] ∧ t.bar4Held = [] ∧ (∀ z ∈ t.outReqs, z.node ≠ 0x050) ∧
      (∀ e, e < 16 → t.engState e = 0 ∧ t.engP e = 0 ∧ t.engC e = 0 ∧ t.rd (0x6120 + e) 0x01 = 0 ∧
        t.rd (0x6120 + e) 0x02 = 0 ∧ (t.engine e).buf = none ∧ (t.engine e).held = []) ∧
      t.lines = s.lines ∧ t.bankMem = s.bankMem ∧ t.regs = s.regs ∧
      (kind < 3 → s.rd 0x6100 0x01 = 2 → t.rd 0x6100 0x01 = 1 ∧
        t.rd 0x6100 0x06 = counterNext 32 (ent 0x6100 0x06) (s.rd 0x6100 0x06) ∧ t.rd (0x7100 + 272) 0x01 = 1 ∧
        t.rd (0x7100 + 272) 0x08 = 0xB01) ∧
      ((kind = 3 ∨ s.rd 0x6100 0x01 ≠ 2) → t.rd 0x6100 0x01 = s.rd 0x6100 0x01 ∧
        t.rd 0x6100 0x06 = s.rd 0x6100 0x06)))

/-- R351 to R361, R363, R386: triggers, the DMA engines' rings and buffers, and the readout lanes. A trigger is queued
for its kernel, or is lost and counted where 64 wait; a producer index within the ring is taken; an engine starts,
stops and leaves ERROR by command; a fragment that fits is written at the fill of the current buffer; a buffer closes
with its STATUS written and C advanced; an error on a descriptor read stops the engine.
The model's deductions: the codes of an engine's start and producer index (log entry 93), and fragments held when an
engine stops (log entry 94). -/
def Obligations.Readout : Prop :=
  ∀ (s : State) (r : Requester) (e a sz fill : Nat) (token : Word64) (p : BitVec 32) (f : List Byte)
    (rest : List (List Byte)) (addr : Word64) (size : BitVec 32), e < 16 →
    let x := s.engine e
    let k := s.kernel (64 + e)
    let runs := s.engState e = 1 ∨ s.engState e = 2
    let triggered := s.mayWrite r (0x6140 + e) 0x04 token.toNat = true
    let produced := s.mayWrite r (0x6120 + e) 0x03 p.toNat = true
    let commanded := fun v => s.mayWrite r (0x6120 + e) 0x05 v = true
    let closed (t : State) (result fill : Nat) := (t.engine e).buf = none ∧ t.engC e = (s.engC e + 1) % 2 ^ 32 ∧
      .hostWrite (s.rd (0x6120 + e) 0x01 + 16 * (s.engC e % max (s.engN e) 1) + 12)
        (natBytes 4 (2 ^ 31 + result * 2 ^ 27 + fill / 8)) ∈ t.out
    (triggered → token.extractLsb' 48 4 = 0 → k.triggers.length < 64 → Accepted (exec (.softwareTrigger r e token) s) r
      (0x6140 + e) 0x04 (fun t => (t.kernel (64 + e)).triggers
          = k.triggers ++ [(token, BitVec.ofNat 64 (2 ^ 62 + token.toNat % 2 ^ 48))] ∧
        t.rd (0x6140 + e) 0x05 = k.triggers.length + 1 ∧
        t.rd (0x6140 + e) 0x01 = counterNext 64 (ent (0x6140 + e) 0x01) (s.rd (0x6140 + e) 0x01) ∧
        ∀ j, j ≠ 64 + e → t.kernel j = s.kernel j)) ∧
    (triggered → token.extractLsb' 48 4 = 0 → 64 ≤ k.triggers.length → Accepted (exec (.softwareTrigger r e token) s) r
      (0x6140 + e) 0x04 (fun t => t.kernels = s.kernels ∧
        t.rd (0x6140 + e) 0x03 = counterNext 32 (ent (0x6140 + e) 0x03) (s.rd (0x6140 + e) 0x03))) ∧
    (triggered → token.extractLsb' 48 4 ≠ 0 → Completes (exec (.softwareTrigger r e token) s) (fun t =>
      .answer r abortValue [] ∈ t.out ∧ (t.kernel (64 + e)).triggers = k.triggers)) ∧
    (produced → (p.toNat + 2 ^ 32 - s.engC e) % 2 ^ 32 ≤ s.engN e → s.bufferFull e = false → Accepted (exec (.producerIndexWrite r e p) s) r
      (0x6120 + e) 0x03 (fun t => t.engP e = p.toNat ∧ t.engC e = s.engC e ∧ (t.engine e).buf = x.buf ∧
        (t.engine e).held = x.held ∧ (¬runs → t.engState e = s.engState e))) ∧
    (produced → s.engN e < (p.toNat + 2 ^ 32 - s.engC e) % 2 ^ 32 → Completes (exec (.producerIndexWrite r e p) s)
      (fun t => .answer r abortValue [] ∈ t.out ∧ t.engP e = s.engP e)) ∧
    (commanded 1 → s.engState e = 0 → ringSizeOk (s.engN e) = true → Accepted (exec (.engineStart r e) s) r
      (0x6120 + e) 0x05 (fun t => t.engState e = 1 ∧ (t.engine e).buf = none ∧ (t.engine e).held = [] ∧
        (t.engine e).seq = 0)) ∧
    (commanded 1 → runs → Accepted (exec (.engineStart r e) s) r (0x6120 + e) 0x05 s.Unchanged) ∧
    (commanded 1 → (s.engState e = 3 ∨ (s.engState e = 0 ∧ ringSizeOk (s.engN e) = false)) →
      Completes (exec (.engineStart r e) s) (fun t => .answer r abortState [] ∈ t.out ∧ t.engState e = s.engState e)) ∧
    (commanded 2 → runs → Accepted (exec (.engineStop r e) s) r (0x6120 + e) 0x05 (fun t =>
      t.engState e = 0 ∧ (t.engine e).held = [] ∧ (t.engine e).buf = none ∧
      (x.buf = some (a, sz, fill) → closed t 2 fill))) ∧
    (commanded 2 → ¬runs → Accepted (exec (.engineStop r e) s) r (0x6120 + e) 0x05 s.Unchanged) ∧
    (commanded 3 → s.engState e = 3 → Accepted (exec (.engineClearError r e) s) r (0x6120 + e) 0x05 (fun t =>
      t.engState e = 0 ∧ (t.engine e).held = [] ∧ (t.engine e).buf = none ∧
      (x.buf = some (a, sz, fill) → closed t 2 fill))) ∧
    (commanded 3 → s.engState e ≠ 3 → Completes (exec (.engineClearError r e) s) (fun t =>
      .answer r abortState [] ∈ t.out ∧ t.engState e = s.engState e)) ∧
    (runs → x.held = f :: rest → x.buf = some (a, sz, fill) → fill + f.length ≤ sz → 0 < f.length →
      Completes (exec (.fragmentWritten e addr size) s) (fun t => .hostWrite (a + fill) f ∈ t.out ∧
        (t.engine e).buf = (if sz < fill + f.length + (rest.headD []).length ∧ (rest.headD []).length ≤ sz then none
          else some (a, sz, fill + f.length)) ∧ (t.engine e).held = rest ∧
        t.rd (0x6120 + e) 0x09 = counterNext 64 (ent (0x6120 + e) 0x09) (s.rd (0x6120 + e) 0x09) ∧
        (t.kernel (64 + e)).stageOwned = k.stageOwned - f.length ∧ (t.kernel (64 + e)).edges = k.edges ||| 0x40)) ∧
    (runs → x.held = f :: rest → x.buf = none → s.engFree e = true → addr.toNat % 64 = 0 → size.toNat % 64 = 0 →
      4096 ≤ size.toNat → size.toNat ≤ 16777216 → f.length ≤ size.toNat →
      Completes (exec (.fragmentWritten e addr size) s) (fun t => .hostWrite addr.toNat f ∈ t.out ∧
        (t.engine e).buf = (if size.toNat < f.length + (rest.headD []).length ∧ (rest.headD []).length ≤ size.toNat
          then none else some (addr.toNat, size.toNat, f.length)) ∧ (t.engine e).held = rest)) ∧
    ((¬runs ∨ x.held = []) → Completes (exec (.fragmentWritten e addr size) s) s.Unchanged) ∧
    (x.buf = some (a, sz, fill) → 0 < fill → Completes (exec (.bufferFlush e) s) (fun t => closed t 1 fill ∧
      (t.engine e).held = x.held)) ∧
    ((x.buf = none ∨ x.buf = some (a, sz, 0)) → Completes (exec (.bufferFlush e) s) s.Unchanged) ∧
    (runs → Completes (exec (.descriptorReadError e) s) (fun t => t.engState e = 3 ∧ t.rd (0x7100 + 278) 0x01 = 1 ∧
      t.rd (0x7100 + 278) 0x08 = 0xB07 ∧ t.engines = s.engines)) ∧
    (¬runs → Completes (exec (.descriptorReadError e) s) s.Unchanged) ∧
    (let lane := s.rd (0x6160 + e) 0x01
     let queue := Sparse.get (fun _ => []) s.readoutQueue e
     let used := (queue.map List.length).foldl (fun i j => i + j) 0
     (lane ≠ 0xFFFF → used + f.length ≤ 262144 → (512 ≤ lane ∨ s.txSends lane = false) →
       Completes (exec (.readoutLaneFragment e f) s) (fun t => t = { s with out := [], readoutQueue := t.readoutQueue } ∧
         Sparse.get (fun _ => []) t.readoutQueue e = queue ++ [f])) ∧
     (lane < 512 → s.txSends lane = true → queue = [] → f.length ≤ 262144 →
       Completes (exec (.readoutLaneFragment e f) s) (fun t => Sparse.get (fun _ => []) t.readoutQueue e = [] ∧
         t.rd (0x6160 + e) 0x02 = counterNext 64 (ent (0x6160 + e) 0x02) (s.rd (0x6160 + e) 0x02))) ∧
     (lane ≠ 0xFFFF → 262144 < used + f.length → Completes (exec (.readoutLaneFragment e f) s) (fun t =>
       t.readoutQueue = s.readoutQueue ∧ t.rd (0x7100 + 279) 0x01 = 1 ∧
       t.rd (0x6160 + e) 0x03 = counterNext 32 (ent (0x6160 + e) 0x03) (s.rd (0x6160 + e) 0x03))) ∧
     (lane = 0xFFFF → Completes (exec (.readoutLaneFragment e f) s) s.Unchanged))

/-- R355, R356, R361, R389: the standard readout program. The walk of a descriptor table: KIND 0 ends it, KINDs 3 to 15
end it and set PARTIAL, KIND 1 places the entry and the slots of its streams crossing by crossing, KIND 2 the entry and
its words. A slot whose status is 5 or more, and a word whose status is 2 or more, set PARTIAL. A software trigger whose
table is empty, or wrong at once, ends in a fragment that is no more than a header, with the flags of the
trigger.
The steps of the program and that it goes on within the command (log entry 163), and a response whose NSTAT is not 0
(log entry 164), are the model's choices. -/
def Obligations.StandardReadout : Prop :=
  (∀ (xn : Nat) (u : BitVec 128) (l : List (BitVec 128)),
    let kind := u.toNat / 2 ^ 124
    let count := u.toNat / 2 ^ 96 % 2 ^ 10
    let first := u.toNat / 2 ^ 64 % 2 ^ 10
    let dxf : Int := if u.toNat / 2 ^ 56 % 256 < 128 then (u.toNat / 2 ^ 56 % 256 : Nat)
      else ((u.toNat / 2 ^ 56 % 256 : Nat) : Int) - 256
    let nx := u.toNat / 2 ^ 48 % 256
    let w := walkTable xn l
    walkTable xn [] = ([], false) ∧
    (kind = 0 → walkTable xn (u :: l) = ([], false)) ∧
    (3 ≤ kind → walkTable xn (u :: l) = ([], true)) ∧
    (kind = 1 → walkTable xn (u :: l) = (.entry u :: (List.range nx).flatMap (fun i => (List.range count).map (fun j =>
      .slot (first + j) (((xn : Int) + dxf + i) % 2 ^ 48).toNat)) ++ w.1, w.2)) ∧
    (kind = 2 → walkTable xn (u :: l)
      = (.entry u :: .words (u.toNat % 2 ^ 31) (u.toNat / 2 ^ 40 % 2 ^ 5) :: w.1, w.2))) ∧
  (∀ (s : State) (u : BitVec 128) (stream xn addr wcnt : Nat) (got : List Byte),
    s.placed (.entry u) 0 got = ((natBytes 16 u.toNat, false), s) ∧
    ((got.getD 7 0).toNat ≤ 4 → s.placed (.slot stream xn) 0 got
      = ((got.take (8 + 32 * (got.getD 5 0).toNat), false), s)) ∧
    (5 ≤ (got.getD 7 0).toNat → s.placed (.slot stream xn) 0 got = ((got.take 8, true), s)) ∧
    (wcnt < 16 → let st := bytesNat (got.take 8)
      s.placed (.words addr wcnt) 0 got = ((natBytes 16 st ++ (got.drop 16).take (8 * (wcnt + 1)),
        decide (∃ i, i < wcnt + 1 ∧ 2 ≤ st / 16 ^ i % 16)), s))) ∧
  (∀ (s : State) (r : Requester) (e : Nat) (token : Word64), e < 16 →
    let x := s.kernel (64 + e)
    let kind := bytesNat (s.kbytes (64 + e) (0x00100000 + 512 * (token.extractLsb' 52 4).toNat) 16) / 2 ^ 124
    s.mayWrite r (0x6140 + e) 0x04 token.toNat = true → token.extractLsb' 48 4 = 0 → s.quiet = true →
    s.rd (0x6810 + (64 + e)) 0x01 = 1 → x.std = true → x.job = none → x.triggers = [] → x.cqHead = x.cqTail →
    x.stageOwned + 32 ≤ 1048576 → s.engState e = 1 → s.engFree e = true → (kind = 0 ∨ 3 ≤ kind) →
    ∃ t f, exec (.softwareTrigger r e token) s = .next t ∧ (t.engine e).held = (s.engine e).held ++ [f] ∧
      f.length = 32 ∧ fieldAt f 0 4 = 32 ∧ fieldAt f 4 4 = (s.engine e).seq % 2 ^ 32 ∧
      fieldAt f 8 6 = token.toNat % 2 ^ 48 ∧ fieldAt f 26 2 = (if kind = 0 then 2 else 6) ∧
      (t.kernel (64 + e)).job = none ∧ (t.kernel (64 + e)).triggers = [])

/-! ### The dictionary and its access paths (chapter 13) -/

/-- R394 to R398, R401, R402, R404, R413, R558: writes of entries: a value that passes every check is held, one of a
pending kind waits for the run boundary, any other is refused with the code of the first check that it fails and
changes nothing; saving, restoring and the node number.
The model's deductions: a save that the design's values hold up (log entry 62), and the answer of a failed keep-store
write (log entry 214). -/
def Obligations.DictionaryWrites : Prop :=
  ∀ (s : State) (r : Requester) (idx sub v : Nat) (bytes : List Byte) (ok : Bool) (row : Row),
    let n := bytesNat bytes
    (s.mayStore r idx sub bytes = true → Accepted (exec (.registerWrite r idx sub bytes) s) r idx sub (fun t =>
      t.rd idx sub = n)) ∧
    (s.mayWrite r idx sub n = true → idx < 0xA000 → sub < 256 → rowOf idx sub = some row → row.acc = .rwr →
      lengthOk row.ty bytes.length = true → typeOk row.ty n = true → s.rangeOk row.rng n = true →
      s.valueOk idx sub n = true → s.stateOk idx sub n = true →
      Accepted (exec (.registerWrite r idx sub bytes) s) r idx sub (fun t =>
        t.rwr.lookup (ent idx sub) = some n ∧ t.rd idx sub = s.rd idx sub)) ∧
    (requesterOk r = true → s.answers r = true → idx < 65536 → sub < 256 → s.entryRow idx sub = none →
      exec (.registerWrite r idx sub bytes) s = .next (s.fresh.reply r (ent idx sub) 0x06020000).settle) ∧
    (requesterOk r = true → s.answers r = true → idx < 65536 → sub < 256 → s.entryRow idx sub = some row →
      s.writeCode r row idx sub n false ≠ 0 → exec (.registerWrite r idx sub bytes) s
        = .next (s.fresh.reply r (ent idx sub) (s.writeCode r row idx sub n false)).settle) ∧
    (s.mayWrite r idx sub n = true → idx < 0xA000 → sub < 256 → rowOf idx sub = some row →
      lengthOk row.ty bytes.length = false → exec (.registerWrite r idx sub bytes) s
        = .next (s.fresh.reply r (ent idx sub) 0x06070010).settle) ∧
    (s.mayWrite r idx sub n = true → idx < 0xA000 → sub < 256 → rowOf idx sub = some row →
      lengthOk row.ty bytes.length = true → (typeOk row.ty n = false ∨ s.rangeOk row.rng n = false ∨
        s.valueOk idx sub n = false) → exec (.registerWrite r idx sub bytes) s
        = .next (s.fresh.reply r (ent idx sub) 0x06090030).settle) ∧
    (requesterOk r = true → s.answers r = false → idx < 65536 → sub < 256 →
      exec (.registerWrite r idx sub bytes) s = .next s.fresh.settle) ∧
    (s.mayWrite r 0x1002 0x02 0x65766173 = true → s.security.saving = none → s.rd 0x2501 0x07 = 2 →
      exec (.save r) s = .next (s.fresh.reply r (ent 0x1002 0x02) abortState).settle) ∧
    (s.mayWrite r 0x1002 0x02 0x65766173 = true → s.security.saving = none → s.rd 0x2501 0x07 ≠ 2 → Completes (exec (.save r) s) (fun t =>
      t.security.saving = some (r, s.saveSet) ∧ t.rd 0x1002 0x04 = 1)) ∧
    (∀ set, s.security.saving = some (r, set) → s.domSt 3 = 1 → s.usersAsked = false → Completes (exec (.saveComplete ok) s) (fun t =>
      t.security.saving = none ∧ t.rd 0x1002 0x04 = (if ok then 2 else 3) ∧
      (ok = true → t.security.areas.lookup s.startup.running = some { set with
        users := s.userVals.filter (fun x => s.persistUsers.contains x.1) }) ∧
      (ok = false → t.security.areas = s.security.areas ∧ t.rd (0x7100 + 327) 0x01 = 1 ∧
        t.rd (0x7100 + 247) 0x01 = 1))) ∧
    (∀ set, s.security.saving = some (r, set) → (s.domSt 3 ≠ 1 ∨ s.usersAsked = true) →
      Completes (exec (.saveComplete ok) s) s.Unchanged) ∧
    (s.mayWrite r 0x1002 0x03 0x64616F6C = true → s.security.saving = none → Kept s (exec (.restoreDefaults r) s) r
      0x1002 0x03 (fun t => t.security.areas.lookup s.startup.running = none ∧
        ∀ a b, b < 256 → t.rd a b = s.rd a b)) ∧
    (s.mayWrite r 0x1008 0x01 v = true → 1 ≤ v → v ≤ 127 → Completes (exec (.nodeNumberWrite r v) s) (fun t =>
      t.rd 0x1008 0x01 = v))

/-- R407 to R417: the field bus: frames that are not for the protocol, expedited and segmented accesses with their
answers, segments, acknowledgements, aborts, heartbeats, and the states of a channel.
The model's deductions: the answer of a segmented write's start (log entry 54), segmented transfers (log entry 56),
and the specifiers of the device's own frames (log entry 123). -/
def Obligations.FieldBus : Prop :=
  ∀ (s : State) (c prio node tid idx sub win size seq tec rec lost : Nat) (f : CanFrame) (bytes : List Byte)
    (code : BitVec 32) (tr : Transfer), c < 2 → prio < 8 → 1 ≤ node → node ≤ 127 → tid < 256 → idx < 65536 → sub < 256 →
    let r := Requester.can c node
    let hears := s.canHears c = true
    let alone := (s.canCh (1 - c)).recent = [] ∧ s.canOpen = []
    let mine := s.canTransfer c node tid = some tr
    let ends := seq = (min (tr.sent + tr.win) (segCount tr.size) + 255) % 256
    let listens := [1, 2, 4].contains (s.rd (0x100B + c) 0x01) = true ∧ s.rd (0x100B + c) 0x09 + lost < 2 ^ 64
    let shows (t : State) (st : Nat) := t.rd (0x100B + c) 0x01 = st ∧ t.rd (0x100B + c) 0x02 = min tec 255 ∧
      t.rd (0x100B + c) 0x03 = min rec 255 ∧ t.rd (0x100B + c) 0x09 = s.rd (0x100B + c) 0x09 + lost
    (hears → (f.fd = false ∨ f.id.toNat / 2 ^ 21 % 32 ≠ 0x16) → exec (.canFrameReceived c f) s
      = .next (s.fresh.bump 64 (0x100B + c) 0x07).settle) ∧
    (hears → f.fd = true → f.id.toNat / 2 ^ 21 % 32 = 0x16 → f.data.head? = some 0x53 →
      f.id.toNat / 2 ^ 14 % 128 = s.rd 0x1008 0x01 → f.id.toNat / 2 ^ 7 % 128 = s.rd 0x1008 0x01 →
      (s.canCh c).silent = false → Completes (exec (.canFrameReceived c f) s) (fun t =>
        t.rd (0x100B + c) 0x01 = 4 ∧ (t.canCh c).silent = true ∧ t.rd (0x7100 + 324) 0x01 = 1)) ∧
    (hears → alone → s.mayShow r false idx sub = true → idx ≠ 0x100B + c →
      Completes (exec (.canExpeditedRead c prio node tid idx sub) s) (fun t =>
        .answer r 0 (s.shownBytes r idx sub) ∈ t.out ∧
        t.rd (0x100B + c) 0x04 = counterNext 64 (ent (0x100B + c) 0x04) (s.rd (0x100B + c) 0x04))) ∧
    (hears → alone → s.mayStore r idx sub bytes = true →
      Completes (exec (.canExpeditedWrite c prio node tid idx sub bytes) s) (fun t =>
        t.rd idx sub = bytesNat bytes ∧ .answer r 0 [] ∈ t.out)) ∧
    (hears → alone → s.transfers = [] → 1 ≤ win → win ≤ s.rd 0x100D 0x02 → win < 256 → s.mayShow r true idx sub = true →
      s.shownBytes r idx sub ≠ [] → Completes (exec (.canSegmentedRead c prio node tid idx sub win) s) (fun t =>
        .answer r 0 (s.shownBytes r idx sub) ∈ t.out ∧
        t.transfers.map (fun y => (y.r, y.tid, y.key, y.data)) = [(r, tid, ent idx sub, s.shownBytes r idx sub)])) ∧
    (hears → alone → s.transfers = [] → 1 ≤ win → win ≤ s.rd 0x100D 0x02 → win < 256 → 1 ≤ size → size < 2 ^ 32 →
      s.maySend r idx sub = true → ¬(0x2510 ≤ idx ∧ idx < 0x2513) →
      Completes (exec (.canSegmentedWrite c prio node tid idx sub size win) s) (fun t =>
        t.transfers.map (fun y => (y.r, y.tid, y.key, y.write, y.size, y.data))
          = [(r, tid, ent idx sub, true, size, [])])) ∧
    (hears → mine → tr.write = true → tr.key ≠ ent 0x4310 0x00 → ¬(0x2510 ≤ tr.key / 256 ∧ tr.key / 256 < 0x2513) →
      seq = tr.seq % 256 → bytes.length = 60 → tr.data.length + 60 < tr.size → tr.seq + 1 - tr.sent ≠ tr.win →
      Completes (exec (.canSegment c node tid seq bytes) s) (fun t => t.transfers
        = s.transfers.map (fun y => if y = tr then { tr with data := tr.data ++ bytes, seq := tr.seq + 1 } else y))) ∧
    (hears → mine → tr.write = true → seq ≠ tr.seq % 256 →
      (¬ends → exec (.canSegment c node tid seq bytes) s = .next (s.fresh.canProcessed c).settle) ∧
      (ends → Completes (exec (.canSegment c node tid seq bytes) s) (fun t =>
        t.transfers = s.transfers.map (fun y => if y = tr then { tr with sent := tr.seq } else y) ∧
        (s.canSends c = true → s.rdBit 0x1009 0x03 c = true → (s.canCh c).silent = false → ∃ id data, .canFrame c id data ∈ t.out ∧
          data.take 4 = [0x53, 0x06, BitVec.ofNat 8 tid, BitVec.ofNat 8 (tr.seq + 255)])))) ∧
    (hears → mine → tr.write = false → s.badWindow win = false → seq = (segCount tr.size - 1) % 256 →
      tr.seq < segCount tr.size → tr.sent = segCount tr.size → segCount tr.size - tr.seq < 256 →
      Completes (exec (.canAcknowledge c node tid seq win) s) (fun t => t.transfers = s.transfers.erase tr)) ∧
    (hears → mine → Completes (exec (.canAbort c node tid code) s) (fun t => t.transfers = s.transfers.erase tr)) ∧
    (s.transfers.find? (fun t => t.r = r && t.tid = tid) = some tr →
      Completes (exec (.transferTimeout r tid) s) (fun t => t.transfers = s.transfers.erase tr ∧
        .answer r 0x05040000 [] ∈ t.out)) ∧
    (s.startup.firmware = true → s.rdBit 0x1009 0x03 0 = true → s.rdBit 0x1009 0x03 1 = false → s.canSends 0 = true →
      (s.canCh 0).silent = false → Completes (exec .canHeartbeat s) (fun t => ∃ data, t.out = [.canFrame 0 (canId 2 0 (s.rd 0x1008 0x01) 0x10) data] ∧
        data.take 4 = [0x53, 0x40, BitVec.ofNat 8 s.engineSt, BitVec.ofNat 8 s.pairSt])) ∧
    ([1, 2, 4].contains (s.rd (0x100B + c) 0x01) = true → Completes (exec (.busOff c) s) (fun t =>
      t.rd (0x100B + c) 0x01 = 3 ∧ t.rd (0x100B + c) 0x02 = 255 ∧ t.rd (0x7100 + 320 + c) 0x01 = 1)) ∧
    (s.rd (0x100B + c) 0x01 = 3 → (s.canCh c).offSince + s.rd 0x1009 0x04 * 1000000 ≤ s.now →
      Completes (exec (.busOffRecovery c 128) s) (fun t =>
        t.rd (0x100B + c) 0x01 = (if (s.canCh c).silent then 4 else 1) ∧ t.rd (0x100B + c) 0x02 = 0 ∧
        t.rd (0x100B + c) 0x03 = 0)) ∧
    (listens → (s.canCh c).silent = false → s.rd (0x100B + c) 0x02 ≤ 127 → s.rd (0x100B + c) 0x03 ≤ 127 →
      (127 < tec ∨ 127 < rec) → Completes (exec (.errorPassive c tec rec lost) s) (fun t => shows t 2 ∧
        t.rd (0x7100 + 322 + c) 0x01 = 1)) ∧
    (listens → (s.canCh c).silent = false → tec ≤ 127 → rec ≤ 127 →
      Completes (exec (.errorPassive c tec rec lost) s) (fun t => shows t 1)) ∧
    (listens → (s.canCh c).silent = true → Completes (exec (.errorPassive c tec rec lost) s) (fun t => shows t 4))

/-- R418 to R423, R425: the mailboxes, the dictionary port and the design's own entries: each operation and its
answer on the path that asked.
The model's deductions: a value that the design answers is kept for a save (log entry 62), and a stream that goes well
is answered when its bytes are in (log entry 58). -/
def Obligations.MailboxesAndPort : Prop :=
  ∀ (s : State) (m tag idx sub total res : Nat) (bytes : List Byte) (tr : Transfer) (d : DesignReq) (q : Requester),
    m < 16 → tag < 256 → idx < 65536 → sub < 256 →
    let r := Requester.mailbox m
    let free := s.answers r = true ∧ (s.mailbox m).status.getLsbD 31 = false ∧ (s.mailbox m).opening = false
    let idle := s.answers .port = true ∧ s.portReq = none
    let shown := s.shownBytes r idx sub
    (s.answers r = true → (s.mailbox m).status.getLsbD 31 = true →
      (exec (.mailboxRead m idx sub) s = .next (s.fresh.bump 32 0x1011 0x03).settle ∧
        exec (.mailboxWrite m idx sub bytes) s = .next (s.fresh.bump 32 0x1011 0x03).settle ∧
        exec (.mailboxAbort m) s = .next (s.fresh.bump 32 0x1011 0x03).settle)) ∧
    (free → s.mayShow r false idx sub = true → Completes (exec (.mailboxRead m idx sub) s) (fun t =>
      (t.mailbox m).value = shown ∧ (t.mailbox m).status = BitVec.ofNat 32 (0x40000000 + shown.length) ∧
      .answer r 0 shown ∈ t.out)) ∧
    (free → s.mayStore r idx sub bytes = true → Completes (exec (.mailboxWrite m idx sub bytes) s) (fun t =>
      t.rd idx sub = bytesNat bytes ∧ (t.mailbox m).status = 0x40000000)) ∧
    (free → s.mailboxTransfer m = none → s.transfersFull = false → s.mayShow r true idx sub = true →
      shown.length ≤ 1044480 → Completes (exec (.mailboxSegmentedRead m idx sub) s) (fun t =>
        (t.mailbox m).data = shown ∧ (t.mailbox m).status = BitVec.ofNat 32 (0x40000000 + shown.length))) ∧
    (free → s.mailboxTransfer m = none → s.transfersFull = false → s.maySend r idx sub = true →
      ¬(0x2510 ≤ idx ∧ idx < 0x2513) → 1 ≤ total → total < 2 ^ 32 →
      Completes (exec (.mailboxSegmentedWrite m idx sub total) s) (fun t => t.transfers = s.transfers ++
        [{ r := r, key := ent idx sub, write := true, size := total }] ∧ (t.mailbox m).status = 0x40000000)) ∧
    (free → s.mailboxTransfer m = some tr → tr.write = true → tr.key ≠ ent 0x4310 0x00 →
      ¬(0x2510 ≤ tr.key / 256 ∧ tr.key / 256 < 0x2513) → 1 ≤ bytes.length → bytes.length ≤ 1044480 →
      tr.data.length + bytes.length < tr.size → Completes (exec (.mailboxSegment m bytes) s) (fun t => t.transfers
        = s.transfers.map (fun y => if y = tr then { tr with data := tr.data ++ bytes } else y))) ∧
    (free → s.mailboxTransfer m = none → Completes (exec (.mailboxSegment m bytes) s) (fun t =>
      (t.mailbox m).status = 0x60000000 ∧ (t.mailbox m).abort = 0x05030000)) ∧
    (free → s.mailboxTransfer m = some tr → Completes (exec (.mailboxAbort m) s) (fun t =>
      t.transfers = s.transfers.erase tr ∧ (t.mailbox m).status = 0x40000000)) ∧
    (idle → s.mayShow .port false idx sub = true → Completes (exec (.dictPortRead tag idx sub) s) (fun t =>
      t.portOut = s.portOut ++ portAnswer { op := 1, tag := tag, key := ent idx sub } 0 (s.shownBytes .port idx sub) ∧
      t.portReq = none)) ∧
    (idle → s.mayStore .port idx sub bytes = true → Completes (exec (.dictPortWrite tag idx sub bytes) s) (fun t =>
      t.rd idx sub = bytesNat bytes ∧
      t.portOut = s.portOut ++ portAnswer { op := 2, tag := tag, key := ent idx sub } 0 [])) ∧
    (idle → s.portTransfer = none → s.transfersFull = false → s.maySend .port idx sub = true →
      ¬(0x2510 ≤ idx ∧ idx < 0x2513) → Completes (exec (.dictPortSegmentedOpen tag idx sub) s) (fun t =>
        t.transfers = s.transfers ++ [{ r := .port, key := ent idx sub, write := true }])) ∧
    (idle → s.portTransfer = some tr → tr.key ≠ ent 0x4310 0x00 → ¬(0x2510 ≤ tr.key / 256 ∧ tr.key / 256 < 0x2513) →
      tr.data.length + bytes.length ≤ 1048576 → Completes (exec (.dictPortSegment tag bytes) s) (fun t => t.transfers
        = s.transfers.map (fun y => if y = tr then { tr with data := tr.data ++ bytes } else y))) ∧
    (idle → s.portTransfer = none → Completes (exec (.dictPortSegmentedClose tag) s) (fun t =>
      t.portOut = s.portOut ++ portAnswer { op := 5, tag := tag, key := 0 } 0x05030000 [])) ∧
    (idle → s.portTransfer = some tr → tr.key = ent 0x4310 0x00 → tr.failed = 0 → s.ownsLoad 5 = false →
      s.load.waiting = none →
      Completes (exec (.dictPortSegmentedClose tag) s) (fun t => t.transfers = s.transfers.erase tr ∧
        t.portOut = s.portOut ++ portAnswer { op := 5, tag := tag, key := tr.key } 0 [])) ∧
    (s.design = some d → d.tag = res → d.r = some q → d.write = false → s.designQ = [] →
      Completes (exec (.designAnswer res 0 bytes) s) (fun t => t.design = none ∧ .answer q 0 bytes ∈ t.out ∧
        t.userVals.lookup d.key = some bytes)) ∧
    (s.design = some d → d.tag ≠ res → exec (.designAnswer res 0 bytes) s = .next s.fresh.settle) ∧
    (s.design = some d → d.r = some q → s.designQ = [] → Completes (exec .designTimeout s) (fun t => t.design = none ∧
      .answer q 0x08000030 [] ∈ t.out ∧ t.rd (0x7100 + 326) 0x01 = 1 ∧
      t.rd 0x1010 0x03 = counterNext 32 (ent 0x1010 0x03) (s.rd 0x1010 0x03)))

/-! ### The fault collector (chapter 16) -/

/-- R481, R482, R486, R487, R489, R492, R493: what a raise records: status, code, effective level, time, counters, the
history entry and its copy for the log, the vector; which actions its level calls for; and that entries outside the
collector's own pages and the channels' stand.
The model's deduction: the window of a burst (log entry 70). -/
def Obligations.Raises : Prop :=
  ∀ (s : State) (src cls code level detail a b : Nat) (forced : Bool), src < 384 → cls < 16 →
    let t := s.raise src cls code level detail forced
    let conf := if s.rd (0x7100 + src) 0x03 = 0xFF then level else s.rd (0x7100 + src) 0x03
    let esc : Bool := decide (1 ≤ conf) && decide (conf < 3) && s.classOpen cls && decide (s.rd (0x7100 + src) 0x05 = 1)
    let eff := if esc then conf + 1 else conf
    let word := s.rd (0x7100 + src) 0x04
    t.rd (0x7100 + src) 0x01 = 1 ∧
    t.rd (0x7100 + src) 0x08 = code % 0x2000 ∧
    t.rd (0x7100 + src) 0x09 = eff ∧
    t.rd (0x7100 + src) 0x07 = s.era % 16 * 2 ^ 48 + s.xn ∧
    t.rd (0x7100 + src) 0x06 = counterNext 32 (ent (0x7100 + src) 0x06) (s.rd (0x7100 + src) 0x06) ∧
    t.rd 0x7001 (cls + 1) = counterNext 32 (ent 0x7001 (cls + 1)) (s.rd 0x7001 (cls + 1)) ∧
    t.rd 0x7000 0x02 = counterNext 64 (ent 0x7000 0x02) (s.rd 0x7000 0x02) ∧
    (1 ≤ eff → t.rdBit (0x7100 + src) 0x0A cls = true ∧ t.classOpen cls = true) ∧
    (eff = 0 → t.rd (0x7100 + src) 0x0A = s.rd (0x7100 + src) 0x0A ∧ src ∈ t.collector.notes) ∧
    (s.historyBurst = false → ∃ h, t.collector.history = (h :: s.collector.history).take 32 ∧
      h.w0 = BitVec.ofNat 64 s.now ∧
      t.collector.logPending = s.collector.logPending ++ (if 2 ≤ eff then [h] else [])) ∧
    (s.rd (0x6110 + src / 128) (src % 128 + 1) / 2 ^ 15 % 2 = 1 →
      s.rd (0x6110 + src / 128) (src % 128 + 1) % 512 ∈ t.msixPend) ∧
    (forced = false → t.collector.actions = s.collector.actions ++ actionsOf src word eff) ∧
    (eff < 2 → actionsOf src word eff = []) ∧
    (eff = 3 → .haltFabric src ∈ actionsOf src word eff ∧ .yield ∈ actionsOf src word eff) ∧
    (b < 256 → (a < 0x7000 ∨ 0x7300 ≤ a) → a ≠ 0x100B → a ≠ 0x100C → t.rd a b = s.rd a b)

/-- R488, R490 to R493: acknowledgement of a source, of classes, of everything; forced and user raises; the history and
the fault log cleared and written.
The model's deduction: FAULT_LOG_WRITE appends all entries that wait, and CLEAR_LOG drops them (log entry 84). -/
def Obligations.CollectorCommands : Prop :=
  ∀ (s : State) (r : Requester) (src other : Nat) (mask : BitVec 16) (v : BitVec 64) (ok : Bool),
    src < 384 → other < 384 →
    (s.mayWrite r (0x7100 + src) 0x01 1 = true → Accepted (exec (.statusAcknowledge r src) s) r (0x7100 + src) 0x01
      (fun t => t.rd (0x7100 + src) 0x01 = 0 ∧ t.rd (0x7100 + src) 0x0A = 0 ∧ src ∉ t.collector.notes ∧
        (other ≠ src → t.rd (0x7100 + other) 0x01 = s.rd (0x7100 + other) 0x01 ∧
          t.rd (0x7100 + other) 0x0A = s.rd (0x7100 + other) 0x0A))) ∧
    (s.mayWrite r 0x7000 0x05 mask.toNat = true → Accepted (exec (.acknowledgeClasses r mask) s) r 0x7000 0x05 (fun t =>
      let old := s.rd (0x7100 + src) 0x0A
      (∀ c, c < 16 → t.rdBit (0x7100 + src) 0x0A c = (old.testBit c && !mask.getLsbD c)) ∧
      (old ≠ 0 → t.rd (0x7100 + src) 0x0A = 0 → src ∉ s.collector.notes → t.rd (0x7100 + src) 0x01 = 0) ∧
      (old = 0 ∨ t.rd (0x7100 + src) 0x0A ≠ 0 ∨ src ∈ s.collector.notes →
        t.rd (0x7100 + src) 0x01 = s.rd (0x7100 + src) 0x01))) ∧
    (s.mayWrite r 0x7000 0x06 1 = true → Accepted (exec (.acknowledgeAll r) s) r 0x7000 0x06 (fun t =>
      t.rd (0x7100 + src) 0x01 = 0 ∧ t.rd (0x7100 + src) 0x0A = 0 ∧ t.collector.notes = [])) ∧
    (s.mayWrite r (0x7100 + src) 0x02 1 = true → exec (.force r src) s
      = (s.fresh.raise src (firstClass src) 0x10FF 1 0 true).accepted r (0x7100 + src) 0x02) ∧
    (s.mayWrite r 0x7002 0x01 v.toNat = true → v.toNat / 65536 % 65536 = 0 → v.toNat / 32 % 8 = 0 →
      v.toNat / 256 % 256 ≠ 0 → exec (.userRaise r v) s
        = (s.fresh.raise (352 + v.toNat % 32) clsUser (0x1F00 + v.toNat / 256 % 256) 1 (v.toNat / 2 ^ 32)).accepted r
            0x7002 0x01) ∧
    (s.mayWrite r 0x7010 0x04 1 = true → Accepted (exec (.clearHistory r) s) r 0x7010 0x04 (fun t =>
      t.collector.history = [] ∧ t.collector.log = s.collector.log)) ∧
    (s.mayWrite r 0x7031 0x03 1 = true → Accepted (exec (.clearLog r) s) r 0x7031 0x03 (fun t =>
      t.collector.log = [] ∧ t.collector.history = s.collector.history)) ∧
    (s.collector.logPending ≠ [] → s.domSt 3 = 1 → Completes (exec (.faultLogWrite ok) s) (fun t =>
      (ok = true → t.collector.logPending = [] ∧ t.collector.log = (s.collector.log ++ s.collector.logPending).drop
        ((s.collector.log ++ s.collector.logPending).length - 4096)) ∧
      (ok = false → t.collector.log = s.collector.log ∧
        t.rd (0x7100 + 247) 0x01 = 1 ∧
        t.rd 0x7031 0x02 = counterNext 32 (ent 0x7031 0x02) (s.rd 0x7031 0x02)))) ∧
    (s.collector.logPending = [] → exec (.faultLogWrite ok) s = .next s.fresh.settle)

/-! ### Security and update (chapter 17) -/

/-- R500 to R502, R506, R508: owner keys and fuses, key slots, debug unlock and lock.
The model's deductions and choices: a key with the hash of the other owner key, and the code that key slot 15 answers
(log entry 110), the debug lock without a right (log entry 65), and which keep-store writes fail (log entry 214). -/
def Obligations.KeysAndFuses : Prop :=
  ∀ (s : State) (r : Requester) (k i : Nat) (bytes : List Byte), k < 15 → i < 2 →
    let digest := bytesNat (beBytes 48 (Config.sha384 bytes).toNat)
    let free := s.rdBit 0x2400 0x01 i = false ∧ (s.rdBit 0x2400 0x01 (1 - i) = false ∨ s.rd 0x2400 (4 - i) ≠ digest) ∧
      (i = 1 → s.sessionSigner r = 1)
    (s.maySend r 0x2401 (i + 1) = true → bytes.length = 97 → free →
      Kept s (exec (.programOwnerKey r i bytes) s) r 0x2401 (i + 1) (fun t => t.rdBit 0x2400 0x01 i = true ∧
        t.rd 0x2400 (3 + i) = digest ∧ t.security.ownerKeys.lookup i = some { key := .storage, content := bytes })) ∧
    (s.maySend r 0x2401 (i + 1) = true → (bytes.length ≠ 97 ∨ ¬free) →
      exec (.programOwnerKey r i bytes) s = .next (s.fresh.reply r (ent 0x2401 (i + 1))
        (if bytes.length = 97 then abortState else abortValue)).settle) ∧
    (s.mayWrite r 0x2401 0x03 1 = true → s.rdBit 0x2400 0x01 1 = true → s.rdBit 0x2400 0x01 3 = false →
      s.sessionSigner r = 2 → Accepted (exec (.revokeOwnerKey0 r) s) r 0x2401 0x03 (fun t =>
        t.rdBit 0x2400 0x01 2 = true ∧ t.signerKey 1 = none)) ∧
    (s.mayWrite r 0x2401 0x03 2 = true → s.rdBit 0x2400 0x01 0 = true → s.rdBit 0x2400 0x01 2 = false →
      s.sessionSigner r = 1 → Accepted (exec (.revokeOwnerKey1 r) s) r 0x2401 0x03 (fun t =>
        t.rdBit 0x2400 0x01 3 = true ∧ t.signerKey 2 = none)) ∧
    (s.mayWrite r 0x2401 0x03 3 = true → Accepted (exec (.requireSignatures r) s) r 0x2401 0x03 (fun t =>
      t.rdBit 0x2400 0x01 4 = true ∧ t.rd 0x4300 0x07 = 1)) ∧
    (s.mayWrite r 0x2401 0x03 4 = true → Accepted (exec (.disableDebug r) s) r 0x2401 0x03 (fun t =>
      t.rdBit 0x2400 0x01 5 = true ∧ (s.rd 0x2430 0x01 = 0 → t.rd 0x2430 0x01 = 2) ∧
      (s.rd 0x2430 0x01 = 1 → t.rd 0x2430 0x01 = 1))) ∧
    (s.maySend r (0x2410 + k) 0x03 = true → Completes (exec (.installKey r k bytes) s) (fun t =>
      ∀ key, s.installedKey k bytes = some key →
        (Config.keepFails s.now = false → t.rd (0x2410 + k) 0x01 = 1 ∧ t.rd (0x2410 + k) 0x02 = fieldAt bytes 0 4 ∧
          t.security.keys.lookup k = some { key := .slotWrap, content := key } ∧
          t.security.slotKeys.lookup k = some key ∧ .answer r 0 [] ∈ t.out) ∧
        (Config.keepFails s.now = true → t = s.fresh.keepFault.reply r (ent (0x2410 + k) 0x03) 0x08000050))) ∧
    (s.maySend r 0x241F 0x03 = true → exec (.installKey r 15 bytes) s
      = .next (s.fresh.reply r (ent 0x241F 0x03) abortState).settle) ∧
    (s.mayWrite r 0x241F 0x04 1 = true → exec (.revokeKey r 15) s
      = .next (s.fresh.reply r (ent 0x241F 0x04) abortState).settle) ∧
    (s.fresh.keepFault.spareLines = s.spareLines - 1 ∧ s.fresh.keepFault.rd (0x7100 + 247) 0x01 = 1 ∧
      (s.spareLines = 779879 → s.fresh.keepFault.rd (0x7100 + 248) 0x01 = 1)) ∧
    (s.maySend r (0x2410 + k) 0x03 = true → s.installedKey k bytes = none →
      exec (.installKey r k bytes) s = .next ((s.fresh.raise 230 clsSecurity 0x1104 1 k).reply r (ent (0x2410 + k) 0x03)
        abortValue).settle) ∧
    (s.mayWrite r (0x2410 + k) 0x04 1 = true → Kept s (exec (.revokeKey r k) s) r (0x2410 + k) 0x04 (fun t =>
      t.rd (0x2410 + k) 0x01 = 2 ∧ t.slotKey_ k = none ∧ t.security.slotKeys.lookup k = none)) ∧
    (s.mayWrite r 0x2430 0x06 1 = true → s.rdBit 0x2400 0x01 5 = false → s.sessionSigner r ≠ 0 →
      Accepted (exec (.debugUnlock r) s) r 0x2430 0x06 (fun t => t.rd 0x2430 0x01 = 1 ∧
        t.rd (0x7100 + 225) 0x01 = 1 ∧ t.rd (0x7100 + 225) 0x08 = 0x1102)) ∧
    (s.mayWrite r 0x2430 0x06 2 = true → s.rd 0x2430 0x01 = 1 → Accepted (exec (.debugLock r) s) r 0x2430 0x06 (fun t =>
      t.rd 0x2430 0x01 = if s.rdBit 0x2400 0x01 5 then 2 else 0)) ∧
    (s.startup.firmware = true → exec .tamperCountExpiry s = .next (s.fresh.wr 0x2430 0x05 0).settle)

/-- R503, R504, R514: challenges, responses, sessions and the update lock.
The model's deductions: the path shown while nobody holds the lock (log entry 21), and which paths may open a session
(log entry 111). -/
def Obligations.SessionsAndLock : Prop :=
  ∀ (s : State) (r q : Requester) (bytes : List Byte),
    (s.mayRead r false 0x2420 0x01 = true → exec (.challenge r) s
      = .next ((s.fresh.challenge r).2.reply r (ent 0x2420 0x01) 0 (s.fresh.challenge r).1).settle) ∧
    ((s.challenge r).1.length = 48 ∧ (s.challenge r).2.sessionState r ≠ 0) ∧
    (s.maySend r 0x2420 0x02 = true → Completes (exec (.response r bytes) s) (fun t =>
      ∀ rights signer, s.responseRights r bytes = some (rights, signer) → t.sessionState r = 2 ∧
        t.sessionSigner r = signer ∧ .answer r 0 [] ∈ t.out ∧
        ∀ y ∈ t.security.challenges, sameRequester y.r r = false)) ∧
    (s.maySend r 0x2420 0x02 = true → s.responseRights r bytes = none → Completes (exec (.response r bytes) s) (fun t =>
      t.security.sessions = s.security.sessions ∧ t.rd (0x7100 + 224) 0x01 = 1 ∧
      t.rd 0x2420 0x07 = counterNext 32 (ent 0x2420 0x07) (s.rd 0x2420 0x07))) ∧
    (s.mayWrite r 0x2420 0x05 1 = true → Accepted (exec (.closeSession r) s) r 0x2420 0x05 (fun t =>
      t.sessionState r = 0 ∧ t.holdsLock r = false)) ∧
    (requesterOk r = true → Completes (exec (.sessionIdleTimeout r) s) (fun t =>
      t.sessionState r = 0 ∧ t.holdsLock r = false)) ∧
    (s.mayWrite r 0x2500 0x01 1 = true → s.security.lock = none → Accepted (exec (.lockClaim r) s) r 0x2500 0x01 (fun t =>
      t.security.lock = some r ∧ t.rd 0x2500 0x02 = pathCode r)) ∧
    (s.mayWrite r 0x2500 0x01 1 = true → s.security.lock = some q → sameRequester r q = false →
      Completes (exec (.lockClaim r) s) (fun t => t.security.lock = some q ∧ t.rd (0x7100 + 240) 0x01 = 1)) ∧
    (s.mayWrite r 0x2500 0x01 2 = true → s.holdsLock r = true → Accepted (exec (.lockRelease r) s) r 0x2500 0x01 (fun t =>
      t.security.lock = none ∧ t.rd 0x2500 0x02 = 0xFF ∧ t.rd 0x2520 0x03 ≠ 1)) ∧
    (s.security.lock.isSome = true → Completes (exec .lockIdleTimeout s) (fun t =>
      t.security.lock = none ∧ t.rd 0x2500 0x02 = 0xFF ∧ t.rd 0x2520 0x03 ≠ 1))

/-- R511 to R513, R515 to R524: images as they are written and verified, the SVN floor, transactions and their journal,
trials, confirmation and fallback.
The model's choice: which keep-store writes fail (log entry 214). -/
def Obligations.Updates : Prop :=
  ∀ (s : State) (r : Requester) (j : Nat) (bytes : List Byte) (v : BitVec 32) (c : StartConds), j < 3 →
    let x := s.otherSlot j
    let res := s.verifyImage j bytes
    let old := s.rd 0x2400 0x05 / 256 ^ j % 256
    (s.maySend r (0x2510 + j) 0x06 = true → s.imageWritable j = true → Completes (exec (.imageWrite r j bytes) s)
      (fun t => (Config.keepFails s.now = true → t.imageSt j x = imInvalid ∧ t.rd (0x7100 + 247) 0x01 = 1 ∧
          .answer r 0x08000050 [] ∈ t.out) ∧ (Config.keepFails s.now = false → .answer r 0 [] ∈ t.out ∧ t.rd (0x2510 + j) 0x08 = res ∧ t.rd (0x2510 + j) 0x07 = bytes.length ∧
        t.activeSlot j = s.activeSlot j ∧
        (res = 1 → t.imageSt j x = imWritten ∧ (t.image j x).bytes = bytes ∧ t.rd (0x7100 + 241) 0x01 = 1) ∧
        (res ≠ 1 → t.imageSt j x = imInvalid)))) ∧
    (s.maySend r (0x2510 + j) 0x06 = true → s.imageWritable j = false → exec (.imageWrite r j bytes) s
      = .next (s.fresh.reply r (ent (0x2510 + j) 0x06) abortState).settle) ∧
    (s.mayWrite r 0x2401 0x04 v.toNat = true → v.toNat / 65536 = j + 1 → v.toNat / 256 % 256 = 0 → v.toNat % 256 ≤ 64 →
      s.imageSt j 0 = imActive → old ≤ v.toNat % 256 → v.toNat % 256 ≤ (s.image j 0).svn →
      Accepted (exec (.svnFloorCommand r v) s) r 0x2401 0x04 (fun t =>
        t.rd 0x2400 0x05 / 256 ^ j % 256 = v.toNat % 256)) ∧
    (s.mayWrite r 0x2520 0x01 1 = true → (s.rd 0x2520 0x03 = 0 ∨ 4 ≤ s.rd 0x2520 0x03) →
      orderWordOk (s.rd 0x2520 0x02) = true → Kept s (exec (.transactionBegin r) s) r 0x2520 0x01 (fun t =>
        t.rd 0x2520 0x03 = 1 ∧ t.rd 0x2520 0x05 = (s.rd 0x2520 0x05 + 1) % 2 ^ 32 ∧
        (t.decidingRec.map (fun y => (y.type, y.order))) = some (jBegin, s.rd 0x2520 0x02))) ∧
    (s.mayWrite r 0x2520 0x01 2 = true → s.rd 0x2520 0x03 = 1 → s.failingStep = 0 →
      Kept s (exec (.transactionCommit r) s) r 0x2520 0x01 (fun t => t.rd 0x2520 0x03 = 2 ∧
        (t.decidingRec.map (fun y => y.type)) = some jCommit ∧ t.rd (0x7100 + 242) 0x01 = 1)) ∧
    (s.mayWrite r 0x2520 0x01 2 = true → s.rd 0x2520 0x03 = 1 → s.failingStep ≠ 0 →
      Completes (exec (.transactionCommit r) s) (fun t => t.rd 0x2520 0x04 = s.failingStep ∧ t.rd 0x2520 0x03 = 1 ∧
        t.rd (0x7100 + 243) 0x01 = 1)) ∧
    (s.mayWrite r 0x2520 0x01 3 = true → s.rd 0x2520 0x03 = 1 → Kept s (exec (.transactionAbort r) s) r 0x2520 0x01
      (fun t => t.rd 0x2520 0x03 = 5 ∧ (t.decidingRec.map (fun y => y.type)) = some jAbort)) ∧
    (s.mayActivate = true → s.nextPart = some (j + 1) → (s.pairSt ≠ 4 ∨ s.partner ≠ 3) →
      Completes (exec (.partActivation c) s) (fun t => s.DeviceReset t c 6)) ∧
    (s.mayActivate = true → s.nextPart = some (j + 1) → s.pairSt = 4 → s.partner = 3 →
      Completes (exec (.partActivation c) s) (fun t => t.pair.yieldDue = true ∧ t.rd 0x2520 0x03 = s.rd 0x2520 0x03)) ∧
    ((let t := s.activatePart (j + 1)
      t.rd 0x2520 0x03 = 3 ∧ t.rd (0x2510 + j) 0x01 = x ∧ t.imageSt j x = imTrial) ∧
      (s.mayActivate = false → exec (.partActivation c) s = .next s.fresh.settle)) ∧
    (s.rd 0x2501 0x01 = 1 → s.rd 0x2501 0x02 = j + 1 → s.trialGood = true → Completes (exec .partConfirm s) (fun t =>
      t.rd 0x2501 0x01 = 2 ∧ t.imageSt j (s.activeSlot j) = imActive ∧ t.imageSt j x = imPrevious ∧
      t.rd (0x7100 + 244) 0x01 = 1)) ∧
    (s.mayWrite r 0x2501 0x06 1 = true → Accepted (exec (.hostConfirm r) s) r 0x2501 0x06 (fun t =>
      t.security.hostConfirmed = true)) ∧
    (s.rd 0x2501 0x01 = 1 → s.rd 0x2501 0x02 = j + 1 → s.onTrial j = true → (s.decidingRec.any (fun y => y.type = jFallback)) = false →
      Completes (exec .confirmationTimeout s) (fun t => t.rd 0x2501 0x01 = 3 ∧
        t.imageSt j (s.activeSlot j) = imRejected ∧ t.rd (0x2510 + j) 0x01 = x ∧
        t.security.fallbackDue = decide (s.rd 0x2501 0x08 = 1) ∧ t.rd (0x7100 + 245) 0x01 = 1)) ∧
    (s.security.fallbackDue = true → s.engineSt ≤ 1 → Completes (exec (.fallbackReset c) s) (fun t =>
      s.DeviceReset t c 7)) ∧
    ((s.security.fallbackDue = false ∨ 1 < s.engineSt) → Completes (exec (.fallbackReset c) s) s.Unchanged)

/-! ### The kernels' instructions (chapter 12) -/

/-- R374: the 16-bit instructions that write a register, and NOP, JR. -/
def Obligations.KernelShortResults : Prop :=
  ∀ (s : State) (k rd rs : Nat) (imm : BitVec 7), rd < 16 →
    (s.atInstr k (.mv k rd rs) = true → Completes (exec (.mv k rd rs) s) (s.GivesReg k rd (s.greg k rs) 2)) ∧
    (s.atInstr k (.add k rd rs) = true →
      Completes (exec (.add k rd rs) s) (s.GivesReg k rd (s.greg k rd + s.greg k rs) 2)) ∧
    (s.atInstr k (.sub k rd rs) = true →
      Completes (exec (.sub k rd rs) s) (s.GivesReg k rd (s.greg k rd - s.greg k rs) 2)) ∧
    (s.atInstr k (.and k rd rs) = true →
      Completes (exec (.and k rd rs) s) (s.GivesReg k rd (s.greg k rd &&& s.greg k rs) 2)) ∧
    (s.atInstr k (.or k rd rs) = true →
      Completes (exec (.or k rd rs) s) (s.GivesReg k rd (s.greg k rd ||| s.greg k rs) 2)) ∧
    (s.atInstr k (.xor k rd rs) = true →
      Completes (exec (.xor k rd rs) s) (s.GivesReg k rd (s.greg k rd ^^^ s.greg k rs) 2)) ∧
    (s.atInstr k (.sll k rd rs) = true →
      Completes (exec (.sll k rd rs) s) (s.GivesReg k rd (s.greg k rd <<< ((s.greg k rs).toNat % 32)) 2)) ∧
    (s.atInstr k (.srl k rd rs) = true →
      Completes (exec (.srl k rd rs) s) (s.GivesReg k rd (s.greg k rd >>> ((s.greg k rs).toNat % 32)) 2)) ∧
    (s.atInstr k (.sra k rd rs) = true →
      Completes (exec (.sra k rd rs) s) (s.GivesReg k rd ((s.greg k rd).sshiftRight ((s.greg k rs).toNat % 32)) 2)) ∧
    (s.atInstr k (.li k rd imm) = true → Completes (exec (.li k rd imm) s) (s.GivesReg k rd (imm.signExtend 32) 2)) ∧
    (s.atInstr k (.cAddi k rd imm) = true →
      Completes (exec (.cAddi k rd imm) s) (s.GivesReg k rd (s.greg k rd + imm.signExtend 32) 2)) ∧
    (s.atInstr k (.jr k rs) = true → Completes (exec (.jr k rs) s) (s.GivesPc k (s.greg k rs &&& 0xFFFFFFFE))) ∧
    (s.atInstr k (.nop k) = true → Completes (exec (.nop k) s) (s.GivesPc k ((s.kernel k).pc + 2)))

/-- R375, Table 12-6: the ALU functions.
R375, Table 12-5: the instructions with an immediate. -/
def Obligations.KernelAluResults : Prop :=
  (∀ (s : State) (k rd rs1 rs2 : Nat), rd < 16 →
     let a := s.greg k rs1
     let b := s.greg k rs2
     (s.atInstr k (.aluAdd k rd rs1 rs2) = true →
       Completes (exec (.aluAdd k rd rs1 rs2) s) (s.GivesReg k rd (a + b) 4)) ∧
     (s.atInstr k (.aluSub k rd rs1 rs2) = true →
       Completes (exec (.aluSub k rd rs1 rs2) s) (s.GivesReg k rd (a - b) 4)) ∧
     (s.atInstr k (.aluAnd k rd rs1 rs2) = true →
       Completes (exec (.aluAnd k rd rs1 rs2) s) (s.GivesReg k rd (a &&& b) 4)) ∧
     (s.atInstr k (.aluOr k rd rs1 rs2) = true →
       Completes (exec (.aluOr k rd rs1 rs2) s) (s.GivesReg k rd (a ||| b) 4)) ∧
     (s.atInstr k (.aluXor k rd rs1 rs2) = true →
       Completes (exec (.aluXor k rd rs1 rs2) s) (s.GivesReg k rd (a ^^^ b) 4)) ∧
     (s.atInstr k (.aluSll k rd rs1 rs2) = true →
       Completes (exec (.aluSll k rd rs1 rs2) s) (s.GivesReg k rd (a <<< (b.toNat % 32)) 4)) ∧
     (s.atInstr k (.aluSrl k rd rs1 rs2) = true →
       Completes (exec (.aluSrl k rd rs1 rs2) s) (s.GivesReg k rd (a >>> (b.toNat % 32)) 4)) ∧
     (s.atInstr k (.aluSra k rd rs1 rs2) = true →
       Completes (exec (.aluSra k rd rs1 rs2) s) (s.GivesReg k rd (a.sshiftRight (b.toNat % 32)) 4)) ∧
     (s.atInstr k (.setlt k rd rs1 rs2) = true →
       Completes (exec (.setlt k rd rs1 rs2) s) (s.GivesReg k rd (if a.toInt < b.toInt then 1 else 0) 4)) ∧
     (s.atInstr k (.setlo k rd rs1 rs2) = true →
       Completes (exec (.setlo k rd rs1 rs2) s) (s.GivesReg k rd (if a.toNat < b.toNat then 1 else 0) 4)) ∧
     (s.atInstr k (.mul k rd rs1 rs2) = true →
       Completes (exec (.mul k rd rs1 rs2) s) (s.GivesReg k rd (BitVec.ofNat 32 (a.toNat * b.toNat)) 4)) ∧
     (s.atInstr k (.mulhi k rd rs1 rs2) = true →
       Completes (exec (.mulhi k rd rs1 rs2) s) (s.GivesReg k rd (BitVec.ofNat 32 (a.toNat * b.toNat / 2 ^ 32)) 4))) ∧
  (∀ (s : State) (k rd rs1 : Nat) (imm : BitVec 17) (sh : BitVec 5) (upper : BitVec 21), rd < 16 →
     let a := s.greg k rs1
     (s.atInstr k (.addi k rd rs1 imm) = true →
       Completes (exec (.addi k rd rs1 imm) s) (s.GivesReg k rd (a + imm.signExtend 32) 4)) ∧
     (s.atInstr k (.andi k rd rs1 imm) = true →
       Completes (exec (.andi k rd rs1 imm) s) (s.GivesReg k rd (a &&& imm.setWidth 32) 4)) ∧
     (s.atInstr k (.ori k rd rs1 imm) = true →
       Completes (exec (.ori k rd rs1 imm) s) (s.GivesReg k rd (a ||| imm.setWidth 32) 4)) ∧
     (s.atInstr k (.xori k rd rs1 imm) = true →
       Completes (exec (.xori k rd rs1 imm) s) (s.GivesReg k rd (a ^^^ imm.setWidth 32) 4)) ∧
     (s.atInstr k (.shiSll k rd rs1 sh) = true →
       Completes (exec (.shiSll k rd rs1 sh) s) (s.GivesReg k rd (a <<< sh.toNat) 4)) ∧
     (s.atInstr k (.shiSrl k rd rs1 sh) = true →
       Completes (exec (.shiSrl k rd rs1 sh) s) (s.GivesReg k rd (a >>> sh.toNat) 4)) ∧
     (s.atInstr k (.shiSra k rd rs1 sh) = true →
       Completes (exec (.shiSra k rd rs1 sh) s) (s.GivesReg k rd (a.sshiftRight sh.toNat) 4)) ∧
     (s.atInstr k (.setlti k rd rs1 imm) = true →
       Completes (exec (.setlti k rd rs1 imm) s) (s.GivesReg k rd (if a.toInt < imm.toInt then 1 else 0) 4)) ∧
     (s.atInstr k (.lhi k rd upper) = true →
       Completes (exec (.lhi k rd upper) s) (s.GivesReg k rd (BitVec.ofNat 32 (upper.toNat * 2 ^ 11)) 4)))

/-- R374, R375: the branches, and the calls. -/
def Obligations.KernelBranches : Prop :=
  ∀ (s : State) (k rd rs1 rs2 : Nat) (off : BitVec 7) (imm : BitVec 17) (far : BitVec 21), rd < 16 →
    let a := s.greg k rs1
    let b := s.greg k rs2
    let pc := (s.kernel k).pc
    (s.atInstr k (.beqz k rs1 off) = true → Completes (exec (.beqz k rs1 off) s)
      (s.GivesPc k (if a = 0 then pc + 2 * off.signExtend 32 else pc + 2))) ∧
    (s.atInstr k (.bnez k rs1 off) = true → Completes (exec (.bnez k rs1 off) s)
      (s.GivesPc k (if a ≠ 0 then pc + 2 * off.signExtend 32 else pc + 2))) ∧
    (s.atInstr k (.bltz k rs1 off) = true → Completes (exec (.bltz k rs1 off) s)
      (s.GivesPc k (if a.toInt < 0 then pc + 2 * off.signExtend 32 else pc + 2))) ∧
    (s.atInstr k (.bgez k rs1 off) = true → Completes (exec (.bgez k rs1 off) s)
      (s.GivesPc k (if 0 ≤ a.toInt then pc + 2 * off.signExtend 32 else pc + 2))) ∧
    (s.atInstr k (.beq k rs1 rs2 imm) = true → Completes (exec (.beq k rs1 rs2 imm) s)
      (s.GivesPc k (if a = b then pc + 2 * imm.signExtend 32 else pc + 4))) ∧
    (s.atInstr k (.bne k rs1 rs2 imm) = true → Completes (exec (.bne k rs1 rs2 imm) s)
      (s.GivesPc k (if a ≠ b then pc + 2 * imm.signExtend 32 else pc + 4))) ∧
    (s.atInstr k (.blt k rs1 rs2 imm) = true → Completes (exec (.blt k rs1 rs2 imm) s)
      (s.GivesPc k (if a.toInt < b.toInt then pc + 2 * imm.signExtend 32 else pc + 4))) ∧
    (s.atInstr k (.bge k rs1 rs2 imm) = true → Completes (exec (.bge k rs1 rs2 imm) s)
      (s.GivesPc k (if b.toInt ≤ a.toInt then pc + 2 * imm.signExtend 32 else pc + 4))) ∧
    (s.atInstr k (.blo k rs1 rs2 imm) = true → Completes (exec (.blo k rs1 rs2 imm) s)
      (s.GivesPc k (if a.toNat < b.toNat then pc + 2 * imm.signExtend 32 else pc + 4))) ∧
    (s.atInstr k (.bhs k rs1 rs2 imm) = true → Completes (exec (.bhs k rs1 rs2 imm) s)
      (s.GivesPc k (if b.toNat ≤ a.toNat then pc + 2 * imm.signExtend 32 else pc + 4))) ∧
    (s.atInstr k (.call k rd far) = true → Completes (exec (.call k rd far) s)
      (s.GivesCall k rd (pc + 2 * far.signExtend 32))) ∧
    (s.atInstr k (.callr k rd rs1 imm) = true → Completes (exec (.callr k rd rs1 imm) s)
      (s.GivesCall k rd ((a + imm.signExtend 32) &&& 0xFFFFFFFE)))

/-- R374, R375, R379: a load from code memory, data memory, the completion ring or the staging ring gives the bytes at
its address, least significant first; LH and LB extend the sign. R380: a load from the lane window gives the bits of the
field there, but for its write-only fields, whose value is free (log entry 33).
R374, R375, R379: a store to code memory, data memory or the staging ring writes the low bytes of its register,
least significant first, and nothing else.
R377, R379: a misaligned load or store faults with code 2, one outside the memory map with code 3, a store to the
completion ring or to a read-only field of the window with code 4. R380: a store to the lane window sets the equaliser's
bits that may be set, gives the error estimate, or begins an eye measurement; one to an offset that is not listed is
discarded.
The value of a write-only field is free (log entry 33, DESIGN CHOICE). -/
def Obligations.KernelMemory : Prop :=
  (∀ (s : State) (k rd rs1 : Nat) (off : BitVec 7) (imm : BitVec 17), rd < 16 →
     let a := (s.greg k rs1 + imm.signExtend 32).toNat
     let sp := (s.greg k 13 + 4 * off.setWidth 32).toNat
     let plain := fun x : Nat => areaOf k x ≠ .none ∧ areaOf k x ≠ .window
     (s.atInstr k (.lws k rd off) = true → sp % 4 = 0 → plain sp → Completes (exec (.lws k rd off) s)
       (s.GivesReg k rd (BitVec.ofNat 32 (bytesNat (s.kbytes k sp 4))) 2)) ∧
     (s.atInstr k (.lw k rd rs1 imm) = true → a % 4 = 0 → plain a → Completes (exec (.lw k rd rs1 imm) s)
       (s.GivesReg k rd (BitVec.ofNat 32 (bytesNat (s.kbytes k a 4))) 4)) ∧
     (s.atInstr k (.lh k rd rs1 imm) = true → a % 2 = 0 → plain a → Completes (exec (.lh k rd rs1 imm) s)
       (s.GivesReg k rd ((BitVec.ofNat 16 (bytesNat (s.kbytes k a 2))).signExtend 32) 4)) ∧
     (s.atInstr k (.lhu k rd rs1 imm) = true → a % 2 = 0 → plain a → Completes (exec (.lhu k rd rs1 imm) s)
       (s.GivesReg k rd (BitVec.ofNat 32 (bytesNat (s.kbytes k a 2))) 4)) ∧
     (s.atInstr k (.lb k rd rs1 imm) = true → plain a → Completes (exec (.lb k rd rs1 imm) s)
       (s.GivesReg k rd ((s.kbyte k a).signExtend 32) 4)) ∧
     (s.atInstr k (.lbu k rd rs1 imm) = true → plain a → Completes (exec (.lbu k rd rs1 imm) s)
       (s.GivesReg k rd ((s.kbyte k a).setWidth 32) 4))) ∧
  (∀ (s : State) (k rs1 rs2 rd : Nat) (off : BitVec 7) (imm : BitVec 17),
     let a := (s.greg k rs1 + imm.signExtend 32).toNat
     let sp := (s.greg k 13 + 4 * off.setWidth 32).toNat
     let plain := fun x : Nat => areaOf k x = .code ∨ areaOf k x = .data ∨ areaOf k x = .staging
     (s.atInstr k (.sws k rd off) = true → sp % 4 = 0 → plain sp → Completes (exec (.sws k rd off) s)
       (s.GivesStore k sp (natBytes 4 (s.greg k rd).toNat) 2)) ∧
     (s.atInstr k (.sw k rs1 rs2 imm) = true → a % 4 = 0 → plain a → Completes (exec (.sw k rs1 rs2 imm) s)
       (s.GivesStore k a (natBytes 4 (s.greg k rs2).toNat) 4)) ∧
     (s.atInstr k (.sh k rs1 rs2 imm) = true → a % 2 = 0 → plain a → Completes (exec (.sh k rs1 rs2 imm) s)
       (s.GivesStore k a (natBytes 2 (s.greg k rs2).toNat) 4)) ∧
     (s.atInstr k (.sb k rs1 rs2 imm) = true → plain a → Completes (exec (.sb k rs1 rs2 imm) s)
       (s.GivesStore k a (natBytes 1 (s.greg k rs2).toNat) 4))) ∧
  (∀ (s : State) (k rd rs1 : Nat) (off : BitVec 7) (imm : BitVec 17), rd < 16 →
     let a := (s.greg k rs1 + imm.signExtend 32).toNat
     let sp := (s.greg k 13 + 4 * off.setWidth 32).toNat
     ∀ g ∈ [(Instr.lws k rd off, sp, 4, false, 2), (.lw k rd rs1 imm, a, 4, false, 4), (.lh k rd rs1 imm, a, 2, true, 4),
         (.lhu k rd rs1 imm, a, 2, false, 4), (.lb k rd rs1 imm, a, 1, true, 4), (.lbu k rd rs1 imm, a, 1, false, 4)],
       let at_ := g.2.1
       let n := g.2.2.1
       let w := at_ - 0x00200000
       let v := BitVec.ofNat (8 * n) (s.windowValue k w)
       s.atInstr k g.1 = true →
       (at_ % n ≠ 0 → Completes (exec g.1 s) (s.GivesFault k 2)) ∧
       (at_ % n = 0 → areaOf k at_ = .none → Completes (exec g.1 s) (s.GivesFault k 3)) ∧
       (at_ % n = 0 → areaOf k at_ = .window → (w % 256 < 0x38 ∨ 0x40 ≤ w % 256) → Completes (exec g.1 s)
         (s.GivesReg k rd (if g.2.2.2.1 then v.signExtend 32 else v.setWidth 32) g.2.2.2.2)) ∧
       (at_ % n = 0 → areaOf k at_ = .window → Completes (exec g.1 s) (fun t =>
         (∀ q, q ≠ rd → t.greg k q = s.greg k q) ∧ (t.kernel k).pc = (s.kernel k).pc + BitVec.ofNat 32 g.2.2.2.2))) ∧
  (∀ (s : State) (k rd rs1 rs2 : Nat) (off : BitVec 7) (imm : BitVec 17),
     let a := (s.greg k rs1 + imm.signExtend 32).toNat
     let sp := (s.greg k 13 + 4 * off.setWidth 32).toNat
     ∀ e ∈ [(Instr.sws k rd off, sp, s.greg k rd, 4, 2), (.sw k rs1 rs2 imm, a, s.greg k rs2, 4, 4),
         (.sh k rs1 rs2 imm, a, s.greg k rs2, 2, 4), (.sb k rs1 rs2 imm, a, s.greg k rs2, 1, 4)],
       let at_ := e.2.1
       let v := e.2.2.1.toNat
       let n := e.2.2.2.1
       let w := at_ - 0x00200000
       let o := w % 256
       let p := w / 256
       let l := 8 * k + p
       let kernel (t : State) := ∀ q, t.greg k q = s.greg k q
       let on (t : State) := kernel t ∧ (t.kernel k).pc = (s.kernel k).pc + BitVec.ofNat 32 e.2.2.2.2
       let inWindow := s.atInstr k e.1 = true ∧ at_ % n = 0 ∧ areaOf k at_ = .window
       (s.atInstr k e.1 = true → at_ % n ≠ 0 → Completes (exec e.1 s) (s.GivesFault k 2)) ∧
       (s.atInstr k e.1 = true → at_ % n = 0 → areaOf k at_ = .none → Completes (exec e.1 s) (s.GivesFault k 3)) ∧
       (s.atInstr k e.1 = true → at_ % n = 0 → areaOf k at_ = .ring → Completes (exec e.1 s) (s.GivesFault k 4)) ∧
       (inWindow → winReadOnly o = true → Completes (exec e.1 s) (s.GivesFault k 4)) ∧
       (inWindow → o < 32 → Completes (exec e.1 s) (fun t => on t ∧
         { s with kernels := t.kernels }.OnlyEntries t [(0x3100 + l, 0x15)] ∧
         ∀ i, i < 32 →
           let old := s.rd (0x3100 + l) 0x15 / 256 ^ i % 256
           let m := eqMask ((s.laneCfg l).testBit 61) i
           t.rd (0x3100 + l) 0x15 / 256 ^ i % 256 = if o ≤ i ∧ i < o + n
             then (v / 256 ^ (i - o) % 256 &&& m) + (old - (old &&& m)) else old)) ∧
       (inWindow → n = 4 → o = 0x3C → Completes (exec e.1 s) (fun t => on t ∧
         t.rd (0x3100 + l) 0x06 = f32OfRatio (s.winWord k (p * 256 + 0x38)) (512 * v))) ∧
       (inWindow → n = 4 → o = 0x38 → Completes (exec e.1 s) (fun t => on t ∧ t.winWord k (p * 256 + 0x38) = v ∧
         t.dict = s.dict)) ∧
       (inWindow → n = 4 → o = 0x40 → Completes (exec e.1 s) (fun t => on t ∧ t.dict = s.dict ∧
         t.winWord k (p * 256 + 0x40) = v ∧
         (2 ^ 31 ≤ v → (t.kernel k).eyeRun.contains p = true ∧ t.winWord k (p * 256 + 0x44) = 0) ∧
         (v < 2 ^ 31 → (t.kernel k).eyeRun = (s.kernel k).eyeRun ∧
           t.winWord k (p * 256 + 0x44) = s.winWord k (p * 256 + 0x44)))) ∧
       (inWindow → (0x4C ≤ o ∨ 0x24 ≤ o ∧ o < 0x28) → Completes (exec e.1 s)
         (s.GivesPc k ((s.kernel k).pc + BitVec.ofNat 32 e.2.2.2.2))))

/-- R375, R376, R382: control and status registers read and written, and SYNC. A read of TIME_LO or XN_LO holds the
high half for the register after it. -/
def Obligations.KernelControlRegisters : Prop :=
  ∀ (s : State) (k rd rs1 : Nat), rd < 16 →
    let x := s.kernel k
    let a := s.greg k rs1
    let pc := x.pc + 4
    (s.atInstr k (.crd k rd 0x003) = true → Completes (exec (.crd k rd 0x003) s) (s.GivesReg k rd x.timeHi 4)) ∧
    (s.atInstr k (.crd k rd 0x005) = true → Completes (exec (.crd k rd 0x005) s) (s.GivesReg k rd x.xnHi 4)) ∧
    (s.atInstr k (.crd k rd 0x006) = true →
      Completes (exec (.crd k rd 0x006) s) (s.GivesReg k rd (BitVec.ofNat 32 s.stepNo) 4)) ∧
    (s.atInstr k (.crd k rd 0x013) = true → Completes (exec (.crd k rd 0x013) s) (s.GivesReg k rd x.tickDiv 4)) ∧
    (s.atInstr k (.crd k rd 0x002) = true → Completes (exec (.crd k rd 0x002) s) (fun t =>
      t.greg k rd = (if rd = 0 then 0 else BitVec.ofNat 32 s.now) ∧ (t.kernel k).pc = pc ∧
        (t.kernel k).timeHi = BitVec.ofNat 32 (s.now / 2 ^ 32))) ∧
    (s.atInstr k (.crd k rd 0x004) = true → Completes (exec (.crd k rd 0x004) s) (fun t =>
      t.greg k rd = (if rd = 0 then 0 else BitVec.ofNat 32 s.xn) ∧ (t.kernel k).pc = pc ∧
        (t.kernel k).xnHi = BitVec.ofNat 32 (s.era % 2 ^ 16 * 2 ^ 16 + s.xn / 2 ^ 32))) ∧
    (s.atInstr k (.cwr k rs1 0x013) = true →
      Completes (exec (.cwr k rs1 0x013) s) (s.GivesKernel k { x with tickDiv := a, pc := pc })) ∧
    (s.atInstr k (.cwr k rs1 0x011) = true →
      Completes (exec (.cwr k rs1 0x011) s) (s.GivesKernel k { x with edges := x.edges &&& ~~~(a.setWidth 8), pc := pc })) ∧
    (s.atInstr k (.cwr k rs1 0x012) = true → Completes (exec (.cwr k rs1 0x012) s)
      (s.GivesKernel k { x with timer := if a = 0 then none else some (s.now + a.toNat), pc := pc })) ∧
    (s.atInstr k (.cor k rs1 0x013) = true →
      Completes (exec (.cor k rs1 0x013) s) (s.GivesKernel k { x with tickDiv := x.tickDiv ||| a, pc := pc })) ∧
    (s.atInstr k (.cwr k rs1 0x000) = true → Completes (exec (.cwr k rs1 0x000) s) (s.GivesFault k 4)) ∧
    (s.atInstr k (.crd k rd 0xFFF) = true → Completes (exec (.crd k rd 0xFFF) s) (s.GivesFault k 1)) ∧
    (s.atInstr k (.sync k) = true → Completes (exec (.sync k) s)
      (s.GivesKernel k { x with code := x.mem.filter (fun c => c.1 < codeSize k), pc := pc }))

/-- R381: WAIT completes at once with the pending events of its mask, or the kernel waits; it goes on when a masked
event is pending. R380, R382: the timer's and an eye measurement's events. -/
def Obligations.KernelEvents : Prop :=
  ∀ (s : State) (k rd rs1 p : Nat) (errors : BitVec 24), rd < 16 →
    let x := s.kernel k
    let mask : BitVec 8 := (s.greg k rs1).setWidth 8
    let hit := s.evPend k &&& mask
    (s.atInstr k (.wait k rd rs1) = true → hit ≠ 0 →
      Completes (exec (.wait k rd rs1) s) (s.GivesReg k rd (hit.setWidth 32) 4)) ∧
    (s.atInstr k (.wait k rd rs1) = true → mask ≠ 0 → hit = 0 → Completes (exec (.wait k rd rs1) s) (fun t =>
      t = { s with out := [], kernels := t.kernels, dict := t.dict } ∧ t.rd (0x6810 + k) 0x01 = 2 ∧
        t.kernel k = { x with wait := some (rd, mask) })) ∧
    (s.atInstr k (.wait k rd rs1) = true → mask = 0 → Completes (exec (.wait k rd rs1) s) (s.GivesFault k 6)) ∧
    (k < 80 → s.kernelSt k = 2 → ∀ (q : Nat) (m : BitVec 8), q < 16 → x.wait = some (q, m) → s.evPend k &&& m ≠ 0 →
      Completes (exec (.waitWakeup k) s) (fun t =>
        t.rd (0x6810 + k) 0x01 = 1 ∧ (t.kernel k).wait = none ∧ (t.kernel k).pc = x.pc + 4 ∧
          (t.kernel k).edges = x.edges ∧ t.evPend k = s.evPend k ∧
          ∀ r, t.greg k r = if r = q ∧ q ≠ 0 then (s.evPend k &&& m).setWidth 32 else s.greg k r)) ∧
    (k < 80 → x.timer.isSome = true → s.domSt 0 = 1 → Completes (exec (.kernelTimer k) s)
      (s.GivesKernel k { x with timer := none, edges := x.edges ||| 8 })) ∧
    (k < 80 → s.domSt 0 ≠ 1 → Completes (exec (.kernelTimer k) s) s.Unchanged) ∧
    (k < 64 → p < 8 → x.eyeRun.contains p = true → Completes (exec (.eyeMeasurementDone k p errors) s) (fun t =>
      (t.kernel k).eyeRun = x.eyeRun.filter (fun i => i ≠ p) ∧ (t.kernel k).edges = x.edges ||| 0x20 ∧
        bytesNat ((List.range 4).map (fun i => t.winByte k (p * 256 + 0x44 + i))) = 2 ^ 31 + errors.toNat))

/-- R328, R332, R384 to R386: a request block sent, or waiting for the route, or turned away for want of a slot or a
credit; a message and a trigger taken; a fragment handed to the engine.
The model's deductions and choices: a misaligned block of SEND (log entry 101), a request that would take the other
route (log entry 192), when a byte of the staging ring counts as written (log entry 195), and response slots (log
entry 10). -/
def Obligations.KernelMessages : Prop :=
  ∀ (s : State) (k rd rs1 rs2 : Nat), rd < 16 →
    let x := s.kernel k
    let a := (s.greg k rs1).toNat
    let b := (s.greg k rs2).toNat
    let node := kernelNode k
    let slot := s.outstanding node < responseSlots node
    (s.atInstr k (.send k rd rs1) = true → a % 16 ≠ 0 →
      Completes (exec (.send k rd rs1) s) (s.GivesReg k rd 3 4)) ∧
    (∀ (q : Packet) (len rbuf rmax : Nat), s.atInstr k (.send k rd rs1) = true → a % 16 = 0 →
      blockFault k a 32 false = 0 → blockRequest node (s.kbytes k a 32) = (q, len, rbuf, rmax) →
      lenOk q.cmd q.wcnt len = true → (attach q.dest).isSome = true → areaOf k (a + 31 + 16 * len) = areaOf k a →
      let units := (List.range len).map (fun i => BitVec.ofNat 128 (bytesNat (s.kbytes k (a + 32 + 16 * i) 16)))
      let route := (s.requestStatus node q.dest).2
      let asked : OutReq := ⟨node, q.dest, q.tag, q.cmd, rbuf, rmax, 0, false, false, { q with units := units }, 0, true⟩
      let leaves : Packet := { q with units := units, route := route }
      let credit := s.creditsUsed node q.dest < s.creditsFor node q.dest
      (Completes (exec (.send k rd rs1) s) (fun t => ¬slot → s.GivesReg k rd 1 4 t)) ∧
      (¬credit → Completes (exec (.send k rd rs1) s) (fun t => slot → s.GivesReg k rd 2 4 t)) ∧
      (credit → (s.requestStatus node q.dest).1 = 0 → s.otherRoute node q.dest route = false →
        (spineOf leaves).noPort = false → Completes (exec (.send k rd rs1) s) (fun t => slot →
          t.greg k rd = 0 ∧ (t.kernel k).pc = x.pc + 4 ∧ t.outReqs = s.outReqs ++ [{ asked with route := route }] ∧
            t.out = [.packet leaves])) ∧
      (credit → (s.requestStatus node q.dest).1 = 0 → s.otherRoute node q.dest route = true →
        Completes (exec (.send k rd rs1) s) (fun t => slot → t.greg k rd = 0 ∧ (t.kernel k).pc = x.pc + 4 ∧
          t.outReqs = s.outReqs ++ [{ asked with sent := false }] ∧ t.out = []))) ∧
    (s.atInstr k (.recv k rd rs1) = true → x.inbox = [] →
      Completes (exec (.recv k rd rs1) s) (s.GivesReg k rd 0 4)) ∧
    (∀ (m : Packet) (rest : List Packet), s.atInstr k (.recv k rd rs1) = true → x.inbox = m :: rest →
      let bytes := natBytes 16 (headerUnit m).toNat ++ m.units.flatMap (fun u => natBytes 16 u.toNat)
      blockFault k a bytes.length true = 0 → Completes (exec (.recv k rd rs1) s) (fun t =>
        t.greg k rd = (if rd = 0 then 0 else BitVec.ofNat 32 bytes.length) ∧ (t.kernel k).pc = x.pc + 4 ∧
          (t.kernel k).inbox = rest ∧
          ∀ c, t.kbyte k c = if a ≤ c ∧ c < a + bytes.length then bytes.getD (c - a) 0 else s.kbyte k c)) ∧
    (s.atInstr k (.trig k rd rs1) = true → k < 64 → Completes (exec (.trig k rd rs1) s) (s.GivesFault k 5)) ∧
    (∀ (w0 w1 : Word64) (rest : List (Word64 × Word64)), s.atInstr k (.trig k rd rs1) = true → 64 ≤ k →
      x.triggers = (w0, w1) :: rest → blockFault k a 16 true = 0 → Completes (exec (.trig k rd rs1) s) (fun t =>
        t.greg k rd = (if rd = 0 then 0 else 1) ∧ (t.kernel k).pc = x.pc + 4 ∧ (t.kernel k).triggers = rest ∧
          t.rd (0x6140 + (k - 64)) 0x05 = rest.length ∧
          ∀ c, t.kbyte k c = if a ≤ c ∧ c < a + 16 then (natBytes 8 w0.toNat ++ natBytes 8 w1.toNat).getD (c - a) 0
            else s.kbyte k c)) ∧
    (s.atInstr k (.frag k rd rs1 rs2) = true → k < 64 → Completes (exec (.frag k rd rs1 rs2) s) (s.GivesFault k 5)) ∧
    (s.atInstr k (.frag k rd rs1 rs2) = true → 64 ≤ k → a < 1048576 → b % 8 = 0 → 32 ≤ b → s.stagedAll k a b = true →
      fieldAt (s.stageBytes k a b) 0 4 = b → (s.engState (k - 64) = 1 ∨ s.engState (k - 64) = 2) →
      s.engFree (k - 64) = true → Completes (exec (.frag k rd rs1 rs2) s) (fun t =>
        t.greg k rd = 0 ∧ (t.kernel k).stageOwned = x.stageOwned + b ∧
          (t.engine (k - 64)).held.length = (s.engine (k - 64)).held.length + 1 ∧
          ∀ o, o < 1048576 → t.stagedAt k o = (s.stagedAt k o && decide (b ≤ (o + 1048576 - a) % 1048576)))) ∧
    (s.atInstr k (.frag k rd rs1 rs2) = true → 64 ≤ k →
      (1048576 ≤ a ∨ b % 8 ≠ 0 ∨ b < 32 ∨ s.stagedAll k a b = false ∨ fieldAt (s.stageBytes k a b) 0 4 ≠ b) →
      Completes (exec (.frag k rd rs1 rs2) s) (s.GivesReg k rd 1 4))

/-- R387: DICT stalls its kernel with the access it asks for; the dictionary kernel's answer goes to rd, and the kernel
goes on after the instruction; a value read goes to the buffer, its length in the first two bytes, its bytes from byte
4. -/
def Obligations.KernelDictionary : Prop :=
  ∀ (s : State) (k rd rs1 rs2 v : Nat), rd < 16 →
    let x := s.kernel k
    let a := s.greg k rs1
    let b := s.greg k rs2
    (s.atInstr k (.dictRead k rd rs1 rs2) = true → bufferFault k b.toNat 4 true = 0 →
      Completes (exec (.dictRead k rd rs1 rs2) s) (s.GivesKernel k { x with
        dict := some { fn := 0, rd := rd, arg := a, buf := b }
        dictMade := false
        dictDone := none })) ∧
    (s.atInstr k (.dictWrite k rd rs1 rs2) = true →
      bufferFault k b.toNat (4 + bytesNat (s.kbytes k b.toNat 2)) false = 0 →
      Completes (exec (.dictWrite k rd rs1 rs2) s) (s.GivesKernel k { x with
        dict := some { fn := 1, rd := rd, arg := a, buf := b }
        dictMade := false
        dictDone := none })) ∧
    (s.atInstr k (.dictPublish k rd rs1 v) = true →
      Completes (exec (.dictPublish k rd rs1 v) s) (s.GivesKernel k { x with
        dict := some { fn := 2, rd := rd, arg := a, v := v }
        dictMade := false
        dictDone := none })) ∧
    (∀ (d : DictReq) (code : Nat) (value : List Byte), k < 80 → x.dict = some d → x.dictMade = true →
      x.dictDone = some (code, value) → code ≠ 0 → d.rd < 16 → x.stopAfter = false →
      Completes (exec (.dictAnswer k) s) (fun t =>
        (t.kernel k).dict = none ∧ (t.kernel k).pc = x.pc + 4 ∧
          ∀ r, t.greg k r = if r = d.rd ∧ d.rd ≠ 0 then BitVec.ofNat 32 code else s.greg k r)) ∧
    (∀ (d : DictReq) (value : List Byte), k < 80 → x.dict = some d → x.dictMade = true → x.dictDone = some (0, value) →
      d.rd < 16 → x.stopAfter = false →
      let n := value.length
      let buf := d.buf.toNat
      let back (t : State) := (t.kernel k).dict = none ∧ (t.kernel k).pc = x.pc + 4 ∧
        ∀ r, t.greg k r = if r = d.rd then 0 else s.greg k r
      (d.fn = 0 → n ≤ 48 → bufferFault k buf (4 + n) true = 0 → areaOf k buf ≠ .window →
        Completes (exec (.dictAnswer k) s) (fun t => back t ∧ t.kbyte k buf = BitVec.ofNat 8 n ∧ t.kbyte k (buf + 1) = 0 ∧
          (∀ i, i < n → t.kbyte k (buf + 4 + i) = value.getD i 0) ∧
          ∀ c, (c < buf ∨ c = buf + 2 ∨ c = buf + 3 ∨ buf + 4 + n ≤ c) → t.kbyte k c = s.kbyte k c)) ∧
      (d.fn = 0 → n ≤ 48 → bufferFault k buf (4 + n) true ≠ 0 →
        Completes (exec (.dictAnswer k) s) (s.GivesFault k (bufferFault k buf (4 + n) true))) ∧
      (d.fn = 1 → Completes (exec (.dictAnswer k) s) (fun t => back t ∧ ∀ c, t.kbyte k c = s.kbyte k c))) ∧
    (∀ (d : DictReq), k < 80 → x.dict = some d → x.dictMade = false → d.fn = 2 → 1 ≤ d.v → d.v ≤ 16 → d.rd < 16 →
      x.stopAfter = false → Completes (exec (.dictAnswer k) s) (fun t =>
        t.rd (0x6880 + k) d.v = d.arg.toNat ∧ (t.kernel k).dict = none ∧ (t.kernel k).pc = x.pc + 4))

/-- R371: at every start of a user kernel, one of all of them or of one alone, PC holds ENTRY, g13 holds STACK, and
every other register holds 0. R377, R378, R388, R390, R391, R392: TRAP, an
illegal encoding, a PC outside code memory and the watchdog stop a kernel, a vendor kernel too; the watchdog pauses
while domain SYS is stopped (R444); a restart runs its program from ENTRY with g13 at STACK and the other registers 0; a stop command stops it. -/
def Obligations.KernelFaultsAndStarts : Prop :=
  ∀ (s : State) (r : Requester) (k rs1 : Nat),
    let fails (t : State) (code : Nat) := t.rd (0x6810 + k) 0x01 = 3 ∧ t.rd (0x6810 + k) 0x03 = code ∧
      t.rd (0x7100 + kernelSource k) 0x01 = 1
    (k < 80 → ∀ t ∈ [s.startKernel k, s.startKernels], (t.kernel k).pc = BitVec.ofNat 32 (s.programOf k).entry ∧
      ∀ q, t.greg k q = if q = 13 then BitVec.ofNat 32 (s.programOf k).stack else 0) ∧
    (s.atInstr k (.trap k rs1) = true → Completes (exec (.trap k rs1) s) (fun t =>
      s.GivesFault k 7 t ∧ t.rd (0x6810 + k) 0x05 = (s.greg k rs1).toNat)) ∧
    (s.canRun k = true → s.pcOk k = true → s.fetched k = none →
      Completes (exec (.illegalInstruction k) s) (s.GivesFault k 1)) ∧
    (s.canRun k = true → s.pcOk k = false → Completes (exec (.illegalInstruction k) s) (s.GivesFault k 3)) ∧
    (k < 80 → s.kernelSt k = 1 → s.domSt 0 = 1 → Completes (exec (.kernelWatchdog k) s) (s.GivesFault k 8)) ∧
    (k < 94 → s.domSt 0 ≠ 1 → Completes (exec (.kernelWatchdog k) s) s.Unchanged) ∧
    (80 ≤ k → k < 94 → s.kernelSt k = 1 →
      (s.domSt 0 = 1 → Completes (exec (.kernelWatchdog k) s) (fun t => fails t 8)) ∧
      Completes (exec (.illegalInstruction k) s) (fun t => fails t 1)) ∧
    (k < 80 → s.kernelSt k = 3 → s.rd (0x6810 + k) 0x09 = 1 → s.rd (0x6810 + k) 0x07 < s.rd 0x6800 0x04 →
      Completes (exec (.kernelRestart k) s) (s.GivesStart k)) ∧
    (k < 80 → s.kernelSt k ≠ 0 → s.mayWrite r (0x6810 + k) 0x08 1 = true → (∀ j, j < 94 → r ≠ .kernel j) →
      Accepted (exec (.kernelRestartCommand r k) s) r (0x6810 + k) 0x08 (s.GivesStart k)) ∧
    (k < 80 → s.kernelSt k ≠ 0 → (s.kernel k).dict = none → s.mayWrite r (0x6810 + k) 0x08 2 = true →
      (∀ j, j < 94 → r ≠ .kernel j) → Accepted (exec (.kernelStop r k) s) r (0x6810 + k) 0x08 (fun t =>
        t.rd (0x6810 + k) 0x01 = 4 ∧ t.kernel k = { s.kernel k with wait := none, stopAfter := false }))
end

