-- ==== Sys2Proof/Laws/Sparse.lean ====
section
/-! SUPPORT. Sparse.lean: the laws of the tables by key: a read after a write, and that every operation keeps the
canonical form. -/

namespace Sys2Proof.Machine

variable {α : Type} (d : Nat → α)

@[simp] theorem Sparse.get_nil (k : Nat) : Sparse.get d [] k = d k := rfl

theorem Sparse.get_cons (c : Nat × α) (m : Sparse α) (k : Nat) :
    Sparse.get d (c :: m) k = if c.1 = k then c.2 else Sparse.get d m k := rfl

/-- A table that does not list a key reads as the default there. -/
theorem Sparse.get_absent (m : Sparse α) (k : Nat) (h : ∀ c ∈ m, c.1 ≠ k) : Sparse.get d m k = d k := by
  induction m with
  | nil => rfl
  | cons c m ih =>
    rw [Sparse.get_cons, if_neg (h c (by simp)), ih (fun c hc => h c (by simp [hc]))]

theorem Sparse.erase_absent (m : Sparse α) (k : Nat) : ∀ c ∈ Sparse.erase m k, c.1 ≠ k := by
  intro c hc
  simpa [Sparse.erase] using (List.mem_filter.mp hc).2

@[simp] theorem Sparse.get_erase_same (m : Sparse α) (k : Nat) : Sparse.get d (Sparse.erase m k) k = d k :=
  Sparse.get_absent d _ k (Sparse.erase_absent m k)

theorem Sparse.get_filter (m : Sparse α) (p : Nat → Bool) (k : Nat) (h : p k = true) :
    Sparse.get d (m.filter (fun c => p c.1)) k = Sparse.get d m k := by
  induction m with
  | nil => rfl
  | cons c m ih =>
    by_cases hc : p c.1 = true
    · simp only [List.filter_cons, hc, if_true, Sparse.get_cons, ih]
    · have hk : c.1 ≠ k := fun e => hc (e ▸ h)
      rw [Sparse.get_cons, if_neg hk, ← ih]
      simp [hc]

theorem Sparse.get_erase_ne (m : Sparse α) (k j : Nat) (h : j ≠ k) :
    Sparse.get d (Sparse.erase m k) j = Sparse.get d m j := by
  have := Sparse.get_filter d m (fun x => decide (x ≠ k)) j (by simpa using h)
  simpa [Sparse.erase] using this

theorem Sparse.get_insert_same (m : Sparse α) (k : Nat) (v : α) (h : ∀ c ∈ m, c.1 ≠ k) :
    Sparse.get d (Sparse.insert m k v) k = v := by
  induction m with
  | nil => simp [Sparse.insert, Sparse.get_cons]
  | cons c m ih =>
    obtain ⟨k', v'⟩ := c
    have hk : k' ≠ k := h (k', v') (by simp)
    by_cases hlt : k < k'
    · simp [Sparse.insert, hlt, Sparse.get_cons]
    · simp only [Sparse.insert, hlt, if_false, Sparse.get_cons, hk, if_false]
      exact ih (fun c hc => h c (by simp [hc]))

theorem Sparse.get_insert_ne (m : Sparse α) (k j : Nat) (v : α) (h : j ≠ k) :
    Sparse.get d (Sparse.insert m k v) j = Sparse.get d m j := by
  induction m with
  | nil => simp [Sparse.insert, Sparse.get_cons, Ne.symm h]
  | cons c m ih =>
    obtain ⟨k', v'⟩ := c
    by_cases hlt : k < k'
    · simp [Sparse.insert, hlt, Sparse.get_cons, Ne.symm h]
    · simp only [Sparse.insert, hlt, if_false, Sparse.get_cons, ih]

/-- A read of the key just written gives the value written. -/
@[simp] theorem Sparse.get_set_same [DecidableEq α] (m : Sparse α) (k : Nat) (v : α) :
    Sparse.get d (Sparse.set d m k v) k = v := by
  unfold Sparse.set
  split
  · simp [*]
  · exact Sparse.get_insert_same d _ k v (Sparse.erase_absent m k)

/-- A write leaves every other key alone. -/
theorem Sparse.get_set_ne [DecidableEq α] (m : Sparse α) (k j : Nat) (v : α) (h : j ≠ k) :
    Sparse.get d (Sparse.set d m k v) j = Sparse.get d m j := by
  unfold Sparse.set
  split
  · exact Sparse.get_erase_ne d m k j h
  · rw [Sparse.get_insert_ne d _ k j v h, Sparse.get_erase_ne d m k j h]

theorem Sparse.get_set [DecidableEq α] (m : Sparse α) (k j : Nat) (v : α) :
    Sparse.get d (Sparse.set d m k v) j = if j = k then v else Sparse.get d m j := by
  split
  · simp [*]
  · exact Sparse.get_set_ne d m k j v ‹_›

/-! ### The canonical form -/

@[simp] theorem Sparse.wf_nil : Sparse.wf d ([] : Sparse α) := by simp [Sparse.wf]

theorem Sparse.wf_filter (m : Sparse α) (p : Nat × α → Bool) (h : Sparse.wf d m) : Sparse.wf d (m.filter p) :=
  ⟨h.1.filter p, fun c hc => h.2 c (List.mem_filter.mp hc).1⟩

theorem Sparse.wf_erase (m : Sparse α) (k : Nat) (h : Sparse.wf d m) : Sparse.wf d (Sparse.erase m k) :=
  Sparse.wf_filter d m _ h

theorem Sparse.wf_drop (m : Sparse α) (p : Nat → Bool) (h : Sparse.wf d m) : Sparse.wf d (Sparse.drop m p) :=
  Sparse.wf_filter d m _ h

theorem Sparse.mem_insert (m : Sparse α) (k : Nat) (v : α) (c : Nat × α) :
    c ∈ Sparse.insert m k v ↔ c = (k, v) ∨ c ∈ m := by
  induction m with
  | nil => simp [Sparse.insert]
  | cons b m ih =>
    obtain ⟨k', v'⟩ := b
    by_cases hlt : k < k'
    · simp [Sparse.insert, hlt]
    · simp only [Sparse.insert, hlt, if_false, List.mem_cons, ih]
      constructor
      · rintro (h | h | h) <;> simp [h]
      · rintro (h | h | h) <;> simp [h]

theorem Sparse.wf_insert (m : Sparse α) (k : Nat) (v : α) (h : Sparse.wf d m) (hk : ∀ c ∈ m, c.1 ≠ k)
    (hv : v ≠ d k) : Sparse.wf d (Sparse.insert m k v) := by
  refine ⟨?_, ?_⟩
  · obtain ⟨h, -⟩ := h
    induction m with
    | nil => simp [Sparse.insert]
    | cons b m ih =>
      obtain ⟨k', v'⟩ := b
      have hne : k' ≠ k := hk (k', v') (by simp)
      rw [List.pairwise_cons] at h
      by_cases hlt : k < k'
      · simp only [Sparse.insert, hlt, if_true, List.pairwise_cons]
        refine ⟨?_, h⟩
        intro c hc
        rcases List.mem_cons.mp hc with rfl | hc
        · exact hlt
        · exact Nat.lt_trans hlt (h.1 c hc)
      · simp only [Sparse.insert, hlt, if_false, List.pairwise_cons]
        refine ⟨?_, ih (fun c hc => hk c (by simp [hc])) h.2⟩
        intro c hc
        rcases (Sparse.mem_insert m k v c).mp hc with rfl | hc
        · show k' < k
          omega
        · exact h.1 c hc
  · intro c hc
    rcases (Sparse.mem_insert m k v c).mp hc with rfl | hc
    · exact hv
    · exact h.2 c hc

/-- A write keeps the canonical form. -/
theorem Sparse.wf_set [DecidableEq α] (m : Sparse α) (k : Nat) (v : α) (h : Sparse.wf d m) :
    Sparse.wf d (Sparse.set d m k v) := by
  unfold Sparse.set
  split
  · exact Sparse.wf_erase d m k h
  · exact Sparse.wf_insert d _ k v (Sparse.wf_erase d m k h) (Sparse.erase_absent m k) ‹_›

/-- Two tables in canonical form that read alike everywhere are the same data. -/
theorem Sparse.wf_ext (m m' : Sparse α) (h : Sparse.wf d m) (h' : Sparse.wf d m')
    (e : ∀ k, Sparse.get d m k = Sparse.get d m' k) : m = m' := by
  have head (c : Nat × α) (m : Sparse α) (w : Sparse.wf d (c :: m)) (j : Nat) (hj : j < c.1) :
      Sparse.get d (c :: m) j = d j := by
    refine Sparse.get_absent d _ j ?_
    intro b hb
    rcases List.mem_cons.mp hb with rfl | hb
    · omega
    · have := (List.pairwise_cons.mp w.1).1 b hb
      omega
  have own (c : Nat × α) (m : Sparse α) : Sparse.get d (c :: m) c.1 = c.2 := by simp [Sparse.get_cons]
  induction m generalizing m' with
  | nil =>
    cases m' with
    | nil => rfl
    | cons c m' => exact absurd ((own c m').symm.trans (e c.1).symm) (h'.2 c (by simp))
  | cons b m ih =>
    cases m' with
    | nil => exact absurd ((own b m).symm.trans (e b.1)) (h.2 b (by simp))
    | cons c m' =>
      have hkey : b.1 = c.1 := by
        rcases Nat.lt_trichotomy b.1 c.1 with hlt | heq | hlt
        · exact absurd (((own b m).symm.trans (e b.1)).trans (head c m' h' b.1 hlt)) (h.2 b (by simp))
        · exact heq
        · exact absurd (((own c m').symm.trans (e c.1).symm).trans (head b m h c.1 hlt)) (h'.2 c (by simp))
      have hval : b.2 = c.2 := by
        have := e b.1
        rw [own, hkey, own] at this
        exact this
      have htail : ∀ x : Nat × α, ∀ n : Sparse α, Sparse.wf d (x :: n) → Sparse.wf d n :=
        fun x n w => ⟨(List.pairwise_cons.mp w.1).2, fun y hy => w.2 y (by simp [hy])⟩
      have hrest : m = m' := by
        refine ih m' (htail b m h) (htail c m' h') ?_
        intro k
        have hk := e k
        rw [Sparse.get_cons, Sparse.get_cons, hkey] at hk
        by_cases hc : c.1 = k
        · have gone (x : Nat × α) (n : Sparse α) (w : Sparse.wf d (x :: n)) (hx : x.1 = k) :
              Sparse.get d n k = d k :=
            Sparse.get_absent d n k (fun y hy => by
              have := (List.pairwise_cons.mp w.1).1 y hy
              omega)
          rw [gone b m h (hkey.trans hc), gone c m' h' hc]
        · simpa [hc] using hk
      rw [hrest, show b = c from Prod.ext hkey hval]

end Sys2Proof.Machine
end

