-- ==== Sys2Proof/Laws/State.lean ====
section
/-! SUPPORT. State.lean: what each update of the state does to each field and to each reader: a field that an update
does not write stands, and a record or an entry read after it was written is the one written. -/

namespace Sys2Proof.Machine


/-! ### fresh -/

@[simp] theorem State.fresh_dict (s : State) : s.fresh.dict = s.dict := rfl
@[simp] theorem State.fresh_rwr (s : State) : s.fresh.rwr = s.rwr := rfl
@[simp] theorem State.fresh_pending (s : State) : s.fresh.pending = s.pending := rfl
@[simp] theorem State.fresh_draws (s : State) : s.fresh.draws = s.draws := rfl
@[simp] theorem State.fresh_bundle (s : State) : s.fresh.bundle = s.bundle := rfl
@[simp] theorem State.fresh_startup (s : State) : s.fresh.startup = s.startup := rfl
@[simp] theorem State.fresh_startPending (s : State) : s.fresh.startPending = s.startPending := rfl
@[simp] theorem State.fresh_stopPending (s : State) : s.fresh.stopPending = s.stopPending := rfl
@[simp] theorem State.fresh_waveDue (s : State) : s.fresh.waveDue = s.waveDue := rfl
@[simp] theorem State.fresh_runEra (s : State) : s.fresh.runEra = s.runEra := rfl
@[simp] theorem State.fresh_regions (s : State) : s.fresh.regions = s.regions := rfl
@[simp] theorem State.fresh_planes (s : State) : s.fresh.planes = s.planes := rfl
@[simp] theorem State.fresh_frames (s : State) : s.fresh.frames = s.frames := rfl
@[simp] theorem State.fresh_latched (s : State) : s.fresh.latched = s.latched := rfl
@[simp] theorem State.fresh_latchXn (s : State) : s.fresh.latchXn = s.latchXn := rfl
@[simp] theorem State.fresh_rearm (s : State) : s.fresh.rearm = s.rearm := rfl
@[simp] theorem State.fresh_rearmDue (s : State) : s.fresh.rearmDue = s.rearmDue := rfl
@[simp] theorem State.fresh_regs (s : State) : s.fresh.regs = s.regs := rfl
@[simp] theorem State.fresh_huskLast (s : State) : s.fresh.huskLast = s.huskLast := rfl
@[simp] theorem State.fresh_delivered (s : State) : s.fresh.delivered = s.delivered := rfl
@[simp] theorem State.fresh_readTokens (s : State) : s.fresh.readTokens = s.readTokens := rfl
@[simp] theorem State.fresh_probePipe (s : State) : s.fresh.probePipe = s.probePipe := rfl
@[simp] theorem State.fresh_probePins (s : State) : s.fresh.probePins = s.probePins := rfl
@[simp] theorem State.fresh_probeBlocks (s : State) : s.fresh.probeBlocks = s.probeBlocks := rfl
@[simp] theorem State.fresh_probeHeld (s : State) : s.fresh.probeHeld = s.probeHeld := rfl
@[simp] theorem State.fresh_bankMem (s : State) : s.fresh.bankMem = s.bankMem := rfl
@[simp] theorem State.fresh_queues (s : State) : s.fresh.queues = s.queues := rfl
@[simp] theorem State.fresh_patrol (s : State) : s.fresh.patrol = s.patrol := rfl
@[simp] theorem State.fresh_repairs (s : State) : s.fresh.repairs = s.repairs := rfl
@[simp] theorem State.fresh_storedMap (s : State) : s.fresh.storedMap = s.storedMap := rfl
@[simp] theorem State.fresh_march (s : State) : s.fresh.march = s.march := rfl
@[simp] theorem State.fresh_load (s : State) : s.fresh.load = s.load := rfl
@[simp] theorem State.fresh_migReverting (s : State) : s.fresh.migReverting = s.migReverting := rfl
@[simp] theorem State.fresh_migOverlap (s : State) : s.fresh.migOverlap = s.migOverlap := rfl
@[simp] theorem State.fresh_migWave (s : State) : s.fresh.migWave = s.migWave := rfl
@[simp] theorem State.fresh_migMin (s : State) : s.fresh.migMin = s.migMin := rfl
@[simp] theorem State.fresh_migHalted (s : State) : s.fresh.migHalted = s.migHalted := rfl
@[simp] theorem State.fresh_deferred (s : State) : s.fresh.deferred = s.deferred := rfl
@[simp] theorem State.fresh_lanes (s : State) : s.fresh.lanes = s.lanes := rfl
@[simp] theorem State.fresh_tx (s : State) : s.fresh.tx = s.tx := rfl
@[simp] theorem State.fresh_timing (s : State) : s.fresh.timing = s.timing := rfl
@[simp] theorem State.fresh_sourceDue (s : State) : s.fresh.sourceDue = s.sourceDue := rfl
@[simp] theorem State.fresh_timingNew (s : State) : s.fresh.timingNew = s.timingNew := rfl
@[simp] theorem State.fresh_lines (s : State) : s.fresh.lines = s.lines := rfl
@[simp] theorem State.fresh_slotC (s : State) : s.fresh.slotC = s.slotC := rfl
@[simp] theorem State.fresh_skips (s : State) : s.fresh.skips = s.skips := rfl
@[simp] theorem State.fresh_heldReqs (s : State) : s.fresh.heldReqs = s.heldReqs := rfl
@[simp] theorem State.fresh_lbif (s : State) : s.fresh.lbif = s.lbif := rfl
@[simp] theorem State.fresh_bar2Held (s : State) : s.fresh.bar2Held = s.bar2Held := rfl
@[simp] theorem State.fresh_scrubPos (s : State) : s.fresh.scrubPos = s.scrubPos := rfl
@[simp] theorem State.fresh_nextWindow (s : State) : s.fresh.nextWindow = s.nextWindow := rfl
@[simp] theorem State.fresh_activationC (s : State) : s.fresh.activationC = s.activationC := rfl
@[simp] theorem State.fresh_derived (s : State) : s.fresh.derived = s.derived := rfl
@[simp] theorem State.fresh_ports (s : State) : s.fresh.ports = s.ports := rfl
@[simp] theorem State.fresh_pair (s : State) : s.fresh.pair = s.pair := rfl
@[simp] theorem State.fresh_outReqs (s : State) : s.fresh.outReqs = s.outReqs := rfl
@[simp] theorem State.fresh_msixPend (s : State) : s.fresh.msixPend = s.msixPend := rfl
@[simp] theorem State.fresh_msixHold (s : State) : s.fresh.msixHold = s.msixHold := rfl
@[simp] theorem State.fresh_msixTable (s : State) : s.fresh.msixTable = s.msixTable := rfl
@[simp] theorem State.fresh_keepLines (s : State) : s.fresh.keepLines = s.keepLines := rfl
@[simp] theorem State.fresh_engines (s : State) : s.fresh.engines = s.engines := rfl
@[simp] theorem State.fresh_readoutQueue (s : State) : s.fresh.readoutQueue = s.readoutQueue := rfl
@[simp] theorem State.fresh_kernels (s : State) : s.fresh.kernels = s.kernels := rfl
@[simp] theorem State.fresh_transfers (s : State) : s.fresh.transfers = s.transfers := rfl
@[simp] theorem State.fresh_mailboxes (s : State) : s.fresh.mailboxes = s.mailboxes := rfl
@[simp] theorem State.fresh_can (s : State) : s.fresh.can = s.can := rfl
@[simp] theorem State.fresh_canOpen (s : State) : s.fresh.canOpen = s.canOpen := rfl
@[simp] theorem State.fresh_design (s : State) : s.fresh.design = s.design := rfl
@[simp] theorem State.fresh_designQ (s : State) : s.fresh.designQ = s.designQ := rfl
@[simp] theorem State.fresh_designTag (s : State) : s.fresh.designTag = s.designTag := rfl
@[simp] theorem State.fresh_userVals (s : State) : s.fresh.userVals = s.userVals := rfl
@[simp] theorem State.fresh_portReq (s : State) : s.fresh.portReq = s.portReq := rfl
@[simp] theorem State.fresh_portOut (s : State) : s.fresh.portOut = s.portOut := rfl
@[simp] theorem State.fresh_portIn (s : State) : s.fresh.portIn = s.portIn := rfl
@[simp] theorem State.fresh_portMsgs (s : State) : s.fresh.portMsgs = s.portMsgs := rfl
@[simp] theorem State.fresh_domains (s : State) : s.fresh.domains = s.domains := rfl
@[simp] theorem State.fresh_sensors (s : State) : s.fresh.sensors = s.sensors := rfl
@[simp] theorem State.fresh_thermal (s : State) : s.fresh.thermal = s.thermal := rfl
@[simp] theorem State.fresh_collector (s : State) : s.fresh.collector = s.collector := rfl
@[simp] theorem State.fresh_security (s : State) : s.fresh.security = s.security := rfl
@[simp] theorem State.fresh_rd_frame (s : State) (u w : Nat) : s.fresh.rd u w = s.rd u w := rfl
@[simp] theorem State.fresh_region_frame (s : State) (u : Nat) : s.fresh.region u = s.region u := rfl
@[simp] theorem State.fresh_plane_frame (s : State) (u w : Nat) : s.fresh.plane u w = s.plane u w := rfl
@[simp] theorem State.fresh_frame_frame (s : State) (u w z : Nat) : s.fresh.frame u w z = s.frame u w z := rfl
@[simp] theorem State.fresh_queue_frame (s : State) (u : Nat) : s.fresh.queue u = s.queue u := rfl
@[simp] theorem State.fresh_lane_frame (s : State) (u : Nat) : s.fresh.lane u = s.lane u := rfl
@[simp] theorem State.fresh_txLane_frame (s : State) (u : Nat) : s.fresh.txLane u = s.txLane u := rfl
@[simp] theorem State.fresh_tim_frame (s : State) (u : Nat) : s.fresh.tim u = s.tim u := rfl
@[simp] theorem State.fresh_port_frame (s : State) (u : Nat) : s.fresh.port u = s.port u := rfl
@[simp] theorem State.fresh_engine_frame (s : State) (u : Nat) : s.fresh.engine u = s.engine u := rfl
@[simp] theorem State.fresh_kernel_frame (s : State) (u : Nat) : s.fresh.kernel u = s.kernel u := rfl
@[simp] theorem State.fresh_mailbox_frame (s : State) (u : Nat) : s.fresh.mailbox u = s.mailbox u := rfl
@[simp] theorem State.fresh_canCh_frame (s : State) (u : Nat) : s.fresh.canCh u = s.canCh u := rfl
@[simp] theorem State.fresh_dom_frame (s : State) (u : Nat) : s.fresh.dom u = s.dom u := rfl
@[simp] theorem State.fresh_sensor_frame (s : State) (u : Nat) : s.fresh.sensor u = s.sensor u := rfl
@[simp] theorem State.fresh_image_frame (s : State) (u w : Nat) : s.fresh.image u w = s.image u w := rfl
@[simp] theorem State.fresh_waveLog (s : State) : s.fresh.waveLog = s.waveLog := rfl
@[simp] theorem State.fresh_readoutDue (s : State) : s.fresh.readoutDue = s.readoutDue := rfl
@[simp] theorem State.fresh_pinsHeld (s : State) : s.fresh.pinsHeld = s.pinsHeld := rfl
@[simp] theorem State.fresh_bar4Held (s : State) : s.fresh.bar4Held = s.bar4Held := rfl
@[simp] theorem State.fresh_cfgSpace (s : State) : s.fresh.cfgSpace = s.cfgSpace := rfl
@[simp] theorem State.fresh_gates (s : State) : s.fresh.gates = s.gates := rfl
@[simp] theorem State.fresh_loadHeld (s : State) : s.fresh.loadHeld = s.loadHeld := rfl
@[simp] theorem State.fresh_keepCopy (s : State) : s.fresh.keepCopy = s.keepCopy := rfl
@[simp] theorem State.fresh_storeStops (s : State) : s.fresh.storeStops = s.storeStops := rfl
@[simp] theorem State.fresh_spareLines (s : State) : s.fresh.spareLines = s.spareLines := rfl

/-! ### emit -/

@[simp] theorem State.emit_dict (s : State) (o : Output) : (s.emit o).dict = s.dict := rfl
@[simp] theorem State.emit_rwr (s : State) (o : Output) : (s.emit o).rwr = s.rwr := rfl
@[simp] theorem State.emit_pending (s : State) (o : Output) : (s.emit o).pending = s.pending := rfl
@[simp] theorem State.emit_draws (s : State) (o : Output) : (s.emit o).draws = s.draws := rfl
@[simp] theorem State.emit_bundle (s : State) (o : Output) : (s.emit o).bundle = s.bundle := rfl
@[simp] theorem State.emit_startup (s : State) (o : Output) : (s.emit o).startup = s.startup := rfl
@[simp] theorem State.emit_startPending (s : State) (o : Output) : (s.emit o).startPending = s.startPending := rfl
@[simp] theorem State.emit_stopPending (s : State) (o : Output) : (s.emit o).stopPending = s.stopPending := rfl
@[simp] theorem State.emit_waveDue (s : State) (o : Output) : (s.emit o).waveDue = s.waveDue := rfl
@[simp] theorem State.emit_runEra (s : State) (o : Output) : (s.emit o).runEra = s.runEra := rfl
@[simp] theorem State.emit_regions (s : State) (o : Output) : (s.emit o).regions = s.regions := rfl
@[simp] theorem State.emit_planes (s : State) (o : Output) : (s.emit o).planes = s.planes := rfl
@[simp] theorem State.emit_frames (s : State) (o : Output) : (s.emit o).frames = s.frames := rfl
@[simp] theorem State.emit_latched (s : State) (o : Output) : (s.emit o).latched = s.latched := rfl
@[simp] theorem State.emit_latchXn (s : State) (o : Output) : (s.emit o).latchXn = s.latchXn := rfl
@[simp] theorem State.emit_rearm (s : State) (o : Output) : (s.emit o).rearm = s.rearm := rfl
@[simp] theorem State.emit_rearmDue (s : State) (o : Output) : (s.emit o).rearmDue = s.rearmDue := rfl
@[simp] theorem State.emit_regs (s : State) (o : Output) : (s.emit o).regs = s.regs := rfl
@[simp] theorem State.emit_huskLast (s : State) (o : Output) : (s.emit o).huskLast = s.huskLast := rfl
@[simp] theorem State.emit_delivered (s : State) (o : Output) : (s.emit o).delivered = s.delivered := rfl
@[simp] theorem State.emit_readTokens (s : State) (o : Output) : (s.emit o).readTokens = s.readTokens := rfl
@[simp] theorem State.emit_probePipe (s : State) (o : Output) : (s.emit o).probePipe = s.probePipe := rfl
@[simp] theorem State.emit_probePins (s : State) (o : Output) : (s.emit o).probePins = s.probePins := rfl
@[simp] theorem State.emit_probeBlocks (s : State) (o : Output) : (s.emit o).probeBlocks = s.probeBlocks := rfl
@[simp] theorem State.emit_probeHeld (s : State) (o : Output) : (s.emit o).probeHeld = s.probeHeld := rfl
@[simp] theorem State.emit_bankMem (s : State) (o : Output) : (s.emit o).bankMem = s.bankMem := rfl
@[simp] theorem State.emit_queues (s : State) (o : Output) : (s.emit o).queues = s.queues := rfl
@[simp] theorem State.emit_patrol (s : State) (o : Output) : (s.emit o).patrol = s.patrol := rfl
@[simp] theorem State.emit_repairs (s : State) (o : Output) : (s.emit o).repairs = s.repairs := rfl
@[simp] theorem State.emit_storedMap (s : State) (o : Output) : (s.emit o).storedMap = s.storedMap := rfl
@[simp] theorem State.emit_march (s : State) (o : Output) : (s.emit o).march = s.march := rfl
@[simp] theorem State.emit_load (s : State) (o : Output) : (s.emit o).load = s.load := rfl
@[simp] theorem State.emit_migReverting (s : State) (o : Output) : (s.emit o).migReverting = s.migReverting := rfl
@[simp] theorem State.emit_migOverlap (s : State) (o : Output) : (s.emit o).migOverlap = s.migOverlap := rfl
@[simp] theorem State.emit_migWave (s : State) (o : Output) : (s.emit o).migWave = s.migWave := rfl
@[simp] theorem State.emit_migMin (s : State) (o : Output) : (s.emit o).migMin = s.migMin := rfl
@[simp] theorem State.emit_migHalted (s : State) (o : Output) : (s.emit o).migHalted = s.migHalted := rfl
@[simp] theorem State.emit_deferred (s : State) (o : Output) : (s.emit o).deferred = s.deferred := rfl
@[simp] theorem State.emit_lanes (s : State) (o : Output) : (s.emit o).lanes = s.lanes := rfl
@[simp] theorem State.emit_tx (s : State) (o : Output) : (s.emit o).tx = s.tx := rfl
@[simp] theorem State.emit_timing (s : State) (o : Output) : (s.emit o).timing = s.timing := rfl
@[simp] theorem State.emit_sourceDue (s : State) (o : Output) : (s.emit o).sourceDue = s.sourceDue := rfl
@[simp] theorem State.emit_timingNew (s : State) (o : Output) : (s.emit o).timingNew = s.timingNew := rfl
@[simp] theorem State.emit_lines (s : State) (o : Output) : (s.emit o).lines = s.lines := rfl
@[simp] theorem State.emit_slotC (s : State) (o : Output) : (s.emit o).slotC = s.slotC := rfl
@[simp] theorem State.emit_skips (s : State) (o : Output) : (s.emit o).skips = s.skips := rfl
@[simp] theorem State.emit_heldReqs (s : State) (o : Output) : (s.emit o).heldReqs = s.heldReqs := rfl
@[simp] theorem State.emit_lbif (s : State) (o : Output) : (s.emit o).lbif = s.lbif := rfl
@[simp] theorem State.emit_bar2Held (s : State) (o : Output) : (s.emit o).bar2Held = s.bar2Held := rfl
@[simp] theorem State.emit_scrubPos (s : State) (o : Output) : (s.emit o).scrubPos = s.scrubPos := rfl
@[simp] theorem State.emit_nextWindow (s : State) (o : Output) : (s.emit o).nextWindow = s.nextWindow := rfl
@[simp] theorem State.emit_activationC (s : State) (o : Output) : (s.emit o).activationC = s.activationC := rfl
@[simp] theorem State.emit_derived (s : State) (o : Output) : (s.emit o).derived = s.derived := rfl
@[simp] theorem State.emit_ports (s : State) (o : Output) : (s.emit o).ports = s.ports := rfl
@[simp] theorem State.emit_pair (s : State) (o : Output) : (s.emit o).pair = s.pair := rfl
@[simp] theorem State.emit_outReqs (s : State) (o : Output) : (s.emit o).outReqs = s.outReqs := rfl
@[simp] theorem State.emit_msixPend (s : State) (o : Output) : (s.emit o).msixPend = s.msixPend := rfl
@[simp] theorem State.emit_msixHold (s : State) (o : Output) : (s.emit o).msixHold = s.msixHold := rfl
@[simp] theorem State.emit_msixTable (s : State) (o : Output) : (s.emit o).msixTable = s.msixTable := rfl
@[simp] theorem State.emit_keepLines (s : State) (o : Output) : (s.emit o).keepLines = s.keepLines := rfl
@[simp] theorem State.emit_engines (s : State) (o : Output) : (s.emit o).engines = s.engines := rfl
@[simp] theorem State.emit_readoutQueue (s : State) (o : Output) : (s.emit o).readoutQueue = s.readoutQueue := rfl
@[simp] theorem State.emit_kernels (s : State) (o : Output) : (s.emit o).kernels = s.kernels := rfl
@[simp] theorem State.emit_transfers (s : State) (o : Output) : (s.emit o).transfers = s.transfers := rfl
@[simp] theorem State.emit_mailboxes (s : State) (o : Output) : (s.emit o).mailboxes = s.mailboxes := rfl
@[simp] theorem State.emit_can (s : State) (o : Output) : (s.emit o).can = s.can := rfl
@[simp] theorem State.emit_canOpen (s : State) (o : Output) : (s.emit o).canOpen = s.canOpen := rfl
@[simp] theorem State.emit_design (s : State) (o : Output) : (s.emit o).design = s.design := rfl
@[simp] theorem State.emit_designQ (s : State) (o : Output) : (s.emit o).designQ = s.designQ := rfl
@[simp] theorem State.emit_designTag (s : State) (o : Output) : (s.emit o).designTag = s.designTag := rfl
@[simp] theorem State.emit_userVals (s : State) (o : Output) : (s.emit o).userVals = s.userVals := rfl
@[simp] theorem State.emit_portReq (s : State) (o : Output) : (s.emit o).portReq = s.portReq := rfl
@[simp] theorem State.emit_portOut (s : State) (o : Output) : (s.emit o).portOut = s.portOut := rfl
@[simp] theorem State.emit_portIn (s : State) (o : Output) : (s.emit o).portIn = s.portIn := rfl
@[simp] theorem State.emit_portMsgs (s : State) (o : Output) : (s.emit o).portMsgs = s.portMsgs := rfl
@[simp] theorem State.emit_domains (s : State) (o : Output) : (s.emit o).domains = s.domains := rfl
@[simp] theorem State.emit_sensors (s : State) (o : Output) : (s.emit o).sensors = s.sensors := rfl
@[simp] theorem State.emit_thermal (s : State) (o : Output) : (s.emit o).thermal = s.thermal := rfl
@[simp] theorem State.emit_collector (s : State) (o : Output) : (s.emit o).collector = s.collector := rfl
@[simp] theorem State.emit_security (s : State) (o : Output) : (s.emit o).security = s.security := rfl
@[simp] theorem State.emit_rd_frame (s : State) (o : Output) (u w : Nat) : (s.emit o).rd u w = s.rd u w := rfl
@[simp] theorem State.emit_region_frame (s : State) (o : Output) (u : Nat) : (s.emit o).region u = s.region u := rfl
@[simp] theorem State.emit_plane_frame (s : State) (o : Output) (u w : Nat) : (s.emit o).plane u w = s.plane u w := rfl
@[simp] theorem State.emit_frame_frame (s : State) (o : Output) (u w z : Nat) : (s.emit o).frame u w z = s.frame u w z := rfl
@[simp] theorem State.emit_queue_frame (s : State) (o : Output) (u : Nat) : (s.emit o).queue u = s.queue u := rfl
@[simp] theorem State.emit_lane_frame (s : State) (o : Output) (u : Nat) : (s.emit o).lane u = s.lane u := rfl
@[simp] theorem State.emit_txLane_frame (s : State) (o : Output) (u : Nat) : (s.emit o).txLane u = s.txLane u := rfl
@[simp] theorem State.emit_tim_frame (s : State) (o : Output) (u : Nat) : (s.emit o).tim u = s.tim u := rfl
@[simp] theorem State.emit_port_frame (s : State) (o : Output) (u : Nat) : (s.emit o).port u = s.port u := rfl
@[simp] theorem State.emit_engine_frame (s : State) (o : Output) (u : Nat) : (s.emit o).engine u = s.engine u := rfl
@[simp] theorem State.emit_kernel_frame (s : State) (o : Output) (u : Nat) : (s.emit o).kernel u = s.kernel u := rfl
@[simp] theorem State.emit_mailbox_frame (s : State) (o : Output) (u : Nat) : (s.emit o).mailbox u = s.mailbox u := rfl
@[simp] theorem State.emit_canCh_frame (s : State) (o : Output) (u : Nat) : (s.emit o).canCh u = s.canCh u := rfl
@[simp] theorem State.emit_dom_frame (s : State) (o : Output) (u : Nat) : (s.emit o).dom u = s.dom u := rfl
@[simp] theorem State.emit_sensor_frame (s : State) (o : Output) (u : Nat) : (s.emit o).sensor u = s.sensor u := rfl
@[simp] theorem State.emit_image_frame (s : State) (o : Output) (u w : Nat) : (s.emit o).image u w = s.image u w := rfl
@[simp] theorem State.emit_waveLog (s : State) (o : Output) : (s.emit o).waveLog = s.waveLog := rfl
@[simp] theorem State.emit_readoutDue (s : State) (o : Output) : (s.emit o).readoutDue = s.readoutDue := rfl
@[simp] theorem State.emit_pinsHeld (s : State) (o : Output) : (s.emit o).pinsHeld = s.pinsHeld := rfl
@[simp] theorem State.emit_bar4Held (s : State) (o : Output) : (s.emit o).bar4Held = s.bar4Held := rfl
@[simp] theorem State.emit_cfgSpace (s : State) (o : Output) : (s.emit o).cfgSpace = s.cfgSpace := rfl
@[simp] theorem State.emit_gates (s : State) (o : Output) : (s.emit o).gates = s.gates := rfl
@[simp] theorem State.emit_loadHeld (s : State) (o : Output) : (s.emit o).loadHeld = s.loadHeld := rfl
@[simp] theorem State.emit_keepCopy (s : State) (o : Output) : (s.emit o).keepCopy = s.keepCopy := rfl
@[simp] theorem State.emit_storeStops (s : State) (o : Output) : (s.emit o).storeStops = s.storeStops := rfl
@[simp] theorem State.emit_spareLines (s : State) (o : Output) : (s.emit o).spareLines = s.spareLines := rfl

/-! ### wr -/

@[simp] theorem State.wr_rwr (s : State) (i j v : Nat) : (s.wr i j v).rwr = s.rwr := rfl
@[simp] theorem State.wr_out (s : State) (i j v : Nat) : (s.wr i j v).out = s.out := rfl
@[simp] theorem State.wr_pending (s : State) (i j v : Nat) : (s.wr i j v).pending = s.pending := rfl
@[simp] theorem State.wr_draws (s : State) (i j v : Nat) : (s.wr i j v).draws = s.draws := rfl
@[simp] theorem State.wr_bundle (s : State) (i j v : Nat) : (s.wr i j v).bundle = s.bundle := rfl
@[simp] theorem State.wr_startup (s : State) (i j v : Nat) : (s.wr i j v).startup = s.startup := rfl
@[simp] theorem State.wr_startPending (s : State) (i j v : Nat) : (s.wr i j v).startPending = s.startPending := rfl
@[simp] theorem State.wr_stopPending (s : State) (i j v : Nat) : (s.wr i j v).stopPending = s.stopPending := rfl
@[simp] theorem State.wr_waveDue (s : State) (i j v : Nat) : (s.wr i j v).waveDue = s.waveDue := rfl
@[simp] theorem State.wr_runEra (s : State) (i j v : Nat) : (s.wr i j v).runEra = s.runEra := rfl
@[simp] theorem State.wr_regions (s : State) (i j v : Nat) : (s.wr i j v).regions = s.regions := rfl
@[simp] theorem State.wr_planes (s : State) (i j v : Nat) : (s.wr i j v).planes = s.planes := rfl
@[simp] theorem State.wr_frames (s : State) (i j v : Nat) : (s.wr i j v).frames = s.frames := rfl
@[simp] theorem State.wr_latched (s : State) (i j v : Nat) : (s.wr i j v).latched = s.latched := rfl
@[simp] theorem State.wr_latchXn (s : State) (i j v : Nat) : (s.wr i j v).latchXn = s.latchXn := rfl
@[simp] theorem State.wr_rearm (s : State) (i j v : Nat) : (s.wr i j v).rearm = s.rearm := rfl
@[simp] theorem State.wr_rearmDue (s : State) (i j v : Nat) : (s.wr i j v).rearmDue = s.rearmDue := rfl
@[simp] theorem State.wr_regs (s : State) (i j v : Nat) : (s.wr i j v).regs = s.regs := rfl
@[simp] theorem State.wr_huskLast (s : State) (i j v : Nat) : (s.wr i j v).huskLast = s.huskLast := rfl
@[simp] theorem State.wr_delivered (s : State) (i j v : Nat) : (s.wr i j v).delivered = s.delivered := rfl
@[simp] theorem State.wr_readTokens (s : State) (i j v : Nat) : (s.wr i j v).readTokens = s.readTokens := rfl
@[simp] theorem State.wr_probePipe (s : State) (i j v : Nat) : (s.wr i j v).probePipe = s.probePipe := rfl
@[simp] theorem State.wr_probePins (s : State) (i j v : Nat) : (s.wr i j v).probePins = s.probePins := rfl
@[simp] theorem State.wr_probeBlocks (s : State) (i j v : Nat) : (s.wr i j v).probeBlocks = s.probeBlocks := rfl
@[simp] theorem State.wr_probeHeld (s : State) (i j v : Nat) : (s.wr i j v).probeHeld = s.probeHeld := rfl
@[simp] theorem State.wr_bankMem (s : State) (i j v : Nat) : (s.wr i j v).bankMem = s.bankMem := rfl
@[simp] theorem State.wr_queues (s : State) (i j v : Nat) : (s.wr i j v).queues = s.queues := rfl
@[simp] theorem State.wr_patrol (s : State) (i j v : Nat) : (s.wr i j v).patrol = s.patrol := rfl
@[simp] theorem State.wr_repairs (s : State) (i j v : Nat) : (s.wr i j v).repairs = s.repairs := rfl
@[simp] theorem State.wr_storedMap (s : State) (i j v : Nat) : (s.wr i j v).storedMap = s.storedMap := rfl
@[simp] theorem State.wr_march (s : State) (i j v : Nat) : (s.wr i j v).march = s.march := rfl
@[simp] theorem State.wr_load (s : State) (i j v : Nat) : (s.wr i j v).load = s.load := rfl
@[simp] theorem State.wr_migReverting (s : State) (i j v : Nat) : (s.wr i j v).migReverting = s.migReverting := rfl
@[simp] theorem State.wr_migOverlap (s : State) (i j v : Nat) : (s.wr i j v).migOverlap = s.migOverlap := rfl
@[simp] theorem State.wr_migWave (s : State) (i j v : Nat) : (s.wr i j v).migWave = s.migWave := rfl
@[simp] theorem State.wr_migMin (s : State) (i j v : Nat) : (s.wr i j v).migMin = s.migMin := rfl
@[simp] theorem State.wr_migHalted (s : State) (i j v : Nat) : (s.wr i j v).migHalted = s.migHalted := rfl
@[simp] theorem State.wr_deferred (s : State) (i j v : Nat) : (s.wr i j v).deferred = s.deferred := rfl
@[simp] theorem State.wr_lanes (s : State) (i j v : Nat) : (s.wr i j v).lanes = s.lanes := rfl
@[simp] theorem State.wr_tx (s : State) (i j v : Nat) : (s.wr i j v).tx = s.tx := rfl
@[simp] theorem State.wr_timing (s : State) (i j v : Nat) : (s.wr i j v).timing = s.timing := rfl
@[simp] theorem State.wr_sourceDue (s : State) (i j v : Nat) : (s.wr i j v).sourceDue = s.sourceDue := rfl
@[simp] theorem State.wr_timingNew (s : State) (i j v : Nat) : (s.wr i j v).timingNew = s.timingNew := rfl
@[simp] theorem State.wr_lines (s : State) (i j v : Nat) : (s.wr i j v).lines = s.lines := rfl
@[simp] theorem State.wr_slotC (s : State) (i j v : Nat) : (s.wr i j v).slotC = s.slotC := rfl
@[simp] theorem State.wr_skips (s : State) (i j v : Nat) : (s.wr i j v).skips = s.skips := rfl
@[simp] theorem State.wr_heldReqs (s : State) (i j v : Nat) : (s.wr i j v).heldReqs = s.heldReqs := rfl
@[simp] theorem State.wr_lbif (s : State) (i j v : Nat) : (s.wr i j v).lbif = s.lbif := rfl
@[simp] theorem State.wr_bar2Held (s : State) (i j v : Nat) : (s.wr i j v).bar2Held = s.bar2Held := rfl
@[simp] theorem State.wr_scrubPos (s : State) (i j v : Nat) : (s.wr i j v).scrubPos = s.scrubPos := rfl
@[simp] theorem State.wr_nextWindow (s : State) (i j v : Nat) : (s.wr i j v).nextWindow = s.nextWindow := rfl
@[simp] theorem State.wr_activationC (s : State) (i j v : Nat) : (s.wr i j v).activationC = s.activationC := rfl
@[simp] theorem State.wr_derived (s : State) (i j v : Nat) : (s.wr i j v).derived = s.derived := rfl
@[simp] theorem State.wr_ports (s : State) (i j v : Nat) : (s.wr i j v).ports = s.ports := rfl
@[simp] theorem State.wr_pair (s : State) (i j v : Nat) : (s.wr i j v).pair = s.pair := rfl
@[simp] theorem State.wr_outReqs (s : State) (i j v : Nat) : (s.wr i j v).outReqs = s.outReqs := rfl
@[simp] theorem State.wr_msixPend (s : State) (i j v : Nat) : (s.wr i j v).msixPend = s.msixPend := rfl
@[simp] theorem State.wr_msixHold (s : State) (i j v : Nat) : (s.wr i j v).msixHold = s.msixHold := rfl
@[simp] theorem State.wr_msixTable (s : State) (i j v : Nat) : (s.wr i j v).msixTable = s.msixTable := rfl
@[simp] theorem State.wr_keepLines (s : State) (i j v : Nat) : (s.wr i j v).keepLines = s.keepLines := rfl
@[simp] theorem State.wr_engines (s : State) (i j v : Nat) : (s.wr i j v).engines = s.engines := rfl
@[simp] theorem State.wr_readoutQueue (s : State) (i j v : Nat) : (s.wr i j v).readoutQueue = s.readoutQueue := rfl
@[simp] theorem State.wr_kernels (s : State) (i j v : Nat) : (s.wr i j v).kernels = s.kernels := rfl
@[simp] theorem State.wr_transfers (s : State) (i j v : Nat) : (s.wr i j v).transfers = s.transfers := rfl
@[simp] theorem State.wr_mailboxes (s : State) (i j v : Nat) : (s.wr i j v).mailboxes = s.mailboxes := rfl
@[simp] theorem State.wr_can (s : State) (i j v : Nat) : (s.wr i j v).can = s.can := rfl
@[simp] theorem State.wr_canOpen (s : State) (i j v : Nat) : (s.wr i j v).canOpen = s.canOpen := rfl
@[simp] theorem State.wr_design (s : State) (i j v : Nat) : (s.wr i j v).design = s.design := rfl
@[simp] theorem State.wr_designQ (s : State) (i j v : Nat) : (s.wr i j v).designQ = s.designQ := rfl
@[simp] theorem State.wr_designTag (s : State) (i j v : Nat) : (s.wr i j v).designTag = s.designTag := rfl
@[simp] theorem State.wr_userVals (s : State) (i j v : Nat) : (s.wr i j v).userVals = s.userVals := rfl
@[simp] theorem State.wr_portReq (s : State) (i j v : Nat) : (s.wr i j v).portReq = s.portReq := rfl
@[simp] theorem State.wr_portOut (s : State) (i j v : Nat) : (s.wr i j v).portOut = s.portOut := rfl
@[simp] theorem State.wr_portIn (s : State) (i j v : Nat) : (s.wr i j v).portIn = s.portIn := rfl
@[simp] theorem State.wr_portMsgs (s : State) (i j v : Nat) : (s.wr i j v).portMsgs = s.portMsgs := rfl
@[simp] theorem State.wr_domains (s : State) (i j v : Nat) : (s.wr i j v).domains = s.domains := rfl
@[simp] theorem State.wr_sensors (s : State) (i j v : Nat) : (s.wr i j v).sensors = s.sensors := rfl
@[simp] theorem State.wr_thermal (s : State) (i j v : Nat) : (s.wr i j v).thermal = s.thermal := rfl
@[simp] theorem State.wr_collector (s : State) (i j v : Nat) : (s.wr i j v).collector = s.collector := rfl
@[simp] theorem State.wr_security (s : State) (i j v : Nat) : (s.wr i j v).security = s.security := rfl
@[simp] theorem State.wr_region_frame (s : State) (i j v : Nat) (u : Nat) : (s.wr i j v).region u = s.region u := rfl
@[simp] theorem State.wr_plane_frame (s : State) (i j v : Nat) (u w : Nat) : (s.wr i j v).plane u w = s.plane u w := rfl
@[simp] theorem State.wr_frame_frame (s : State) (i j v : Nat) (u w z : Nat) : (s.wr i j v).frame u w z = s.frame u w z := rfl
@[simp] theorem State.wr_queue_frame (s : State) (i j v : Nat) (u : Nat) : (s.wr i j v).queue u = s.queue u := rfl
@[simp] theorem State.wr_lane_frame (s : State) (i j v : Nat) (u : Nat) : (s.wr i j v).lane u = s.lane u := rfl
@[simp] theorem State.wr_txLane_frame (s : State) (i j v : Nat) (u : Nat) : (s.wr i j v).txLane u = s.txLane u := rfl
@[simp] theorem State.wr_tim_frame (s : State) (i j v : Nat) (u : Nat) : (s.wr i j v).tim u = s.tim u := rfl
@[simp] theorem State.wr_port_frame (s : State) (i j v : Nat) (u : Nat) : (s.wr i j v).port u = s.port u := rfl
@[simp] theorem State.wr_engine_frame (s : State) (i j v : Nat) (u : Nat) : (s.wr i j v).engine u = s.engine u := rfl
@[simp] theorem State.wr_kernel_frame (s : State) (i j v : Nat) (u : Nat) : (s.wr i j v).kernel u = s.kernel u := rfl
@[simp] theorem State.wr_mailbox_frame (s : State) (i j v : Nat) (u : Nat) : (s.wr i j v).mailbox u = s.mailbox u := rfl
@[simp] theorem State.wr_canCh_frame (s : State) (i j v : Nat) (u : Nat) : (s.wr i j v).canCh u = s.canCh u := rfl
@[simp] theorem State.wr_dom_frame (s : State) (i j v : Nat) (u : Nat) : (s.wr i j v).dom u = s.dom u := rfl
@[simp] theorem State.wr_sensor_frame (s : State) (i j v : Nat) (u : Nat) : (s.wr i j v).sensor u = s.sensor u := rfl
@[simp] theorem State.wr_image_frame (s : State) (i j v : Nat) (u w : Nat) : (s.wr i j v).image u w = s.image u w := rfl
@[simp] theorem State.wr_waveLog (s : State) (i j v : Nat) : (s.wr i j v).waveLog = s.waveLog := rfl
@[simp] theorem State.wr_readoutDue (s : State) (i j v : Nat) : (s.wr i j v).readoutDue = s.readoutDue := rfl
@[simp] theorem State.wr_pinsHeld (s : State) (i j v : Nat) : (s.wr i j v).pinsHeld = s.pinsHeld := rfl
@[simp] theorem State.wr_bar4Held (s : State) (i j v : Nat) : (s.wr i j v).bar4Held = s.bar4Held := rfl
@[simp] theorem State.wr_cfgSpace (s : State) (i j v : Nat) : (s.wr i j v).cfgSpace = s.cfgSpace := rfl
@[simp] theorem State.wr_gates (s : State) (i j v : Nat) : (s.wr i j v).gates = s.gates := rfl
@[simp] theorem State.wr_loadHeld (s : State) (i j v : Nat) : (s.wr i j v).loadHeld = s.loadHeld := rfl
@[simp] theorem State.wr_keepCopy (s : State) (i j v : Nat) : (s.wr i j v).keepCopy = s.keepCopy := rfl
@[simp] theorem State.wr_storeStops (s : State) (i j v : Nat) : (s.wr i j v).storeStops = s.storeStops := rfl
@[simp] theorem State.wr_spareLines (s : State) (i j v : Nat) : (s.wr i j v).spareLines = s.spareLines := rfl

/-! ### setRegion -/

@[simp] theorem State.setRegion_dict (s : State) (n : Nat) (x : RegionRec) : (s.setRegion n x).dict = s.dict := rfl
@[simp] theorem State.setRegion_rwr (s : State) (n : Nat) (x : RegionRec) : (s.setRegion n x).rwr = s.rwr := rfl
@[simp] theorem State.setRegion_out (s : State) (n : Nat) (x : RegionRec) : (s.setRegion n x).out = s.out := rfl
@[simp] theorem State.setRegion_pending (s : State) (n : Nat) (x : RegionRec) : (s.setRegion n x).pending = s.pending := rfl
@[simp] theorem State.setRegion_draws (s : State) (n : Nat) (x : RegionRec) : (s.setRegion n x).draws = s.draws := rfl
@[simp] theorem State.setRegion_bundle (s : State) (n : Nat) (x : RegionRec) : (s.setRegion n x).bundle = s.bundle := rfl
@[simp] theorem State.setRegion_startup (s : State) (n : Nat) (x : RegionRec) : (s.setRegion n x).startup = s.startup := rfl
@[simp] theorem State.setRegion_startPending (s : State) (n : Nat) (x : RegionRec) : (s.setRegion n x).startPending = s.startPending := rfl
@[simp] theorem State.setRegion_stopPending (s : State) (n : Nat) (x : RegionRec) : (s.setRegion n x).stopPending = s.stopPending := rfl
@[simp] theorem State.setRegion_waveDue (s : State) (n : Nat) (x : RegionRec) : (s.setRegion n x).waveDue = s.waveDue := rfl
@[simp] theorem State.setRegion_runEra (s : State) (n : Nat) (x : RegionRec) : (s.setRegion n x).runEra = s.runEra := rfl
@[simp] theorem State.setRegion_planes (s : State) (n : Nat) (x : RegionRec) : (s.setRegion n x).planes = s.planes := rfl
@[simp] theorem State.setRegion_frames (s : State) (n : Nat) (x : RegionRec) : (s.setRegion n x).frames = s.frames := rfl
@[simp] theorem State.setRegion_latched (s : State) (n : Nat) (x : RegionRec) : (s.setRegion n x).latched = s.latched := rfl
@[simp] theorem State.setRegion_latchXn (s : State) (n : Nat) (x : RegionRec) : (s.setRegion n x).latchXn = s.latchXn := rfl
@[simp] theorem State.setRegion_rearm (s : State) (n : Nat) (x : RegionRec) : (s.setRegion n x).rearm = s.rearm := rfl
@[simp] theorem State.setRegion_rearmDue (s : State) (n : Nat) (x : RegionRec) : (s.setRegion n x).rearmDue = s.rearmDue := rfl
@[simp] theorem State.setRegion_regs (s : State) (n : Nat) (x : RegionRec) : (s.setRegion n x).regs = s.regs := rfl
@[simp] theorem State.setRegion_huskLast (s : State) (n : Nat) (x : RegionRec) : (s.setRegion n x).huskLast = s.huskLast := rfl
@[simp] theorem State.setRegion_delivered (s : State) (n : Nat) (x : RegionRec) : (s.setRegion n x).delivered = s.delivered := rfl
@[simp] theorem State.setRegion_readTokens (s : State) (n : Nat) (x : RegionRec) : (s.setRegion n x).readTokens = s.readTokens := rfl
@[simp] theorem State.setRegion_probePipe (s : State) (n : Nat) (x : RegionRec) : (s.setRegion n x).probePipe = s.probePipe := rfl
@[simp] theorem State.setRegion_probePins (s : State) (n : Nat) (x : RegionRec) : (s.setRegion n x).probePins = s.probePins := rfl
@[simp] theorem State.setRegion_probeBlocks (s : State) (n : Nat) (x : RegionRec) : (s.setRegion n x).probeBlocks = s.probeBlocks := rfl
@[simp] theorem State.setRegion_probeHeld (s : State) (n : Nat) (x : RegionRec) : (s.setRegion n x).probeHeld = s.probeHeld := rfl
@[simp] theorem State.setRegion_bankMem (s : State) (n : Nat) (x : RegionRec) : (s.setRegion n x).bankMem = s.bankMem := rfl
@[simp] theorem State.setRegion_queues (s : State) (n : Nat) (x : RegionRec) : (s.setRegion n x).queues = s.queues := rfl
@[simp] theorem State.setRegion_patrol (s : State) (n : Nat) (x : RegionRec) : (s.setRegion n x).patrol = s.patrol := rfl
@[simp] theorem State.setRegion_repairs (s : State) (n : Nat) (x : RegionRec) : (s.setRegion n x).repairs = s.repairs := rfl
@[simp] theorem State.setRegion_storedMap (s : State) (n : Nat) (x : RegionRec) : (s.setRegion n x).storedMap = s.storedMap := rfl
@[simp] theorem State.setRegion_march (s : State) (n : Nat) (x : RegionRec) : (s.setRegion n x).march = s.march := rfl
@[simp] theorem State.setRegion_load (s : State) (n : Nat) (x : RegionRec) : (s.setRegion n x).load = s.load := rfl
@[simp] theorem State.setRegion_migReverting (s : State) (n : Nat) (x : RegionRec) : (s.setRegion n x).migReverting = s.migReverting := rfl
@[simp] theorem State.setRegion_migOverlap (s : State) (n : Nat) (x : RegionRec) : (s.setRegion n x).migOverlap = s.migOverlap := rfl
@[simp] theorem State.setRegion_migWave (s : State) (n : Nat) (x : RegionRec) : (s.setRegion n x).migWave = s.migWave := rfl
@[simp] theorem State.setRegion_migMin (s : State) (n : Nat) (x : RegionRec) : (s.setRegion n x).migMin = s.migMin := rfl
@[simp] theorem State.setRegion_migHalted (s : State) (n : Nat) (x : RegionRec) : (s.setRegion n x).migHalted = s.migHalted := rfl
@[simp] theorem State.setRegion_deferred (s : State) (n : Nat) (x : RegionRec) : (s.setRegion n x).deferred = s.deferred := rfl
@[simp] theorem State.setRegion_lanes (s : State) (n : Nat) (x : RegionRec) : (s.setRegion n x).lanes = s.lanes := rfl
@[simp] theorem State.setRegion_tx (s : State) (n : Nat) (x : RegionRec) : (s.setRegion n x).tx = s.tx := rfl
@[simp] theorem State.setRegion_timing (s : State) (n : Nat) (x : RegionRec) : (s.setRegion n x).timing = s.timing := rfl
@[simp] theorem State.setRegion_sourceDue (s : State) (n : Nat) (x : RegionRec) : (s.setRegion n x).sourceDue = s.sourceDue := rfl
@[simp] theorem State.setRegion_timingNew (s : State) (n : Nat) (x : RegionRec) : (s.setRegion n x).timingNew = s.timingNew := rfl
@[simp] theorem State.setRegion_lines (s : State) (n : Nat) (x : RegionRec) : (s.setRegion n x).lines = s.lines := rfl
@[simp] theorem State.setRegion_slotC (s : State) (n : Nat) (x : RegionRec) : (s.setRegion n x).slotC = s.slotC := rfl
@[simp] theorem State.setRegion_skips (s : State) (n : Nat) (x : RegionRec) : (s.setRegion n x).skips = s.skips := rfl
@[simp] theorem State.setRegion_heldReqs (s : State) (n : Nat) (x : RegionRec) : (s.setRegion n x).heldReqs = s.heldReqs := rfl
@[simp] theorem State.setRegion_lbif (s : State) (n : Nat) (x : RegionRec) : (s.setRegion n x).lbif = s.lbif := rfl
@[simp] theorem State.setRegion_bar2Held (s : State) (n : Nat) (x : RegionRec) : (s.setRegion n x).bar2Held = s.bar2Held := rfl
@[simp] theorem State.setRegion_scrubPos (s : State) (n : Nat) (x : RegionRec) : (s.setRegion n x).scrubPos = s.scrubPos := rfl
@[simp] theorem State.setRegion_nextWindow (s : State) (n : Nat) (x : RegionRec) : (s.setRegion n x).nextWindow = s.nextWindow := rfl
@[simp] theorem State.setRegion_activationC (s : State) (n : Nat) (x : RegionRec) : (s.setRegion n x).activationC = s.activationC := rfl
@[simp] theorem State.setRegion_derived (s : State) (n : Nat) (x : RegionRec) : (s.setRegion n x).derived = s.derived := rfl
@[simp] theorem State.setRegion_ports (s : State) (n : Nat) (x : RegionRec) : (s.setRegion n x).ports = s.ports := rfl
@[simp] theorem State.setRegion_pair (s : State) (n : Nat) (x : RegionRec) : (s.setRegion n x).pair = s.pair := rfl
@[simp] theorem State.setRegion_outReqs (s : State) (n : Nat) (x : RegionRec) : (s.setRegion n x).outReqs = s.outReqs := rfl
@[simp] theorem State.setRegion_msixPend (s : State) (n : Nat) (x : RegionRec) : (s.setRegion n x).msixPend = s.msixPend := rfl
@[simp] theorem State.setRegion_msixHold (s : State) (n : Nat) (x : RegionRec) : (s.setRegion n x).msixHold = s.msixHold := rfl
@[simp] theorem State.setRegion_msixTable (s : State) (n : Nat) (x : RegionRec) : (s.setRegion n x).msixTable = s.msixTable := rfl
@[simp] theorem State.setRegion_keepLines (s : State) (n : Nat) (x : RegionRec) : (s.setRegion n x).keepLines = s.keepLines := rfl
@[simp] theorem State.setRegion_engines (s : State) (n : Nat) (x : RegionRec) : (s.setRegion n x).engines = s.engines := rfl
@[simp] theorem State.setRegion_readoutQueue (s : State) (n : Nat) (x : RegionRec) : (s.setRegion n x).readoutQueue = s.readoutQueue := rfl
@[simp] theorem State.setRegion_kernels (s : State) (n : Nat) (x : RegionRec) : (s.setRegion n x).kernels = s.kernels := rfl
@[simp] theorem State.setRegion_transfers (s : State) (n : Nat) (x : RegionRec) : (s.setRegion n x).transfers = s.transfers := rfl
@[simp] theorem State.setRegion_mailboxes (s : State) (n : Nat) (x : RegionRec) : (s.setRegion n x).mailboxes = s.mailboxes := rfl
@[simp] theorem State.setRegion_can (s : State) (n : Nat) (x : RegionRec) : (s.setRegion n x).can = s.can := rfl
@[simp] theorem State.setRegion_canOpen (s : State) (n : Nat) (x : RegionRec) : (s.setRegion n x).canOpen = s.canOpen := rfl
@[simp] theorem State.setRegion_design (s : State) (n : Nat) (x : RegionRec) : (s.setRegion n x).design = s.design := rfl
@[simp] theorem State.setRegion_designQ (s : State) (n : Nat) (x : RegionRec) : (s.setRegion n x).designQ = s.designQ := rfl
@[simp] theorem State.setRegion_designTag (s : State) (n : Nat) (x : RegionRec) : (s.setRegion n x).designTag = s.designTag := rfl
@[simp] theorem State.setRegion_userVals (s : State) (n : Nat) (x : RegionRec) : (s.setRegion n x).userVals = s.userVals := rfl
@[simp] theorem State.setRegion_portReq (s : State) (n : Nat) (x : RegionRec) : (s.setRegion n x).portReq = s.portReq := rfl
@[simp] theorem State.setRegion_portOut (s : State) (n : Nat) (x : RegionRec) : (s.setRegion n x).portOut = s.portOut := rfl
@[simp] theorem State.setRegion_portIn (s : State) (n : Nat) (x : RegionRec) : (s.setRegion n x).portIn = s.portIn := rfl
@[simp] theorem State.setRegion_portMsgs (s : State) (n : Nat) (x : RegionRec) : (s.setRegion n x).portMsgs = s.portMsgs := rfl
@[simp] theorem State.setRegion_domains (s : State) (n : Nat) (x : RegionRec) : (s.setRegion n x).domains = s.domains := rfl
@[simp] theorem State.setRegion_sensors (s : State) (n : Nat) (x : RegionRec) : (s.setRegion n x).sensors = s.sensors := rfl
@[simp] theorem State.setRegion_thermal (s : State) (n : Nat) (x : RegionRec) : (s.setRegion n x).thermal = s.thermal := rfl
@[simp] theorem State.setRegion_collector (s : State) (n : Nat) (x : RegionRec) : (s.setRegion n x).collector = s.collector := rfl
@[simp] theorem State.setRegion_security (s : State) (n : Nat) (x : RegionRec) : (s.setRegion n x).security = s.security := rfl
@[simp] theorem State.setRegion_rd_frame (s : State) (n : Nat) (x : RegionRec) (u w : Nat) : (s.setRegion n x).rd u w = s.rd u w := rfl
@[simp] theorem State.setRegion_plane_frame (s : State) (n : Nat) (x : RegionRec) (u w : Nat) : (s.setRegion n x).plane u w = s.plane u w := rfl
@[simp] theorem State.setRegion_frame_frame (s : State) (n : Nat) (x : RegionRec) (u w z : Nat) : (s.setRegion n x).frame u w z = s.frame u w z := rfl
@[simp] theorem State.setRegion_queue_frame (s : State) (n : Nat) (x : RegionRec) (u : Nat) : (s.setRegion n x).queue u = s.queue u := rfl
@[simp] theorem State.setRegion_lane_frame (s : State) (n : Nat) (x : RegionRec) (u : Nat) : (s.setRegion n x).lane u = s.lane u := rfl
@[simp] theorem State.setRegion_txLane_frame (s : State) (n : Nat) (x : RegionRec) (u : Nat) : (s.setRegion n x).txLane u = s.txLane u := rfl
@[simp] theorem State.setRegion_tim_frame (s : State) (n : Nat) (x : RegionRec) (u : Nat) : (s.setRegion n x).tim u = s.tim u := rfl
@[simp] theorem State.setRegion_port_frame (s : State) (n : Nat) (x : RegionRec) (u : Nat) : (s.setRegion n x).port u = s.port u := rfl
@[simp] theorem State.setRegion_engine_frame (s : State) (n : Nat) (x : RegionRec) (u : Nat) : (s.setRegion n x).engine u = s.engine u := rfl
@[simp] theorem State.setRegion_kernel_frame (s : State) (n : Nat) (x : RegionRec) (u : Nat) : (s.setRegion n x).kernel u = s.kernel u := rfl
@[simp] theorem State.setRegion_mailbox_frame (s : State) (n : Nat) (x : RegionRec) (u : Nat) : (s.setRegion n x).mailbox u = s.mailbox u := rfl
@[simp] theorem State.setRegion_canCh_frame (s : State) (n : Nat) (x : RegionRec) (u : Nat) : (s.setRegion n x).canCh u = s.canCh u := rfl
@[simp] theorem State.setRegion_dom_frame (s : State) (n : Nat) (x : RegionRec) (u : Nat) : (s.setRegion n x).dom u = s.dom u := rfl
@[simp] theorem State.setRegion_sensor_frame (s : State) (n : Nat) (x : RegionRec) (u : Nat) : (s.setRegion n x).sensor u = s.sensor u := rfl
@[simp] theorem State.setRegion_image_frame (s : State) (n : Nat) (x : RegionRec) (u w : Nat) : (s.setRegion n x).image u w = s.image u w := rfl
@[simp] theorem State.setRegion_waveLog (s : State) (n : Nat) (x : RegionRec) : (s.setRegion n x).waveLog = s.waveLog := rfl
@[simp] theorem State.setRegion_readoutDue (s : State) (n : Nat) (x : RegionRec) : (s.setRegion n x).readoutDue = s.readoutDue := rfl
@[simp] theorem State.setRegion_pinsHeld (s : State) (n : Nat) (x : RegionRec) : (s.setRegion n x).pinsHeld = s.pinsHeld := rfl
@[simp] theorem State.setRegion_bar4Held (s : State) (n : Nat) (x : RegionRec) : (s.setRegion n x).bar4Held = s.bar4Held := rfl
@[simp] theorem State.setRegion_cfgSpace (s : State) (n : Nat) (x : RegionRec) : (s.setRegion n x).cfgSpace = s.cfgSpace := rfl
@[simp] theorem State.setRegion_gates (s : State) (n : Nat) (x : RegionRec) : (s.setRegion n x).gates = s.gates := rfl
@[simp] theorem State.setRegion_loadHeld (s : State) (n : Nat) (x : RegionRec) : (s.setRegion n x).loadHeld = s.loadHeld := rfl
@[simp] theorem State.setRegion_keepCopy (s : State) (n : Nat) (x : RegionRec) : (s.setRegion n x).keepCopy = s.keepCopy := rfl
@[simp] theorem State.setRegion_storeStops (s : State) (n : Nat) (x : RegionRec) : (s.setRegion n x).storeStops = s.storeStops := rfl
@[simp] theorem State.setRegion_spareLines (s : State) (n : Nat) (x : RegionRec) : (s.setRegion n x).spareLines = s.spareLines := rfl

/-! ### setPlane -/

@[simp] theorem State.setPlane_dict (s : State) (n p : Nat) (x : PlaneRec) : (s.setPlane n p x).dict = s.dict := rfl
@[simp] theorem State.setPlane_rwr (s : State) (n p : Nat) (x : PlaneRec) : (s.setPlane n p x).rwr = s.rwr := rfl
@[simp] theorem State.setPlane_out (s : State) (n p : Nat) (x : PlaneRec) : (s.setPlane n p x).out = s.out := rfl
@[simp] theorem State.setPlane_pending (s : State) (n p : Nat) (x : PlaneRec) : (s.setPlane n p x).pending = s.pending := rfl
@[simp] theorem State.setPlane_draws (s : State) (n p : Nat) (x : PlaneRec) : (s.setPlane n p x).draws = s.draws := rfl
@[simp] theorem State.setPlane_bundle (s : State) (n p : Nat) (x : PlaneRec) : (s.setPlane n p x).bundle = s.bundle := rfl
@[simp] theorem State.setPlane_startup (s : State) (n p : Nat) (x : PlaneRec) : (s.setPlane n p x).startup = s.startup := rfl
@[simp] theorem State.setPlane_startPending (s : State) (n p : Nat) (x : PlaneRec) : (s.setPlane n p x).startPending = s.startPending := rfl
@[simp] theorem State.setPlane_stopPending (s : State) (n p : Nat) (x : PlaneRec) : (s.setPlane n p x).stopPending = s.stopPending := rfl
@[simp] theorem State.setPlane_waveDue (s : State) (n p : Nat) (x : PlaneRec) : (s.setPlane n p x).waveDue = s.waveDue := rfl
@[simp] theorem State.setPlane_runEra (s : State) (n p : Nat) (x : PlaneRec) : (s.setPlane n p x).runEra = s.runEra := rfl
@[simp] theorem State.setPlane_regions (s : State) (n p : Nat) (x : PlaneRec) : (s.setPlane n p x).regions = s.regions := rfl
@[simp] theorem State.setPlane_frames (s : State) (n p : Nat) (x : PlaneRec) : (s.setPlane n p x).frames = s.frames := rfl
@[simp] theorem State.setPlane_latched (s : State) (n p : Nat) (x : PlaneRec) : (s.setPlane n p x).latched = s.latched := rfl
@[simp] theorem State.setPlane_latchXn (s : State) (n p : Nat) (x : PlaneRec) : (s.setPlane n p x).latchXn = s.latchXn := rfl
@[simp] theorem State.setPlane_rearm (s : State) (n p : Nat) (x : PlaneRec) : (s.setPlane n p x).rearm = s.rearm := rfl
@[simp] theorem State.setPlane_rearmDue (s : State) (n p : Nat) (x : PlaneRec) : (s.setPlane n p x).rearmDue = s.rearmDue := rfl
@[simp] theorem State.setPlane_regs (s : State) (n p : Nat) (x : PlaneRec) : (s.setPlane n p x).regs = s.regs := rfl
@[simp] theorem State.setPlane_huskLast (s : State) (n p : Nat) (x : PlaneRec) : (s.setPlane n p x).huskLast = s.huskLast := rfl
@[simp] theorem State.setPlane_delivered (s : State) (n p : Nat) (x : PlaneRec) : (s.setPlane n p x).delivered = s.delivered := rfl
@[simp] theorem State.setPlane_readTokens (s : State) (n p : Nat) (x : PlaneRec) : (s.setPlane n p x).readTokens = s.readTokens := rfl
@[simp] theorem State.setPlane_probePipe (s : State) (n p : Nat) (x : PlaneRec) : (s.setPlane n p x).probePipe = s.probePipe := rfl
@[simp] theorem State.setPlane_probePins (s : State) (n p : Nat) (x : PlaneRec) : (s.setPlane n p x).probePins = s.probePins := rfl
@[simp] theorem State.setPlane_probeBlocks (s : State) (n p : Nat) (x : PlaneRec) : (s.setPlane n p x).probeBlocks = s.probeBlocks := rfl
@[simp] theorem State.setPlane_probeHeld (s : State) (n p : Nat) (x : PlaneRec) : (s.setPlane n p x).probeHeld = s.probeHeld := rfl
@[simp] theorem State.setPlane_bankMem (s : State) (n p : Nat) (x : PlaneRec) : (s.setPlane n p x).bankMem = s.bankMem := rfl
@[simp] theorem State.setPlane_queues (s : State) (n p : Nat) (x : PlaneRec) : (s.setPlane n p x).queues = s.queues := rfl
@[simp] theorem State.setPlane_patrol (s : State) (n p : Nat) (x : PlaneRec) : (s.setPlane n p x).patrol = s.patrol := rfl
@[simp] theorem State.setPlane_repairs (s : State) (n p : Nat) (x : PlaneRec) : (s.setPlane n p x).repairs = s.repairs := rfl
@[simp] theorem State.setPlane_storedMap (s : State) (n p : Nat) (x : PlaneRec) : (s.setPlane n p x).storedMap = s.storedMap := rfl
@[simp] theorem State.setPlane_march (s : State) (n p : Nat) (x : PlaneRec) : (s.setPlane n p x).march = s.march := rfl
@[simp] theorem State.setPlane_load (s : State) (n p : Nat) (x : PlaneRec) : (s.setPlane n p x).load = s.load := rfl
@[simp] theorem State.setPlane_migReverting (s : State) (n p : Nat) (x : PlaneRec) : (s.setPlane n p x).migReverting = s.migReverting := rfl
@[simp] theorem State.setPlane_migOverlap (s : State) (n p : Nat) (x : PlaneRec) : (s.setPlane n p x).migOverlap = s.migOverlap := rfl
@[simp] theorem State.setPlane_migWave (s : State) (n p : Nat) (x : PlaneRec) : (s.setPlane n p x).migWave = s.migWave := rfl
@[simp] theorem State.setPlane_migMin (s : State) (n p : Nat) (x : PlaneRec) : (s.setPlane n p x).migMin = s.migMin := rfl
@[simp] theorem State.setPlane_migHalted (s : State) (n p : Nat) (x : PlaneRec) : (s.setPlane n p x).migHalted = s.migHalted := rfl
@[simp] theorem State.setPlane_deferred (s : State) (n p : Nat) (x : PlaneRec) : (s.setPlane n p x).deferred = s.deferred := rfl
@[simp] theorem State.setPlane_lanes (s : State) (n p : Nat) (x : PlaneRec) : (s.setPlane n p x).lanes = s.lanes := rfl
@[simp] theorem State.setPlane_tx (s : State) (n p : Nat) (x : PlaneRec) : (s.setPlane n p x).tx = s.tx := rfl
@[simp] theorem State.setPlane_timing (s : State) (n p : Nat) (x : PlaneRec) : (s.setPlane n p x).timing = s.timing := rfl
@[simp] theorem State.setPlane_sourceDue (s : State) (n p : Nat) (x : PlaneRec) : (s.setPlane n p x).sourceDue = s.sourceDue := rfl
@[simp] theorem State.setPlane_timingNew (s : State) (n p : Nat) (x : PlaneRec) : (s.setPlane n p x).timingNew = s.timingNew := rfl
@[simp] theorem State.setPlane_lines (s : State) (n p : Nat) (x : PlaneRec) : (s.setPlane n p x).lines = s.lines := rfl
@[simp] theorem State.setPlane_slotC (s : State) (n p : Nat) (x : PlaneRec) : (s.setPlane n p x).slotC = s.slotC := rfl
@[simp] theorem State.setPlane_skips (s : State) (n p : Nat) (x : PlaneRec) : (s.setPlane n p x).skips = s.skips := rfl
@[simp] theorem State.setPlane_heldReqs (s : State) (n p : Nat) (x : PlaneRec) : (s.setPlane n p x).heldReqs = s.heldReqs := rfl
@[simp] theorem State.setPlane_lbif (s : State) (n p : Nat) (x : PlaneRec) : (s.setPlane n p x).lbif = s.lbif := rfl
@[simp] theorem State.setPlane_bar2Held (s : State) (n p : Nat) (x : PlaneRec) : (s.setPlane n p x).bar2Held = s.bar2Held := rfl
@[simp] theorem State.setPlane_scrubPos (s : State) (n p : Nat) (x : PlaneRec) : (s.setPlane n p x).scrubPos = s.scrubPos := rfl
@[simp] theorem State.setPlane_nextWindow (s : State) (n p : Nat) (x : PlaneRec) : (s.setPlane n p x).nextWindow = s.nextWindow := rfl
@[simp] theorem State.setPlane_activationC (s : State) (n p : Nat) (x : PlaneRec) : (s.setPlane n p x).activationC = s.activationC := rfl
@[simp] theorem State.setPlane_derived (s : State) (n p : Nat) (x : PlaneRec) : (s.setPlane n p x).derived = s.derived := rfl
@[simp] theorem State.setPlane_ports (s : State) (n p : Nat) (x : PlaneRec) : (s.setPlane n p x).ports = s.ports := rfl
@[simp] theorem State.setPlane_pair (s : State) (n p : Nat) (x : PlaneRec) : (s.setPlane n p x).pair = s.pair := rfl
@[simp] theorem State.setPlane_outReqs (s : State) (n p : Nat) (x : PlaneRec) : (s.setPlane n p x).outReqs = s.outReqs := rfl
@[simp] theorem State.setPlane_msixPend (s : State) (n p : Nat) (x : PlaneRec) : (s.setPlane n p x).msixPend = s.msixPend := rfl
@[simp] theorem State.setPlane_msixHold (s : State) (n p : Nat) (x : PlaneRec) : (s.setPlane n p x).msixHold = s.msixHold := rfl
@[simp] theorem State.setPlane_msixTable (s : State) (n p : Nat) (x : PlaneRec) : (s.setPlane n p x).msixTable = s.msixTable := rfl
@[simp] theorem State.setPlane_keepLines (s : State) (n p : Nat) (x : PlaneRec) : (s.setPlane n p x).keepLines = s.keepLines := rfl
@[simp] theorem State.setPlane_engines (s : State) (n p : Nat) (x : PlaneRec) : (s.setPlane n p x).engines = s.engines := rfl
@[simp] theorem State.setPlane_readoutQueue (s : State) (n p : Nat) (x : PlaneRec) : (s.setPlane n p x).readoutQueue = s.readoutQueue := rfl
@[simp] theorem State.setPlane_kernels (s : State) (n p : Nat) (x : PlaneRec) : (s.setPlane n p x).kernels = s.kernels := rfl
@[simp] theorem State.setPlane_transfers (s : State) (n p : Nat) (x : PlaneRec) : (s.setPlane n p x).transfers = s.transfers := rfl
@[simp] theorem State.setPlane_mailboxes (s : State) (n p : Nat) (x : PlaneRec) : (s.setPlane n p x).mailboxes = s.mailboxes := rfl
@[simp] theorem State.setPlane_can (s : State) (n p : Nat) (x : PlaneRec) : (s.setPlane n p x).can = s.can := rfl
@[simp] theorem State.setPlane_canOpen (s : State) (n p : Nat) (x : PlaneRec) : (s.setPlane n p x).canOpen = s.canOpen := rfl
@[simp] theorem State.setPlane_design (s : State) (n p : Nat) (x : PlaneRec) : (s.setPlane n p x).design = s.design := rfl
@[simp] theorem State.setPlane_designQ (s : State) (n p : Nat) (x : PlaneRec) : (s.setPlane n p x).designQ = s.designQ := rfl
@[simp] theorem State.setPlane_designTag (s : State) (n p : Nat) (x : PlaneRec) : (s.setPlane n p x).designTag = s.designTag := rfl
@[simp] theorem State.setPlane_userVals (s : State) (n p : Nat) (x : PlaneRec) : (s.setPlane n p x).userVals = s.userVals := rfl
@[simp] theorem State.setPlane_portReq (s : State) (n p : Nat) (x : PlaneRec) : (s.setPlane n p x).portReq = s.portReq := rfl
@[simp] theorem State.setPlane_portOut (s : State) (n p : Nat) (x : PlaneRec) : (s.setPlane n p x).portOut = s.portOut := rfl
@[simp] theorem State.setPlane_portIn (s : State) (n p : Nat) (x : PlaneRec) : (s.setPlane n p x).portIn = s.portIn := rfl
@[simp] theorem State.setPlane_portMsgs (s : State) (n p : Nat) (x : PlaneRec) : (s.setPlane n p x).portMsgs = s.portMsgs := rfl
@[simp] theorem State.setPlane_domains (s : State) (n p : Nat) (x : PlaneRec) : (s.setPlane n p x).domains = s.domains := rfl
@[simp] theorem State.setPlane_sensors (s : State) (n p : Nat) (x : PlaneRec) : (s.setPlane n p x).sensors = s.sensors := rfl
@[simp] theorem State.setPlane_thermal (s : State) (n p : Nat) (x : PlaneRec) : (s.setPlane n p x).thermal = s.thermal := rfl
@[simp] theorem State.setPlane_collector (s : State) (n p : Nat) (x : PlaneRec) : (s.setPlane n p x).collector = s.collector := rfl
@[simp] theorem State.setPlane_security (s : State) (n p : Nat) (x : PlaneRec) : (s.setPlane n p x).security = s.security := rfl
@[simp] theorem State.setPlane_rd_frame (s : State) (n p : Nat) (x : PlaneRec) (u w : Nat) : (s.setPlane n p x).rd u w = s.rd u w := rfl
@[simp] theorem State.setPlane_region_frame (s : State) (n p : Nat) (x : PlaneRec) (u : Nat) : (s.setPlane n p x).region u = s.region u := rfl
@[simp] theorem State.setPlane_frame_frame (s : State) (n p : Nat) (x : PlaneRec) (u w z : Nat) : (s.setPlane n p x).frame u w z = s.frame u w z := rfl
@[simp] theorem State.setPlane_queue_frame (s : State) (n p : Nat) (x : PlaneRec) (u : Nat) : (s.setPlane n p x).queue u = s.queue u := rfl
@[simp] theorem State.setPlane_lane_frame (s : State) (n p : Nat) (x : PlaneRec) (u : Nat) : (s.setPlane n p x).lane u = s.lane u := rfl
@[simp] theorem State.setPlane_txLane_frame (s : State) (n p : Nat) (x : PlaneRec) (u : Nat) : (s.setPlane n p x).txLane u = s.txLane u := rfl
@[simp] theorem State.setPlane_tim_frame (s : State) (n p : Nat) (x : PlaneRec) (u : Nat) : (s.setPlane n p x).tim u = s.tim u := rfl
@[simp] theorem State.setPlane_port_frame (s : State) (n p : Nat) (x : PlaneRec) (u : Nat) : (s.setPlane n p x).port u = s.port u := rfl
@[simp] theorem State.setPlane_engine_frame (s : State) (n p : Nat) (x : PlaneRec) (u : Nat) : (s.setPlane n p x).engine u = s.engine u := rfl
@[simp] theorem State.setPlane_kernel_frame (s : State) (n p : Nat) (x : PlaneRec) (u : Nat) : (s.setPlane n p x).kernel u = s.kernel u := rfl
@[simp] theorem State.setPlane_mailbox_frame (s : State) (n p : Nat) (x : PlaneRec) (u : Nat) : (s.setPlane n p x).mailbox u = s.mailbox u := rfl
@[simp] theorem State.setPlane_canCh_frame (s : State) (n p : Nat) (x : PlaneRec) (u : Nat) : (s.setPlane n p x).canCh u = s.canCh u := rfl
@[simp] theorem State.setPlane_dom_frame (s : State) (n p : Nat) (x : PlaneRec) (u : Nat) : (s.setPlane n p x).dom u = s.dom u := rfl
@[simp] theorem State.setPlane_sensor_frame (s : State) (n p : Nat) (x : PlaneRec) (u : Nat) : (s.setPlane n p x).sensor u = s.sensor u := rfl
@[simp] theorem State.setPlane_image_frame (s : State) (n p : Nat) (x : PlaneRec) (u w : Nat) : (s.setPlane n p x).image u w = s.image u w := rfl
@[simp] theorem State.setPlane_waveLog (s : State) (n p : Nat) (x : PlaneRec) : (s.setPlane n p x).waveLog = s.waveLog := rfl
@[simp] theorem State.setPlane_readoutDue (s : State) (n p : Nat) (x : PlaneRec) : (s.setPlane n p x).readoutDue = s.readoutDue := rfl
@[simp] theorem State.setPlane_pinsHeld (s : State) (n p : Nat) (x : PlaneRec) : (s.setPlane n p x).pinsHeld = s.pinsHeld := rfl
@[simp] theorem State.setPlane_bar4Held (s : State) (n p : Nat) (x : PlaneRec) : (s.setPlane n p x).bar4Held = s.bar4Held := rfl
@[simp] theorem State.setPlane_cfgSpace (s : State) (n p : Nat) (x : PlaneRec) : (s.setPlane n p x).cfgSpace = s.cfgSpace := rfl
@[simp] theorem State.setPlane_gates (s : State) (n p : Nat) (x : PlaneRec) : (s.setPlane n p x).gates = s.gates := rfl
@[simp] theorem State.setPlane_loadHeld (s : State) (n p : Nat) (x : PlaneRec) : (s.setPlane n p x).loadHeld = s.loadHeld := rfl
@[simp] theorem State.setPlane_keepCopy (s : State) (n p : Nat) (x : PlaneRec) : (s.setPlane n p x).keepCopy = s.keepCopy := rfl
@[simp] theorem State.setPlane_storeStops (s : State) (n p : Nat) (x : PlaneRec) : (s.setPlane n p x).storeStops = s.storeStops := rfl
@[simp] theorem State.setPlane_spareLines (s : State) (n p : Nat) (x : PlaneRec) : (s.setPlane n p x).spareLines = s.spareLines := rfl

/-! ### setFrame -/

@[simp] theorem State.setFrame_dict (s : State) (n p a : Nat) (x : Frame) : (s.setFrame n p a x).dict = s.dict := rfl
@[simp] theorem State.setFrame_rwr (s : State) (n p a : Nat) (x : Frame) : (s.setFrame n p a x).rwr = s.rwr := rfl
@[simp] theorem State.setFrame_out (s : State) (n p a : Nat) (x : Frame) : (s.setFrame n p a x).out = s.out := rfl
@[simp] theorem State.setFrame_pending (s : State) (n p a : Nat) (x : Frame) : (s.setFrame n p a x).pending = s.pending := rfl
@[simp] theorem State.setFrame_draws (s : State) (n p a : Nat) (x : Frame) : (s.setFrame n p a x).draws = s.draws := rfl
@[simp] theorem State.setFrame_bundle (s : State) (n p a : Nat) (x : Frame) : (s.setFrame n p a x).bundle = s.bundle := rfl
@[simp] theorem State.setFrame_startup (s : State) (n p a : Nat) (x : Frame) : (s.setFrame n p a x).startup = s.startup := rfl
@[simp] theorem State.setFrame_startPending (s : State) (n p a : Nat) (x : Frame) : (s.setFrame n p a x).startPending = s.startPending := rfl
@[simp] theorem State.setFrame_stopPending (s : State) (n p a : Nat) (x : Frame) : (s.setFrame n p a x).stopPending = s.stopPending := rfl
@[simp] theorem State.setFrame_waveDue (s : State) (n p a : Nat) (x : Frame) : (s.setFrame n p a x).waveDue = s.waveDue := rfl
@[simp] theorem State.setFrame_runEra (s : State) (n p a : Nat) (x : Frame) : (s.setFrame n p a x).runEra = s.runEra := rfl
@[simp] theorem State.setFrame_regions (s : State) (n p a : Nat) (x : Frame) : (s.setFrame n p a x).regions = s.regions := rfl
@[simp] theorem State.setFrame_planes (s : State) (n p a : Nat) (x : Frame) : (s.setFrame n p a x).planes = s.planes := rfl
@[simp] theorem State.setFrame_latched (s : State) (n p a : Nat) (x : Frame) : (s.setFrame n p a x).latched = s.latched := rfl
@[simp] theorem State.setFrame_latchXn (s : State) (n p a : Nat) (x : Frame) : (s.setFrame n p a x).latchXn = s.latchXn := rfl
@[simp] theorem State.setFrame_rearm (s : State) (n p a : Nat) (x : Frame) : (s.setFrame n p a x).rearm = s.rearm := rfl
@[simp] theorem State.setFrame_rearmDue (s : State) (n p a : Nat) (x : Frame) : (s.setFrame n p a x).rearmDue = s.rearmDue := rfl
@[simp] theorem State.setFrame_regs (s : State) (n p a : Nat) (x : Frame) : (s.setFrame n p a x).regs = s.regs := rfl
@[simp] theorem State.setFrame_huskLast (s : State) (n p a : Nat) (x : Frame) : (s.setFrame n p a x).huskLast = s.huskLast := rfl
@[simp] theorem State.setFrame_delivered (s : State) (n p a : Nat) (x : Frame) : (s.setFrame n p a x).delivered = s.delivered := rfl
@[simp] theorem State.setFrame_readTokens (s : State) (n p a : Nat) (x : Frame) : (s.setFrame n p a x).readTokens = s.readTokens := rfl
@[simp] theorem State.setFrame_probePipe (s : State) (n p a : Nat) (x : Frame) : (s.setFrame n p a x).probePipe = s.probePipe := rfl
@[simp] theorem State.setFrame_probePins (s : State) (n p a : Nat) (x : Frame) : (s.setFrame n p a x).probePins = s.probePins := rfl
@[simp] theorem State.setFrame_probeBlocks (s : State) (n p a : Nat) (x : Frame) : (s.setFrame n p a x).probeBlocks = s.probeBlocks := rfl
@[simp] theorem State.setFrame_probeHeld (s : State) (n p a : Nat) (x : Frame) : (s.setFrame n p a x).probeHeld = s.probeHeld := rfl
@[simp] theorem State.setFrame_bankMem (s : State) (n p a : Nat) (x : Frame) : (s.setFrame n p a x).bankMem = s.bankMem := rfl
@[simp] theorem State.setFrame_queues (s : State) (n p a : Nat) (x : Frame) : (s.setFrame n p a x).queues = s.queues := rfl
@[simp] theorem State.setFrame_patrol (s : State) (n p a : Nat) (x : Frame) : (s.setFrame n p a x).patrol = s.patrol := rfl
@[simp] theorem State.setFrame_repairs (s : State) (n p a : Nat) (x : Frame) : (s.setFrame n p a x).repairs = s.repairs := rfl
@[simp] theorem State.setFrame_storedMap (s : State) (n p a : Nat) (x : Frame) : (s.setFrame n p a x).storedMap = s.storedMap := rfl
@[simp] theorem State.setFrame_march (s : State) (n p a : Nat) (x : Frame) : (s.setFrame n p a x).march = s.march := rfl
@[simp] theorem State.setFrame_load (s : State) (n p a : Nat) (x : Frame) : (s.setFrame n p a x).load = s.load := rfl
@[simp] theorem State.setFrame_migReverting (s : State) (n p a : Nat) (x : Frame) : (s.setFrame n p a x).migReverting = s.migReverting := rfl
@[simp] theorem State.setFrame_migOverlap (s : State) (n p a : Nat) (x : Frame) : (s.setFrame n p a x).migOverlap = s.migOverlap := rfl
@[simp] theorem State.setFrame_migWave (s : State) (n p a : Nat) (x : Frame) : (s.setFrame n p a x).migWave = s.migWave := rfl
@[simp] theorem State.setFrame_migMin (s : State) (n p a : Nat) (x : Frame) : (s.setFrame n p a x).migMin = s.migMin := rfl
@[simp] theorem State.setFrame_migHalted (s : State) (n p a : Nat) (x : Frame) : (s.setFrame n p a x).migHalted = s.migHalted := rfl
@[simp] theorem State.setFrame_deferred (s : State) (n p a : Nat) (x : Frame) : (s.setFrame n p a x).deferred = s.deferred := rfl
@[simp] theorem State.setFrame_lanes (s : State) (n p a : Nat) (x : Frame) : (s.setFrame n p a x).lanes = s.lanes := rfl
@[simp] theorem State.setFrame_tx (s : State) (n p a : Nat) (x : Frame) : (s.setFrame n p a x).tx = s.tx := rfl
@[simp] theorem State.setFrame_timing (s : State) (n p a : Nat) (x : Frame) : (s.setFrame n p a x).timing = s.timing := rfl
@[simp] theorem State.setFrame_sourceDue (s : State) (n p a : Nat) (x : Frame) : (s.setFrame n p a x).sourceDue = s.sourceDue := rfl
@[simp] theorem State.setFrame_timingNew (s : State) (n p a : Nat) (x : Frame) : (s.setFrame n p a x).timingNew = s.timingNew := rfl
@[simp] theorem State.setFrame_lines (s : State) (n p a : Nat) (x : Frame) : (s.setFrame n p a x).lines = s.lines := rfl
@[simp] theorem State.setFrame_slotC (s : State) (n p a : Nat) (x : Frame) : (s.setFrame n p a x).slotC = s.slotC := rfl
@[simp] theorem State.setFrame_skips (s : State) (n p a : Nat) (x : Frame) : (s.setFrame n p a x).skips = s.skips := rfl
@[simp] theorem State.setFrame_heldReqs (s : State) (n p a : Nat) (x : Frame) : (s.setFrame n p a x).heldReqs = s.heldReqs := rfl
@[simp] theorem State.setFrame_lbif (s : State) (n p a : Nat) (x : Frame) : (s.setFrame n p a x).lbif = s.lbif := rfl
@[simp] theorem State.setFrame_bar2Held (s : State) (n p a : Nat) (x : Frame) : (s.setFrame n p a x).bar2Held = s.bar2Held := rfl
@[simp] theorem State.setFrame_scrubPos (s : State) (n p a : Nat) (x : Frame) : (s.setFrame n p a x).scrubPos = s.scrubPos := rfl
@[simp] theorem State.setFrame_nextWindow (s : State) (n p a : Nat) (x : Frame) : (s.setFrame n p a x).nextWindow = s.nextWindow := rfl
@[simp] theorem State.setFrame_activationC (s : State) (n p a : Nat) (x : Frame) : (s.setFrame n p a x).activationC = s.activationC := rfl
@[simp] theorem State.setFrame_derived (s : State) (n p a : Nat) (x : Frame) : (s.setFrame n p a x).derived = s.derived := rfl
@[simp] theorem State.setFrame_ports (s : State) (n p a : Nat) (x : Frame) : (s.setFrame n p a x).ports = s.ports := rfl
@[simp] theorem State.setFrame_pair (s : State) (n p a : Nat) (x : Frame) : (s.setFrame n p a x).pair = s.pair := rfl
@[simp] theorem State.setFrame_outReqs (s : State) (n p a : Nat) (x : Frame) : (s.setFrame n p a x).outReqs = s.outReqs := rfl
@[simp] theorem State.setFrame_msixPend (s : State) (n p a : Nat) (x : Frame) : (s.setFrame n p a x).msixPend = s.msixPend := rfl
@[simp] theorem State.setFrame_msixHold (s : State) (n p a : Nat) (x : Frame) : (s.setFrame n p a x).msixHold = s.msixHold := rfl
@[simp] theorem State.setFrame_msixTable (s : State) (n p a : Nat) (x : Frame) : (s.setFrame n p a x).msixTable = s.msixTable := rfl
@[simp] theorem State.setFrame_keepLines (s : State) (n p a : Nat) (x : Frame) : (s.setFrame n p a x).keepLines = s.keepLines := rfl
@[simp] theorem State.setFrame_engines (s : State) (n p a : Nat) (x : Frame) : (s.setFrame n p a x).engines = s.engines := rfl
@[simp] theorem State.setFrame_readoutQueue (s : State) (n p a : Nat) (x : Frame) : (s.setFrame n p a x).readoutQueue = s.readoutQueue := rfl
@[simp] theorem State.setFrame_kernels (s : State) (n p a : Nat) (x : Frame) : (s.setFrame n p a x).kernels = s.kernels := rfl
@[simp] theorem State.setFrame_transfers (s : State) (n p a : Nat) (x : Frame) : (s.setFrame n p a x).transfers = s.transfers := rfl
@[simp] theorem State.setFrame_mailboxes (s : State) (n p a : Nat) (x : Frame) : (s.setFrame n p a x).mailboxes = s.mailboxes := rfl
@[simp] theorem State.setFrame_can (s : State) (n p a : Nat) (x : Frame) : (s.setFrame n p a x).can = s.can := rfl
@[simp] theorem State.setFrame_canOpen (s : State) (n p a : Nat) (x : Frame) : (s.setFrame n p a x).canOpen = s.canOpen := rfl
@[simp] theorem State.setFrame_design (s : State) (n p a : Nat) (x : Frame) : (s.setFrame n p a x).design = s.design := rfl
@[simp] theorem State.setFrame_designQ (s : State) (n p a : Nat) (x : Frame) : (s.setFrame n p a x).designQ = s.designQ := rfl
@[simp] theorem State.setFrame_designTag (s : State) (n p a : Nat) (x : Frame) : (s.setFrame n p a x).designTag = s.designTag := rfl
@[simp] theorem State.setFrame_userVals (s : State) (n p a : Nat) (x : Frame) : (s.setFrame n p a x).userVals = s.userVals := rfl
@[simp] theorem State.setFrame_portReq (s : State) (n p a : Nat) (x : Frame) : (s.setFrame n p a x).portReq = s.portReq := rfl
@[simp] theorem State.setFrame_portOut (s : State) (n p a : Nat) (x : Frame) : (s.setFrame n p a x).portOut = s.portOut := rfl
@[simp] theorem State.setFrame_portIn (s : State) (n p a : Nat) (x : Frame) : (s.setFrame n p a x).portIn = s.portIn := rfl
@[simp] theorem State.setFrame_portMsgs (s : State) (n p a : Nat) (x : Frame) : (s.setFrame n p a x).portMsgs = s.portMsgs := rfl
@[simp] theorem State.setFrame_domains (s : State) (n p a : Nat) (x : Frame) : (s.setFrame n p a x).domains = s.domains := rfl
@[simp] theorem State.setFrame_sensors (s : State) (n p a : Nat) (x : Frame) : (s.setFrame n p a x).sensors = s.sensors := rfl
@[simp] theorem State.setFrame_thermal (s : State) (n p a : Nat) (x : Frame) : (s.setFrame n p a x).thermal = s.thermal := rfl
@[simp] theorem State.setFrame_collector (s : State) (n p a : Nat) (x : Frame) : (s.setFrame n p a x).collector = s.collector := rfl
@[simp] theorem State.setFrame_security (s : State) (n p a : Nat) (x : Frame) : (s.setFrame n p a x).security = s.security := rfl
@[simp] theorem State.setFrame_rd_frame (s : State) (n p a : Nat) (x : Frame) (u w : Nat) : (s.setFrame n p a x).rd u w = s.rd u w := rfl
@[simp] theorem State.setFrame_region_frame (s : State) (n p a : Nat) (x : Frame) (u : Nat) : (s.setFrame n p a x).region u = s.region u := rfl
@[simp] theorem State.setFrame_plane_frame (s : State) (n p a : Nat) (x : Frame) (u w : Nat) : (s.setFrame n p a x).plane u w = s.plane u w := rfl
@[simp] theorem State.setFrame_queue_frame (s : State) (n p a : Nat) (x : Frame) (u : Nat) : (s.setFrame n p a x).queue u = s.queue u := rfl
@[simp] theorem State.setFrame_lane_frame (s : State) (n p a : Nat) (x : Frame) (u : Nat) : (s.setFrame n p a x).lane u = s.lane u := rfl
@[simp] theorem State.setFrame_txLane_frame (s : State) (n p a : Nat) (x : Frame) (u : Nat) : (s.setFrame n p a x).txLane u = s.txLane u := rfl
@[simp] theorem State.setFrame_tim_frame (s : State) (n p a : Nat) (x : Frame) (u : Nat) : (s.setFrame n p a x).tim u = s.tim u := rfl
@[simp] theorem State.setFrame_port_frame (s : State) (n p a : Nat) (x : Frame) (u : Nat) : (s.setFrame n p a x).port u = s.port u := rfl
@[simp] theorem State.setFrame_engine_frame (s : State) (n p a : Nat) (x : Frame) (u : Nat) : (s.setFrame n p a x).engine u = s.engine u := rfl
@[simp] theorem State.setFrame_kernel_frame (s : State) (n p a : Nat) (x : Frame) (u : Nat) : (s.setFrame n p a x).kernel u = s.kernel u := rfl
@[simp] theorem State.setFrame_mailbox_frame (s : State) (n p a : Nat) (x : Frame) (u : Nat) : (s.setFrame n p a x).mailbox u = s.mailbox u := rfl
@[simp] theorem State.setFrame_canCh_frame (s : State) (n p a : Nat) (x : Frame) (u : Nat) : (s.setFrame n p a x).canCh u = s.canCh u := rfl
@[simp] theorem State.setFrame_dom_frame (s : State) (n p a : Nat) (x : Frame) (u : Nat) : (s.setFrame n p a x).dom u = s.dom u := rfl
@[simp] theorem State.setFrame_sensor_frame (s : State) (n p a : Nat) (x : Frame) (u : Nat) : (s.setFrame n p a x).sensor u = s.sensor u := rfl
@[simp] theorem State.setFrame_image_frame (s : State) (n p a : Nat) (x : Frame) (u w : Nat) : (s.setFrame n p a x).image u w = s.image u w := rfl
@[simp] theorem State.setFrame_waveLog (s : State) (n p a : Nat) (x : Frame) : (s.setFrame n p a x).waveLog = s.waveLog := rfl
@[simp] theorem State.setFrame_readoutDue (s : State) (n p a : Nat) (x : Frame) : (s.setFrame n p a x).readoutDue = s.readoutDue := rfl
@[simp] theorem State.setFrame_pinsHeld (s : State) (n p a : Nat) (x : Frame) : (s.setFrame n p a x).pinsHeld = s.pinsHeld := rfl
@[simp] theorem State.setFrame_bar4Held (s : State) (n p a : Nat) (x : Frame) : (s.setFrame n p a x).bar4Held = s.bar4Held := rfl
@[simp] theorem State.setFrame_cfgSpace (s : State) (n p a : Nat) (x : Frame) : (s.setFrame n p a x).cfgSpace = s.cfgSpace := rfl
@[simp] theorem State.setFrame_gates (s : State) (n p a : Nat) (x : Frame) : (s.setFrame n p a x).gates = s.gates := rfl
@[simp] theorem State.setFrame_loadHeld (s : State) (n p a : Nat) (x : Frame) : (s.setFrame n p a x).loadHeld = s.loadHeld := rfl
@[simp] theorem State.setFrame_keepCopy (s : State) (n p a : Nat) (x : Frame) : (s.setFrame n p a x).keepCopy = s.keepCopy := rfl
@[simp] theorem State.setFrame_storeStops (s : State) (n p a : Nat) (x : Frame) : (s.setFrame n p a x).storeStops = s.storeStops := rfl
@[simp] theorem State.setFrame_spareLines (s : State) (n p a : Nat) (x : Frame) : (s.setFrame n p a x).spareLines = s.spareLines := rfl

/-! ### setQueue -/

@[simp] theorem State.setQueue_dict (s : State) (k : Nat) (x : QueueRec) : (s.setQueue k x).dict = s.dict := rfl
@[simp] theorem State.setQueue_rwr (s : State) (k : Nat) (x : QueueRec) : (s.setQueue k x).rwr = s.rwr := rfl
@[simp] theorem State.setQueue_out (s : State) (k : Nat) (x : QueueRec) : (s.setQueue k x).out = s.out := rfl
@[simp] theorem State.setQueue_pending (s : State) (k : Nat) (x : QueueRec) : (s.setQueue k x).pending = s.pending := rfl
@[simp] theorem State.setQueue_draws (s : State) (k : Nat) (x : QueueRec) : (s.setQueue k x).draws = s.draws := rfl
@[simp] theorem State.setQueue_bundle (s : State) (k : Nat) (x : QueueRec) : (s.setQueue k x).bundle = s.bundle := rfl
@[simp] theorem State.setQueue_startup (s : State) (k : Nat) (x : QueueRec) : (s.setQueue k x).startup = s.startup := rfl
@[simp] theorem State.setQueue_startPending (s : State) (k : Nat) (x : QueueRec) : (s.setQueue k x).startPending = s.startPending := rfl
@[simp] theorem State.setQueue_stopPending (s : State) (k : Nat) (x : QueueRec) : (s.setQueue k x).stopPending = s.stopPending := rfl
@[simp] theorem State.setQueue_waveDue (s : State) (k : Nat) (x : QueueRec) : (s.setQueue k x).waveDue = s.waveDue := rfl
@[simp] theorem State.setQueue_runEra (s : State) (k : Nat) (x : QueueRec) : (s.setQueue k x).runEra = s.runEra := rfl
@[simp] theorem State.setQueue_regions (s : State) (k : Nat) (x : QueueRec) : (s.setQueue k x).regions = s.regions := rfl
@[simp] theorem State.setQueue_planes (s : State) (k : Nat) (x : QueueRec) : (s.setQueue k x).planes = s.planes := rfl
@[simp] theorem State.setQueue_frames (s : State) (k : Nat) (x : QueueRec) : (s.setQueue k x).frames = s.frames := rfl
@[simp] theorem State.setQueue_latched (s : State) (k : Nat) (x : QueueRec) : (s.setQueue k x).latched = s.latched := rfl
@[simp] theorem State.setQueue_latchXn (s : State) (k : Nat) (x : QueueRec) : (s.setQueue k x).latchXn = s.latchXn := rfl
@[simp] theorem State.setQueue_rearm (s : State) (k : Nat) (x : QueueRec) : (s.setQueue k x).rearm = s.rearm := rfl
@[simp] theorem State.setQueue_rearmDue (s : State) (k : Nat) (x : QueueRec) : (s.setQueue k x).rearmDue = s.rearmDue := rfl
@[simp] theorem State.setQueue_regs (s : State) (k : Nat) (x : QueueRec) : (s.setQueue k x).regs = s.regs := rfl
@[simp] theorem State.setQueue_huskLast (s : State) (k : Nat) (x : QueueRec) : (s.setQueue k x).huskLast = s.huskLast := rfl
@[simp] theorem State.setQueue_delivered (s : State) (k : Nat) (x : QueueRec) : (s.setQueue k x).delivered = s.delivered := rfl
@[simp] theorem State.setQueue_readTokens (s : State) (k : Nat) (x : QueueRec) : (s.setQueue k x).readTokens = s.readTokens := rfl
@[simp] theorem State.setQueue_probePipe (s : State) (k : Nat) (x : QueueRec) : (s.setQueue k x).probePipe = s.probePipe := rfl
@[simp] theorem State.setQueue_probePins (s : State) (k : Nat) (x : QueueRec) : (s.setQueue k x).probePins = s.probePins := rfl
@[simp] theorem State.setQueue_probeBlocks (s : State) (k : Nat) (x : QueueRec) : (s.setQueue k x).probeBlocks = s.probeBlocks := rfl
@[simp] theorem State.setQueue_probeHeld (s : State) (k : Nat) (x : QueueRec) : (s.setQueue k x).probeHeld = s.probeHeld := rfl
@[simp] theorem State.setQueue_bankMem (s : State) (k : Nat) (x : QueueRec) : (s.setQueue k x).bankMem = s.bankMem := rfl
@[simp] theorem State.setQueue_patrol (s : State) (k : Nat) (x : QueueRec) : (s.setQueue k x).patrol = s.patrol := rfl
@[simp] theorem State.setQueue_repairs (s : State) (k : Nat) (x : QueueRec) : (s.setQueue k x).repairs = s.repairs := rfl
@[simp] theorem State.setQueue_storedMap (s : State) (k : Nat) (x : QueueRec) : (s.setQueue k x).storedMap = s.storedMap := rfl
@[simp] theorem State.setQueue_march (s : State) (k : Nat) (x : QueueRec) : (s.setQueue k x).march = s.march := rfl
@[simp] theorem State.setQueue_load (s : State) (k : Nat) (x : QueueRec) : (s.setQueue k x).load = s.load := rfl
@[simp] theorem State.setQueue_migReverting (s : State) (k : Nat) (x : QueueRec) : (s.setQueue k x).migReverting = s.migReverting := rfl
@[simp] theorem State.setQueue_migOverlap (s : State) (k : Nat) (x : QueueRec) : (s.setQueue k x).migOverlap = s.migOverlap := rfl
@[simp] theorem State.setQueue_migWave (s : State) (k : Nat) (x : QueueRec) : (s.setQueue k x).migWave = s.migWave := rfl
@[simp] theorem State.setQueue_migMin (s : State) (k : Nat) (x : QueueRec) : (s.setQueue k x).migMin = s.migMin := rfl
@[simp] theorem State.setQueue_migHalted (s : State) (k : Nat) (x : QueueRec) : (s.setQueue k x).migHalted = s.migHalted := rfl
@[simp] theorem State.setQueue_deferred (s : State) (k : Nat) (x : QueueRec) : (s.setQueue k x).deferred = s.deferred := rfl
@[simp] theorem State.setQueue_lanes (s : State) (k : Nat) (x : QueueRec) : (s.setQueue k x).lanes = s.lanes := rfl
@[simp] theorem State.setQueue_tx (s : State) (k : Nat) (x : QueueRec) : (s.setQueue k x).tx = s.tx := rfl
@[simp] theorem State.setQueue_timing (s : State) (k : Nat) (x : QueueRec) : (s.setQueue k x).timing = s.timing := rfl
@[simp] theorem State.setQueue_sourceDue (s : State) (k : Nat) (x : QueueRec) : (s.setQueue k x).sourceDue = s.sourceDue := rfl
@[simp] theorem State.setQueue_timingNew (s : State) (k : Nat) (x : QueueRec) : (s.setQueue k x).timingNew = s.timingNew := rfl
@[simp] theorem State.setQueue_lines (s : State) (k : Nat) (x : QueueRec) : (s.setQueue k x).lines = s.lines := rfl
@[simp] theorem State.setQueue_slotC (s : State) (k : Nat) (x : QueueRec) : (s.setQueue k x).slotC = s.slotC := rfl
@[simp] theorem State.setQueue_skips (s : State) (k : Nat) (x : QueueRec) : (s.setQueue k x).skips = s.skips := rfl
@[simp] theorem State.setQueue_heldReqs (s : State) (k : Nat) (x : QueueRec) : (s.setQueue k x).heldReqs = s.heldReqs := rfl
@[simp] theorem State.setQueue_lbif (s : State) (k : Nat) (x : QueueRec) : (s.setQueue k x).lbif = s.lbif := rfl
@[simp] theorem State.setQueue_bar2Held (s : State) (k : Nat) (x : QueueRec) : (s.setQueue k x).bar2Held = s.bar2Held := rfl
@[simp] theorem State.setQueue_scrubPos (s : State) (k : Nat) (x : QueueRec) : (s.setQueue k x).scrubPos = s.scrubPos := rfl
@[simp] theorem State.setQueue_nextWindow (s : State) (k : Nat) (x : QueueRec) : (s.setQueue k x).nextWindow = s.nextWindow := rfl
@[simp] theorem State.setQueue_activationC (s : State) (k : Nat) (x : QueueRec) : (s.setQueue k x).activationC = s.activationC := rfl
@[simp] theorem State.setQueue_derived (s : State) (k : Nat) (x : QueueRec) : (s.setQueue k x).derived = s.derived := rfl
@[simp] theorem State.setQueue_ports (s : State) (k : Nat) (x : QueueRec) : (s.setQueue k x).ports = s.ports := rfl
@[simp] theorem State.setQueue_pair (s : State) (k : Nat) (x : QueueRec) : (s.setQueue k x).pair = s.pair := rfl
@[simp] theorem State.setQueue_outReqs (s : State) (k : Nat) (x : QueueRec) : (s.setQueue k x).outReqs = s.outReqs := rfl
@[simp] theorem State.setQueue_msixPend (s : State) (k : Nat) (x : QueueRec) : (s.setQueue k x).msixPend = s.msixPend := rfl
@[simp] theorem State.setQueue_msixHold (s : State) (k : Nat) (x : QueueRec) : (s.setQueue k x).msixHold = s.msixHold := rfl
@[simp] theorem State.setQueue_msixTable (s : State) (k : Nat) (x : QueueRec) : (s.setQueue k x).msixTable = s.msixTable := rfl
@[simp] theorem State.setQueue_keepLines (s : State) (k : Nat) (x : QueueRec) : (s.setQueue k x).keepLines = s.keepLines := rfl
@[simp] theorem State.setQueue_engines (s : State) (k : Nat) (x : QueueRec) : (s.setQueue k x).engines = s.engines := rfl
@[simp] theorem State.setQueue_readoutQueue (s : State) (k : Nat) (x : QueueRec) : (s.setQueue k x).readoutQueue = s.readoutQueue := rfl
@[simp] theorem State.setQueue_kernels (s : State) (k : Nat) (x : QueueRec) : (s.setQueue k x).kernels = s.kernels := rfl
@[simp] theorem State.setQueue_transfers (s : State) (k : Nat) (x : QueueRec) : (s.setQueue k x).transfers = s.transfers := rfl
@[simp] theorem State.setQueue_mailboxes (s : State) (k : Nat) (x : QueueRec) : (s.setQueue k x).mailboxes = s.mailboxes := rfl
@[simp] theorem State.setQueue_can (s : State) (k : Nat) (x : QueueRec) : (s.setQueue k x).can = s.can := rfl
@[simp] theorem State.setQueue_canOpen (s : State) (k : Nat) (x : QueueRec) : (s.setQueue k x).canOpen = s.canOpen := rfl
@[simp] theorem State.setQueue_design (s : State) (k : Nat) (x : QueueRec) : (s.setQueue k x).design = s.design := rfl
@[simp] theorem State.setQueue_designQ (s : State) (k : Nat) (x : QueueRec) : (s.setQueue k x).designQ = s.designQ := rfl
@[simp] theorem State.setQueue_designTag (s : State) (k : Nat) (x : QueueRec) : (s.setQueue k x).designTag = s.designTag := rfl
@[simp] theorem State.setQueue_userVals (s : State) (k : Nat) (x : QueueRec) : (s.setQueue k x).userVals = s.userVals := rfl
@[simp] theorem State.setQueue_portReq (s : State) (k : Nat) (x : QueueRec) : (s.setQueue k x).portReq = s.portReq := rfl
@[simp] theorem State.setQueue_portOut (s : State) (k : Nat) (x : QueueRec) : (s.setQueue k x).portOut = s.portOut := rfl
@[simp] theorem State.setQueue_portIn (s : State) (k : Nat) (x : QueueRec) : (s.setQueue k x).portIn = s.portIn := rfl
@[simp] theorem State.setQueue_portMsgs (s : State) (k : Nat) (x : QueueRec) : (s.setQueue k x).portMsgs = s.portMsgs := rfl
@[simp] theorem State.setQueue_domains (s : State) (k : Nat) (x : QueueRec) : (s.setQueue k x).domains = s.domains := rfl
@[simp] theorem State.setQueue_sensors (s : State) (k : Nat) (x : QueueRec) : (s.setQueue k x).sensors = s.sensors := rfl
@[simp] theorem State.setQueue_thermal (s : State) (k : Nat) (x : QueueRec) : (s.setQueue k x).thermal = s.thermal := rfl
@[simp] theorem State.setQueue_collector (s : State) (k : Nat) (x : QueueRec) : (s.setQueue k x).collector = s.collector := rfl
@[simp] theorem State.setQueue_security (s : State) (k : Nat) (x : QueueRec) : (s.setQueue k x).security = s.security := rfl
@[simp] theorem State.setQueue_rd_frame (s : State) (k : Nat) (x : QueueRec) (u w : Nat) : (s.setQueue k x).rd u w = s.rd u w := rfl
@[simp] theorem State.setQueue_region_frame (s : State) (k : Nat) (x : QueueRec) (u : Nat) : (s.setQueue k x).region u = s.region u := rfl
@[simp] theorem State.setQueue_plane_frame (s : State) (k : Nat) (x : QueueRec) (u w : Nat) : (s.setQueue k x).plane u w = s.plane u w := rfl
@[simp] theorem State.setQueue_frame_frame (s : State) (k : Nat) (x : QueueRec) (u w z : Nat) : (s.setQueue k x).frame u w z = s.frame u w z := rfl
@[simp] theorem State.setQueue_lane_frame (s : State) (k : Nat) (x : QueueRec) (u : Nat) : (s.setQueue k x).lane u = s.lane u := rfl
@[simp] theorem State.setQueue_txLane_frame (s : State) (k : Nat) (x : QueueRec) (u : Nat) : (s.setQueue k x).txLane u = s.txLane u := rfl
@[simp] theorem State.setQueue_tim_frame (s : State) (k : Nat) (x : QueueRec) (u : Nat) : (s.setQueue k x).tim u = s.tim u := rfl
@[simp] theorem State.setQueue_port_frame (s : State) (k : Nat) (x : QueueRec) (u : Nat) : (s.setQueue k x).port u = s.port u := rfl
@[simp] theorem State.setQueue_engine_frame (s : State) (k : Nat) (x : QueueRec) (u : Nat) : (s.setQueue k x).engine u = s.engine u := rfl
@[simp] theorem State.setQueue_kernel_frame (s : State) (k : Nat) (x : QueueRec) (u : Nat) : (s.setQueue k x).kernel u = s.kernel u := rfl
@[simp] theorem State.setQueue_mailbox_frame (s : State) (k : Nat) (x : QueueRec) (u : Nat) : (s.setQueue k x).mailbox u = s.mailbox u := rfl
@[simp] theorem State.setQueue_canCh_frame (s : State) (k : Nat) (x : QueueRec) (u : Nat) : (s.setQueue k x).canCh u = s.canCh u := rfl
@[simp] theorem State.setQueue_dom_frame (s : State) (k : Nat) (x : QueueRec) (u : Nat) : (s.setQueue k x).dom u = s.dom u := rfl
@[simp] theorem State.setQueue_sensor_frame (s : State) (k : Nat) (x : QueueRec) (u : Nat) : (s.setQueue k x).sensor u = s.sensor u := rfl
@[simp] theorem State.setQueue_image_frame (s : State) (k : Nat) (x : QueueRec) (u w : Nat) : (s.setQueue k x).image u w = s.image u w := rfl
@[simp] theorem State.setQueue_waveLog (s : State) (k : Nat) (x : QueueRec) : (s.setQueue k x).waveLog = s.waveLog := rfl
@[simp] theorem State.setQueue_readoutDue (s : State) (k : Nat) (x : QueueRec) : (s.setQueue k x).readoutDue = s.readoutDue := rfl
@[simp] theorem State.setQueue_pinsHeld (s : State) (k : Nat) (x : QueueRec) : (s.setQueue k x).pinsHeld = s.pinsHeld := rfl
@[simp] theorem State.setQueue_bar4Held (s : State) (k : Nat) (x : QueueRec) : (s.setQueue k x).bar4Held = s.bar4Held := rfl
@[simp] theorem State.setQueue_cfgSpace (s : State) (k : Nat) (x : QueueRec) : (s.setQueue k x).cfgSpace = s.cfgSpace := rfl
@[simp] theorem State.setQueue_gates (s : State) (k : Nat) (x : QueueRec) : (s.setQueue k x).gates = s.gates := rfl
@[simp] theorem State.setQueue_loadHeld (s : State) (k : Nat) (x : QueueRec) : (s.setQueue k x).loadHeld = s.loadHeld := rfl
@[simp] theorem State.setQueue_keepCopy (s : State) (k : Nat) (x : QueueRec) : (s.setQueue k x).keepCopy = s.keepCopy := rfl
@[simp] theorem State.setQueue_storeStops (s : State) (k : Nat) (x : QueueRec) : (s.setQueue k x).storeStops = s.storeStops := rfl
@[simp] theorem State.setQueue_spareLines (s : State) (k : Nat) (x : QueueRec) : (s.setQueue k x).spareLines = s.spareLines := rfl

/-! ### setLane -/

@[simp] theorem State.setLane_dict (s : State) (l : Nat) (x : LaneRec) : (s.setLane l x).dict = s.dict := rfl
@[simp] theorem State.setLane_rwr (s : State) (l : Nat) (x : LaneRec) : (s.setLane l x).rwr = s.rwr := rfl
@[simp] theorem State.setLane_out (s : State) (l : Nat) (x : LaneRec) : (s.setLane l x).out = s.out := rfl
@[simp] theorem State.setLane_pending (s : State) (l : Nat) (x : LaneRec) : (s.setLane l x).pending = s.pending := rfl
@[simp] theorem State.setLane_draws (s : State) (l : Nat) (x : LaneRec) : (s.setLane l x).draws = s.draws := rfl
@[simp] theorem State.setLane_bundle (s : State) (l : Nat) (x : LaneRec) : (s.setLane l x).bundle = s.bundle := rfl
@[simp] theorem State.setLane_startup (s : State) (l : Nat) (x : LaneRec) : (s.setLane l x).startup = s.startup := rfl
@[simp] theorem State.setLane_startPending (s : State) (l : Nat) (x : LaneRec) : (s.setLane l x).startPending = s.startPending := rfl
@[simp] theorem State.setLane_stopPending (s : State) (l : Nat) (x : LaneRec) : (s.setLane l x).stopPending = s.stopPending := rfl
@[simp] theorem State.setLane_waveDue (s : State) (l : Nat) (x : LaneRec) : (s.setLane l x).waveDue = s.waveDue := rfl
@[simp] theorem State.setLane_runEra (s : State) (l : Nat) (x : LaneRec) : (s.setLane l x).runEra = s.runEra := rfl
@[simp] theorem State.setLane_regions (s : State) (l : Nat) (x : LaneRec) : (s.setLane l x).regions = s.regions := rfl
@[simp] theorem State.setLane_planes (s : State) (l : Nat) (x : LaneRec) : (s.setLane l x).planes = s.planes := rfl
@[simp] theorem State.setLane_frames (s : State) (l : Nat) (x : LaneRec) : (s.setLane l x).frames = s.frames := rfl
@[simp] theorem State.setLane_latched (s : State) (l : Nat) (x : LaneRec) : (s.setLane l x).latched = s.latched := rfl
@[simp] theorem State.setLane_latchXn (s : State) (l : Nat) (x : LaneRec) : (s.setLane l x).latchXn = s.latchXn := rfl
@[simp] theorem State.setLane_rearm (s : State) (l : Nat) (x : LaneRec) : (s.setLane l x).rearm = s.rearm := rfl
@[simp] theorem State.setLane_rearmDue (s : State) (l : Nat) (x : LaneRec) : (s.setLane l x).rearmDue = s.rearmDue := rfl
@[simp] theorem State.setLane_regs (s : State) (l : Nat) (x : LaneRec) : (s.setLane l x).regs = s.regs := rfl
@[simp] theorem State.setLane_huskLast (s : State) (l : Nat) (x : LaneRec) : (s.setLane l x).huskLast = s.huskLast := rfl
@[simp] theorem State.setLane_delivered (s : State) (l : Nat) (x : LaneRec) : (s.setLane l x).delivered = s.delivered := rfl
@[simp] theorem State.setLane_readTokens (s : State) (l : Nat) (x : LaneRec) : (s.setLane l x).readTokens = s.readTokens := rfl
@[simp] theorem State.setLane_probePipe (s : State) (l : Nat) (x : LaneRec) : (s.setLane l x).probePipe = s.probePipe := rfl
@[simp] theorem State.setLane_probePins (s : State) (l : Nat) (x : LaneRec) : (s.setLane l x).probePins = s.probePins := rfl
@[simp] theorem State.setLane_probeBlocks (s : State) (l : Nat) (x : LaneRec) : (s.setLane l x).probeBlocks = s.probeBlocks := rfl
@[simp] theorem State.setLane_probeHeld (s : State) (l : Nat) (x : LaneRec) : (s.setLane l x).probeHeld = s.probeHeld := rfl
@[simp] theorem State.setLane_bankMem (s : State) (l : Nat) (x : LaneRec) : (s.setLane l x).bankMem = s.bankMem := rfl
@[simp] theorem State.setLane_queues (s : State) (l : Nat) (x : LaneRec) : (s.setLane l x).queues = s.queues := rfl
@[simp] theorem State.setLane_patrol (s : State) (l : Nat) (x : LaneRec) : (s.setLane l x).patrol = s.patrol := rfl
@[simp] theorem State.setLane_repairs (s : State) (l : Nat) (x : LaneRec) : (s.setLane l x).repairs = s.repairs := rfl
@[simp] theorem State.setLane_storedMap (s : State) (l : Nat) (x : LaneRec) : (s.setLane l x).storedMap = s.storedMap := rfl
@[simp] theorem State.setLane_march (s : State) (l : Nat) (x : LaneRec) : (s.setLane l x).march = s.march := rfl
@[simp] theorem State.setLane_load (s : State) (l : Nat) (x : LaneRec) : (s.setLane l x).load = s.load := rfl
@[simp] theorem State.setLane_migReverting (s : State) (l : Nat) (x : LaneRec) : (s.setLane l x).migReverting = s.migReverting := rfl
@[simp] theorem State.setLane_migOverlap (s : State) (l : Nat) (x : LaneRec) : (s.setLane l x).migOverlap = s.migOverlap := rfl
@[simp] theorem State.setLane_migWave (s : State) (l : Nat) (x : LaneRec) : (s.setLane l x).migWave = s.migWave := rfl
@[simp] theorem State.setLane_migMin (s : State) (l : Nat) (x : LaneRec) : (s.setLane l x).migMin = s.migMin := rfl
@[simp] theorem State.setLane_migHalted (s : State) (l : Nat) (x : LaneRec) : (s.setLane l x).migHalted = s.migHalted := rfl
@[simp] theorem State.setLane_deferred (s : State) (l : Nat) (x : LaneRec) : (s.setLane l x).deferred = s.deferred := rfl
@[simp] theorem State.setLane_tx (s : State) (l : Nat) (x : LaneRec) : (s.setLane l x).tx = s.tx := rfl
@[simp] theorem State.setLane_timing (s : State) (l : Nat) (x : LaneRec) : (s.setLane l x).timing = s.timing := rfl
@[simp] theorem State.setLane_sourceDue (s : State) (l : Nat) (x : LaneRec) : (s.setLane l x).sourceDue = s.sourceDue := rfl
@[simp] theorem State.setLane_timingNew (s : State) (l : Nat) (x : LaneRec) : (s.setLane l x).timingNew = s.timingNew := rfl
@[simp] theorem State.setLane_lines (s : State) (l : Nat) (x : LaneRec) : (s.setLane l x).lines = s.lines := rfl
@[simp] theorem State.setLane_slotC (s : State) (l : Nat) (x : LaneRec) : (s.setLane l x).slotC = s.slotC := rfl
@[simp] theorem State.setLane_skips (s : State) (l : Nat) (x : LaneRec) : (s.setLane l x).skips = s.skips := rfl
@[simp] theorem State.setLane_heldReqs (s : State) (l : Nat) (x : LaneRec) : (s.setLane l x).heldReqs = s.heldReqs := rfl
@[simp] theorem State.setLane_lbif (s : State) (l : Nat) (x : LaneRec) : (s.setLane l x).lbif = s.lbif := rfl
@[simp] theorem State.setLane_bar2Held (s : State) (l : Nat) (x : LaneRec) : (s.setLane l x).bar2Held = s.bar2Held := rfl
@[simp] theorem State.setLane_scrubPos (s : State) (l : Nat) (x : LaneRec) : (s.setLane l x).scrubPos = s.scrubPos := rfl
@[simp] theorem State.setLane_nextWindow (s : State) (l : Nat) (x : LaneRec) : (s.setLane l x).nextWindow = s.nextWindow := rfl
@[simp] theorem State.setLane_activationC (s : State) (l : Nat) (x : LaneRec) : (s.setLane l x).activationC = s.activationC := rfl
@[simp] theorem State.setLane_derived (s : State) (l : Nat) (x : LaneRec) : (s.setLane l x).derived = s.derived := rfl
@[simp] theorem State.setLane_ports (s : State) (l : Nat) (x : LaneRec) : (s.setLane l x).ports = s.ports := rfl
@[simp] theorem State.setLane_pair (s : State) (l : Nat) (x : LaneRec) : (s.setLane l x).pair = s.pair := rfl
@[simp] theorem State.setLane_outReqs (s : State) (l : Nat) (x : LaneRec) : (s.setLane l x).outReqs = s.outReqs := rfl
@[simp] theorem State.setLane_msixPend (s : State) (l : Nat) (x : LaneRec) : (s.setLane l x).msixPend = s.msixPend := rfl
@[simp] theorem State.setLane_msixHold (s : State) (l : Nat) (x : LaneRec) : (s.setLane l x).msixHold = s.msixHold := rfl
@[simp] theorem State.setLane_msixTable (s : State) (l : Nat) (x : LaneRec) : (s.setLane l x).msixTable = s.msixTable := rfl
@[simp] theorem State.setLane_keepLines (s : State) (l : Nat) (x : LaneRec) : (s.setLane l x).keepLines = s.keepLines := rfl
@[simp] theorem State.setLane_engines (s : State) (l : Nat) (x : LaneRec) : (s.setLane l x).engines = s.engines := rfl
@[simp] theorem State.setLane_readoutQueue (s : State) (l : Nat) (x : LaneRec) : (s.setLane l x).readoutQueue = s.readoutQueue := rfl
@[simp] theorem State.setLane_kernels (s : State) (l : Nat) (x : LaneRec) : (s.setLane l x).kernels = s.kernels := rfl
@[simp] theorem State.setLane_transfers (s : State) (l : Nat) (x : LaneRec) : (s.setLane l x).transfers = s.transfers := rfl
@[simp] theorem State.setLane_mailboxes (s : State) (l : Nat) (x : LaneRec) : (s.setLane l x).mailboxes = s.mailboxes := rfl
@[simp] theorem State.setLane_can (s : State) (l : Nat) (x : LaneRec) : (s.setLane l x).can = s.can := rfl
@[simp] theorem State.setLane_canOpen (s : State) (l : Nat) (x : LaneRec) : (s.setLane l x).canOpen = s.canOpen := rfl
@[simp] theorem State.setLane_design (s : State) (l : Nat) (x : LaneRec) : (s.setLane l x).design = s.design := rfl
@[simp] theorem State.setLane_designQ (s : State) (l : Nat) (x : LaneRec) : (s.setLane l x).designQ = s.designQ := rfl
@[simp] theorem State.setLane_designTag (s : State) (l : Nat) (x : LaneRec) : (s.setLane l x).designTag = s.designTag := rfl
@[simp] theorem State.setLane_userVals (s : State) (l : Nat) (x : LaneRec) : (s.setLane l x).userVals = s.userVals := rfl
@[simp] theorem State.setLane_portReq (s : State) (l : Nat) (x : LaneRec) : (s.setLane l x).portReq = s.portReq := rfl
@[simp] theorem State.setLane_portOut (s : State) (l : Nat) (x : LaneRec) : (s.setLane l x).portOut = s.portOut := rfl
@[simp] theorem State.setLane_portIn (s : State) (l : Nat) (x : LaneRec) : (s.setLane l x).portIn = s.portIn := rfl
@[simp] theorem State.setLane_portMsgs (s : State) (l : Nat) (x : LaneRec) : (s.setLane l x).portMsgs = s.portMsgs := rfl
@[simp] theorem State.setLane_domains (s : State) (l : Nat) (x : LaneRec) : (s.setLane l x).domains = s.domains := rfl
@[simp] theorem State.setLane_sensors (s : State) (l : Nat) (x : LaneRec) : (s.setLane l x).sensors = s.sensors := rfl
@[simp] theorem State.setLane_thermal (s : State) (l : Nat) (x : LaneRec) : (s.setLane l x).thermal = s.thermal := rfl
@[simp] theorem State.setLane_collector (s : State) (l : Nat) (x : LaneRec) : (s.setLane l x).collector = s.collector := rfl
@[simp] theorem State.setLane_security (s : State) (l : Nat) (x : LaneRec) : (s.setLane l x).security = s.security := rfl
@[simp] theorem State.setLane_rd_frame (s : State) (l : Nat) (x : LaneRec) (u w : Nat) : (s.setLane l x).rd u w = s.rd u w := rfl
@[simp] theorem State.setLane_region_frame (s : State) (l : Nat) (x : LaneRec) (u : Nat) : (s.setLane l x).region u = s.region u := rfl
@[simp] theorem State.setLane_plane_frame (s : State) (l : Nat) (x : LaneRec) (u w : Nat) : (s.setLane l x).plane u w = s.plane u w := rfl
@[simp] theorem State.setLane_frame_frame (s : State) (l : Nat) (x : LaneRec) (u w z : Nat) : (s.setLane l x).frame u w z = s.frame u w z := rfl
@[simp] theorem State.setLane_queue_frame (s : State) (l : Nat) (x : LaneRec) (u : Nat) : (s.setLane l x).queue u = s.queue u := rfl
@[simp] theorem State.setLane_txLane_frame (s : State) (l : Nat) (x : LaneRec) (u : Nat) : (s.setLane l x).txLane u = s.txLane u := rfl
@[simp] theorem State.setLane_tim_frame (s : State) (l : Nat) (x : LaneRec) (u : Nat) : (s.setLane l x).tim u = s.tim u := rfl
@[simp] theorem State.setLane_port_frame (s : State) (l : Nat) (x : LaneRec) (u : Nat) : (s.setLane l x).port u = s.port u := rfl
@[simp] theorem State.setLane_engine_frame (s : State) (l : Nat) (x : LaneRec) (u : Nat) : (s.setLane l x).engine u = s.engine u := rfl
@[simp] theorem State.setLane_kernel_frame (s : State) (l : Nat) (x : LaneRec) (u : Nat) : (s.setLane l x).kernel u = s.kernel u := rfl
@[simp] theorem State.setLane_mailbox_frame (s : State) (l : Nat) (x : LaneRec) (u : Nat) : (s.setLane l x).mailbox u = s.mailbox u := rfl
@[simp] theorem State.setLane_canCh_frame (s : State) (l : Nat) (x : LaneRec) (u : Nat) : (s.setLane l x).canCh u = s.canCh u := rfl
@[simp] theorem State.setLane_dom_frame (s : State) (l : Nat) (x : LaneRec) (u : Nat) : (s.setLane l x).dom u = s.dom u := rfl
@[simp] theorem State.setLane_sensor_frame (s : State) (l : Nat) (x : LaneRec) (u : Nat) : (s.setLane l x).sensor u = s.sensor u := rfl
@[simp] theorem State.setLane_image_frame (s : State) (l : Nat) (x : LaneRec) (u w : Nat) : (s.setLane l x).image u w = s.image u w := rfl
@[simp] theorem State.setLane_waveLog (s : State) (l : Nat) (x : LaneRec) : (s.setLane l x).waveLog = s.waveLog := rfl
@[simp] theorem State.setLane_readoutDue (s : State) (l : Nat) (x : LaneRec) : (s.setLane l x).readoutDue = s.readoutDue := rfl
@[simp] theorem State.setLane_pinsHeld (s : State) (l : Nat) (x : LaneRec) : (s.setLane l x).pinsHeld = s.pinsHeld := rfl
@[simp] theorem State.setLane_bar4Held (s : State) (l : Nat) (x : LaneRec) : (s.setLane l x).bar4Held = s.bar4Held := rfl
@[simp] theorem State.setLane_cfgSpace (s : State) (l : Nat) (x : LaneRec) : (s.setLane l x).cfgSpace = s.cfgSpace := rfl
@[simp] theorem State.setLane_gates (s : State) (l : Nat) (x : LaneRec) : (s.setLane l x).gates = s.gates := rfl
@[simp] theorem State.setLane_loadHeld (s : State) (l : Nat) (x : LaneRec) : (s.setLane l x).loadHeld = s.loadHeld := rfl
@[simp] theorem State.setLane_keepCopy (s : State) (l : Nat) (x : LaneRec) : (s.setLane l x).keepCopy = s.keepCopy := rfl
@[simp] theorem State.setLane_storeStops (s : State) (l : Nat) (x : LaneRec) : (s.setLane l x).storeStops = s.storeStops := rfl
@[simp] theorem State.setLane_spareLines (s : State) (l : Nat) (x : LaneRec) : (s.setLane l x).spareLines = s.spareLines := rfl

/-! ### setTx -/

@[simp] theorem State.setTx_dict (s : State) (l : Nat) (x : TxRec) : (s.setTx l x).dict = s.dict := rfl
@[simp] theorem State.setTx_rwr (s : State) (l : Nat) (x : TxRec) : (s.setTx l x).rwr = s.rwr := rfl
@[simp] theorem State.setTx_out (s : State) (l : Nat) (x : TxRec) : (s.setTx l x).out = s.out := rfl
@[simp] theorem State.setTx_pending (s : State) (l : Nat) (x : TxRec) : (s.setTx l x).pending = s.pending := rfl
@[simp] theorem State.setTx_draws (s : State) (l : Nat) (x : TxRec) : (s.setTx l x).draws = s.draws := rfl
@[simp] theorem State.setTx_bundle (s : State) (l : Nat) (x : TxRec) : (s.setTx l x).bundle = s.bundle := rfl
@[simp] theorem State.setTx_startup (s : State) (l : Nat) (x : TxRec) : (s.setTx l x).startup = s.startup := rfl
@[simp] theorem State.setTx_startPending (s : State) (l : Nat) (x : TxRec) : (s.setTx l x).startPending = s.startPending := rfl
@[simp] theorem State.setTx_stopPending (s : State) (l : Nat) (x : TxRec) : (s.setTx l x).stopPending = s.stopPending := rfl
@[simp] theorem State.setTx_waveDue (s : State) (l : Nat) (x : TxRec) : (s.setTx l x).waveDue = s.waveDue := rfl
@[simp] theorem State.setTx_runEra (s : State) (l : Nat) (x : TxRec) : (s.setTx l x).runEra = s.runEra := rfl
@[simp] theorem State.setTx_regions (s : State) (l : Nat) (x : TxRec) : (s.setTx l x).regions = s.regions := rfl
@[simp] theorem State.setTx_planes (s : State) (l : Nat) (x : TxRec) : (s.setTx l x).planes = s.planes := rfl
@[simp] theorem State.setTx_frames (s : State) (l : Nat) (x : TxRec) : (s.setTx l x).frames = s.frames := rfl
@[simp] theorem State.setTx_latched (s : State) (l : Nat) (x : TxRec) : (s.setTx l x).latched = s.latched := rfl
@[simp] theorem State.setTx_latchXn (s : State) (l : Nat) (x : TxRec) : (s.setTx l x).latchXn = s.latchXn := rfl
@[simp] theorem State.setTx_rearm (s : State) (l : Nat) (x : TxRec) : (s.setTx l x).rearm = s.rearm := rfl
@[simp] theorem State.setTx_rearmDue (s : State) (l : Nat) (x : TxRec) : (s.setTx l x).rearmDue = s.rearmDue := rfl
@[simp] theorem State.setTx_regs (s : State) (l : Nat) (x : TxRec) : (s.setTx l x).regs = s.regs := rfl
@[simp] theorem State.setTx_huskLast (s : State) (l : Nat) (x : TxRec) : (s.setTx l x).huskLast = s.huskLast := rfl
@[simp] theorem State.setTx_delivered (s : State) (l : Nat) (x : TxRec) : (s.setTx l x).delivered = s.delivered := rfl
@[simp] theorem State.setTx_readTokens (s : State) (l : Nat) (x : TxRec) : (s.setTx l x).readTokens = s.readTokens := rfl
@[simp] theorem State.setTx_probePipe (s : State) (l : Nat) (x : TxRec) : (s.setTx l x).probePipe = s.probePipe := rfl
@[simp] theorem State.setTx_probePins (s : State) (l : Nat) (x : TxRec) : (s.setTx l x).probePins = s.probePins := rfl
@[simp] theorem State.setTx_probeBlocks (s : State) (l : Nat) (x : TxRec) : (s.setTx l x).probeBlocks = s.probeBlocks := rfl
@[simp] theorem State.setTx_probeHeld (s : State) (l : Nat) (x : TxRec) : (s.setTx l x).probeHeld = s.probeHeld := rfl
@[simp] theorem State.setTx_bankMem (s : State) (l : Nat) (x : TxRec) : (s.setTx l x).bankMem = s.bankMem := rfl
@[simp] theorem State.setTx_queues (s : State) (l : Nat) (x : TxRec) : (s.setTx l x).queues = s.queues := rfl
@[simp] theorem State.setTx_patrol (s : State) (l : Nat) (x : TxRec) : (s.setTx l x).patrol = s.patrol := rfl
@[simp] theorem State.setTx_repairs (s : State) (l : Nat) (x : TxRec) : (s.setTx l x).repairs = s.repairs := rfl
@[simp] theorem State.setTx_storedMap (s : State) (l : Nat) (x : TxRec) : (s.setTx l x).storedMap = s.storedMap := rfl
@[simp] theorem State.setTx_march (s : State) (l : Nat) (x : TxRec) : (s.setTx l x).march = s.march := rfl
@[simp] theorem State.setTx_load (s : State) (l : Nat) (x : TxRec) : (s.setTx l x).load = s.load := rfl
@[simp] theorem State.setTx_migReverting (s : State) (l : Nat) (x : TxRec) : (s.setTx l x).migReverting = s.migReverting := rfl
@[simp] theorem State.setTx_migOverlap (s : State) (l : Nat) (x : TxRec) : (s.setTx l x).migOverlap = s.migOverlap := rfl
@[simp] theorem State.setTx_migWave (s : State) (l : Nat) (x : TxRec) : (s.setTx l x).migWave = s.migWave := rfl
@[simp] theorem State.setTx_migMin (s : State) (l : Nat) (x : TxRec) : (s.setTx l x).migMin = s.migMin := rfl
@[simp] theorem State.setTx_migHalted (s : State) (l : Nat) (x : TxRec) : (s.setTx l x).migHalted = s.migHalted := rfl
@[simp] theorem State.setTx_deferred (s : State) (l : Nat) (x : TxRec) : (s.setTx l x).deferred = s.deferred := rfl
@[simp] theorem State.setTx_lanes (s : State) (l : Nat) (x : TxRec) : (s.setTx l x).lanes = s.lanes := rfl
@[simp] theorem State.setTx_timing (s : State) (l : Nat) (x : TxRec) : (s.setTx l x).timing = s.timing := rfl
@[simp] theorem State.setTx_sourceDue (s : State) (l : Nat) (x : TxRec) : (s.setTx l x).sourceDue = s.sourceDue := rfl
@[simp] theorem State.setTx_timingNew (s : State) (l : Nat) (x : TxRec) : (s.setTx l x).timingNew = s.timingNew := rfl
@[simp] theorem State.setTx_lines (s : State) (l : Nat) (x : TxRec) : (s.setTx l x).lines = s.lines := rfl
@[simp] theorem State.setTx_slotC (s : State) (l : Nat) (x : TxRec) : (s.setTx l x).slotC = s.slotC := rfl
@[simp] theorem State.setTx_skips (s : State) (l : Nat) (x : TxRec) : (s.setTx l x).skips = s.skips := rfl
@[simp] theorem State.setTx_heldReqs (s : State) (l : Nat) (x : TxRec) : (s.setTx l x).heldReqs = s.heldReqs := rfl
@[simp] theorem State.setTx_lbif (s : State) (l : Nat) (x : TxRec) : (s.setTx l x).lbif = s.lbif := rfl
@[simp] theorem State.setTx_bar2Held (s : State) (l : Nat) (x : TxRec) : (s.setTx l x).bar2Held = s.bar2Held := rfl
@[simp] theorem State.setTx_scrubPos (s : State) (l : Nat) (x : TxRec) : (s.setTx l x).scrubPos = s.scrubPos := rfl
@[simp] theorem State.setTx_nextWindow (s : State) (l : Nat) (x : TxRec) : (s.setTx l x).nextWindow = s.nextWindow := rfl
@[simp] theorem State.setTx_activationC (s : State) (l : Nat) (x : TxRec) : (s.setTx l x).activationC = s.activationC := rfl
@[simp] theorem State.setTx_derived (s : State) (l : Nat) (x : TxRec) : (s.setTx l x).derived = s.derived := rfl
@[simp] theorem State.setTx_ports (s : State) (l : Nat) (x : TxRec) : (s.setTx l x).ports = s.ports := rfl
@[simp] theorem State.setTx_pair (s : State) (l : Nat) (x : TxRec) : (s.setTx l x).pair = s.pair := rfl
@[simp] theorem State.setTx_outReqs (s : State) (l : Nat) (x : TxRec) : (s.setTx l x).outReqs = s.outReqs := rfl
@[simp] theorem State.setTx_msixPend (s : State) (l : Nat) (x : TxRec) : (s.setTx l x).msixPend = s.msixPend := rfl
@[simp] theorem State.setTx_msixHold (s : State) (l : Nat) (x : TxRec) : (s.setTx l x).msixHold = s.msixHold := rfl
@[simp] theorem State.setTx_msixTable (s : State) (l : Nat) (x : TxRec) : (s.setTx l x).msixTable = s.msixTable := rfl
@[simp] theorem State.setTx_keepLines (s : State) (l : Nat) (x : TxRec) : (s.setTx l x).keepLines = s.keepLines := rfl
@[simp] theorem State.setTx_engines (s : State) (l : Nat) (x : TxRec) : (s.setTx l x).engines = s.engines := rfl
@[simp] theorem State.setTx_readoutQueue (s : State) (l : Nat) (x : TxRec) : (s.setTx l x).readoutQueue = s.readoutQueue := rfl
@[simp] theorem State.setTx_kernels (s : State) (l : Nat) (x : TxRec) : (s.setTx l x).kernels = s.kernels := rfl
@[simp] theorem State.setTx_transfers (s : State) (l : Nat) (x : TxRec) : (s.setTx l x).transfers = s.transfers := rfl
@[simp] theorem State.setTx_mailboxes (s : State) (l : Nat) (x : TxRec) : (s.setTx l x).mailboxes = s.mailboxes := rfl
@[simp] theorem State.setTx_can (s : State) (l : Nat) (x : TxRec) : (s.setTx l x).can = s.can := rfl
@[simp] theorem State.setTx_canOpen (s : State) (l : Nat) (x : TxRec) : (s.setTx l x).canOpen = s.canOpen := rfl
@[simp] theorem State.setTx_design (s : State) (l : Nat) (x : TxRec) : (s.setTx l x).design = s.design := rfl
@[simp] theorem State.setTx_designQ (s : State) (l : Nat) (x : TxRec) : (s.setTx l x).designQ = s.designQ := rfl
@[simp] theorem State.setTx_designTag (s : State) (l : Nat) (x : TxRec) : (s.setTx l x).designTag = s.designTag := rfl
@[simp] theorem State.setTx_userVals (s : State) (l : Nat) (x : TxRec) : (s.setTx l x).userVals = s.userVals := rfl
@[simp] theorem State.setTx_portReq (s : State) (l : Nat) (x : TxRec) : (s.setTx l x).portReq = s.portReq := rfl
@[simp] theorem State.setTx_portOut (s : State) (l : Nat) (x : TxRec) : (s.setTx l x).portOut = s.portOut := rfl
@[simp] theorem State.setTx_portIn (s : State) (l : Nat) (x : TxRec) : (s.setTx l x).portIn = s.portIn := rfl
@[simp] theorem State.setTx_portMsgs (s : State) (l : Nat) (x : TxRec) : (s.setTx l x).portMsgs = s.portMsgs := rfl
@[simp] theorem State.setTx_domains (s : State) (l : Nat) (x : TxRec) : (s.setTx l x).domains = s.domains := rfl
@[simp] theorem State.setTx_sensors (s : State) (l : Nat) (x : TxRec) : (s.setTx l x).sensors = s.sensors := rfl
@[simp] theorem State.setTx_thermal (s : State) (l : Nat) (x : TxRec) : (s.setTx l x).thermal = s.thermal := rfl
@[simp] theorem State.setTx_collector (s : State) (l : Nat) (x : TxRec) : (s.setTx l x).collector = s.collector := rfl
@[simp] theorem State.setTx_security (s : State) (l : Nat) (x : TxRec) : (s.setTx l x).security = s.security := rfl
@[simp] theorem State.setTx_rd_frame (s : State) (l : Nat) (x : TxRec) (u w : Nat) : (s.setTx l x).rd u w = s.rd u w := rfl
@[simp] theorem State.setTx_region_frame (s : State) (l : Nat) (x : TxRec) (u : Nat) : (s.setTx l x).region u = s.region u := rfl
@[simp] theorem State.setTx_plane_frame (s : State) (l : Nat) (x : TxRec) (u w : Nat) : (s.setTx l x).plane u w = s.plane u w := rfl
@[simp] theorem State.setTx_frame_frame (s : State) (l : Nat) (x : TxRec) (u w z : Nat) : (s.setTx l x).frame u w z = s.frame u w z := rfl
@[simp] theorem State.setTx_queue_frame (s : State) (l : Nat) (x : TxRec) (u : Nat) : (s.setTx l x).queue u = s.queue u := rfl
@[simp] theorem State.setTx_lane_frame (s : State) (l : Nat) (x : TxRec) (u : Nat) : (s.setTx l x).lane u = s.lane u := rfl
@[simp] theorem State.setTx_tim_frame (s : State) (l : Nat) (x : TxRec) (u : Nat) : (s.setTx l x).tim u = s.tim u := rfl
@[simp] theorem State.setTx_port_frame (s : State) (l : Nat) (x : TxRec) (u : Nat) : (s.setTx l x).port u = s.port u := rfl
@[simp] theorem State.setTx_engine_frame (s : State) (l : Nat) (x : TxRec) (u : Nat) : (s.setTx l x).engine u = s.engine u := rfl
@[simp] theorem State.setTx_kernel_frame (s : State) (l : Nat) (x : TxRec) (u : Nat) : (s.setTx l x).kernel u = s.kernel u := rfl
@[simp] theorem State.setTx_mailbox_frame (s : State) (l : Nat) (x : TxRec) (u : Nat) : (s.setTx l x).mailbox u = s.mailbox u := rfl
@[simp] theorem State.setTx_canCh_frame (s : State) (l : Nat) (x : TxRec) (u : Nat) : (s.setTx l x).canCh u = s.canCh u := rfl
@[simp] theorem State.setTx_dom_frame (s : State) (l : Nat) (x : TxRec) (u : Nat) : (s.setTx l x).dom u = s.dom u := rfl
@[simp] theorem State.setTx_sensor_frame (s : State) (l : Nat) (x : TxRec) (u : Nat) : (s.setTx l x).sensor u = s.sensor u := rfl
@[simp] theorem State.setTx_image_frame (s : State) (l : Nat) (x : TxRec) (u w : Nat) : (s.setTx l x).image u w = s.image u w := rfl
@[simp] theorem State.setTx_waveLog (s : State) (l : Nat) (x : TxRec) : (s.setTx l x).waveLog = s.waveLog := rfl
@[simp] theorem State.setTx_readoutDue (s : State) (l : Nat) (x : TxRec) : (s.setTx l x).readoutDue = s.readoutDue := rfl
@[simp] theorem State.setTx_pinsHeld (s : State) (l : Nat) (x : TxRec) : (s.setTx l x).pinsHeld = s.pinsHeld := rfl
@[simp] theorem State.setTx_bar4Held (s : State) (l : Nat) (x : TxRec) : (s.setTx l x).bar4Held = s.bar4Held := rfl
@[simp] theorem State.setTx_cfgSpace (s : State) (l : Nat) (x : TxRec) : (s.setTx l x).cfgSpace = s.cfgSpace := rfl
@[simp] theorem State.setTx_gates (s : State) (l : Nat) (x : TxRec) : (s.setTx l x).gates = s.gates := rfl
@[simp] theorem State.setTx_loadHeld (s : State) (l : Nat) (x : TxRec) : (s.setTx l x).loadHeld = s.loadHeld := rfl
@[simp] theorem State.setTx_keepCopy (s : State) (l : Nat) (x : TxRec) : (s.setTx l x).keepCopy = s.keepCopy := rfl
@[simp] theorem State.setTx_storeStops (s : State) (l : Nat) (x : TxRec) : (s.setTx l x).storeStops = s.storeStops := rfl
@[simp] theorem State.setTx_spareLines (s : State) (l : Nat) (x : TxRec) : (s.setTx l x).spareLines = s.spareLines := rfl

/-! ### setTim -/

@[simp] theorem State.setTim_dict (s : State) (i : Nat) (x : TimRec) : (s.setTim i x).dict = s.dict := rfl
@[simp] theorem State.setTim_rwr (s : State) (i : Nat) (x : TimRec) : (s.setTim i x).rwr = s.rwr := rfl
@[simp] theorem State.setTim_out (s : State) (i : Nat) (x : TimRec) : (s.setTim i x).out = s.out := rfl
@[simp] theorem State.setTim_pending (s : State) (i : Nat) (x : TimRec) : (s.setTim i x).pending = s.pending := rfl
@[simp] theorem State.setTim_draws (s : State) (i : Nat) (x : TimRec) : (s.setTim i x).draws = s.draws := rfl
@[simp] theorem State.setTim_bundle (s : State) (i : Nat) (x : TimRec) : (s.setTim i x).bundle = s.bundle := rfl
@[simp] theorem State.setTim_startup (s : State) (i : Nat) (x : TimRec) : (s.setTim i x).startup = s.startup := rfl
@[simp] theorem State.setTim_startPending (s : State) (i : Nat) (x : TimRec) : (s.setTim i x).startPending = s.startPending := rfl
@[simp] theorem State.setTim_stopPending (s : State) (i : Nat) (x : TimRec) : (s.setTim i x).stopPending = s.stopPending := rfl
@[simp] theorem State.setTim_waveDue (s : State) (i : Nat) (x : TimRec) : (s.setTim i x).waveDue = s.waveDue := rfl
@[simp] theorem State.setTim_runEra (s : State) (i : Nat) (x : TimRec) : (s.setTim i x).runEra = s.runEra := rfl
@[simp] theorem State.setTim_regions (s : State) (i : Nat) (x : TimRec) : (s.setTim i x).regions = s.regions := rfl
@[simp] theorem State.setTim_planes (s : State) (i : Nat) (x : TimRec) : (s.setTim i x).planes = s.planes := rfl
@[simp] theorem State.setTim_frames (s : State) (i : Nat) (x : TimRec) : (s.setTim i x).frames = s.frames := rfl
@[simp] theorem State.setTim_latched (s : State) (i : Nat) (x : TimRec) : (s.setTim i x).latched = s.latched := rfl
@[simp] theorem State.setTim_latchXn (s : State) (i : Nat) (x : TimRec) : (s.setTim i x).latchXn = s.latchXn := rfl
@[simp] theorem State.setTim_rearm (s : State) (i : Nat) (x : TimRec) : (s.setTim i x).rearm = s.rearm := rfl
@[simp] theorem State.setTim_rearmDue (s : State) (i : Nat) (x : TimRec) : (s.setTim i x).rearmDue = s.rearmDue := rfl
@[simp] theorem State.setTim_regs (s : State) (i : Nat) (x : TimRec) : (s.setTim i x).regs = s.regs := rfl
@[simp] theorem State.setTim_huskLast (s : State) (i : Nat) (x : TimRec) : (s.setTim i x).huskLast = s.huskLast := rfl
@[simp] theorem State.setTim_delivered (s : State) (i : Nat) (x : TimRec) : (s.setTim i x).delivered = s.delivered := rfl
@[simp] theorem State.setTim_readTokens (s : State) (i : Nat) (x : TimRec) : (s.setTim i x).readTokens = s.readTokens := rfl
@[simp] theorem State.setTim_probePipe (s : State) (i : Nat) (x : TimRec) : (s.setTim i x).probePipe = s.probePipe := rfl
@[simp] theorem State.setTim_probePins (s : State) (i : Nat) (x : TimRec) : (s.setTim i x).probePins = s.probePins := rfl
@[simp] theorem State.setTim_probeBlocks (s : State) (i : Nat) (x : TimRec) : (s.setTim i x).probeBlocks = s.probeBlocks := rfl
@[simp] theorem State.setTim_probeHeld (s : State) (i : Nat) (x : TimRec) : (s.setTim i x).probeHeld = s.probeHeld := rfl
@[simp] theorem State.setTim_bankMem (s : State) (i : Nat) (x : TimRec) : (s.setTim i x).bankMem = s.bankMem := rfl
@[simp] theorem State.setTim_queues (s : State) (i : Nat) (x : TimRec) : (s.setTim i x).queues = s.queues := rfl
@[simp] theorem State.setTim_patrol (s : State) (i : Nat) (x : TimRec) : (s.setTim i x).patrol = s.patrol := rfl
@[simp] theorem State.setTim_repairs (s : State) (i : Nat) (x : TimRec) : (s.setTim i x).repairs = s.repairs := rfl
@[simp] theorem State.setTim_storedMap (s : State) (i : Nat) (x : TimRec) : (s.setTim i x).storedMap = s.storedMap := rfl
@[simp] theorem State.setTim_march (s : State) (i : Nat) (x : TimRec) : (s.setTim i x).march = s.march := rfl
@[simp] theorem State.setTim_load (s : State) (i : Nat) (x : TimRec) : (s.setTim i x).load = s.load := rfl
@[simp] theorem State.setTim_migReverting (s : State) (i : Nat) (x : TimRec) : (s.setTim i x).migReverting = s.migReverting := rfl
@[simp] theorem State.setTim_migOverlap (s : State) (i : Nat) (x : TimRec) : (s.setTim i x).migOverlap = s.migOverlap := rfl
@[simp] theorem State.setTim_migWave (s : State) (i : Nat) (x : TimRec) : (s.setTim i x).migWave = s.migWave := rfl
@[simp] theorem State.setTim_migMin (s : State) (i : Nat) (x : TimRec) : (s.setTim i x).migMin = s.migMin := rfl
@[simp] theorem State.setTim_migHalted (s : State) (i : Nat) (x : TimRec) : (s.setTim i x).migHalted = s.migHalted := rfl
@[simp] theorem State.setTim_deferred (s : State) (i : Nat) (x : TimRec) : (s.setTim i x).deferred = s.deferred := rfl
@[simp] theorem State.setTim_lanes (s : State) (i : Nat) (x : TimRec) : (s.setTim i x).lanes = s.lanes := rfl
@[simp] theorem State.setTim_tx (s : State) (i : Nat) (x : TimRec) : (s.setTim i x).tx = s.tx := rfl
@[simp] theorem State.setTim_sourceDue (s : State) (i : Nat) (x : TimRec) : (s.setTim i x).sourceDue = s.sourceDue := rfl
@[simp] theorem State.setTim_timingNew (s : State) (i : Nat) (x : TimRec) : (s.setTim i x).timingNew = s.timingNew := rfl
@[simp] theorem State.setTim_lines (s : State) (i : Nat) (x : TimRec) : (s.setTim i x).lines = s.lines := rfl
@[simp] theorem State.setTim_slotC (s : State) (i : Nat) (x : TimRec) : (s.setTim i x).slotC = s.slotC := rfl
@[simp] theorem State.setTim_skips (s : State) (i : Nat) (x : TimRec) : (s.setTim i x).skips = s.skips := rfl
@[simp] theorem State.setTim_heldReqs (s : State) (i : Nat) (x : TimRec) : (s.setTim i x).heldReqs = s.heldReqs := rfl
@[simp] theorem State.setTim_lbif (s : State) (i : Nat) (x : TimRec) : (s.setTim i x).lbif = s.lbif := rfl
@[simp] theorem State.setTim_bar2Held (s : State) (i : Nat) (x : TimRec) : (s.setTim i x).bar2Held = s.bar2Held := rfl
@[simp] theorem State.setTim_scrubPos (s : State) (i : Nat) (x : TimRec) : (s.setTim i x).scrubPos = s.scrubPos := rfl
@[simp] theorem State.setTim_nextWindow (s : State) (i : Nat) (x : TimRec) : (s.setTim i x).nextWindow = s.nextWindow := rfl
@[simp] theorem State.setTim_activationC (s : State) (i : Nat) (x : TimRec) : (s.setTim i x).activationC = s.activationC := rfl
@[simp] theorem State.setTim_derived (s : State) (i : Nat) (x : TimRec) : (s.setTim i x).derived = s.derived := rfl
@[simp] theorem State.setTim_ports (s : State) (i : Nat) (x : TimRec) : (s.setTim i x).ports = s.ports := rfl
@[simp] theorem State.setTim_pair (s : State) (i : Nat) (x : TimRec) : (s.setTim i x).pair = s.pair := rfl
@[simp] theorem State.setTim_outReqs (s : State) (i : Nat) (x : TimRec) : (s.setTim i x).outReqs = s.outReqs := rfl
@[simp] theorem State.setTim_msixPend (s : State) (i : Nat) (x : TimRec) : (s.setTim i x).msixPend = s.msixPend := rfl
@[simp] theorem State.setTim_msixHold (s : State) (i : Nat) (x : TimRec) : (s.setTim i x).msixHold = s.msixHold := rfl
@[simp] theorem State.setTim_msixTable (s : State) (i : Nat) (x : TimRec) : (s.setTim i x).msixTable = s.msixTable := rfl
@[simp] theorem State.setTim_keepLines (s : State) (i : Nat) (x : TimRec) : (s.setTim i x).keepLines = s.keepLines := rfl
@[simp] theorem State.setTim_engines (s : State) (i : Nat) (x : TimRec) : (s.setTim i x).engines = s.engines := rfl
@[simp] theorem State.setTim_readoutQueue (s : State) (i : Nat) (x : TimRec) : (s.setTim i x).readoutQueue = s.readoutQueue := rfl
@[simp] theorem State.setTim_kernels (s : State) (i : Nat) (x : TimRec) : (s.setTim i x).kernels = s.kernels := rfl
@[simp] theorem State.setTim_transfers (s : State) (i : Nat) (x : TimRec) : (s.setTim i x).transfers = s.transfers := rfl
@[simp] theorem State.setTim_mailboxes (s : State) (i : Nat) (x : TimRec) : (s.setTim i x).mailboxes = s.mailboxes := rfl
@[simp] theorem State.setTim_can (s : State) (i : Nat) (x : TimRec) : (s.setTim i x).can = s.can := rfl
@[simp] theorem State.setTim_canOpen (s : State) (i : Nat) (x : TimRec) : (s.setTim i x).canOpen = s.canOpen := rfl
@[simp] theorem State.setTim_design (s : State) (i : Nat) (x : TimRec) : (s.setTim i x).design = s.design := rfl
@[simp] theorem State.setTim_designQ (s : State) (i : Nat) (x : TimRec) : (s.setTim i x).designQ = s.designQ := rfl
@[simp] theorem State.setTim_designTag (s : State) (i : Nat) (x : TimRec) : (s.setTim i x).designTag = s.designTag := rfl
@[simp] theorem State.setTim_userVals (s : State) (i : Nat) (x : TimRec) : (s.setTim i x).userVals = s.userVals := rfl
@[simp] theorem State.setTim_portReq (s : State) (i : Nat) (x : TimRec) : (s.setTim i x).portReq = s.portReq := rfl
@[simp] theorem State.setTim_portOut (s : State) (i : Nat) (x : TimRec) : (s.setTim i x).portOut = s.portOut := rfl
@[simp] theorem State.setTim_portIn (s : State) (i : Nat) (x : TimRec) : (s.setTim i x).portIn = s.portIn := rfl
@[simp] theorem State.setTim_portMsgs (s : State) (i : Nat) (x : TimRec) : (s.setTim i x).portMsgs = s.portMsgs := rfl
@[simp] theorem State.setTim_domains (s : State) (i : Nat) (x : TimRec) : (s.setTim i x).domains = s.domains := rfl
@[simp] theorem State.setTim_sensors (s : State) (i : Nat) (x : TimRec) : (s.setTim i x).sensors = s.sensors := rfl
@[simp] theorem State.setTim_thermal (s : State) (i : Nat) (x : TimRec) : (s.setTim i x).thermal = s.thermal := rfl
@[simp] theorem State.setTim_collector (s : State) (i : Nat) (x : TimRec) : (s.setTim i x).collector = s.collector := rfl
@[simp] theorem State.setTim_security (s : State) (i : Nat) (x : TimRec) : (s.setTim i x).security = s.security := rfl
@[simp] theorem State.setTim_rd_frame (s : State) (i : Nat) (x : TimRec) (u w : Nat) : (s.setTim i x).rd u w = s.rd u w := rfl
@[simp] theorem State.setTim_region_frame (s : State) (i : Nat) (x : TimRec) (u : Nat) : (s.setTim i x).region u = s.region u := rfl
@[simp] theorem State.setTim_plane_frame (s : State) (i : Nat) (x : TimRec) (u w : Nat) : (s.setTim i x).plane u w = s.plane u w := rfl
@[simp] theorem State.setTim_frame_frame (s : State) (i : Nat) (x : TimRec) (u w z : Nat) : (s.setTim i x).frame u w z = s.frame u w z := rfl
@[simp] theorem State.setTim_queue_frame (s : State) (i : Nat) (x : TimRec) (u : Nat) : (s.setTim i x).queue u = s.queue u := rfl
@[simp] theorem State.setTim_lane_frame (s : State) (i : Nat) (x : TimRec) (u : Nat) : (s.setTim i x).lane u = s.lane u := rfl
@[simp] theorem State.setTim_txLane_frame (s : State) (i : Nat) (x : TimRec) (u : Nat) : (s.setTim i x).txLane u = s.txLane u := rfl
@[simp] theorem State.setTim_port_frame (s : State) (i : Nat) (x : TimRec) (u : Nat) : (s.setTim i x).port u = s.port u := rfl
@[simp] theorem State.setTim_engine_frame (s : State) (i : Nat) (x : TimRec) (u : Nat) : (s.setTim i x).engine u = s.engine u := rfl
@[simp] theorem State.setTim_kernel_frame (s : State) (i : Nat) (x : TimRec) (u : Nat) : (s.setTim i x).kernel u = s.kernel u := rfl
@[simp] theorem State.setTim_mailbox_frame (s : State) (i : Nat) (x : TimRec) (u : Nat) : (s.setTim i x).mailbox u = s.mailbox u := rfl
@[simp] theorem State.setTim_canCh_frame (s : State) (i : Nat) (x : TimRec) (u : Nat) : (s.setTim i x).canCh u = s.canCh u := rfl
@[simp] theorem State.setTim_dom_frame (s : State) (i : Nat) (x : TimRec) (u : Nat) : (s.setTim i x).dom u = s.dom u := rfl
@[simp] theorem State.setTim_sensor_frame (s : State) (i : Nat) (x : TimRec) (u : Nat) : (s.setTim i x).sensor u = s.sensor u := rfl
@[simp] theorem State.setTim_image_frame (s : State) (i : Nat) (x : TimRec) (u w : Nat) : (s.setTim i x).image u w = s.image u w := rfl
@[simp] theorem State.setTim_waveLog (s : State) (i : Nat) (x : TimRec) : (s.setTim i x).waveLog = s.waveLog := rfl
@[simp] theorem State.setTim_readoutDue (s : State) (i : Nat) (x : TimRec) : (s.setTim i x).readoutDue = s.readoutDue := rfl
@[simp] theorem State.setTim_pinsHeld (s : State) (i : Nat) (x : TimRec) : (s.setTim i x).pinsHeld = s.pinsHeld := rfl
@[simp] theorem State.setTim_bar4Held (s : State) (i : Nat) (x : TimRec) : (s.setTim i x).bar4Held = s.bar4Held := rfl
@[simp] theorem State.setTim_cfgSpace (s : State) (i : Nat) (x : TimRec) : (s.setTim i x).cfgSpace = s.cfgSpace := rfl
@[simp] theorem State.setTim_gates (s : State) (i : Nat) (x : TimRec) : (s.setTim i x).gates = s.gates := rfl
@[simp] theorem State.setTim_loadHeld (s : State) (i : Nat) (x : TimRec) : (s.setTim i x).loadHeld = s.loadHeld := rfl
@[simp] theorem State.setTim_keepCopy (s : State) (i : Nat) (x : TimRec) : (s.setTim i x).keepCopy = s.keepCopy := rfl
@[simp] theorem State.setTim_storeStops (s : State) (i : Nat) (x : TimRec) : (s.setTim i x).storeStops = s.storeStops := rfl
@[simp] theorem State.setTim_spareLines (s : State) (i : Nat) (x : TimRec) : (s.setTim i x).spareLines = s.spareLines := rfl

/-! ### setPort -/

@[simp] theorem State.setPort_dict (s : State) (p : Nat) (x : PortRec) : (s.setPort p x).dict = s.dict := rfl
@[simp] theorem State.setPort_rwr (s : State) (p : Nat) (x : PortRec) : (s.setPort p x).rwr = s.rwr := rfl
@[simp] theorem State.setPort_out (s : State) (p : Nat) (x : PortRec) : (s.setPort p x).out = s.out := rfl
@[simp] theorem State.setPort_pending (s : State) (p : Nat) (x : PortRec) : (s.setPort p x).pending = s.pending := rfl
@[simp] theorem State.setPort_draws (s : State) (p : Nat) (x : PortRec) : (s.setPort p x).draws = s.draws := rfl
@[simp] theorem State.setPort_bundle (s : State) (p : Nat) (x : PortRec) : (s.setPort p x).bundle = s.bundle := rfl
@[simp] theorem State.setPort_startup (s : State) (p : Nat) (x : PortRec) : (s.setPort p x).startup = s.startup := rfl
@[simp] theorem State.setPort_startPending (s : State) (p : Nat) (x : PortRec) : (s.setPort p x).startPending = s.startPending := rfl
@[simp] theorem State.setPort_stopPending (s : State) (p : Nat) (x : PortRec) : (s.setPort p x).stopPending = s.stopPending := rfl
@[simp] theorem State.setPort_waveDue (s : State) (p : Nat) (x : PortRec) : (s.setPort p x).waveDue = s.waveDue := rfl
@[simp] theorem State.setPort_runEra (s : State) (p : Nat) (x : PortRec) : (s.setPort p x).runEra = s.runEra := rfl
@[simp] theorem State.setPort_regions (s : State) (p : Nat) (x : PortRec) : (s.setPort p x).regions = s.regions := rfl
@[simp] theorem State.setPort_planes (s : State) (p : Nat) (x : PortRec) : (s.setPort p x).planes = s.planes := rfl
@[simp] theorem State.setPort_frames (s : State) (p : Nat) (x : PortRec) : (s.setPort p x).frames = s.frames := rfl
@[simp] theorem State.setPort_latched (s : State) (p : Nat) (x : PortRec) : (s.setPort p x).latched = s.latched := rfl
@[simp] theorem State.setPort_latchXn (s : State) (p : Nat) (x : PortRec) : (s.setPort p x).latchXn = s.latchXn := rfl
@[simp] theorem State.setPort_rearm (s : State) (p : Nat) (x : PortRec) : (s.setPort p x).rearm = s.rearm := rfl
@[simp] theorem State.setPort_rearmDue (s : State) (p : Nat) (x : PortRec) : (s.setPort p x).rearmDue = s.rearmDue := rfl
@[simp] theorem State.setPort_regs (s : State) (p : Nat) (x : PortRec) : (s.setPort p x).regs = s.regs := rfl
@[simp] theorem State.setPort_huskLast (s : State) (p : Nat) (x : PortRec) : (s.setPort p x).huskLast = s.huskLast := rfl
@[simp] theorem State.setPort_delivered (s : State) (p : Nat) (x : PortRec) : (s.setPort p x).delivered = s.delivered := rfl
@[simp] theorem State.setPort_readTokens (s : State) (p : Nat) (x : PortRec) : (s.setPort p x).readTokens = s.readTokens := rfl
@[simp] theorem State.setPort_probePipe (s : State) (p : Nat) (x : PortRec) : (s.setPort p x).probePipe = s.probePipe := rfl
@[simp] theorem State.setPort_probePins (s : State) (p : Nat) (x : PortRec) : (s.setPort p x).probePins = s.probePins := rfl
@[simp] theorem State.setPort_probeBlocks (s : State) (p : Nat) (x : PortRec) : (s.setPort p x).probeBlocks = s.probeBlocks := rfl
@[simp] theorem State.setPort_probeHeld (s : State) (p : Nat) (x : PortRec) : (s.setPort p x).probeHeld = s.probeHeld := rfl
@[simp] theorem State.setPort_bankMem (s : State) (p : Nat) (x : PortRec) : (s.setPort p x).bankMem = s.bankMem := rfl
@[simp] theorem State.setPort_queues (s : State) (p : Nat) (x : PortRec) : (s.setPort p x).queues = s.queues := rfl
@[simp] theorem State.setPort_patrol (s : State) (p : Nat) (x : PortRec) : (s.setPort p x).patrol = s.patrol := rfl
@[simp] theorem State.setPort_repairs (s : State) (p : Nat) (x : PortRec) : (s.setPort p x).repairs = s.repairs := rfl
@[simp] theorem State.setPort_storedMap (s : State) (p : Nat) (x : PortRec) : (s.setPort p x).storedMap = s.storedMap := rfl
@[simp] theorem State.setPort_march (s : State) (p : Nat) (x : PortRec) : (s.setPort p x).march = s.march := rfl
@[simp] theorem State.setPort_load (s : State) (p : Nat) (x : PortRec) : (s.setPort p x).load = s.load := rfl
@[simp] theorem State.setPort_migReverting (s : State) (p : Nat) (x : PortRec) : (s.setPort p x).migReverting = s.migReverting := rfl
@[simp] theorem State.setPort_migOverlap (s : State) (p : Nat) (x : PortRec) : (s.setPort p x).migOverlap = s.migOverlap := rfl
@[simp] theorem State.setPort_migWave (s : State) (p : Nat) (x : PortRec) : (s.setPort p x).migWave = s.migWave := rfl
@[simp] theorem State.setPort_migMin (s : State) (p : Nat) (x : PortRec) : (s.setPort p x).migMin = s.migMin := rfl
@[simp] theorem State.setPort_migHalted (s : State) (p : Nat) (x : PortRec) : (s.setPort p x).migHalted = s.migHalted := rfl
@[simp] theorem State.setPort_deferred (s : State) (p : Nat) (x : PortRec) : (s.setPort p x).deferred = s.deferred := rfl
@[simp] theorem State.setPort_lanes (s : State) (p : Nat) (x : PortRec) : (s.setPort p x).lanes = s.lanes := rfl
@[simp] theorem State.setPort_tx (s : State) (p : Nat) (x : PortRec) : (s.setPort p x).tx = s.tx := rfl
@[simp] theorem State.setPort_timing (s : State) (p : Nat) (x : PortRec) : (s.setPort p x).timing = s.timing := rfl
@[simp] theorem State.setPort_sourceDue (s : State) (p : Nat) (x : PortRec) : (s.setPort p x).sourceDue = s.sourceDue := rfl
@[simp] theorem State.setPort_timingNew (s : State) (p : Nat) (x : PortRec) : (s.setPort p x).timingNew = s.timingNew := rfl
@[simp] theorem State.setPort_lines (s : State) (p : Nat) (x : PortRec) : (s.setPort p x).lines = s.lines := rfl
@[simp] theorem State.setPort_slotC (s : State) (p : Nat) (x : PortRec) : (s.setPort p x).slotC = s.slotC := rfl
@[simp] theorem State.setPort_skips (s : State) (p : Nat) (x : PortRec) : (s.setPort p x).skips = s.skips := rfl
@[simp] theorem State.setPort_heldReqs (s : State) (p : Nat) (x : PortRec) : (s.setPort p x).heldReqs = s.heldReqs := rfl
@[simp] theorem State.setPort_lbif (s : State) (p : Nat) (x : PortRec) : (s.setPort p x).lbif = s.lbif := rfl
@[simp] theorem State.setPort_bar2Held (s : State) (p : Nat) (x : PortRec) : (s.setPort p x).bar2Held = s.bar2Held := rfl
@[simp] theorem State.setPort_scrubPos (s : State) (p : Nat) (x : PortRec) : (s.setPort p x).scrubPos = s.scrubPos := rfl
@[simp] theorem State.setPort_nextWindow (s : State) (p : Nat) (x : PortRec) : (s.setPort p x).nextWindow = s.nextWindow := rfl
@[simp] theorem State.setPort_activationC (s : State) (p : Nat) (x : PortRec) : (s.setPort p x).activationC = s.activationC := rfl
@[simp] theorem State.setPort_derived (s : State) (p : Nat) (x : PortRec) : (s.setPort p x).derived = s.derived := rfl
@[simp] theorem State.setPort_pair (s : State) (p : Nat) (x : PortRec) : (s.setPort p x).pair = s.pair := rfl
@[simp] theorem State.setPort_outReqs (s : State) (p : Nat) (x : PortRec) : (s.setPort p x).outReqs = s.outReqs := rfl
@[simp] theorem State.setPort_msixPend (s : State) (p : Nat) (x : PortRec) : (s.setPort p x).msixPend = s.msixPend := rfl
@[simp] theorem State.setPort_msixHold (s : State) (p : Nat) (x : PortRec) : (s.setPort p x).msixHold = s.msixHold := rfl
@[simp] theorem State.setPort_msixTable (s : State) (p : Nat) (x : PortRec) : (s.setPort p x).msixTable = s.msixTable := rfl
@[simp] theorem State.setPort_keepLines (s : State) (p : Nat) (x : PortRec) : (s.setPort p x).keepLines = s.keepLines := rfl
@[simp] theorem State.setPort_engines (s : State) (p : Nat) (x : PortRec) : (s.setPort p x).engines = s.engines := rfl
@[simp] theorem State.setPort_readoutQueue (s : State) (p : Nat) (x : PortRec) : (s.setPort p x).readoutQueue = s.readoutQueue := rfl
@[simp] theorem State.setPort_kernels (s : State) (p : Nat) (x : PortRec) : (s.setPort p x).kernels = s.kernels := rfl
@[simp] theorem State.setPort_transfers (s : State) (p : Nat) (x : PortRec) : (s.setPort p x).transfers = s.transfers := rfl
@[simp] theorem State.setPort_mailboxes (s : State) (p : Nat) (x : PortRec) : (s.setPort p x).mailboxes = s.mailboxes := rfl
@[simp] theorem State.setPort_can (s : State) (p : Nat) (x : PortRec) : (s.setPort p x).can = s.can := rfl
@[simp] theorem State.setPort_canOpen (s : State) (p : Nat) (x : PortRec) : (s.setPort p x).canOpen = s.canOpen := rfl
@[simp] theorem State.setPort_design (s : State) (p : Nat) (x : PortRec) : (s.setPort p x).design = s.design := rfl
@[simp] theorem State.setPort_designQ (s : State) (p : Nat) (x : PortRec) : (s.setPort p x).designQ = s.designQ := rfl
@[simp] theorem State.setPort_designTag (s : State) (p : Nat) (x : PortRec) : (s.setPort p x).designTag = s.designTag := rfl
@[simp] theorem State.setPort_userVals (s : State) (p : Nat) (x : PortRec) : (s.setPort p x).userVals = s.userVals := rfl
@[simp] theorem State.setPort_portReq (s : State) (p : Nat) (x : PortRec) : (s.setPort p x).portReq = s.portReq := rfl
@[simp] theorem State.setPort_portOut (s : State) (p : Nat) (x : PortRec) : (s.setPort p x).portOut = s.portOut := rfl
@[simp] theorem State.setPort_portIn (s : State) (p : Nat) (x : PortRec) : (s.setPort p x).portIn = s.portIn := rfl
@[simp] theorem State.setPort_portMsgs (s : State) (p : Nat) (x : PortRec) : (s.setPort p x).portMsgs = s.portMsgs := rfl
@[simp] theorem State.setPort_domains (s : State) (p : Nat) (x : PortRec) : (s.setPort p x).domains = s.domains := rfl
@[simp] theorem State.setPort_sensors (s : State) (p : Nat) (x : PortRec) : (s.setPort p x).sensors = s.sensors := rfl
@[simp] theorem State.setPort_thermal (s : State) (p : Nat) (x : PortRec) : (s.setPort p x).thermal = s.thermal := rfl
@[simp] theorem State.setPort_collector (s : State) (p : Nat) (x : PortRec) : (s.setPort p x).collector = s.collector := rfl
@[simp] theorem State.setPort_security (s : State) (p : Nat) (x : PortRec) : (s.setPort p x).security = s.security := rfl
@[simp] theorem State.setPort_rd_frame (s : State) (p : Nat) (x : PortRec) (u w : Nat) : (s.setPort p x).rd u w = s.rd u w := rfl
@[simp] theorem State.setPort_region_frame (s : State) (p : Nat) (x : PortRec) (u : Nat) : (s.setPort p x).region u = s.region u := rfl
@[simp] theorem State.setPort_plane_frame (s : State) (p : Nat) (x : PortRec) (u w : Nat) : (s.setPort p x).plane u w = s.plane u w := rfl
@[simp] theorem State.setPort_frame_frame (s : State) (p : Nat) (x : PortRec) (u w z : Nat) : (s.setPort p x).frame u w z = s.frame u w z := rfl
@[simp] theorem State.setPort_queue_frame (s : State) (p : Nat) (x : PortRec) (u : Nat) : (s.setPort p x).queue u = s.queue u := rfl
@[simp] theorem State.setPort_lane_frame (s : State) (p : Nat) (x : PortRec) (u : Nat) : (s.setPort p x).lane u = s.lane u := rfl
@[simp] theorem State.setPort_txLane_frame (s : State) (p : Nat) (x : PortRec) (u : Nat) : (s.setPort p x).txLane u = s.txLane u := rfl
@[simp] theorem State.setPort_tim_frame (s : State) (p : Nat) (x : PortRec) (u : Nat) : (s.setPort p x).tim u = s.tim u := rfl
@[simp] theorem State.setPort_engine_frame (s : State) (p : Nat) (x : PortRec) (u : Nat) : (s.setPort p x).engine u = s.engine u := rfl
@[simp] theorem State.setPort_kernel_frame (s : State) (p : Nat) (x : PortRec) (u : Nat) : (s.setPort p x).kernel u = s.kernel u := rfl
@[simp] theorem State.setPort_mailbox_frame (s : State) (p : Nat) (x : PortRec) (u : Nat) : (s.setPort p x).mailbox u = s.mailbox u := rfl
@[simp] theorem State.setPort_canCh_frame (s : State) (p : Nat) (x : PortRec) (u : Nat) : (s.setPort p x).canCh u = s.canCh u := rfl
@[simp] theorem State.setPort_dom_frame (s : State) (p : Nat) (x : PortRec) (u : Nat) : (s.setPort p x).dom u = s.dom u := rfl
@[simp] theorem State.setPort_sensor_frame (s : State) (p : Nat) (x : PortRec) (u : Nat) : (s.setPort p x).sensor u = s.sensor u := rfl
@[simp] theorem State.setPort_image_frame (s : State) (p : Nat) (x : PortRec) (u w : Nat) : (s.setPort p x).image u w = s.image u w := rfl
@[simp] theorem State.setPort_waveLog (s : State) (p : Nat) (x : PortRec) : (s.setPort p x).waveLog = s.waveLog := rfl
@[simp] theorem State.setPort_readoutDue (s : State) (p : Nat) (x : PortRec) : (s.setPort p x).readoutDue = s.readoutDue := rfl
@[simp] theorem State.setPort_pinsHeld (s : State) (p : Nat) (x : PortRec) : (s.setPort p x).pinsHeld = s.pinsHeld := rfl
@[simp] theorem State.setPort_bar4Held (s : State) (p : Nat) (x : PortRec) : (s.setPort p x).bar4Held = s.bar4Held := rfl
@[simp] theorem State.setPort_cfgSpace (s : State) (p : Nat) (x : PortRec) : (s.setPort p x).cfgSpace = s.cfgSpace := rfl
@[simp] theorem State.setPort_gates (s : State) (p : Nat) (x : PortRec) : (s.setPort p x).gates = s.gates := rfl
@[simp] theorem State.setPort_loadHeld (s : State) (p : Nat) (x : PortRec) : (s.setPort p x).loadHeld = s.loadHeld := rfl
@[simp] theorem State.setPort_keepCopy (s : State) (p : Nat) (x : PortRec) : (s.setPort p x).keepCopy = s.keepCopy := rfl
@[simp] theorem State.setPort_storeStops (s : State) (p : Nat) (x : PortRec) : (s.setPort p x).storeStops = s.storeStops := rfl
@[simp] theorem State.setPort_spareLines (s : State) (p : Nat) (x : PortRec) : (s.setPort p x).spareLines = s.spareLines := rfl

/-! ### setEngine -/

@[simp] theorem State.setEngine_dict (s : State) (e : Nat) (x : EngRec) : (s.setEngine e x).dict = s.dict := rfl
@[simp] theorem State.setEngine_rwr (s : State) (e : Nat) (x : EngRec) : (s.setEngine e x).rwr = s.rwr := rfl
@[simp] theorem State.setEngine_out (s : State) (e : Nat) (x : EngRec) : (s.setEngine e x).out = s.out := rfl
@[simp] theorem State.setEngine_pending (s : State) (e : Nat) (x : EngRec) : (s.setEngine e x).pending = s.pending := rfl
@[simp] theorem State.setEngine_draws (s : State) (e : Nat) (x : EngRec) : (s.setEngine e x).draws = s.draws := rfl
@[simp] theorem State.setEngine_bundle (s : State) (e : Nat) (x : EngRec) : (s.setEngine e x).bundle = s.bundle := rfl
@[simp] theorem State.setEngine_startup (s : State) (e : Nat) (x : EngRec) : (s.setEngine e x).startup = s.startup := rfl
@[simp] theorem State.setEngine_startPending (s : State) (e : Nat) (x : EngRec) : (s.setEngine e x).startPending = s.startPending := rfl
@[simp] theorem State.setEngine_stopPending (s : State) (e : Nat) (x : EngRec) : (s.setEngine e x).stopPending = s.stopPending := rfl
@[simp] theorem State.setEngine_waveDue (s : State) (e : Nat) (x : EngRec) : (s.setEngine e x).waveDue = s.waveDue := rfl
@[simp] theorem State.setEngine_runEra (s : State) (e : Nat) (x : EngRec) : (s.setEngine e x).runEra = s.runEra := rfl
@[simp] theorem State.setEngine_regions (s : State) (e : Nat) (x : EngRec) : (s.setEngine e x).regions = s.regions := rfl
@[simp] theorem State.setEngine_planes (s : State) (e : Nat) (x : EngRec) : (s.setEngine e x).planes = s.planes := rfl
@[simp] theorem State.setEngine_frames (s : State) (e : Nat) (x : EngRec) : (s.setEngine e x).frames = s.frames := rfl
@[simp] theorem State.setEngine_latched (s : State) (e : Nat) (x : EngRec) : (s.setEngine e x).latched = s.latched := rfl
@[simp] theorem State.setEngine_latchXn (s : State) (e : Nat) (x : EngRec) : (s.setEngine e x).latchXn = s.latchXn := rfl
@[simp] theorem State.setEngine_rearm (s : State) (e : Nat) (x : EngRec) : (s.setEngine e x).rearm = s.rearm := rfl
@[simp] theorem State.setEngine_rearmDue (s : State) (e : Nat) (x : EngRec) : (s.setEngine e x).rearmDue = s.rearmDue := rfl
@[simp] theorem State.setEngine_regs (s : State) (e : Nat) (x : EngRec) : (s.setEngine e x).regs = s.regs := rfl
@[simp] theorem State.setEngine_huskLast (s : State) (e : Nat) (x : EngRec) : (s.setEngine e x).huskLast = s.huskLast := rfl
@[simp] theorem State.setEngine_delivered (s : State) (e : Nat) (x : EngRec) : (s.setEngine e x).delivered = s.delivered := rfl
@[simp] theorem State.setEngine_readTokens (s : State) (e : Nat) (x : EngRec) : (s.setEngine e x).readTokens = s.readTokens := rfl
@[simp] theorem State.setEngine_probePipe (s : State) (e : Nat) (x : EngRec) : (s.setEngine e x).probePipe = s.probePipe := rfl
@[simp] theorem State.setEngine_probePins (s : State) (e : Nat) (x : EngRec) : (s.setEngine e x).probePins = s.probePins := rfl
@[simp] theorem State.setEngine_probeBlocks (s : State) (e : Nat) (x : EngRec) : (s.setEngine e x).probeBlocks = s.probeBlocks := rfl
@[simp] theorem State.setEngine_probeHeld (s : State) (e : Nat) (x : EngRec) : (s.setEngine e x).probeHeld = s.probeHeld := rfl
@[simp] theorem State.setEngine_bankMem (s : State) (e : Nat) (x : EngRec) : (s.setEngine e x).bankMem = s.bankMem := rfl
@[simp] theorem State.setEngine_queues (s : State) (e : Nat) (x : EngRec) : (s.setEngine e x).queues = s.queues := rfl
@[simp] theorem State.setEngine_patrol (s : State) (e : Nat) (x : EngRec) : (s.setEngine e x).patrol = s.patrol := rfl
@[simp] theorem State.setEngine_repairs (s : State) (e : Nat) (x : EngRec) : (s.setEngine e x).repairs = s.repairs := rfl
@[simp] theorem State.setEngine_storedMap (s : State) (e : Nat) (x : EngRec) : (s.setEngine e x).storedMap = s.storedMap := rfl
@[simp] theorem State.setEngine_march (s : State) (e : Nat) (x : EngRec) : (s.setEngine e x).march = s.march := rfl
@[simp] theorem State.setEngine_load (s : State) (e : Nat) (x : EngRec) : (s.setEngine e x).load = s.load := rfl
@[simp] theorem State.setEngine_migReverting (s : State) (e : Nat) (x : EngRec) : (s.setEngine e x).migReverting = s.migReverting := rfl
@[simp] theorem State.setEngine_migOverlap (s : State) (e : Nat) (x : EngRec) : (s.setEngine e x).migOverlap = s.migOverlap := rfl
@[simp] theorem State.setEngine_migWave (s : State) (e : Nat) (x : EngRec) : (s.setEngine e x).migWave = s.migWave := rfl
@[simp] theorem State.setEngine_migMin (s : State) (e : Nat) (x : EngRec) : (s.setEngine e x).migMin = s.migMin := rfl
@[simp] theorem State.setEngine_migHalted (s : State) (e : Nat) (x : EngRec) : (s.setEngine e x).migHalted = s.migHalted := rfl
@[simp] theorem State.setEngine_deferred (s : State) (e : Nat) (x : EngRec) : (s.setEngine e x).deferred = s.deferred := rfl
@[simp] theorem State.setEngine_lanes (s : State) (e : Nat) (x : EngRec) : (s.setEngine e x).lanes = s.lanes := rfl
@[simp] theorem State.setEngine_tx (s : State) (e : Nat) (x : EngRec) : (s.setEngine e x).tx = s.tx := rfl
@[simp] theorem State.setEngine_timing (s : State) (e : Nat) (x : EngRec) : (s.setEngine e x).timing = s.timing := rfl
@[simp] theorem State.setEngine_sourceDue (s : State) (e : Nat) (x : EngRec) : (s.setEngine e x).sourceDue = s.sourceDue := rfl
@[simp] theorem State.setEngine_timingNew (s : State) (e : Nat) (x : EngRec) : (s.setEngine e x).timingNew = s.timingNew := rfl
@[simp] theorem State.setEngine_lines (s : State) (e : Nat) (x : EngRec) : (s.setEngine e x).lines = s.lines := rfl
@[simp] theorem State.setEngine_slotC (s : State) (e : Nat) (x : EngRec) : (s.setEngine e x).slotC = s.slotC := rfl
@[simp] theorem State.setEngine_skips (s : State) (e : Nat) (x : EngRec) : (s.setEngine e x).skips = s.skips := rfl
@[simp] theorem State.setEngine_heldReqs (s : State) (e : Nat) (x : EngRec) : (s.setEngine e x).heldReqs = s.heldReqs := rfl
@[simp] theorem State.setEngine_lbif (s : State) (e : Nat) (x : EngRec) : (s.setEngine e x).lbif = s.lbif := rfl
@[simp] theorem State.setEngine_bar2Held (s : State) (e : Nat) (x : EngRec) : (s.setEngine e x).bar2Held = s.bar2Held := rfl
@[simp] theorem State.setEngine_scrubPos (s : State) (e : Nat) (x : EngRec) : (s.setEngine e x).scrubPos = s.scrubPos := rfl
@[simp] theorem State.setEngine_nextWindow (s : State) (e : Nat) (x : EngRec) : (s.setEngine e x).nextWindow = s.nextWindow := rfl
@[simp] theorem State.setEngine_activationC (s : State) (e : Nat) (x : EngRec) : (s.setEngine e x).activationC = s.activationC := rfl
@[simp] theorem State.setEngine_derived (s : State) (e : Nat) (x : EngRec) : (s.setEngine e x).derived = s.derived := rfl
@[simp] theorem State.setEngine_ports (s : State) (e : Nat) (x : EngRec) : (s.setEngine e x).ports = s.ports := rfl
@[simp] theorem State.setEngine_pair (s : State) (e : Nat) (x : EngRec) : (s.setEngine e x).pair = s.pair := rfl
@[simp] theorem State.setEngine_outReqs (s : State) (e : Nat) (x : EngRec) : (s.setEngine e x).outReqs = s.outReqs := rfl
@[simp] theorem State.setEngine_msixPend (s : State) (e : Nat) (x : EngRec) : (s.setEngine e x).msixPend = s.msixPend := rfl
@[simp] theorem State.setEngine_msixHold (s : State) (e : Nat) (x : EngRec) : (s.setEngine e x).msixHold = s.msixHold := rfl
@[simp] theorem State.setEngine_msixTable (s : State) (e : Nat) (x : EngRec) : (s.setEngine e x).msixTable = s.msixTable := rfl
@[simp] theorem State.setEngine_keepLines (s : State) (e : Nat) (x : EngRec) : (s.setEngine e x).keepLines = s.keepLines := rfl
@[simp] theorem State.setEngine_readoutQueue (s : State) (e : Nat) (x : EngRec) : (s.setEngine e x).readoutQueue = s.readoutQueue := rfl
@[simp] theorem State.setEngine_kernels (s : State) (e : Nat) (x : EngRec) : (s.setEngine e x).kernels = s.kernels := rfl
@[simp] theorem State.setEngine_transfers (s : State) (e : Nat) (x : EngRec) : (s.setEngine e x).transfers = s.transfers := rfl
@[simp] theorem State.setEngine_mailboxes (s : State) (e : Nat) (x : EngRec) : (s.setEngine e x).mailboxes = s.mailboxes := rfl
@[simp] theorem State.setEngine_can (s : State) (e : Nat) (x : EngRec) : (s.setEngine e x).can = s.can := rfl
@[simp] theorem State.setEngine_canOpen (s : State) (e : Nat) (x : EngRec) : (s.setEngine e x).canOpen = s.canOpen := rfl
@[simp] theorem State.setEngine_design (s : State) (e : Nat) (x : EngRec) : (s.setEngine e x).design = s.design := rfl
@[simp] theorem State.setEngine_designQ (s : State) (e : Nat) (x : EngRec) : (s.setEngine e x).designQ = s.designQ := rfl
@[simp] theorem State.setEngine_designTag (s : State) (e : Nat) (x : EngRec) : (s.setEngine e x).designTag = s.designTag := rfl
@[simp] theorem State.setEngine_userVals (s : State) (e : Nat) (x : EngRec) : (s.setEngine e x).userVals = s.userVals := rfl
@[simp] theorem State.setEngine_portReq (s : State) (e : Nat) (x : EngRec) : (s.setEngine e x).portReq = s.portReq := rfl
@[simp] theorem State.setEngine_portOut (s : State) (e : Nat) (x : EngRec) : (s.setEngine e x).portOut = s.portOut := rfl
@[simp] theorem State.setEngine_portIn (s : State) (e : Nat) (x : EngRec) : (s.setEngine e x).portIn = s.portIn := rfl
@[simp] theorem State.setEngine_portMsgs (s : State) (e : Nat) (x : EngRec) : (s.setEngine e x).portMsgs = s.portMsgs := rfl
@[simp] theorem State.setEngine_domains (s : State) (e : Nat) (x : EngRec) : (s.setEngine e x).domains = s.domains := rfl
@[simp] theorem State.setEngine_sensors (s : State) (e : Nat) (x : EngRec) : (s.setEngine e x).sensors = s.sensors := rfl
@[simp] theorem State.setEngine_thermal (s : State) (e : Nat) (x : EngRec) : (s.setEngine e x).thermal = s.thermal := rfl
@[simp] theorem State.setEngine_collector (s : State) (e : Nat) (x : EngRec) : (s.setEngine e x).collector = s.collector := rfl
@[simp] theorem State.setEngine_security (s : State) (e : Nat) (x : EngRec) : (s.setEngine e x).security = s.security := rfl
@[simp] theorem State.setEngine_rd_frame (s : State) (e : Nat) (x : EngRec) (u w : Nat) : (s.setEngine e x).rd u w = s.rd u w := rfl
@[simp] theorem State.setEngine_region_frame (s : State) (e : Nat) (x : EngRec) (u : Nat) : (s.setEngine e x).region u = s.region u := rfl
@[simp] theorem State.setEngine_plane_frame (s : State) (e : Nat) (x : EngRec) (u w : Nat) : (s.setEngine e x).plane u w = s.plane u w := rfl
@[simp] theorem State.setEngine_frame_frame (s : State) (e : Nat) (x : EngRec) (u w z : Nat) : (s.setEngine e x).frame u w z = s.frame u w z := rfl
@[simp] theorem State.setEngine_queue_frame (s : State) (e : Nat) (x : EngRec) (u : Nat) : (s.setEngine e x).queue u = s.queue u := rfl
@[simp] theorem State.setEngine_lane_frame (s : State) (e : Nat) (x : EngRec) (u : Nat) : (s.setEngine e x).lane u = s.lane u := rfl
@[simp] theorem State.setEngine_txLane_frame (s : State) (e : Nat) (x : EngRec) (u : Nat) : (s.setEngine e x).txLane u = s.txLane u := rfl
@[simp] theorem State.setEngine_tim_frame (s : State) (e : Nat) (x : EngRec) (u : Nat) : (s.setEngine e x).tim u = s.tim u := rfl
@[simp] theorem State.setEngine_port_frame (s : State) (e : Nat) (x : EngRec) (u : Nat) : (s.setEngine e x).port u = s.port u := rfl
@[simp] theorem State.setEngine_kernel_frame (s : State) (e : Nat) (x : EngRec) (u : Nat) : (s.setEngine e x).kernel u = s.kernel u := rfl
@[simp] theorem State.setEngine_mailbox_frame (s : State) (e : Nat) (x : EngRec) (u : Nat) : (s.setEngine e x).mailbox u = s.mailbox u := rfl
@[simp] theorem State.setEngine_canCh_frame (s : State) (e : Nat) (x : EngRec) (u : Nat) : (s.setEngine e x).canCh u = s.canCh u := rfl
@[simp] theorem State.setEngine_dom_frame (s : State) (e : Nat) (x : EngRec) (u : Nat) : (s.setEngine e x).dom u = s.dom u := rfl
@[simp] theorem State.setEngine_sensor_frame (s : State) (e : Nat) (x : EngRec) (u : Nat) : (s.setEngine e x).sensor u = s.sensor u := rfl
@[simp] theorem State.setEngine_image_frame (s : State) (e : Nat) (x : EngRec) (u w : Nat) : (s.setEngine e x).image u w = s.image u w := rfl
@[simp] theorem State.setEngine_waveLog (s : State) (e : Nat) (x : EngRec) : (s.setEngine e x).waveLog = s.waveLog := rfl
@[simp] theorem State.setEngine_readoutDue (s : State) (e : Nat) (x : EngRec) : (s.setEngine e x).readoutDue = s.readoutDue := rfl
@[simp] theorem State.setEngine_pinsHeld (s : State) (e : Nat) (x : EngRec) : (s.setEngine e x).pinsHeld = s.pinsHeld := rfl
@[simp] theorem State.setEngine_bar4Held (s : State) (e : Nat) (x : EngRec) : (s.setEngine e x).bar4Held = s.bar4Held := rfl
@[simp] theorem State.setEngine_cfgSpace (s : State) (e : Nat) (x : EngRec) : (s.setEngine e x).cfgSpace = s.cfgSpace := rfl
@[simp] theorem State.setEngine_gates (s : State) (e : Nat) (x : EngRec) : (s.setEngine e x).gates = s.gates := rfl
@[simp] theorem State.setEngine_loadHeld (s : State) (e : Nat) (x : EngRec) : (s.setEngine e x).loadHeld = s.loadHeld := rfl
@[simp] theorem State.setEngine_keepCopy (s : State) (e : Nat) (x : EngRec) : (s.setEngine e x).keepCopy = s.keepCopy := rfl
@[simp] theorem State.setEngine_storeStops (s : State) (e : Nat) (x : EngRec) : (s.setEngine e x).storeStops = s.storeStops := rfl
@[simp] theorem State.setEngine_spareLines (s : State) (e : Nat) (x : EngRec) : (s.setEngine e x).spareLines = s.spareLines := rfl

/-! ### setKernel -/

@[simp] theorem State.setKernel_dict (s : State) (k : Nat) (x : KernelRec) : (s.setKernel k x).dict = s.dict := rfl
@[simp] theorem State.setKernel_rwr (s : State) (k : Nat) (x : KernelRec) : (s.setKernel k x).rwr = s.rwr := rfl
@[simp] theorem State.setKernel_out (s : State) (k : Nat) (x : KernelRec) : (s.setKernel k x).out = s.out := rfl
@[simp] theorem State.setKernel_pending (s : State) (k : Nat) (x : KernelRec) : (s.setKernel k x).pending = s.pending := rfl
@[simp] theorem State.setKernel_draws (s : State) (k : Nat) (x : KernelRec) : (s.setKernel k x).draws = s.draws := rfl
@[simp] theorem State.setKernel_bundle (s : State) (k : Nat) (x : KernelRec) : (s.setKernel k x).bundle = s.bundle := rfl
@[simp] theorem State.setKernel_startup (s : State) (k : Nat) (x : KernelRec) : (s.setKernel k x).startup = s.startup := rfl
@[simp] theorem State.setKernel_startPending (s : State) (k : Nat) (x : KernelRec) : (s.setKernel k x).startPending = s.startPending := rfl
@[simp] theorem State.setKernel_stopPending (s : State) (k : Nat) (x : KernelRec) : (s.setKernel k x).stopPending = s.stopPending := rfl
@[simp] theorem State.setKernel_waveDue (s : State) (k : Nat) (x : KernelRec) : (s.setKernel k x).waveDue = s.waveDue := rfl
@[simp] theorem State.setKernel_runEra (s : State) (k : Nat) (x : KernelRec) : (s.setKernel k x).runEra = s.runEra := rfl
@[simp] theorem State.setKernel_regions (s : State) (k : Nat) (x : KernelRec) : (s.setKernel k x).regions = s.regions := rfl
@[simp] theorem State.setKernel_planes (s : State) (k : Nat) (x : KernelRec) : (s.setKernel k x).planes = s.planes := rfl
@[simp] theorem State.setKernel_frames (s : State) (k : Nat) (x : KernelRec) : (s.setKernel k x).frames = s.frames := rfl
@[simp] theorem State.setKernel_latched (s : State) (k : Nat) (x : KernelRec) : (s.setKernel k x).latched = s.latched := rfl
@[simp] theorem State.setKernel_latchXn (s : State) (k : Nat) (x : KernelRec) : (s.setKernel k x).latchXn = s.latchXn := rfl
@[simp] theorem State.setKernel_rearm (s : State) (k : Nat) (x : KernelRec) : (s.setKernel k x).rearm = s.rearm := rfl
@[simp] theorem State.setKernel_rearmDue (s : State) (k : Nat) (x : KernelRec) : (s.setKernel k x).rearmDue = s.rearmDue := rfl
@[simp] theorem State.setKernel_regs (s : State) (k : Nat) (x : KernelRec) : (s.setKernel k x).regs = s.regs := rfl
@[simp] theorem State.setKernel_huskLast (s : State) (k : Nat) (x : KernelRec) : (s.setKernel k x).huskLast = s.huskLast := rfl
@[simp] theorem State.setKernel_delivered (s : State) (k : Nat) (x : KernelRec) : (s.setKernel k x).delivered = s.delivered := rfl
@[simp] theorem State.setKernel_readTokens (s : State) (k : Nat) (x : KernelRec) : (s.setKernel k x).readTokens = s.readTokens := rfl
@[simp] theorem State.setKernel_probePipe (s : State) (k : Nat) (x : KernelRec) : (s.setKernel k x).probePipe = s.probePipe := rfl
@[simp] theorem State.setKernel_probePins (s : State) (k : Nat) (x : KernelRec) : (s.setKernel k x).probePins = s.probePins := rfl
@[simp] theorem State.setKernel_probeBlocks (s : State) (k : Nat) (x : KernelRec) : (s.setKernel k x).probeBlocks = s.probeBlocks := rfl
@[simp] theorem State.setKernel_probeHeld (s : State) (k : Nat) (x : KernelRec) : (s.setKernel k x).probeHeld = s.probeHeld := rfl
@[simp] theorem State.setKernel_bankMem (s : State) (k : Nat) (x : KernelRec) : (s.setKernel k x).bankMem = s.bankMem := rfl
@[simp] theorem State.setKernel_queues (s : State) (k : Nat) (x : KernelRec) : (s.setKernel k x).queues = s.queues := rfl
@[simp] theorem State.setKernel_patrol (s : State) (k : Nat) (x : KernelRec) : (s.setKernel k x).patrol = s.patrol := rfl
@[simp] theorem State.setKernel_repairs (s : State) (k : Nat) (x : KernelRec) : (s.setKernel k x).repairs = s.repairs := rfl
@[simp] theorem State.setKernel_storedMap (s : State) (k : Nat) (x : KernelRec) : (s.setKernel k x).storedMap = s.storedMap := rfl
@[simp] theorem State.setKernel_march (s : State) (k : Nat) (x : KernelRec) : (s.setKernel k x).march = s.march := rfl
@[simp] theorem State.setKernel_load (s : State) (k : Nat) (x : KernelRec) : (s.setKernel k x).load = s.load := rfl
@[simp] theorem State.setKernel_migReverting (s : State) (k : Nat) (x : KernelRec) : (s.setKernel k x).migReverting = s.migReverting := rfl
@[simp] theorem State.setKernel_migOverlap (s : State) (k : Nat) (x : KernelRec) : (s.setKernel k x).migOverlap = s.migOverlap := rfl
@[simp] theorem State.setKernel_migWave (s : State) (k : Nat) (x : KernelRec) : (s.setKernel k x).migWave = s.migWave := rfl
@[simp] theorem State.setKernel_migMin (s : State) (k : Nat) (x : KernelRec) : (s.setKernel k x).migMin = s.migMin := rfl
@[simp] theorem State.setKernel_migHalted (s : State) (k : Nat) (x : KernelRec) : (s.setKernel k x).migHalted = s.migHalted := rfl
@[simp] theorem State.setKernel_deferred (s : State) (k : Nat) (x : KernelRec) : (s.setKernel k x).deferred = s.deferred := rfl
@[simp] theorem State.setKernel_lanes (s : State) (k : Nat) (x : KernelRec) : (s.setKernel k x).lanes = s.lanes := rfl
@[simp] theorem State.setKernel_tx (s : State) (k : Nat) (x : KernelRec) : (s.setKernel k x).tx = s.tx := rfl
@[simp] theorem State.setKernel_timing (s : State) (k : Nat) (x : KernelRec) : (s.setKernel k x).timing = s.timing := rfl
@[simp] theorem State.setKernel_sourceDue (s : State) (k : Nat) (x : KernelRec) : (s.setKernel k x).sourceDue = s.sourceDue := rfl
@[simp] theorem State.setKernel_timingNew (s : State) (k : Nat) (x : KernelRec) : (s.setKernel k x).timingNew = s.timingNew := rfl
@[simp] theorem State.setKernel_lines (s : State) (k : Nat) (x : KernelRec) : (s.setKernel k x).lines = s.lines := rfl
@[simp] theorem State.setKernel_slotC (s : State) (k : Nat) (x : KernelRec) : (s.setKernel k x).slotC = s.slotC := rfl
@[simp] theorem State.setKernel_skips (s : State) (k : Nat) (x : KernelRec) : (s.setKernel k x).skips = s.skips := rfl
@[simp] theorem State.setKernel_heldReqs (s : State) (k : Nat) (x : KernelRec) : (s.setKernel k x).heldReqs = s.heldReqs := rfl
@[simp] theorem State.setKernel_lbif (s : State) (k : Nat) (x : KernelRec) : (s.setKernel k x).lbif = s.lbif := rfl
@[simp] theorem State.setKernel_bar2Held (s : State) (k : Nat) (x : KernelRec) : (s.setKernel k x).bar2Held = s.bar2Held := rfl
@[simp] theorem State.setKernel_scrubPos (s : State) (k : Nat) (x : KernelRec) : (s.setKernel k x).scrubPos = s.scrubPos := rfl
@[simp] theorem State.setKernel_nextWindow (s : State) (k : Nat) (x : KernelRec) : (s.setKernel k x).nextWindow = s.nextWindow := rfl
@[simp] theorem State.setKernel_activationC (s : State) (k : Nat) (x : KernelRec) : (s.setKernel k x).activationC = s.activationC := rfl
@[simp] theorem State.setKernel_derived (s : State) (k : Nat) (x : KernelRec) : (s.setKernel k x).derived = s.derived := rfl
@[simp] theorem State.setKernel_ports (s : State) (k : Nat) (x : KernelRec) : (s.setKernel k x).ports = s.ports := rfl
@[simp] theorem State.setKernel_pair (s : State) (k : Nat) (x : KernelRec) : (s.setKernel k x).pair = s.pair := rfl
@[simp] theorem State.setKernel_outReqs (s : State) (k : Nat) (x : KernelRec) : (s.setKernel k x).outReqs = s.outReqs := rfl
@[simp] theorem State.setKernel_msixPend (s : State) (k : Nat) (x : KernelRec) : (s.setKernel k x).msixPend = s.msixPend := rfl
@[simp] theorem State.setKernel_msixHold (s : State) (k : Nat) (x : KernelRec) : (s.setKernel k x).msixHold = s.msixHold := rfl
@[simp] theorem State.setKernel_msixTable (s : State) (k : Nat) (x : KernelRec) : (s.setKernel k x).msixTable = s.msixTable := rfl
@[simp] theorem State.setKernel_keepLines (s : State) (k : Nat) (x : KernelRec) : (s.setKernel k x).keepLines = s.keepLines := rfl
@[simp] theorem State.setKernel_engines (s : State) (k : Nat) (x : KernelRec) : (s.setKernel k x).engines = s.engines := rfl
@[simp] theorem State.setKernel_readoutQueue (s : State) (k : Nat) (x : KernelRec) : (s.setKernel k x).readoutQueue = s.readoutQueue := rfl
@[simp] theorem State.setKernel_transfers (s : State) (k : Nat) (x : KernelRec) : (s.setKernel k x).transfers = s.transfers := rfl
@[simp] theorem State.setKernel_mailboxes (s : State) (k : Nat) (x : KernelRec) : (s.setKernel k x).mailboxes = s.mailboxes := rfl
@[simp] theorem State.setKernel_can (s : State) (k : Nat) (x : KernelRec) : (s.setKernel k x).can = s.can := rfl
@[simp] theorem State.setKernel_canOpen (s : State) (k : Nat) (x : KernelRec) : (s.setKernel k x).canOpen = s.canOpen := rfl
@[simp] theorem State.setKernel_design (s : State) (k : Nat) (x : KernelRec) : (s.setKernel k x).design = s.design := rfl
@[simp] theorem State.setKernel_designQ (s : State) (k : Nat) (x : KernelRec) : (s.setKernel k x).designQ = s.designQ := rfl
@[simp] theorem State.setKernel_designTag (s : State) (k : Nat) (x : KernelRec) : (s.setKernel k x).designTag = s.designTag := rfl
@[simp] theorem State.setKernel_userVals (s : State) (k : Nat) (x : KernelRec) : (s.setKernel k x).userVals = s.userVals := rfl
@[simp] theorem State.setKernel_portReq (s : State) (k : Nat) (x : KernelRec) : (s.setKernel k x).portReq = s.portReq := rfl
@[simp] theorem State.setKernel_portOut (s : State) (k : Nat) (x : KernelRec) : (s.setKernel k x).portOut = s.portOut := rfl
@[simp] theorem State.setKernel_portIn (s : State) (k : Nat) (x : KernelRec) : (s.setKernel k x).portIn = s.portIn := rfl
@[simp] theorem State.setKernel_portMsgs (s : State) (k : Nat) (x : KernelRec) : (s.setKernel k x).portMsgs = s.portMsgs := rfl
@[simp] theorem State.setKernel_domains (s : State) (k : Nat) (x : KernelRec) : (s.setKernel k x).domains = s.domains := rfl
@[simp] theorem State.setKernel_sensors (s : State) (k : Nat) (x : KernelRec) : (s.setKernel k x).sensors = s.sensors := rfl
@[simp] theorem State.setKernel_thermal (s : State) (k : Nat) (x : KernelRec) : (s.setKernel k x).thermal = s.thermal := rfl
@[simp] theorem State.setKernel_collector (s : State) (k : Nat) (x : KernelRec) : (s.setKernel k x).collector = s.collector := rfl
@[simp] theorem State.setKernel_security (s : State) (k : Nat) (x : KernelRec) : (s.setKernel k x).security = s.security := rfl
@[simp] theorem State.setKernel_rd_frame (s : State) (k : Nat) (x : KernelRec) (u w : Nat) : (s.setKernel k x).rd u w = s.rd u w := rfl
@[simp] theorem State.setKernel_region_frame (s : State) (k : Nat) (x : KernelRec) (u : Nat) : (s.setKernel k x).region u = s.region u := rfl
@[simp] theorem State.setKernel_plane_frame (s : State) (k : Nat) (x : KernelRec) (u w : Nat) : (s.setKernel k x).plane u w = s.plane u w := rfl
@[simp] theorem State.setKernel_frame_frame (s : State) (k : Nat) (x : KernelRec) (u w z : Nat) : (s.setKernel k x).frame u w z = s.frame u w z := rfl
@[simp] theorem State.setKernel_queue_frame (s : State) (k : Nat) (x : KernelRec) (u : Nat) : (s.setKernel k x).queue u = s.queue u := rfl
@[simp] theorem State.setKernel_lane_frame (s : State) (k : Nat) (x : KernelRec) (u : Nat) : (s.setKernel k x).lane u = s.lane u := rfl
@[simp] theorem State.setKernel_txLane_frame (s : State) (k : Nat) (x : KernelRec) (u : Nat) : (s.setKernel k x).txLane u = s.txLane u := rfl
@[simp] theorem State.setKernel_tim_frame (s : State) (k : Nat) (x : KernelRec) (u : Nat) : (s.setKernel k x).tim u = s.tim u := rfl
@[simp] theorem State.setKernel_port_frame (s : State) (k : Nat) (x : KernelRec) (u : Nat) : (s.setKernel k x).port u = s.port u := rfl
@[simp] theorem State.setKernel_engine_frame (s : State) (k : Nat) (x : KernelRec) (u : Nat) : (s.setKernel k x).engine u = s.engine u := rfl
@[simp] theorem State.setKernel_mailbox_frame (s : State) (k : Nat) (x : KernelRec) (u : Nat) : (s.setKernel k x).mailbox u = s.mailbox u := rfl
@[simp] theorem State.setKernel_canCh_frame (s : State) (k : Nat) (x : KernelRec) (u : Nat) : (s.setKernel k x).canCh u = s.canCh u := rfl
@[simp] theorem State.setKernel_dom_frame (s : State) (k : Nat) (x : KernelRec) (u : Nat) : (s.setKernel k x).dom u = s.dom u := rfl
@[simp] theorem State.setKernel_sensor_frame (s : State) (k : Nat) (x : KernelRec) (u : Nat) : (s.setKernel k x).sensor u = s.sensor u := rfl
@[simp] theorem State.setKernel_image_frame (s : State) (k : Nat) (x : KernelRec) (u w : Nat) : (s.setKernel k x).image u w = s.image u w := rfl
@[simp] theorem State.setKernel_waveLog (s : State) (k : Nat) (x : KernelRec) : (s.setKernel k x).waveLog = s.waveLog := rfl
@[simp] theorem State.setKernel_readoutDue (s : State) (k : Nat) (x : KernelRec) : (s.setKernel k x).readoutDue = s.readoutDue := rfl
@[simp] theorem State.setKernel_pinsHeld (s : State) (k : Nat) (x : KernelRec) : (s.setKernel k x).pinsHeld = s.pinsHeld := rfl
@[simp] theorem State.setKernel_bar4Held (s : State) (k : Nat) (x : KernelRec) : (s.setKernel k x).bar4Held = s.bar4Held := rfl
@[simp] theorem State.setKernel_cfgSpace (s : State) (k : Nat) (x : KernelRec) : (s.setKernel k x).cfgSpace = s.cfgSpace := rfl
@[simp] theorem State.setKernel_gates (s : State) (k : Nat) (x : KernelRec) : (s.setKernel k x).gates = s.gates := rfl
@[simp] theorem State.setKernel_loadHeld (s : State) (k : Nat) (x : KernelRec) : (s.setKernel k x).loadHeld = s.loadHeld := rfl
@[simp] theorem State.setKernel_keepCopy (s : State) (k : Nat) (x : KernelRec) : (s.setKernel k x).keepCopy = s.keepCopy := rfl
@[simp] theorem State.setKernel_storeStops (s : State) (k : Nat) (x : KernelRec) : (s.setKernel k x).storeStops = s.storeStops := rfl
@[simp] theorem State.setKernel_spareLines (s : State) (k : Nat) (x : KernelRec) : (s.setKernel k x).spareLines = s.spareLines := rfl

/-! ### setMailbox -/

@[simp] theorem State.setMailbox_dict (s : State) (m : Nat) (x : MailboxRec) : (s.setMailbox m x).dict = s.dict := rfl
@[simp] theorem State.setMailbox_rwr (s : State) (m : Nat) (x : MailboxRec) : (s.setMailbox m x).rwr = s.rwr := rfl
@[simp] theorem State.setMailbox_out (s : State) (m : Nat) (x : MailboxRec) : (s.setMailbox m x).out = s.out := rfl
@[simp] theorem State.setMailbox_pending (s : State) (m : Nat) (x : MailboxRec) : (s.setMailbox m x).pending = s.pending := rfl
@[simp] theorem State.setMailbox_draws (s : State) (m : Nat) (x : MailboxRec) : (s.setMailbox m x).draws = s.draws := rfl
@[simp] theorem State.setMailbox_bundle (s : State) (m : Nat) (x : MailboxRec) : (s.setMailbox m x).bundle = s.bundle := rfl
@[simp] theorem State.setMailbox_startup (s : State) (m : Nat) (x : MailboxRec) : (s.setMailbox m x).startup = s.startup := rfl
@[simp] theorem State.setMailbox_startPending (s : State) (m : Nat) (x : MailboxRec) : (s.setMailbox m x).startPending = s.startPending := rfl
@[simp] theorem State.setMailbox_stopPending (s : State) (m : Nat) (x : MailboxRec) : (s.setMailbox m x).stopPending = s.stopPending := rfl
@[simp] theorem State.setMailbox_waveDue (s : State) (m : Nat) (x : MailboxRec) : (s.setMailbox m x).waveDue = s.waveDue := rfl
@[simp] theorem State.setMailbox_runEra (s : State) (m : Nat) (x : MailboxRec) : (s.setMailbox m x).runEra = s.runEra := rfl
@[simp] theorem State.setMailbox_regions (s : State) (m : Nat) (x : MailboxRec) : (s.setMailbox m x).regions = s.regions := rfl
@[simp] theorem State.setMailbox_planes (s : State) (m : Nat) (x : MailboxRec) : (s.setMailbox m x).planes = s.planes := rfl
@[simp] theorem State.setMailbox_frames (s : State) (m : Nat) (x : MailboxRec) : (s.setMailbox m x).frames = s.frames := rfl
@[simp] theorem State.setMailbox_latched (s : State) (m : Nat) (x : MailboxRec) : (s.setMailbox m x).latched = s.latched := rfl
@[simp] theorem State.setMailbox_latchXn (s : State) (m : Nat) (x : MailboxRec) : (s.setMailbox m x).latchXn = s.latchXn := rfl
@[simp] theorem State.setMailbox_rearm (s : State) (m : Nat) (x : MailboxRec) : (s.setMailbox m x).rearm = s.rearm := rfl
@[simp] theorem State.setMailbox_rearmDue (s : State) (m : Nat) (x : MailboxRec) : (s.setMailbox m x).rearmDue = s.rearmDue := rfl
@[simp] theorem State.setMailbox_regs (s : State) (m : Nat) (x : MailboxRec) : (s.setMailbox m x).regs = s.regs := rfl
@[simp] theorem State.setMailbox_huskLast (s : State) (m : Nat) (x : MailboxRec) : (s.setMailbox m x).huskLast = s.huskLast := rfl
@[simp] theorem State.setMailbox_delivered (s : State) (m : Nat) (x : MailboxRec) : (s.setMailbox m x).delivered = s.delivered := rfl
@[simp] theorem State.setMailbox_readTokens (s : State) (m : Nat) (x : MailboxRec) : (s.setMailbox m x).readTokens = s.readTokens := rfl
@[simp] theorem State.setMailbox_probePipe (s : State) (m : Nat) (x : MailboxRec) : (s.setMailbox m x).probePipe = s.probePipe := rfl
@[simp] theorem State.setMailbox_probePins (s : State) (m : Nat) (x : MailboxRec) : (s.setMailbox m x).probePins = s.probePins := rfl
@[simp] theorem State.setMailbox_probeBlocks (s : State) (m : Nat) (x : MailboxRec) : (s.setMailbox m x).probeBlocks = s.probeBlocks := rfl
@[simp] theorem State.setMailbox_probeHeld (s : State) (m : Nat) (x : MailboxRec) : (s.setMailbox m x).probeHeld = s.probeHeld := rfl
@[simp] theorem State.setMailbox_bankMem (s : State) (m : Nat) (x : MailboxRec) : (s.setMailbox m x).bankMem = s.bankMem := rfl
@[simp] theorem State.setMailbox_queues (s : State) (m : Nat) (x : MailboxRec) : (s.setMailbox m x).queues = s.queues := rfl
@[simp] theorem State.setMailbox_patrol (s : State) (m : Nat) (x : MailboxRec) : (s.setMailbox m x).patrol = s.patrol := rfl
@[simp] theorem State.setMailbox_repairs (s : State) (m : Nat) (x : MailboxRec) : (s.setMailbox m x).repairs = s.repairs := rfl
@[simp] theorem State.setMailbox_storedMap (s : State) (m : Nat) (x : MailboxRec) : (s.setMailbox m x).storedMap = s.storedMap := rfl
@[simp] theorem State.setMailbox_march (s : State) (m : Nat) (x : MailboxRec) : (s.setMailbox m x).march = s.march := rfl
@[simp] theorem State.setMailbox_load (s : State) (m : Nat) (x : MailboxRec) : (s.setMailbox m x).load = s.load := rfl
@[simp] theorem State.setMailbox_migReverting (s : State) (m : Nat) (x : MailboxRec) : (s.setMailbox m x).migReverting = s.migReverting := rfl
@[simp] theorem State.setMailbox_migOverlap (s : State) (m : Nat) (x : MailboxRec) : (s.setMailbox m x).migOverlap = s.migOverlap := rfl
@[simp] theorem State.setMailbox_migWave (s : State) (m : Nat) (x : MailboxRec) : (s.setMailbox m x).migWave = s.migWave := rfl
@[simp] theorem State.setMailbox_migMin (s : State) (m : Nat) (x : MailboxRec) : (s.setMailbox m x).migMin = s.migMin := rfl
@[simp] theorem State.setMailbox_migHalted (s : State) (m : Nat) (x : MailboxRec) : (s.setMailbox m x).migHalted = s.migHalted := rfl
@[simp] theorem State.setMailbox_deferred (s : State) (m : Nat) (x : MailboxRec) : (s.setMailbox m x).deferred = s.deferred := rfl
@[simp] theorem State.setMailbox_lanes (s : State) (m : Nat) (x : MailboxRec) : (s.setMailbox m x).lanes = s.lanes := rfl
@[simp] theorem State.setMailbox_tx (s : State) (m : Nat) (x : MailboxRec) : (s.setMailbox m x).tx = s.tx := rfl
@[simp] theorem State.setMailbox_timing (s : State) (m : Nat) (x : MailboxRec) : (s.setMailbox m x).timing = s.timing := rfl
@[simp] theorem State.setMailbox_sourceDue (s : State) (m : Nat) (x : MailboxRec) : (s.setMailbox m x).sourceDue = s.sourceDue := rfl
@[simp] theorem State.setMailbox_timingNew (s : State) (m : Nat) (x : MailboxRec) : (s.setMailbox m x).timingNew = s.timingNew := rfl
@[simp] theorem State.setMailbox_lines (s : State) (m : Nat) (x : MailboxRec) : (s.setMailbox m x).lines = s.lines := rfl
@[simp] theorem State.setMailbox_slotC (s : State) (m : Nat) (x : MailboxRec) : (s.setMailbox m x).slotC = s.slotC := rfl
@[simp] theorem State.setMailbox_skips (s : State) (m : Nat) (x : MailboxRec) : (s.setMailbox m x).skips = s.skips := rfl
@[simp] theorem State.setMailbox_heldReqs (s : State) (m : Nat) (x : MailboxRec) : (s.setMailbox m x).heldReqs = s.heldReqs := rfl
@[simp] theorem State.setMailbox_lbif (s : State) (m : Nat) (x : MailboxRec) : (s.setMailbox m x).lbif = s.lbif := rfl
@[simp] theorem State.setMailbox_bar2Held (s : State) (m : Nat) (x : MailboxRec) : (s.setMailbox m x).bar2Held = s.bar2Held := rfl
@[simp] theorem State.setMailbox_scrubPos (s : State) (m : Nat) (x : MailboxRec) : (s.setMailbox m x).scrubPos = s.scrubPos := rfl
@[simp] theorem State.setMailbox_nextWindow (s : State) (m : Nat) (x : MailboxRec) : (s.setMailbox m x).nextWindow = s.nextWindow := rfl
@[simp] theorem State.setMailbox_activationC (s : State) (m : Nat) (x : MailboxRec) : (s.setMailbox m x).activationC = s.activationC := rfl
@[simp] theorem State.setMailbox_derived (s : State) (m : Nat) (x : MailboxRec) : (s.setMailbox m x).derived = s.derived := rfl
@[simp] theorem State.setMailbox_ports (s : State) (m : Nat) (x : MailboxRec) : (s.setMailbox m x).ports = s.ports := rfl
@[simp] theorem State.setMailbox_pair (s : State) (m : Nat) (x : MailboxRec) : (s.setMailbox m x).pair = s.pair := rfl
@[simp] theorem State.setMailbox_outReqs (s : State) (m : Nat) (x : MailboxRec) : (s.setMailbox m x).outReqs = s.outReqs := rfl
@[simp] theorem State.setMailbox_msixPend (s : State) (m : Nat) (x : MailboxRec) : (s.setMailbox m x).msixPend = s.msixPend := rfl
@[simp] theorem State.setMailbox_msixHold (s : State) (m : Nat) (x : MailboxRec) : (s.setMailbox m x).msixHold = s.msixHold := rfl
@[simp] theorem State.setMailbox_msixTable (s : State) (m : Nat) (x : MailboxRec) : (s.setMailbox m x).msixTable = s.msixTable := rfl
@[simp] theorem State.setMailbox_keepLines (s : State) (m : Nat) (x : MailboxRec) : (s.setMailbox m x).keepLines = s.keepLines := rfl
@[simp] theorem State.setMailbox_engines (s : State) (m : Nat) (x : MailboxRec) : (s.setMailbox m x).engines = s.engines := rfl
@[simp] theorem State.setMailbox_readoutQueue (s : State) (m : Nat) (x : MailboxRec) : (s.setMailbox m x).readoutQueue = s.readoutQueue := rfl
@[simp] theorem State.setMailbox_kernels (s : State) (m : Nat) (x : MailboxRec) : (s.setMailbox m x).kernels = s.kernels := rfl
@[simp] theorem State.setMailbox_transfers (s : State) (m : Nat) (x : MailboxRec) : (s.setMailbox m x).transfers = s.transfers := rfl
@[simp] theorem State.setMailbox_can (s : State) (m : Nat) (x : MailboxRec) : (s.setMailbox m x).can = s.can := rfl
@[simp] theorem State.setMailbox_canOpen (s : State) (m : Nat) (x : MailboxRec) : (s.setMailbox m x).canOpen = s.canOpen := rfl
@[simp] theorem State.setMailbox_design (s : State) (m : Nat) (x : MailboxRec) : (s.setMailbox m x).design = s.design := rfl
@[simp] theorem State.setMailbox_designQ (s : State) (m : Nat) (x : MailboxRec) : (s.setMailbox m x).designQ = s.designQ := rfl
@[simp] theorem State.setMailbox_designTag (s : State) (m : Nat) (x : MailboxRec) : (s.setMailbox m x).designTag = s.designTag := rfl
@[simp] theorem State.setMailbox_userVals (s : State) (m : Nat) (x : MailboxRec) : (s.setMailbox m x).userVals = s.userVals := rfl
@[simp] theorem State.setMailbox_portReq (s : State) (m : Nat) (x : MailboxRec) : (s.setMailbox m x).portReq = s.portReq := rfl
@[simp] theorem State.setMailbox_portOut (s : State) (m : Nat) (x : MailboxRec) : (s.setMailbox m x).portOut = s.portOut := rfl
@[simp] theorem State.setMailbox_portIn (s : State) (m : Nat) (x : MailboxRec) : (s.setMailbox m x).portIn = s.portIn := rfl
@[simp] theorem State.setMailbox_portMsgs (s : State) (m : Nat) (x : MailboxRec) : (s.setMailbox m x).portMsgs = s.portMsgs := rfl
@[simp] theorem State.setMailbox_domains (s : State) (m : Nat) (x : MailboxRec) : (s.setMailbox m x).domains = s.domains := rfl
@[simp] theorem State.setMailbox_sensors (s : State) (m : Nat) (x : MailboxRec) : (s.setMailbox m x).sensors = s.sensors := rfl
@[simp] theorem State.setMailbox_thermal (s : State) (m : Nat) (x : MailboxRec) : (s.setMailbox m x).thermal = s.thermal := rfl
@[simp] theorem State.setMailbox_collector (s : State) (m : Nat) (x : MailboxRec) : (s.setMailbox m x).collector = s.collector := rfl
@[simp] theorem State.setMailbox_security (s : State) (m : Nat) (x : MailboxRec) : (s.setMailbox m x).security = s.security := rfl
@[simp] theorem State.setMailbox_rd_frame (s : State) (m : Nat) (x : MailboxRec) (u w : Nat) : (s.setMailbox m x).rd u w = s.rd u w := rfl
@[simp] theorem State.setMailbox_region_frame (s : State) (m : Nat) (x : MailboxRec) (u : Nat) : (s.setMailbox m x).region u = s.region u := rfl
@[simp] theorem State.setMailbox_plane_frame (s : State) (m : Nat) (x : MailboxRec) (u w : Nat) : (s.setMailbox m x).plane u w = s.plane u w := rfl
@[simp] theorem State.setMailbox_frame_frame (s : State) (m : Nat) (x : MailboxRec) (u w z : Nat) : (s.setMailbox m x).frame u w z = s.frame u w z := rfl
@[simp] theorem State.setMailbox_queue_frame (s : State) (m : Nat) (x : MailboxRec) (u : Nat) : (s.setMailbox m x).queue u = s.queue u := rfl
@[simp] theorem State.setMailbox_lane_frame (s : State) (m : Nat) (x : MailboxRec) (u : Nat) : (s.setMailbox m x).lane u = s.lane u := rfl
@[simp] theorem State.setMailbox_txLane_frame (s : State) (m : Nat) (x : MailboxRec) (u : Nat) : (s.setMailbox m x).txLane u = s.txLane u := rfl
@[simp] theorem State.setMailbox_tim_frame (s : State) (m : Nat) (x : MailboxRec) (u : Nat) : (s.setMailbox m x).tim u = s.tim u := rfl
@[simp] theorem State.setMailbox_port_frame (s : State) (m : Nat) (x : MailboxRec) (u : Nat) : (s.setMailbox m x).port u = s.port u := rfl
@[simp] theorem State.setMailbox_engine_frame (s : State) (m : Nat) (x : MailboxRec) (u : Nat) : (s.setMailbox m x).engine u = s.engine u := rfl
@[simp] theorem State.setMailbox_kernel_frame (s : State) (m : Nat) (x : MailboxRec) (u : Nat) : (s.setMailbox m x).kernel u = s.kernel u := rfl
@[simp] theorem State.setMailbox_canCh_frame (s : State) (m : Nat) (x : MailboxRec) (u : Nat) : (s.setMailbox m x).canCh u = s.canCh u := rfl
@[simp] theorem State.setMailbox_dom_frame (s : State) (m : Nat) (x : MailboxRec) (u : Nat) : (s.setMailbox m x).dom u = s.dom u := rfl
@[simp] theorem State.setMailbox_sensor_frame (s : State) (m : Nat) (x : MailboxRec) (u : Nat) : (s.setMailbox m x).sensor u = s.sensor u := rfl
@[simp] theorem State.setMailbox_image_frame (s : State) (m : Nat) (x : MailboxRec) (u w : Nat) : (s.setMailbox m x).image u w = s.image u w := rfl
@[simp] theorem State.setMailbox_waveLog (s : State) (m : Nat) (x : MailboxRec) : (s.setMailbox m x).waveLog = s.waveLog := rfl
@[simp] theorem State.setMailbox_readoutDue (s : State) (m : Nat) (x : MailboxRec) : (s.setMailbox m x).readoutDue = s.readoutDue := rfl
@[simp] theorem State.setMailbox_pinsHeld (s : State) (m : Nat) (x : MailboxRec) : (s.setMailbox m x).pinsHeld = s.pinsHeld := rfl
@[simp] theorem State.setMailbox_bar4Held (s : State) (m : Nat) (x : MailboxRec) : (s.setMailbox m x).bar4Held = s.bar4Held := rfl
@[simp] theorem State.setMailbox_cfgSpace (s : State) (m : Nat) (x : MailboxRec) : (s.setMailbox m x).cfgSpace = s.cfgSpace := rfl
@[simp] theorem State.setMailbox_gates (s : State) (m : Nat) (x : MailboxRec) : (s.setMailbox m x).gates = s.gates := rfl
@[simp] theorem State.setMailbox_loadHeld (s : State) (m : Nat) (x : MailboxRec) : (s.setMailbox m x).loadHeld = s.loadHeld := rfl
@[simp] theorem State.setMailbox_keepCopy (s : State) (m : Nat) (x : MailboxRec) : (s.setMailbox m x).keepCopy = s.keepCopy := rfl
@[simp] theorem State.setMailbox_storeStops (s : State) (m : Nat) (x : MailboxRec) : (s.setMailbox m x).storeStops = s.storeStops := rfl
@[simp] theorem State.setMailbox_spareLines (s : State) (m : Nat) (x : MailboxRec) : (s.setMailbox m x).spareLines = s.spareLines := rfl

/-! ### setCan -/

@[simp] theorem State.setCan_dict (s : State) (c : Nat) (x : CanRec) : (s.setCan c x).dict = s.dict := rfl
@[simp] theorem State.setCan_rwr (s : State) (c : Nat) (x : CanRec) : (s.setCan c x).rwr = s.rwr := rfl
@[simp] theorem State.setCan_out (s : State) (c : Nat) (x : CanRec) : (s.setCan c x).out = s.out := rfl
@[simp] theorem State.setCan_pending (s : State) (c : Nat) (x : CanRec) : (s.setCan c x).pending = s.pending := rfl
@[simp] theorem State.setCan_draws (s : State) (c : Nat) (x : CanRec) : (s.setCan c x).draws = s.draws := rfl
@[simp] theorem State.setCan_bundle (s : State) (c : Nat) (x : CanRec) : (s.setCan c x).bundle = s.bundle := rfl
@[simp] theorem State.setCan_startup (s : State) (c : Nat) (x : CanRec) : (s.setCan c x).startup = s.startup := rfl
@[simp] theorem State.setCan_startPending (s : State) (c : Nat) (x : CanRec) : (s.setCan c x).startPending = s.startPending := rfl
@[simp] theorem State.setCan_stopPending (s : State) (c : Nat) (x : CanRec) : (s.setCan c x).stopPending = s.stopPending := rfl
@[simp] theorem State.setCan_waveDue (s : State) (c : Nat) (x : CanRec) : (s.setCan c x).waveDue = s.waveDue := rfl
@[simp] theorem State.setCan_runEra (s : State) (c : Nat) (x : CanRec) : (s.setCan c x).runEra = s.runEra := rfl
@[simp] theorem State.setCan_regions (s : State) (c : Nat) (x : CanRec) : (s.setCan c x).regions = s.regions := rfl
@[simp] theorem State.setCan_planes (s : State) (c : Nat) (x : CanRec) : (s.setCan c x).planes = s.planes := rfl
@[simp] theorem State.setCan_frames (s : State) (c : Nat) (x : CanRec) : (s.setCan c x).frames = s.frames := rfl
@[simp] theorem State.setCan_latched (s : State) (c : Nat) (x : CanRec) : (s.setCan c x).latched = s.latched := rfl
@[simp] theorem State.setCan_latchXn (s : State) (c : Nat) (x : CanRec) : (s.setCan c x).latchXn = s.latchXn := rfl
@[simp] theorem State.setCan_rearm (s : State) (c : Nat) (x : CanRec) : (s.setCan c x).rearm = s.rearm := rfl
@[simp] theorem State.setCan_rearmDue (s : State) (c : Nat) (x : CanRec) : (s.setCan c x).rearmDue = s.rearmDue := rfl
@[simp] theorem State.setCan_regs (s : State) (c : Nat) (x : CanRec) : (s.setCan c x).regs = s.regs := rfl
@[simp] theorem State.setCan_huskLast (s : State) (c : Nat) (x : CanRec) : (s.setCan c x).huskLast = s.huskLast := rfl
@[simp] theorem State.setCan_delivered (s : State) (c : Nat) (x : CanRec) : (s.setCan c x).delivered = s.delivered := rfl
@[simp] theorem State.setCan_readTokens (s : State) (c : Nat) (x : CanRec) : (s.setCan c x).readTokens = s.readTokens := rfl
@[simp] theorem State.setCan_probePipe (s : State) (c : Nat) (x : CanRec) : (s.setCan c x).probePipe = s.probePipe := rfl
@[simp] theorem State.setCan_probePins (s : State) (c : Nat) (x : CanRec) : (s.setCan c x).probePins = s.probePins := rfl
@[simp] theorem State.setCan_probeBlocks (s : State) (c : Nat) (x : CanRec) : (s.setCan c x).probeBlocks = s.probeBlocks := rfl
@[simp] theorem State.setCan_probeHeld (s : State) (c : Nat) (x : CanRec) : (s.setCan c x).probeHeld = s.probeHeld := rfl
@[simp] theorem State.setCan_bankMem (s : State) (c : Nat) (x : CanRec) : (s.setCan c x).bankMem = s.bankMem := rfl
@[simp] theorem State.setCan_queues (s : State) (c : Nat) (x : CanRec) : (s.setCan c x).queues = s.queues := rfl
@[simp] theorem State.setCan_patrol (s : State) (c : Nat) (x : CanRec) : (s.setCan c x).patrol = s.patrol := rfl
@[simp] theorem State.setCan_repairs (s : State) (c : Nat) (x : CanRec) : (s.setCan c x).repairs = s.repairs := rfl
@[simp] theorem State.setCan_storedMap (s : State) (c : Nat) (x : CanRec) : (s.setCan c x).storedMap = s.storedMap := rfl
@[simp] theorem State.setCan_march (s : State) (c : Nat) (x : CanRec) : (s.setCan c x).march = s.march := rfl
@[simp] theorem State.setCan_load (s : State) (c : Nat) (x : CanRec) : (s.setCan c x).load = s.load := rfl
@[simp] theorem State.setCan_migReverting (s : State) (c : Nat) (x : CanRec) : (s.setCan c x).migReverting = s.migReverting := rfl
@[simp] theorem State.setCan_migOverlap (s : State) (c : Nat) (x : CanRec) : (s.setCan c x).migOverlap = s.migOverlap := rfl
@[simp] theorem State.setCan_migWave (s : State) (c : Nat) (x : CanRec) : (s.setCan c x).migWave = s.migWave := rfl
@[simp] theorem State.setCan_migMin (s : State) (c : Nat) (x : CanRec) : (s.setCan c x).migMin = s.migMin := rfl
@[simp] theorem State.setCan_migHalted (s : State) (c : Nat) (x : CanRec) : (s.setCan c x).migHalted = s.migHalted := rfl
@[simp] theorem State.setCan_deferred (s : State) (c : Nat) (x : CanRec) : (s.setCan c x).deferred = s.deferred := rfl
@[simp] theorem State.setCan_lanes (s : State) (c : Nat) (x : CanRec) : (s.setCan c x).lanes = s.lanes := rfl
@[simp] theorem State.setCan_tx (s : State) (c : Nat) (x : CanRec) : (s.setCan c x).tx = s.tx := rfl
@[simp] theorem State.setCan_timing (s : State) (c : Nat) (x : CanRec) : (s.setCan c x).timing = s.timing := rfl
@[simp] theorem State.setCan_sourceDue (s : State) (c : Nat) (x : CanRec) : (s.setCan c x).sourceDue = s.sourceDue := rfl
@[simp] theorem State.setCan_timingNew (s : State) (c : Nat) (x : CanRec) : (s.setCan c x).timingNew = s.timingNew := rfl
@[simp] theorem State.setCan_lines (s : State) (c : Nat) (x : CanRec) : (s.setCan c x).lines = s.lines := rfl
@[simp] theorem State.setCan_slotC (s : State) (c : Nat) (x : CanRec) : (s.setCan c x).slotC = s.slotC := rfl
@[simp] theorem State.setCan_skips (s : State) (c : Nat) (x : CanRec) : (s.setCan c x).skips = s.skips := rfl
@[simp] theorem State.setCan_heldReqs (s : State) (c : Nat) (x : CanRec) : (s.setCan c x).heldReqs = s.heldReqs := rfl
@[simp] theorem State.setCan_lbif (s : State) (c : Nat) (x : CanRec) : (s.setCan c x).lbif = s.lbif := rfl
@[simp] theorem State.setCan_bar2Held (s : State) (c : Nat) (x : CanRec) : (s.setCan c x).bar2Held = s.bar2Held := rfl
@[simp] theorem State.setCan_scrubPos (s : State) (c : Nat) (x : CanRec) : (s.setCan c x).scrubPos = s.scrubPos := rfl
@[simp] theorem State.setCan_nextWindow (s : State) (c : Nat) (x : CanRec) : (s.setCan c x).nextWindow = s.nextWindow := rfl
@[simp] theorem State.setCan_activationC (s : State) (c : Nat) (x : CanRec) : (s.setCan c x).activationC = s.activationC := rfl
@[simp] theorem State.setCan_derived (s : State) (c : Nat) (x : CanRec) : (s.setCan c x).derived = s.derived := rfl
@[simp] theorem State.setCan_ports (s : State) (c : Nat) (x : CanRec) : (s.setCan c x).ports = s.ports := rfl
@[simp] theorem State.setCan_pair (s : State) (c : Nat) (x : CanRec) : (s.setCan c x).pair = s.pair := rfl
@[simp] theorem State.setCan_outReqs (s : State) (c : Nat) (x : CanRec) : (s.setCan c x).outReqs = s.outReqs := rfl
@[simp] theorem State.setCan_msixPend (s : State) (c : Nat) (x : CanRec) : (s.setCan c x).msixPend = s.msixPend := rfl
@[simp] theorem State.setCan_msixHold (s : State) (c : Nat) (x : CanRec) : (s.setCan c x).msixHold = s.msixHold := rfl
@[simp] theorem State.setCan_msixTable (s : State) (c : Nat) (x : CanRec) : (s.setCan c x).msixTable = s.msixTable := rfl
@[simp] theorem State.setCan_keepLines (s : State) (c : Nat) (x : CanRec) : (s.setCan c x).keepLines = s.keepLines := rfl
@[simp] theorem State.setCan_engines (s : State) (c : Nat) (x : CanRec) : (s.setCan c x).engines = s.engines := rfl
@[simp] theorem State.setCan_readoutQueue (s : State) (c : Nat) (x : CanRec) : (s.setCan c x).readoutQueue = s.readoutQueue := rfl
@[simp] theorem State.setCan_kernels (s : State) (c : Nat) (x : CanRec) : (s.setCan c x).kernels = s.kernels := rfl
@[simp] theorem State.setCan_transfers (s : State) (c : Nat) (x : CanRec) : (s.setCan c x).transfers = s.transfers := rfl
@[simp] theorem State.setCan_mailboxes (s : State) (c : Nat) (x : CanRec) : (s.setCan c x).mailboxes = s.mailboxes := rfl
@[simp] theorem State.setCan_canOpen (s : State) (c : Nat) (x : CanRec) : (s.setCan c x).canOpen = s.canOpen := rfl
@[simp] theorem State.setCan_design (s : State) (c : Nat) (x : CanRec) : (s.setCan c x).design = s.design := rfl
@[simp] theorem State.setCan_designQ (s : State) (c : Nat) (x : CanRec) : (s.setCan c x).designQ = s.designQ := rfl
@[simp] theorem State.setCan_designTag (s : State) (c : Nat) (x : CanRec) : (s.setCan c x).designTag = s.designTag := rfl
@[simp] theorem State.setCan_userVals (s : State) (c : Nat) (x : CanRec) : (s.setCan c x).userVals = s.userVals := rfl
@[simp] theorem State.setCan_portReq (s : State) (c : Nat) (x : CanRec) : (s.setCan c x).portReq = s.portReq := rfl
@[simp] theorem State.setCan_portOut (s : State) (c : Nat) (x : CanRec) : (s.setCan c x).portOut = s.portOut := rfl
@[simp] theorem State.setCan_portIn (s : State) (c : Nat) (x : CanRec) : (s.setCan c x).portIn = s.portIn := rfl
@[simp] theorem State.setCan_portMsgs (s : State) (c : Nat) (x : CanRec) : (s.setCan c x).portMsgs = s.portMsgs := rfl
@[simp] theorem State.setCan_domains (s : State) (c : Nat) (x : CanRec) : (s.setCan c x).domains = s.domains := rfl
@[simp] theorem State.setCan_sensors (s : State) (c : Nat) (x : CanRec) : (s.setCan c x).sensors = s.sensors := rfl
@[simp] theorem State.setCan_thermal (s : State) (c : Nat) (x : CanRec) : (s.setCan c x).thermal = s.thermal := rfl
@[simp] theorem State.setCan_collector (s : State) (c : Nat) (x : CanRec) : (s.setCan c x).collector = s.collector := rfl
@[simp] theorem State.setCan_security (s : State) (c : Nat) (x : CanRec) : (s.setCan c x).security = s.security := rfl
@[simp] theorem State.setCan_rd_frame (s : State) (c : Nat) (x : CanRec) (u w : Nat) : (s.setCan c x).rd u w = s.rd u w := rfl
@[simp] theorem State.setCan_region_frame (s : State) (c : Nat) (x : CanRec) (u : Nat) : (s.setCan c x).region u = s.region u := rfl
@[simp] theorem State.setCan_plane_frame (s : State) (c : Nat) (x : CanRec) (u w : Nat) : (s.setCan c x).plane u w = s.plane u w := rfl
@[simp] theorem State.setCan_frame_frame (s : State) (c : Nat) (x : CanRec) (u w z : Nat) : (s.setCan c x).frame u w z = s.frame u w z := rfl
@[simp] theorem State.setCan_queue_frame (s : State) (c : Nat) (x : CanRec) (u : Nat) : (s.setCan c x).queue u = s.queue u := rfl
@[simp] theorem State.setCan_lane_frame (s : State) (c : Nat) (x : CanRec) (u : Nat) : (s.setCan c x).lane u = s.lane u := rfl
@[simp] theorem State.setCan_txLane_frame (s : State) (c : Nat) (x : CanRec) (u : Nat) : (s.setCan c x).txLane u = s.txLane u := rfl
@[simp] theorem State.setCan_tim_frame (s : State) (c : Nat) (x : CanRec) (u : Nat) : (s.setCan c x).tim u = s.tim u := rfl
@[simp] theorem State.setCan_port_frame (s : State) (c : Nat) (x : CanRec) (u : Nat) : (s.setCan c x).port u = s.port u := rfl
@[simp] theorem State.setCan_engine_frame (s : State) (c : Nat) (x : CanRec) (u : Nat) : (s.setCan c x).engine u = s.engine u := rfl
@[simp] theorem State.setCan_kernel_frame (s : State) (c : Nat) (x : CanRec) (u : Nat) : (s.setCan c x).kernel u = s.kernel u := rfl
@[simp] theorem State.setCan_mailbox_frame (s : State) (c : Nat) (x : CanRec) (u : Nat) : (s.setCan c x).mailbox u = s.mailbox u := rfl
@[simp] theorem State.setCan_dom_frame (s : State) (c : Nat) (x : CanRec) (u : Nat) : (s.setCan c x).dom u = s.dom u := rfl
@[simp] theorem State.setCan_sensor_frame (s : State) (c : Nat) (x : CanRec) (u : Nat) : (s.setCan c x).sensor u = s.sensor u := rfl
@[simp] theorem State.setCan_image_frame (s : State) (c : Nat) (x : CanRec) (u w : Nat) : (s.setCan c x).image u w = s.image u w := rfl
@[simp] theorem State.setCan_waveLog (s : State) (c : Nat) (x : CanRec) : (s.setCan c x).waveLog = s.waveLog := rfl
@[simp] theorem State.setCan_readoutDue (s : State) (c : Nat) (x : CanRec) : (s.setCan c x).readoutDue = s.readoutDue := rfl
@[simp] theorem State.setCan_pinsHeld (s : State) (c : Nat) (x : CanRec) : (s.setCan c x).pinsHeld = s.pinsHeld := rfl
@[simp] theorem State.setCan_bar4Held (s : State) (c : Nat) (x : CanRec) : (s.setCan c x).bar4Held = s.bar4Held := rfl
@[simp] theorem State.setCan_cfgSpace (s : State) (c : Nat) (x : CanRec) : (s.setCan c x).cfgSpace = s.cfgSpace := rfl
@[simp] theorem State.setCan_gates (s : State) (c : Nat) (x : CanRec) : (s.setCan c x).gates = s.gates := rfl
@[simp] theorem State.setCan_loadHeld (s : State) (c : Nat) (x : CanRec) : (s.setCan c x).loadHeld = s.loadHeld := rfl
@[simp] theorem State.setCan_keepCopy (s : State) (c : Nat) (x : CanRec) : (s.setCan c x).keepCopy = s.keepCopy := rfl
@[simp] theorem State.setCan_storeStops (s : State) (c : Nat) (x : CanRec) : (s.setCan c x).storeStops = s.storeStops := rfl
@[simp] theorem State.setCan_spareLines (s : State) (c : Nat) (x : CanRec) : (s.setCan c x).spareLines = s.spareLines := rfl

/-! ### setDom -/

@[simp] theorem State.setDom_dict (s : State) (d : Nat) (x : DomainRec) : (s.setDom d x).dict = s.dict := rfl
@[simp] theorem State.setDom_rwr (s : State) (d : Nat) (x : DomainRec) : (s.setDom d x).rwr = s.rwr := rfl
@[simp] theorem State.setDom_out (s : State) (d : Nat) (x : DomainRec) : (s.setDom d x).out = s.out := rfl
@[simp] theorem State.setDom_pending (s : State) (d : Nat) (x : DomainRec) : (s.setDom d x).pending = s.pending := rfl
@[simp] theorem State.setDom_draws (s : State) (d : Nat) (x : DomainRec) : (s.setDom d x).draws = s.draws := rfl
@[simp] theorem State.setDom_bundle (s : State) (d : Nat) (x : DomainRec) : (s.setDom d x).bundle = s.bundle := rfl
@[simp] theorem State.setDom_startup (s : State) (d : Nat) (x : DomainRec) : (s.setDom d x).startup = s.startup := rfl
@[simp] theorem State.setDom_startPending (s : State) (d : Nat) (x : DomainRec) : (s.setDom d x).startPending = s.startPending := rfl
@[simp] theorem State.setDom_stopPending (s : State) (d : Nat) (x : DomainRec) : (s.setDom d x).stopPending = s.stopPending := rfl
@[simp] theorem State.setDom_waveDue (s : State) (d : Nat) (x : DomainRec) : (s.setDom d x).waveDue = s.waveDue := rfl
@[simp] theorem State.setDom_runEra (s : State) (d : Nat) (x : DomainRec) : (s.setDom d x).runEra = s.runEra := rfl
@[simp] theorem State.setDom_regions (s : State) (d : Nat) (x : DomainRec) : (s.setDom d x).regions = s.regions := rfl
@[simp] theorem State.setDom_planes (s : State) (d : Nat) (x : DomainRec) : (s.setDom d x).planes = s.planes := rfl
@[simp] theorem State.setDom_frames (s : State) (d : Nat) (x : DomainRec) : (s.setDom d x).frames = s.frames := rfl
@[simp] theorem State.setDom_latched (s : State) (d : Nat) (x : DomainRec) : (s.setDom d x).latched = s.latched := rfl
@[simp] theorem State.setDom_latchXn (s : State) (d : Nat) (x : DomainRec) : (s.setDom d x).latchXn = s.latchXn := rfl
@[simp] theorem State.setDom_rearm (s : State) (d : Nat) (x : DomainRec) : (s.setDom d x).rearm = s.rearm := rfl
@[simp] theorem State.setDom_rearmDue (s : State) (d : Nat) (x : DomainRec) : (s.setDom d x).rearmDue = s.rearmDue := rfl
@[simp] theorem State.setDom_regs (s : State) (d : Nat) (x : DomainRec) : (s.setDom d x).regs = s.regs := rfl
@[simp] theorem State.setDom_huskLast (s : State) (d : Nat) (x : DomainRec) : (s.setDom d x).huskLast = s.huskLast := rfl
@[simp] theorem State.setDom_delivered (s : State) (d : Nat) (x : DomainRec) : (s.setDom d x).delivered = s.delivered := rfl
@[simp] theorem State.setDom_readTokens (s : State) (d : Nat) (x : DomainRec) : (s.setDom d x).readTokens = s.readTokens := rfl
@[simp] theorem State.setDom_probePipe (s : State) (d : Nat) (x : DomainRec) : (s.setDom d x).probePipe = s.probePipe := rfl
@[simp] theorem State.setDom_probePins (s : State) (d : Nat) (x : DomainRec) : (s.setDom d x).probePins = s.probePins := rfl
@[simp] theorem State.setDom_probeBlocks (s : State) (d : Nat) (x : DomainRec) : (s.setDom d x).probeBlocks = s.probeBlocks := rfl
@[simp] theorem State.setDom_probeHeld (s : State) (d : Nat) (x : DomainRec) : (s.setDom d x).probeHeld = s.probeHeld := rfl
@[simp] theorem State.setDom_bankMem (s : State) (d : Nat) (x : DomainRec) : (s.setDom d x).bankMem = s.bankMem := rfl
@[simp] theorem State.setDom_queues (s : State) (d : Nat) (x : DomainRec) : (s.setDom d x).queues = s.queues := rfl
@[simp] theorem State.setDom_patrol (s : State) (d : Nat) (x : DomainRec) : (s.setDom d x).patrol = s.patrol := rfl
@[simp] theorem State.setDom_repairs (s : State) (d : Nat) (x : DomainRec) : (s.setDom d x).repairs = s.repairs := rfl
@[simp] theorem State.setDom_storedMap (s : State) (d : Nat) (x : DomainRec) : (s.setDom d x).storedMap = s.storedMap := rfl
@[simp] theorem State.setDom_march (s : State) (d : Nat) (x : DomainRec) : (s.setDom d x).march = s.march := rfl
@[simp] theorem State.setDom_load (s : State) (d : Nat) (x : DomainRec) : (s.setDom d x).load = s.load := rfl
@[simp] theorem State.setDom_migReverting (s : State) (d : Nat) (x : DomainRec) : (s.setDom d x).migReverting = s.migReverting := rfl
@[simp] theorem State.setDom_migOverlap (s : State) (d : Nat) (x : DomainRec) : (s.setDom d x).migOverlap = s.migOverlap := rfl
@[simp] theorem State.setDom_migWave (s : State) (d : Nat) (x : DomainRec) : (s.setDom d x).migWave = s.migWave := rfl
@[simp] theorem State.setDom_migMin (s : State) (d : Nat) (x : DomainRec) : (s.setDom d x).migMin = s.migMin := rfl
@[simp] theorem State.setDom_migHalted (s : State) (d : Nat) (x : DomainRec) : (s.setDom d x).migHalted = s.migHalted := rfl
@[simp] theorem State.setDom_deferred (s : State) (d : Nat) (x : DomainRec) : (s.setDom d x).deferred = s.deferred := rfl
@[simp] theorem State.setDom_lanes (s : State) (d : Nat) (x : DomainRec) : (s.setDom d x).lanes = s.lanes := rfl
@[simp] theorem State.setDom_tx (s : State) (d : Nat) (x : DomainRec) : (s.setDom d x).tx = s.tx := rfl
@[simp] theorem State.setDom_timing (s : State) (d : Nat) (x : DomainRec) : (s.setDom d x).timing = s.timing := rfl
@[simp] theorem State.setDom_sourceDue (s : State) (d : Nat) (x : DomainRec) : (s.setDom d x).sourceDue = s.sourceDue := rfl
@[simp] theorem State.setDom_timingNew (s : State) (d : Nat) (x : DomainRec) : (s.setDom d x).timingNew = s.timingNew := rfl
@[simp] theorem State.setDom_lines (s : State) (d : Nat) (x : DomainRec) : (s.setDom d x).lines = s.lines := rfl
@[simp] theorem State.setDom_slotC (s : State) (d : Nat) (x : DomainRec) : (s.setDom d x).slotC = s.slotC := rfl
@[simp] theorem State.setDom_skips (s : State) (d : Nat) (x : DomainRec) : (s.setDom d x).skips = s.skips := rfl
@[simp] theorem State.setDom_heldReqs (s : State) (d : Nat) (x : DomainRec) : (s.setDom d x).heldReqs = s.heldReqs := rfl
@[simp] theorem State.setDom_lbif (s : State) (d : Nat) (x : DomainRec) : (s.setDom d x).lbif = s.lbif := rfl
@[simp] theorem State.setDom_bar2Held (s : State) (d : Nat) (x : DomainRec) : (s.setDom d x).bar2Held = s.bar2Held := rfl
@[simp] theorem State.setDom_scrubPos (s : State) (d : Nat) (x : DomainRec) : (s.setDom d x).scrubPos = s.scrubPos := rfl
@[simp] theorem State.setDom_nextWindow (s : State) (d : Nat) (x : DomainRec) : (s.setDom d x).nextWindow = s.nextWindow := rfl
@[simp] theorem State.setDom_activationC (s : State) (d : Nat) (x : DomainRec) : (s.setDom d x).activationC = s.activationC := rfl
@[simp] theorem State.setDom_derived (s : State) (d : Nat) (x : DomainRec) : (s.setDom d x).derived = s.derived := rfl
@[simp] theorem State.setDom_ports (s : State) (d : Nat) (x : DomainRec) : (s.setDom d x).ports = s.ports := rfl
@[simp] theorem State.setDom_pair (s : State) (d : Nat) (x : DomainRec) : (s.setDom d x).pair = s.pair := rfl
@[simp] theorem State.setDom_outReqs (s : State) (d : Nat) (x : DomainRec) : (s.setDom d x).outReqs = s.outReqs := rfl
@[simp] theorem State.setDom_msixPend (s : State) (d : Nat) (x : DomainRec) : (s.setDom d x).msixPend = s.msixPend := rfl
@[simp] theorem State.setDom_msixHold (s : State) (d : Nat) (x : DomainRec) : (s.setDom d x).msixHold = s.msixHold := rfl
@[simp] theorem State.setDom_msixTable (s : State) (d : Nat) (x : DomainRec) : (s.setDom d x).msixTable = s.msixTable := rfl
@[simp] theorem State.setDom_keepLines (s : State) (d : Nat) (x : DomainRec) : (s.setDom d x).keepLines = s.keepLines := rfl
@[simp] theorem State.setDom_engines (s : State) (d : Nat) (x : DomainRec) : (s.setDom d x).engines = s.engines := rfl
@[simp] theorem State.setDom_readoutQueue (s : State) (d : Nat) (x : DomainRec) : (s.setDom d x).readoutQueue = s.readoutQueue := rfl
@[simp] theorem State.setDom_kernels (s : State) (d : Nat) (x : DomainRec) : (s.setDom d x).kernels = s.kernels := rfl
@[simp] theorem State.setDom_transfers (s : State) (d : Nat) (x : DomainRec) : (s.setDom d x).transfers = s.transfers := rfl
@[simp] theorem State.setDom_mailboxes (s : State) (d : Nat) (x : DomainRec) : (s.setDom d x).mailboxes = s.mailboxes := rfl
@[simp] theorem State.setDom_can (s : State) (d : Nat) (x : DomainRec) : (s.setDom d x).can = s.can := rfl
@[simp] theorem State.setDom_canOpen (s : State) (d : Nat) (x : DomainRec) : (s.setDom d x).canOpen = s.canOpen := rfl
@[simp] theorem State.setDom_design (s : State) (d : Nat) (x : DomainRec) : (s.setDom d x).design = s.design := rfl
@[simp] theorem State.setDom_designQ (s : State) (d : Nat) (x : DomainRec) : (s.setDom d x).designQ = s.designQ := rfl
@[simp] theorem State.setDom_designTag (s : State) (d : Nat) (x : DomainRec) : (s.setDom d x).designTag = s.designTag := rfl
@[simp] theorem State.setDom_userVals (s : State) (d : Nat) (x : DomainRec) : (s.setDom d x).userVals = s.userVals := rfl
@[simp] theorem State.setDom_portReq (s : State) (d : Nat) (x : DomainRec) : (s.setDom d x).portReq = s.portReq := rfl
@[simp] theorem State.setDom_portOut (s : State) (d : Nat) (x : DomainRec) : (s.setDom d x).portOut = s.portOut := rfl
@[simp] theorem State.setDom_portIn (s : State) (d : Nat) (x : DomainRec) : (s.setDom d x).portIn = s.portIn := rfl
@[simp] theorem State.setDom_portMsgs (s : State) (d : Nat) (x : DomainRec) : (s.setDom d x).portMsgs = s.portMsgs := rfl
@[simp] theorem State.setDom_sensors (s : State) (d : Nat) (x : DomainRec) : (s.setDom d x).sensors = s.sensors := rfl
@[simp] theorem State.setDom_thermal (s : State) (d : Nat) (x : DomainRec) : (s.setDom d x).thermal = s.thermal := rfl
@[simp] theorem State.setDom_collector (s : State) (d : Nat) (x : DomainRec) : (s.setDom d x).collector = s.collector := rfl
@[simp] theorem State.setDom_security (s : State) (d : Nat) (x : DomainRec) : (s.setDom d x).security = s.security := rfl
@[simp] theorem State.setDom_rd_frame (s : State) (d : Nat) (x : DomainRec) (u w : Nat) : (s.setDom d x).rd u w = s.rd u w := rfl
@[simp] theorem State.setDom_region_frame (s : State) (d : Nat) (x : DomainRec) (u : Nat) : (s.setDom d x).region u = s.region u := rfl
@[simp] theorem State.setDom_plane_frame (s : State) (d : Nat) (x : DomainRec) (u w : Nat) : (s.setDom d x).plane u w = s.plane u w := rfl
@[simp] theorem State.setDom_frame_frame (s : State) (d : Nat) (x : DomainRec) (u w z : Nat) : (s.setDom d x).frame u w z = s.frame u w z := rfl
@[simp] theorem State.setDom_queue_frame (s : State) (d : Nat) (x : DomainRec) (u : Nat) : (s.setDom d x).queue u = s.queue u := rfl
@[simp] theorem State.setDom_lane_frame (s : State) (d : Nat) (x : DomainRec) (u : Nat) : (s.setDom d x).lane u = s.lane u := rfl
@[simp] theorem State.setDom_txLane_frame (s : State) (d : Nat) (x : DomainRec) (u : Nat) : (s.setDom d x).txLane u = s.txLane u := rfl
@[simp] theorem State.setDom_tim_frame (s : State) (d : Nat) (x : DomainRec) (u : Nat) : (s.setDom d x).tim u = s.tim u := rfl
@[simp] theorem State.setDom_port_frame (s : State) (d : Nat) (x : DomainRec) (u : Nat) : (s.setDom d x).port u = s.port u := rfl
@[simp] theorem State.setDom_engine_frame (s : State) (d : Nat) (x : DomainRec) (u : Nat) : (s.setDom d x).engine u = s.engine u := rfl
@[simp] theorem State.setDom_kernel_frame (s : State) (d : Nat) (x : DomainRec) (u : Nat) : (s.setDom d x).kernel u = s.kernel u := rfl
@[simp] theorem State.setDom_mailbox_frame (s : State) (d : Nat) (x : DomainRec) (u : Nat) : (s.setDom d x).mailbox u = s.mailbox u := rfl
@[simp] theorem State.setDom_canCh_frame (s : State) (d : Nat) (x : DomainRec) (u : Nat) : (s.setDom d x).canCh u = s.canCh u := rfl
@[simp] theorem State.setDom_sensor_frame (s : State) (d : Nat) (x : DomainRec) (u : Nat) : (s.setDom d x).sensor u = s.sensor u := rfl
@[simp] theorem State.setDom_image_frame (s : State) (d : Nat) (x : DomainRec) (u w : Nat) : (s.setDom d x).image u w = s.image u w := rfl
@[simp] theorem State.setDom_waveLog (s : State) (d : Nat) (x : DomainRec) : (s.setDom d x).waveLog = s.waveLog := rfl
@[simp] theorem State.setDom_readoutDue (s : State) (d : Nat) (x : DomainRec) : (s.setDom d x).readoutDue = s.readoutDue := rfl
@[simp] theorem State.setDom_pinsHeld (s : State) (d : Nat) (x : DomainRec) : (s.setDom d x).pinsHeld = s.pinsHeld := rfl
@[simp] theorem State.setDom_bar4Held (s : State) (d : Nat) (x : DomainRec) : (s.setDom d x).bar4Held = s.bar4Held := rfl
@[simp] theorem State.setDom_cfgSpace (s : State) (d : Nat) (x : DomainRec) : (s.setDom d x).cfgSpace = s.cfgSpace := rfl
@[simp] theorem State.setDom_gates (s : State) (d : Nat) (x : DomainRec) : (s.setDom d x).gates = s.gates := rfl
@[simp] theorem State.setDom_loadHeld (s : State) (d : Nat) (x : DomainRec) : (s.setDom d x).loadHeld = s.loadHeld := rfl
@[simp] theorem State.setDom_keepCopy (s : State) (d : Nat) (x : DomainRec) : (s.setDom d x).keepCopy = s.keepCopy := rfl
@[simp] theorem State.setDom_storeStops (s : State) (d : Nat) (x : DomainRec) : (s.setDom d x).storeStops = s.storeStops := rfl
@[simp] theorem State.setDom_spareLines (s : State) (d : Nat) (x : DomainRec) : (s.setDom d x).spareLines = s.spareLines := rfl

/-! ### setSensor -/

@[simp] theorem State.setSensor_dict (s : State) (i : Nat) (x : SensorRec) : (s.setSensor i x).dict = s.dict := rfl
@[simp] theorem State.setSensor_rwr (s : State) (i : Nat) (x : SensorRec) : (s.setSensor i x).rwr = s.rwr := rfl
@[simp] theorem State.setSensor_out (s : State) (i : Nat) (x : SensorRec) : (s.setSensor i x).out = s.out := rfl
@[simp] theorem State.setSensor_pending (s : State) (i : Nat) (x : SensorRec) : (s.setSensor i x).pending = s.pending := rfl
@[simp] theorem State.setSensor_draws (s : State) (i : Nat) (x : SensorRec) : (s.setSensor i x).draws = s.draws := rfl
@[simp] theorem State.setSensor_bundle (s : State) (i : Nat) (x : SensorRec) : (s.setSensor i x).bundle = s.bundle := rfl
@[simp] theorem State.setSensor_startup (s : State) (i : Nat) (x : SensorRec) : (s.setSensor i x).startup = s.startup := rfl
@[simp] theorem State.setSensor_startPending (s : State) (i : Nat) (x : SensorRec) : (s.setSensor i x).startPending = s.startPending := rfl
@[simp] theorem State.setSensor_stopPending (s : State) (i : Nat) (x : SensorRec) : (s.setSensor i x).stopPending = s.stopPending := rfl
@[simp] theorem State.setSensor_waveDue (s : State) (i : Nat) (x : SensorRec) : (s.setSensor i x).waveDue = s.waveDue := rfl
@[simp] theorem State.setSensor_runEra (s : State) (i : Nat) (x : SensorRec) : (s.setSensor i x).runEra = s.runEra := rfl
@[simp] theorem State.setSensor_regions (s : State) (i : Nat) (x : SensorRec) : (s.setSensor i x).regions = s.regions := rfl
@[simp] theorem State.setSensor_planes (s : State) (i : Nat) (x : SensorRec) : (s.setSensor i x).planes = s.planes := rfl
@[simp] theorem State.setSensor_frames (s : State) (i : Nat) (x : SensorRec) : (s.setSensor i x).frames = s.frames := rfl
@[simp] theorem State.setSensor_latched (s : State) (i : Nat) (x : SensorRec) : (s.setSensor i x).latched = s.latched := rfl
@[simp] theorem State.setSensor_latchXn (s : State) (i : Nat) (x : SensorRec) : (s.setSensor i x).latchXn = s.latchXn := rfl
@[simp] theorem State.setSensor_rearm (s : State) (i : Nat) (x : SensorRec) : (s.setSensor i x).rearm = s.rearm := rfl
@[simp] theorem State.setSensor_rearmDue (s : State) (i : Nat) (x : SensorRec) : (s.setSensor i x).rearmDue = s.rearmDue := rfl
@[simp] theorem State.setSensor_regs (s : State) (i : Nat) (x : SensorRec) : (s.setSensor i x).regs = s.regs := rfl
@[simp] theorem State.setSensor_huskLast (s : State) (i : Nat) (x : SensorRec) : (s.setSensor i x).huskLast = s.huskLast := rfl
@[simp] theorem State.setSensor_delivered (s : State) (i : Nat) (x : SensorRec) : (s.setSensor i x).delivered = s.delivered := rfl
@[simp] theorem State.setSensor_readTokens (s : State) (i : Nat) (x : SensorRec) : (s.setSensor i x).readTokens = s.readTokens := rfl
@[simp] theorem State.setSensor_probePipe (s : State) (i : Nat) (x : SensorRec) : (s.setSensor i x).probePipe = s.probePipe := rfl
@[simp] theorem State.setSensor_probePins (s : State) (i : Nat) (x : SensorRec) : (s.setSensor i x).probePins = s.probePins := rfl
@[simp] theorem State.setSensor_probeBlocks (s : State) (i : Nat) (x : SensorRec) : (s.setSensor i x).probeBlocks = s.probeBlocks := rfl
@[simp] theorem State.setSensor_probeHeld (s : State) (i : Nat) (x : SensorRec) : (s.setSensor i x).probeHeld = s.probeHeld := rfl
@[simp] theorem State.setSensor_bankMem (s : State) (i : Nat) (x : SensorRec) : (s.setSensor i x).bankMem = s.bankMem := rfl
@[simp] theorem State.setSensor_queues (s : State) (i : Nat) (x : SensorRec) : (s.setSensor i x).queues = s.queues := rfl
@[simp] theorem State.setSensor_patrol (s : State) (i : Nat) (x : SensorRec) : (s.setSensor i x).patrol = s.patrol := rfl
@[simp] theorem State.setSensor_repairs (s : State) (i : Nat) (x : SensorRec) : (s.setSensor i x).repairs = s.repairs := rfl
@[simp] theorem State.setSensor_storedMap (s : State) (i : Nat) (x : SensorRec) : (s.setSensor i x).storedMap = s.storedMap := rfl
@[simp] theorem State.setSensor_march (s : State) (i : Nat) (x : SensorRec) : (s.setSensor i x).march = s.march := rfl
@[simp] theorem State.setSensor_load (s : State) (i : Nat) (x : SensorRec) : (s.setSensor i x).load = s.load := rfl
@[simp] theorem State.setSensor_migReverting (s : State) (i : Nat) (x : SensorRec) : (s.setSensor i x).migReverting = s.migReverting := rfl
@[simp] theorem State.setSensor_migOverlap (s : State) (i : Nat) (x : SensorRec) : (s.setSensor i x).migOverlap = s.migOverlap := rfl
@[simp] theorem State.setSensor_migWave (s : State) (i : Nat) (x : SensorRec) : (s.setSensor i x).migWave = s.migWave := rfl
@[simp] theorem State.setSensor_migMin (s : State) (i : Nat) (x : SensorRec) : (s.setSensor i x).migMin = s.migMin := rfl
@[simp] theorem State.setSensor_migHalted (s : State) (i : Nat) (x : SensorRec) : (s.setSensor i x).migHalted = s.migHalted := rfl
@[simp] theorem State.setSensor_deferred (s : State) (i : Nat) (x : SensorRec) : (s.setSensor i x).deferred = s.deferred := rfl
@[simp] theorem State.setSensor_lanes (s : State) (i : Nat) (x : SensorRec) : (s.setSensor i x).lanes = s.lanes := rfl
@[simp] theorem State.setSensor_tx (s : State) (i : Nat) (x : SensorRec) : (s.setSensor i x).tx = s.tx := rfl
@[simp] theorem State.setSensor_timing (s : State) (i : Nat) (x : SensorRec) : (s.setSensor i x).timing = s.timing := rfl
@[simp] theorem State.setSensor_sourceDue (s : State) (i : Nat) (x : SensorRec) : (s.setSensor i x).sourceDue = s.sourceDue := rfl
@[simp] theorem State.setSensor_timingNew (s : State) (i : Nat) (x : SensorRec) : (s.setSensor i x).timingNew = s.timingNew := rfl
@[simp] theorem State.setSensor_lines (s : State) (i : Nat) (x : SensorRec) : (s.setSensor i x).lines = s.lines := rfl
@[simp] theorem State.setSensor_slotC (s : State) (i : Nat) (x : SensorRec) : (s.setSensor i x).slotC = s.slotC := rfl
@[simp] theorem State.setSensor_skips (s : State) (i : Nat) (x : SensorRec) : (s.setSensor i x).skips = s.skips := rfl
@[simp] theorem State.setSensor_heldReqs (s : State) (i : Nat) (x : SensorRec) : (s.setSensor i x).heldReqs = s.heldReqs := rfl
@[simp] theorem State.setSensor_lbif (s : State) (i : Nat) (x : SensorRec) : (s.setSensor i x).lbif = s.lbif := rfl
@[simp] theorem State.setSensor_bar2Held (s : State) (i : Nat) (x : SensorRec) : (s.setSensor i x).bar2Held = s.bar2Held := rfl
@[simp] theorem State.setSensor_scrubPos (s : State) (i : Nat) (x : SensorRec) : (s.setSensor i x).scrubPos = s.scrubPos := rfl
@[simp] theorem State.setSensor_nextWindow (s : State) (i : Nat) (x : SensorRec) : (s.setSensor i x).nextWindow = s.nextWindow := rfl
@[simp] theorem State.setSensor_activationC (s : State) (i : Nat) (x : SensorRec) : (s.setSensor i x).activationC = s.activationC := rfl
@[simp] theorem State.setSensor_derived (s : State) (i : Nat) (x : SensorRec) : (s.setSensor i x).derived = s.derived := rfl
@[simp] theorem State.setSensor_ports (s : State) (i : Nat) (x : SensorRec) : (s.setSensor i x).ports = s.ports := rfl
@[simp] theorem State.setSensor_pair (s : State) (i : Nat) (x : SensorRec) : (s.setSensor i x).pair = s.pair := rfl
@[simp] theorem State.setSensor_outReqs (s : State) (i : Nat) (x : SensorRec) : (s.setSensor i x).outReqs = s.outReqs := rfl
@[simp] theorem State.setSensor_msixPend (s : State) (i : Nat) (x : SensorRec) : (s.setSensor i x).msixPend = s.msixPend := rfl
@[simp] theorem State.setSensor_msixHold (s : State) (i : Nat) (x : SensorRec) : (s.setSensor i x).msixHold = s.msixHold := rfl
@[simp] theorem State.setSensor_msixTable (s : State) (i : Nat) (x : SensorRec) : (s.setSensor i x).msixTable = s.msixTable := rfl
@[simp] theorem State.setSensor_keepLines (s : State) (i : Nat) (x : SensorRec) : (s.setSensor i x).keepLines = s.keepLines := rfl
@[simp] theorem State.setSensor_engines (s : State) (i : Nat) (x : SensorRec) : (s.setSensor i x).engines = s.engines := rfl
@[simp] theorem State.setSensor_readoutQueue (s : State) (i : Nat) (x : SensorRec) : (s.setSensor i x).readoutQueue = s.readoutQueue := rfl
@[simp] theorem State.setSensor_kernels (s : State) (i : Nat) (x : SensorRec) : (s.setSensor i x).kernels = s.kernels := rfl
@[simp] theorem State.setSensor_transfers (s : State) (i : Nat) (x : SensorRec) : (s.setSensor i x).transfers = s.transfers := rfl
@[simp] theorem State.setSensor_mailboxes (s : State) (i : Nat) (x : SensorRec) : (s.setSensor i x).mailboxes = s.mailboxes := rfl
@[simp] theorem State.setSensor_can (s : State) (i : Nat) (x : SensorRec) : (s.setSensor i x).can = s.can := rfl
@[simp] theorem State.setSensor_canOpen (s : State) (i : Nat) (x : SensorRec) : (s.setSensor i x).canOpen = s.canOpen := rfl
@[simp] theorem State.setSensor_design (s : State) (i : Nat) (x : SensorRec) : (s.setSensor i x).design = s.design := rfl
@[simp] theorem State.setSensor_designQ (s : State) (i : Nat) (x : SensorRec) : (s.setSensor i x).designQ = s.designQ := rfl
@[simp] theorem State.setSensor_designTag (s : State) (i : Nat) (x : SensorRec) : (s.setSensor i x).designTag = s.designTag := rfl
@[simp] theorem State.setSensor_userVals (s : State) (i : Nat) (x : SensorRec) : (s.setSensor i x).userVals = s.userVals := rfl
@[simp] theorem State.setSensor_portReq (s : State) (i : Nat) (x : SensorRec) : (s.setSensor i x).portReq = s.portReq := rfl
@[simp] theorem State.setSensor_portOut (s : State) (i : Nat) (x : SensorRec) : (s.setSensor i x).portOut = s.portOut := rfl
@[simp] theorem State.setSensor_portIn (s : State) (i : Nat) (x : SensorRec) : (s.setSensor i x).portIn = s.portIn := rfl
@[simp] theorem State.setSensor_portMsgs (s : State) (i : Nat) (x : SensorRec) : (s.setSensor i x).portMsgs = s.portMsgs := rfl
@[simp] theorem State.setSensor_domains (s : State) (i : Nat) (x : SensorRec) : (s.setSensor i x).domains = s.domains := rfl
@[simp] theorem State.setSensor_thermal (s : State) (i : Nat) (x : SensorRec) : (s.setSensor i x).thermal = s.thermal := rfl
@[simp] theorem State.setSensor_collector (s : State) (i : Nat) (x : SensorRec) : (s.setSensor i x).collector = s.collector := rfl
@[simp] theorem State.setSensor_security (s : State) (i : Nat) (x : SensorRec) : (s.setSensor i x).security = s.security := rfl
@[simp] theorem State.setSensor_rd_frame (s : State) (i : Nat) (x : SensorRec) (u w : Nat) : (s.setSensor i x).rd u w = s.rd u w := rfl
@[simp] theorem State.setSensor_region_frame (s : State) (i : Nat) (x : SensorRec) (u : Nat) : (s.setSensor i x).region u = s.region u := rfl
@[simp] theorem State.setSensor_plane_frame (s : State) (i : Nat) (x : SensorRec) (u w : Nat) : (s.setSensor i x).plane u w = s.plane u w := rfl
@[simp] theorem State.setSensor_frame_frame (s : State) (i : Nat) (x : SensorRec) (u w z : Nat) : (s.setSensor i x).frame u w z = s.frame u w z := rfl
@[simp] theorem State.setSensor_queue_frame (s : State) (i : Nat) (x : SensorRec) (u : Nat) : (s.setSensor i x).queue u = s.queue u := rfl
@[simp] theorem State.setSensor_lane_frame (s : State) (i : Nat) (x : SensorRec) (u : Nat) : (s.setSensor i x).lane u = s.lane u := rfl
@[simp] theorem State.setSensor_txLane_frame (s : State) (i : Nat) (x : SensorRec) (u : Nat) : (s.setSensor i x).txLane u = s.txLane u := rfl
@[simp] theorem State.setSensor_tim_frame (s : State) (i : Nat) (x : SensorRec) (u : Nat) : (s.setSensor i x).tim u = s.tim u := rfl
@[simp] theorem State.setSensor_port_frame (s : State) (i : Nat) (x : SensorRec) (u : Nat) : (s.setSensor i x).port u = s.port u := rfl
@[simp] theorem State.setSensor_engine_frame (s : State) (i : Nat) (x : SensorRec) (u : Nat) : (s.setSensor i x).engine u = s.engine u := rfl
@[simp] theorem State.setSensor_kernel_frame (s : State) (i : Nat) (x : SensorRec) (u : Nat) : (s.setSensor i x).kernel u = s.kernel u := rfl
@[simp] theorem State.setSensor_mailbox_frame (s : State) (i : Nat) (x : SensorRec) (u : Nat) : (s.setSensor i x).mailbox u = s.mailbox u := rfl
@[simp] theorem State.setSensor_canCh_frame (s : State) (i : Nat) (x : SensorRec) (u : Nat) : (s.setSensor i x).canCh u = s.canCh u := rfl
@[simp] theorem State.setSensor_dom_frame (s : State) (i : Nat) (x : SensorRec) (u : Nat) : (s.setSensor i x).dom u = s.dom u := rfl
@[simp] theorem State.setSensor_image_frame (s : State) (i : Nat) (x : SensorRec) (u w : Nat) : (s.setSensor i x).image u w = s.image u w := rfl
@[simp] theorem State.setSensor_waveLog (s : State) (i : Nat) (x : SensorRec) : (s.setSensor i x).waveLog = s.waveLog := rfl
@[simp] theorem State.setSensor_readoutDue (s : State) (i : Nat) (x : SensorRec) : (s.setSensor i x).readoutDue = s.readoutDue := rfl
@[simp] theorem State.setSensor_pinsHeld (s : State) (i : Nat) (x : SensorRec) : (s.setSensor i x).pinsHeld = s.pinsHeld := rfl
@[simp] theorem State.setSensor_bar4Held (s : State) (i : Nat) (x : SensorRec) : (s.setSensor i x).bar4Held = s.bar4Held := rfl
@[simp] theorem State.setSensor_cfgSpace (s : State) (i : Nat) (x : SensorRec) : (s.setSensor i x).cfgSpace = s.cfgSpace := rfl
@[simp] theorem State.setSensor_gates (s : State) (i : Nat) (x : SensorRec) : (s.setSensor i x).gates = s.gates := rfl
@[simp] theorem State.setSensor_loadHeld (s : State) (i : Nat) (x : SensorRec) : (s.setSensor i x).loadHeld = s.loadHeld := rfl
@[simp] theorem State.setSensor_keepCopy (s : State) (i : Nat) (x : SensorRec) : (s.setSensor i x).keepCopy = s.keepCopy := rfl
@[simp] theorem State.setSensor_storeStops (s : State) (i : Nat) (x : SensorRec) : (s.setSensor i x).storeStops = s.storeStops := rfl
@[simp] theorem State.setSensor_spareLines (s : State) (i : Nat) (x : SensorRec) : (s.setSensor i x).spareLines = s.spareLines := rfl

/-! ### setImage -/

@[simp] theorem State.setImage_dict (s : State) (j y : Nat) (x : ImageRec) : (s.setImage j y x).dict = s.dict := rfl
@[simp] theorem State.setImage_rwr (s : State) (j y : Nat) (x : ImageRec) : (s.setImage j y x).rwr = s.rwr := rfl
@[simp] theorem State.setImage_out (s : State) (j y : Nat) (x : ImageRec) : (s.setImage j y x).out = s.out := rfl
@[simp] theorem State.setImage_pending (s : State) (j y : Nat) (x : ImageRec) : (s.setImage j y x).pending = s.pending := rfl
@[simp] theorem State.setImage_draws (s : State) (j y : Nat) (x : ImageRec) : (s.setImage j y x).draws = s.draws := rfl
@[simp] theorem State.setImage_bundle (s : State) (j y : Nat) (x : ImageRec) : (s.setImage j y x).bundle = s.bundle := rfl
@[simp] theorem State.setImage_startup (s : State) (j y : Nat) (x : ImageRec) : (s.setImage j y x).startup = s.startup := rfl
@[simp] theorem State.setImage_startPending (s : State) (j y : Nat) (x : ImageRec) : (s.setImage j y x).startPending = s.startPending := rfl
@[simp] theorem State.setImage_stopPending (s : State) (j y : Nat) (x : ImageRec) : (s.setImage j y x).stopPending = s.stopPending := rfl
@[simp] theorem State.setImage_waveDue (s : State) (j y : Nat) (x : ImageRec) : (s.setImage j y x).waveDue = s.waveDue := rfl
@[simp] theorem State.setImage_runEra (s : State) (j y : Nat) (x : ImageRec) : (s.setImage j y x).runEra = s.runEra := rfl
@[simp] theorem State.setImage_regions (s : State) (j y : Nat) (x : ImageRec) : (s.setImage j y x).regions = s.regions := rfl
@[simp] theorem State.setImage_planes (s : State) (j y : Nat) (x : ImageRec) : (s.setImage j y x).planes = s.planes := rfl
@[simp] theorem State.setImage_frames (s : State) (j y : Nat) (x : ImageRec) : (s.setImage j y x).frames = s.frames := rfl
@[simp] theorem State.setImage_latched (s : State) (j y : Nat) (x : ImageRec) : (s.setImage j y x).latched = s.latched := rfl
@[simp] theorem State.setImage_latchXn (s : State) (j y : Nat) (x : ImageRec) : (s.setImage j y x).latchXn = s.latchXn := rfl
@[simp] theorem State.setImage_rearm (s : State) (j y : Nat) (x : ImageRec) : (s.setImage j y x).rearm = s.rearm := rfl
@[simp] theorem State.setImage_rearmDue (s : State) (j y : Nat) (x : ImageRec) : (s.setImage j y x).rearmDue = s.rearmDue := rfl
@[simp] theorem State.setImage_regs (s : State) (j y : Nat) (x : ImageRec) : (s.setImage j y x).regs = s.regs := rfl
@[simp] theorem State.setImage_huskLast (s : State) (j y : Nat) (x : ImageRec) : (s.setImage j y x).huskLast = s.huskLast := rfl
@[simp] theorem State.setImage_delivered (s : State) (j y : Nat) (x : ImageRec) : (s.setImage j y x).delivered = s.delivered := rfl
@[simp] theorem State.setImage_readTokens (s : State) (j y : Nat) (x : ImageRec) : (s.setImage j y x).readTokens = s.readTokens := rfl
@[simp] theorem State.setImage_probePipe (s : State) (j y : Nat) (x : ImageRec) : (s.setImage j y x).probePipe = s.probePipe := rfl
@[simp] theorem State.setImage_probePins (s : State) (j y : Nat) (x : ImageRec) : (s.setImage j y x).probePins = s.probePins := rfl
@[simp] theorem State.setImage_probeBlocks (s : State) (j y : Nat) (x : ImageRec) : (s.setImage j y x).probeBlocks = s.probeBlocks := rfl
@[simp] theorem State.setImage_probeHeld (s : State) (j y : Nat) (x : ImageRec) : (s.setImage j y x).probeHeld = s.probeHeld := rfl
@[simp] theorem State.setImage_bankMem (s : State) (j y : Nat) (x : ImageRec) : (s.setImage j y x).bankMem = s.bankMem := rfl
@[simp] theorem State.setImage_queues (s : State) (j y : Nat) (x : ImageRec) : (s.setImage j y x).queues = s.queues := rfl
@[simp] theorem State.setImage_patrol (s : State) (j y : Nat) (x : ImageRec) : (s.setImage j y x).patrol = s.patrol := rfl
@[simp] theorem State.setImage_repairs (s : State) (j y : Nat) (x : ImageRec) : (s.setImage j y x).repairs = s.repairs := rfl
@[simp] theorem State.setImage_storedMap (s : State) (j y : Nat) (x : ImageRec) : (s.setImage j y x).storedMap = s.storedMap := rfl
@[simp] theorem State.setImage_march (s : State) (j y : Nat) (x : ImageRec) : (s.setImage j y x).march = s.march := rfl
@[simp] theorem State.setImage_load (s : State) (j y : Nat) (x : ImageRec) : (s.setImage j y x).load = s.load := rfl
@[simp] theorem State.setImage_migReverting (s : State) (j y : Nat) (x : ImageRec) : (s.setImage j y x).migReverting = s.migReverting := rfl
@[simp] theorem State.setImage_migOverlap (s : State) (j y : Nat) (x : ImageRec) : (s.setImage j y x).migOverlap = s.migOverlap := rfl
@[simp] theorem State.setImage_migWave (s : State) (j y : Nat) (x : ImageRec) : (s.setImage j y x).migWave = s.migWave := rfl
@[simp] theorem State.setImage_migMin (s : State) (j y : Nat) (x : ImageRec) : (s.setImage j y x).migMin = s.migMin := rfl
@[simp] theorem State.setImage_migHalted (s : State) (j y : Nat) (x : ImageRec) : (s.setImage j y x).migHalted = s.migHalted := rfl
@[simp] theorem State.setImage_deferred (s : State) (j y : Nat) (x : ImageRec) : (s.setImage j y x).deferred = s.deferred := rfl
@[simp] theorem State.setImage_lanes (s : State) (j y : Nat) (x : ImageRec) : (s.setImage j y x).lanes = s.lanes := rfl
@[simp] theorem State.setImage_tx (s : State) (j y : Nat) (x : ImageRec) : (s.setImage j y x).tx = s.tx := rfl
@[simp] theorem State.setImage_timing (s : State) (j y : Nat) (x : ImageRec) : (s.setImage j y x).timing = s.timing := rfl
@[simp] theorem State.setImage_sourceDue (s : State) (j y : Nat) (x : ImageRec) : (s.setImage j y x).sourceDue = s.sourceDue := rfl
@[simp] theorem State.setImage_timingNew (s : State) (j y : Nat) (x : ImageRec) : (s.setImage j y x).timingNew = s.timingNew := rfl
@[simp] theorem State.setImage_lines (s : State) (j y : Nat) (x : ImageRec) : (s.setImage j y x).lines = s.lines := rfl
@[simp] theorem State.setImage_slotC (s : State) (j y : Nat) (x : ImageRec) : (s.setImage j y x).slotC = s.slotC := rfl
@[simp] theorem State.setImage_skips (s : State) (j y : Nat) (x : ImageRec) : (s.setImage j y x).skips = s.skips := rfl
@[simp] theorem State.setImage_heldReqs (s : State) (j y : Nat) (x : ImageRec) : (s.setImage j y x).heldReqs = s.heldReqs := rfl
@[simp] theorem State.setImage_lbif (s : State) (j y : Nat) (x : ImageRec) : (s.setImage j y x).lbif = s.lbif := rfl
@[simp] theorem State.setImage_bar2Held (s : State) (j y : Nat) (x : ImageRec) : (s.setImage j y x).bar2Held = s.bar2Held := rfl
@[simp] theorem State.setImage_scrubPos (s : State) (j y : Nat) (x : ImageRec) : (s.setImage j y x).scrubPos = s.scrubPos := rfl
@[simp] theorem State.setImage_nextWindow (s : State) (j y : Nat) (x : ImageRec) : (s.setImage j y x).nextWindow = s.nextWindow := rfl
@[simp] theorem State.setImage_activationC (s : State) (j y : Nat) (x : ImageRec) : (s.setImage j y x).activationC = s.activationC := rfl
@[simp] theorem State.setImage_derived (s : State) (j y : Nat) (x : ImageRec) : (s.setImage j y x).derived = s.derived := rfl
@[simp] theorem State.setImage_ports (s : State) (j y : Nat) (x : ImageRec) : (s.setImage j y x).ports = s.ports := rfl
@[simp] theorem State.setImage_pair (s : State) (j y : Nat) (x : ImageRec) : (s.setImage j y x).pair = s.pair := rfl
@[simp] theorem State.setImage_outReqs (s : State) (j y : Nat) (x : ImageRec) : (s.setImage j y x).outReqs = s.outReqs := rfl
@[simp] theorem State.setImage_msixPend (s : State) (j y : Nat) (x : ImageRec) : (s.setImage j y x).msixPend = s.msixPend := rfl
@[simp] theorem State.setImage_msixHold (s : State) (j y : Nat) (x : ImageRec) : (s.setImage j y x).msixHold = s.msixHold := rfl
@[simp] theorem State.setImage_msixTable (s : State) (j y : Nat) (x : ImageRec) : (s.setImage j y x).msixTable = s.msixTable := rfl
@[simp] theorem State.setImage_keepLines (s : State) (j y : Nat) (x : ImageRec) : (s.setImage j y x).keepLines = s.keepLines := rfl
@[simp] theorem State.setImage_engines (s : State) (j y : Nat) (x : ImageRec) : (s.setImage j y x).engines = s.engines := rfl
@[simp] theorem State.setImage_readoutQueue (s : State) (j y : Nat) (x : ImageRec) : (s.setImage j y x).readoutQueue = s.readoutQueue := rfl
@[simp] theorem State.setImage_kernels (s : State) (j y : Nat) (x : ImageRec) : (s.setImage j y x).kernels = s.kernels := rfl
@[simp] theorem State.setImage_transfers (s : State) (j y : Nat) (x : ImageRec) : (s.setImage j y x).transfers = s.transfers := rfl
@[simp] theorem State.setImage_mailboxes (s : State) (j y : Nat) (x : ImageRec) : (s.setImage j y x).mailboxes = s.mailboxes := rfl
@[simp] theorem State.setImage_can (s : State) (j y : Nat) (x : ImageRec) : (s.setImage j y x).can = s.can := rfl
@[simp] theorem State.setImage_canOpen (s : State) (j y : Nat) (x : ImageRec) : (s.setImage j y x).canOpen = s.canOpen := rfl
@[simp] theorem State.setImage_design (s : State) (j y : Nat) (x : ImageRec) : (s.setImage j y x).design = s.design := rfl
@[simp] theorem State.setImage_designQ (s : State) (j y : Nat) (x : ImageRec) : (s.setImage j y x).designQ = s.designQ := rfl
@[simp] theorem State.setImage_designTag (s : State) (j y : Nat) (x : ImageRec) : (s.setImage j y x).designTag = s.designTag := rfl
@[simp] theorem State.setImage_userVals (s : State) (j y : Nat) (x : ImageRec) : (s.setImage j y x).userVals = s.userVals := rfl
@[simp] theorem State.setImage_portReq (s : State) (j y : Nat) (x : ImageRec) : (s.setImage j y x).portReq = s.portReq := rfl
@[simp] theorem State.setImage_portOut (s : State) (j y : Nat) (x : ImageRec) : (s.setImage j y x).portOut = s.portOut := rfl
@[simp] theorem State.setImage_portIn (s : State) (j y : Nat) (x : ImageRec) : (s.setImage j y x).portIn = s.portIn := rfl
@[simp] theorem State.setImage_portMsgs (s : State) (j y : Nat) (x : ImageRec) : (s.setImage j y x).portMsgs = s.portMsgs := rfl
@[simp] theorem State.setImage_domains (s : State) (j y : Nat) (x : ImageRec) : (s.setImage j y x).domains = s.domains := rfl
@[simp] theorem State.setImage_sensors (s : State) (j y : Nat) (x : ImageRec) : (s.setImage j y x).sensors = s.sensors := rfl
@[simp] theorem State.setImage_thermal (s : State) (j y : Nat) (x : ImageRec) : (s.setImage j y x).thermal = s.thermal := rfl
@[simp] theorem State.setImage_collector (s : State) (j y : Nat) (x : ImageRec) : (s.setImage j y x).collector = s.collector := rfl
@[simp] theorem State.setImage_rd_frame (s : State) (j y : Nat) (x : ImageRec) (u w : Nat) : (s.setImage j y x).rd u w = s.rd u w := rfl
@[simp] theorem State.setImage_region_frame (s : State) (j y : Nat) (x : ImageRec) (u : Nat) : (s.setImage j y x).region u = s.region u := rfl
@[simp] theorem State.setImage_plane_frame (s : State) (j y : Nat) (x : ImageRec) (u w : Nat) : (s.setImage j y x).plane u w = s.plane u w := rfl
@[simp] theorem State.setImage_frame_frame (s : State) (j y : Nat) (x : ImageRec) (u w z : Nat) : (s.setImage j y x).frame u w z = s.frame u w z := rfl
@[simp] theorem State.setImage_queue_frame (s : State) (j y : Nat) (x : ImageRec) (u : Nat) : (s.setImage j y x).queue u = s.queue u := rfl
@[simp] theorem State.setImage_lane_frame (s : State) (j y : Nat) (x : ImageRec) (u : Nat) : (s.setImage j y x).lane u = s.lane u := rfl
@[simp] theorem State.setImage_txLane_frame (s : State) (j y : Nat) (x : ImageRec) (u : Nat) : (s.setImage j y x).txLane u = s.txLane u := rfl
@[simp] theorem State.setImage_tim_frame (s : State) (j y : Nat) (x : ImageRec) (u : Nat) : (s.setImage j y x).tim u = s.tim u := rfl
@[simp] theorem State.setImage_port_frame (s : State) (j y : Nat) (x : ImageRec) (u : Nat) : (s.setImage j y x).port u = s.port u := rfl
@[simp] theorem State.setImage_engine_frame (s : State) (j y : Nat) (x : ImageRec) (u : Nat) : (s.setImage j y x).engine u = s.engine u := rfl
@[simp] theorem State.setImage_kernel_frame (s : State) (j y : Nat) (x : ImageRec) (u : Nat) : (s.setImage j y x).kernel u = s.kernel u := rfl
@[simp] theorem State.setImage_mailbox_frame (s : State) (j y : Nat) (x : ImageRec) (u : Nat) : (s.setImage j y x).mailbox u = s.mailbox u := rfl
@[simp] theorem State.setImage_canCh_frame (s : State) (j y : Nat) (x : ImageRec) (u : Nat) : (s.setImage j y x).canCh u = s.canCh u := rfl
@[simp] theorem State.setImage_dom_frame (s : State) (j y : Nat) (x : ImageRec) (u : Nat) : (s.setImage j y x).dom u = s.dom u := rfl
@[simp] theorem State.setImage_sensor_frame (s : State) (j y : Nat) (x : ImageRec) (u : Nat) : (s.setImage j y x).sensor u = s.sensor u := rfl
@[simp] theorem State.setImage_waveLog (s : State) (j y : Nat) (x : ImageRec) : (s.setImage j y x).waveLog = s.waveLog := rfl
@[simp] theorem State.setImage_readoutDue (s : State) (j y : Nat) (x : ImageRec) : (s.setImage j y x).readoutDue = s.readoutDue := rfl
@[simp] theorem State.setImage_pinsHeld (s : State) (j y : Nat) (x : ImageRec) : (s.setImage j y x).pinsHeld = s.pinsHeld := rfl
@[simp] theorem State.setImage_bar4Held (s : State) (j y : Nat) (x : ImageRec) : (s.setImage j y x).bar4Held = s.bar4Held := rfl
@[simp] theorem State.setImage_cfgSpace (s : State) (j y : Nat) (x : ImageRec) : (s.setImage j y x).cfgSpace = s.cfgSpace := rfl
@[simp] theorem State.setImage_gates (s : State) (j y : Nat) (x : ImageRec) : (s.setImage j y x).gates = s.gates := rfl
@[simp] theorem State.setImage_loadHeld (s : State) (j y : Nat) (x : ImageRec) : (s.setImage j y x).loadHeld = s.loadHeld := rfl
@[simp] theorem State.setImage_keepCopy (s : State) (j y : Nat) (x : ImageRec) : (s.setImage j y x).keepCopy = s.keepCopy := rfl
@[simp] theorem State.setImage_storeStops (s : State) (j y : Nat) (x : ImageRec) : (s.setImage j y x).storeStops = s.storeStops := rfl
@[simp] theorem State.setImage_spareLines (s : State) (j y : Nat) (x : ImageRec) : (s.setImage j y x).spareLines = s.spareLines := rfl

/-! ### What was written reads back -/

@[simp] theorem State.fresh_out (s : State) : s.fresh.out = [] := rfl
@[simp] theorem State.emit_out (s : State) (o : Output) : (s.emit o).out = s.out ++ [o] := rfl

/-- A number's place in the dictionary: sub-indices have eight bits. -/
theorem ent_eq (i j a b : Nat) (hj : j < 256) (hb : b < 256) : ent a b = ent i j ↔ a = i ∧ b = j := by
  unfold ent
  omega

@[simp] theorem ent_same (i a b : Nat) : ent i a = ent i b ↔ a = b := by simp [ent]

theorem State.wr_rd (s : State) (i j v a b : Nat) :
    (s.wr i j v).rd a b = if ent a b = ent i j then v else s.rd a b := Sparse.get_set _ _ _ _ _

/-! Counters and bits are writes. -/

@[simp] theorem State.bump_eq (s : State) (w i j : Nat) :
    s.bump w i j = s.wr i j (counterNext w (ent i j) (s.rd i j)) := rfl
@[simp] theorem State.bumpSat_eq (s : State) (w i j k : Nat) :
    s.bumpSat w i j k = s.wr i j (min (s.rd i j + k) (2 ^ w - 1)) := rfl
@[simp] theorem State.wrBit_eq (s : State) (i j b : Nat) (on : Bool) :
    s.wrBit i j b on = s.wr i j (withBit (s.rd i j) b on) := rfl

@[simp] theorem State.wr_rd_same (s : State) (i j v : Nat) : (s.wr i j v).rd i j = v := by simp [State.wr_rd]

theorem State.wr_rd_ne (s : State) (i j v a b : Nat) (h : ent a b ≠ ent i j) : (s.wr i j v).rd a b = s.rd a b := by
  simp [State.wr_rd, h]

theorem State.setRegion_region (s : State) (n m : Nat) (x : RegionRec) :
    (s.setRegion n x).region m = if m = n then x else s.region m := Sparse.get_set _ _ _ _ _
@[simp] theorem State.setRegion_region_same (s : State) (n : Nat) (x : RegionRec) : (s.setRegion n x).region n = x := by
  simp [State.setRegion_region]

theorem State.setQueue_queue (s : State) (n m : Nat) (x : QueueRec) :
    (s.setQueue n x).queue m = if m = n then x else s.queue m := Sparse.get_set _ _ _ _ _
@[simp] theorem State.setQueue_queue_same (s : State) (n : Nat) (x : QueueRec) : (s.setQueue n x).queue n = x := by
  simp [State.setQueue_queue]

theorem State.setLane_lane (s : State) (n m : Nat) (x : LaneRec) :
    (s.setLane n x).lane m = if m = n then x else s.lane m := Sparse.get_set _ _ _ _ _
@[simp] theorem State.setLane_lane_same (s : State) (n : Nat) (x : LaneRec) : (s.setLane n x).lane n = x := by
  simp [State.setLane_lane]

theorem State.setTx_txLane (s : State) (n m : Nat) (x : TxRec) :
    (s.setTx n x).txLane m = if m = n then x else s.txLane m := Sparse.get_set _ _ _ _ _
@[simp] theorem State.setTx_txLane_same (s : State) (n : Nat) (x : TxRec) : (s.setTx n x).txLane n = x := by
  simp [State.setTx_txLane]

theorem State.setTim_tim (s : State) (n m : Nat) (x : TimRec) :
    (s.setTim n x).tim m = if m = n then x else s.tim m := Sparse.get_set _ _ _ _ _
@[simp] theorem State.setTim_tim_same (s : State) (n : Nat) (x : TimRec) : (s.setTim n x).tim n = x := by
  simp [State.setTim_tim]

theorem State.setPort_port (s : State) (n m : Nat) (x : PortRec) :
    (s.setPort n x).port m = if m = n then x else s.port m := Sparse.get_set _ _ _ _ _
@[simp] theorem State.setPort_port_same (s : State) (n : Nat) (x : PortRec) : (s.setPort n x).port n = x := by
  simp [State.setPort_port]

theorem State.setEngine_engine (s : State) (n m : Nat) (x : EngRec) :
    (s.setEngine n x).engine m = if m = n then x else s.engine m := Sparse.get_set _ _ _ _ _
@[simp] theorem State.setEngine_engine_same (s : State) (n : Nat) (x : EngRec) : (s.setEngine n x).engine n = x := by
  simp [State.setEngine_engine]

theorem State.setKernel_kernel (s : State) (n m : Nat) (x : KernelRec) :
    (s.setKernel n x).kernel m = if m = n then x else s.kernel m := Sparse.get_set _ _ _ _ _
@[simp] theorem State.setKernel_kernel_same (s : State) (n : Nat) (x : KernelRec) : (s.setKernel n x).kernel n = x := by
  simp [State.setKernel_kernel]

theorem State.setMailbox_mailbox (s : State) (n m : Nat) (x : MailboxRec) :
    (s.setMailbox n x).mailbox m = if m = n then x else s.mailbox m := Sparse.get_set _ _ _ _ _
@[simp] theorem State.setMailbox_mailbox_same (s : State) (n : Nat) (x : MailboxRec) : (s.setMailbox n x).mailbox n = x := by
  simp [State.setMailbox_mailbox]

theorem State.setCan_canCh (s : State) (n m : Nat) (x : CanRec) :
    (s.setCan n x).canCh m = if m = n then x else s.canCh m := Sparse.get_set _ _ _ _ _
@[simp] theorem State.setCan_canCh_same (s : State) (n : Nat) (x : CanRec) : (s.setCan n x).canCh n = x := by
  simp [State.setCan_canCh]

theorem State.setDom_dom (s : State) (n m : Nat) (x : DomainRec) :
    (s.setDom n x).dom m = if m = n then x else s.dom m := Sparse.get_set _ _ _ _ _
@[simp] theorem State.setDom_dom_same (s : State) (n : Nat) (x : DomainRec) : (s.setDom n x).dom n = x := by
  simp [State.setDom_dom]

theorem State.setSensor_sensor (s : State) (n m : Nat) (x : SensorRec) :
    (s.setSensor n x).sensor m = if m = n then x else s.sensor m := Sparse.get_set _ _ _ _ _
@[simp] theorem State.setSensor_sensor_same (s : State) (n : Nat) (x : SensorRec) : (s.setSensor n x).sensor n = x := by
  simp [State.setSensor_sensor]

theorem State.setPlane_plane (s : State) (n p m q : Nat) (x : PlaneRec) :
    (s.setPlane n p x).plane m q = if planeKey m q = planeKey n p then x else s.plane m q := Sparse.get_set _ _ _ _ _
@[simp] theorem State.setPlane_plane_same (s : State) (n p : Nat) (x : PlaneRec) :
    (s.setPlane n p x).plane n p = x := by simp [State.setPlane_plane]

theorem State.setFrame_frame (s : State) (n p a m q b : Nat) (x : Frame) :
    (s.setFrame n p a x).frame m q b = if frameKey m q b = frameKey n p a then x else s.frame m q b :=
  Sparse.get_set _ _ _ _ _
@[simp] theorem State.setFrame_frame_same (s : State) (n p a : Nat) (x : Frame) :
    (s.setFrame n p a x).frame n p a = x := by simp [State.setFrame_frame]

end Sys2Proof.Machine
end

