-- ==== Sys2Proof/Laws/Access.lean ====
section
/-! SUPPORT. Access.lean: what an access to the dictionary does once its checks pass: one lemma for writes that act, one
for writes that store, one each for segmented writes and reads. -/

namespace Sys2Proof.Machine

/-! ### Values in bytes -/

@[simp] theorem natBytes_length (n v : Nat) : (natBytes n v).length = n := by simp [natBytes]

theorem natBytes_succ (n v : Nat) : natBytes (n + 1) v = BitVec.ofNat 8 v :: natBytes n (v / 256) := by
  unfold natBytes
  rw [List.range_succ_eq_map, List.map_cons, List.map_map]
  refine List.cons_eq_cons.mpr ⟨by simp, List.map_congr_left ?_⟩
  intro i _
  show BitVec.ofNat 8 (v / 256 ^ (i + 1)) = BitVec.ofNat 8 (v / 256 / 256 ^ i)
  rw [Nat.pow_succ, Nat.mul_comm, Nat.div_div_eq_div_mul]

/-- A number comes back from its bytes (R5). -/
theorem bytesNat_natBytes (n v : Nat) : bytesNat (natBytes n v) = v % 256 ^ n := by
  induction n generalizing v with
  | zero => simp [natBytes, bytesNat, Nat.mod_one]
  | succ n ih =>
    rw [natBytes_succ]
    show (BitVec.ofNat 8 v).toNat + 256 * bytesNat (natBytes n (v / 256)) = _
    rw [ih, BitVec.toNat_ofNat]
    show v % 256 + 256 * (v / 256 % 256 ^ n) = v % 256 ^ (n + 1)
    rw [show 256 ^ (n + 1) = 256 * 256 ^ n by rw [Nat.pow_succ, Nat.mul_comm], Nat.mod_mul]

theorem bytesNat_natBytes_of_lt (n v : Nat) (h : v < 256 ^ n) : bytesNat (natBytes n v) = v := by
  rw [bytesNat_natBytes, Nat.mod_eq_of_lt h]

/-! ### Writes -/

theorem isUser_device (idx : Nat) (h : idx < 0xA000) : isUser idx = false := by
  unfold isUser
  simp only [Bool.and_eq_false_iff, decide_eq_false_iff_not]
  omega

theorem State.entryRow_device (s : State) (idx sub : Nat) (h : idx < 0xA000) : s.entryRow idx sub = rowOf idx sub := by
  simp [State.entryRow, isUser_device idx h]

/-- What the checks that every write shares leave of it. -/
theorem State.dictWrite_granted (s t : State) (r : Requester) (idx sub n v : Nat) (row : Row)
    (hm : s.mayWrite r idx sub v = true) (hrow : rowOf idx sub = some row) (hu : idx < 0xA000)
    (hv : bytesNat (natBytes n v) = v) (hlen : lengthOk row.ty n = true) (hty : typeOk row.ty v = true)
    (hrng : s.rangeOk row.rng v = true) (hval : s.valueOk idx sub v = true) (hst : s.stateOk idx sub v = true)
    (hact : (s.fresh.entryAct r idx sub v).getD (done (s.fresh.storeValue row idx sub v)) = (0, t))
    (h8 : idx ≠ 0x1008) (h11 : idx ≠ 0x1100) :
    s.fresh.dictWrite r idx sub (natBytes n v)
      = (if row.persist then t.nextGeneration else t).reply r (ent idx sub) 0 := by
  have hrow' : s.entryRow idx sub = some row := by rw [State.entryRow_device s idx sub hu, hrow]
  simp only [State.mayWrite, hrow', Bool.and_eq_true, decide_eq_true_eq] at hm
  obtain ⟨⟨_, ha⟩, hc⟩ := hm
  have ha' : s.fresh.answers r = true := ha
  have hc' : s.fresh.writeCode r row idx sub v false = 0 := hc
  have hrow'' : s.fresh.entryRow idx sub = some row := hrow'
  have hrng' : s.fresh.rangeOk row.rng v = true := hrng
  have hval' : s.fresh.valueOk idx sub v = true := hval
  have hst' : s.fresh.stateOk idx sub v = true := hst
  have hu' : isUser idx = false := isUser_device idx hu
  have hw : s.fresh.writeEntry r idx sub (natBytes n v) = (0, if row.persist then t.nextGeneration else t) := by
    unfold State.writeEntry
    simp [hrow'', hv, hc', hlen, hty, hrng', hval', hst', hu', hact]
  unfold State.dictWrite State.dictWriteAt
  simp [ha', hw, answerLater, State.afterAnswer, h8, h11]

/-- A write that acts (R396, R558). -/
theorem writesOn_acts (ok : Bool) (s t : State) (r : Requester) (idx sub n v : Nat) (row : Row) (hok : ok = true)
    (hm : s.mayWrite r idx sub v = true) (hrow : rowOf idx sub = some row) (hp : row.persist = false)
    (hu : idx < 0xA000) (hv : bytesNat (natBytes n v) = v) (hlen : lengthOk row.ty n = true)
    (hty : typeOk row.ty v = true) (hrng : s.rangeOk row.rng v = true) (hval : s.valueOk idx sub v = true)
    (hst : s.stateOk idx sub v = true) (hact : s.fresh.entryAct r idx sub v = some (0, t)) (h8 : idx ≠ 0x1008)
    (h11 : idx ≠ 0x1100) : writesOn ok s r idx sub n v = t.accepted r idx sub := by
  have hr : requesterOk r = true := by
    simp only [State.mayWrite, Bool.and_eq_true] at hm
    exact hm.1.1
  have hw := State.dictWrite_granted s t r idx sub n v row hm hrow hu hv hlen hty hrng hval hst (by simp [hact]) h8 h11
  simp [writesOn, onUnit, hr, hok, hw, hp, State.accepted]

theorem writes_eq_writesOn (s : State) (r : Requester) (idx sub n v : Nat) :
    writes s r idx sub n v = writesOn true s r idx sub n v := by simp [writes, writesOn]

end Sys2Proof.Machine
end

