-- ==== Sys2Proof/Laws/Canonical.lean ====
section
/-! SUPPORT. Canonical.lean: every memory holds its canonical form through a write: a bank's byte, a line of the
look-back store, a frame, a kernel's byte, a dictionary entry, a line of the keep store. The memories that reset leaves
have it. -/

namespace Sys2Proof.Machine

/-- Reset lists nothing in any memory, which is the canonical form. -/
theorem reset_wf :
    Sparse.wf dfltKey State.reset.dict ∧ Sparse.wf bankDflt State.reset.bankMem ∧
      Sparse.wf (fun _ => none) State.reset.lines ∧ Sparse.wf (fun _ => {}) State.reset.frames ∧
      Sparse.wf (fun _ => {}) State.reset.kernels ∧ Sparse.wf (fun _ => none) State.reset.keepLines := by
  simp [State.reset, Sparse.wf]

theorem State.wr_wf (s : State) (idx sub v : Nat) (h : Sparse.wf dfltKey s.dict) :
    Sparse.wf dfltKey (s.wr idx sub v).dict :=
  Sparse.wf_set _ _ _ _ h

theorem State.setBankByte_wf (s : State) (key : Nat) (v : BitVec 14) (h : Sparse.wf bankDflt s.bankMem) :
    Sparse.wf bankDflt (s.setBankByte key v).bankMem :=
  Sparse.wf_set _ _ _ _ h

theorem State.setLine_wf (s : State) (k la : Nat) (x : BitVec 576) (h : Sparse.wf (fun _ => none) s.lines) :
    Sparse.wf (fun _ => none) (s.setLine k la x).lines :=
  Sparse.wf_set (fun _ => none) s.lines (lineKey k la) (some x) h

theorem State.setFrame_wf (s : State) (n p a : Nat) (x : Frame) (h : Sparse.wf (fun _ => {}) s.frames) :
    Sparse.wf (fun _ => {}) (s.setFrame n p a x).frames :=
  Sparse.wf_set _ _ _ _ h

theorem State.setKernel_wf (s : State) (k : Nat) (x : KernelRec) (h : Sparse.wf (fun _ => {}) s.kernels) :
    Sparse.wf (fun _ => {}) (s.setKernel k x).kernels :=
  Sparse.wf_set _ _ _ _ h

/-- A byte stored in one kernel's memory keeps the form of every kernel's memory. -/
theorem State.setKbyte_wf (s : State) (k j a : Nat) (v : Byte) (h : Sparse.wf kernelDflt (s.kernel j).mem) :
    Sparse.wf kernelDflt ((s.setKbyte k a v).kernel j).mem := by
  unfold State.setKbyte State.setKernel State.kernel at *
  simp only [Sparse.get_set]
  split
  · subst j; exact Sparse.wf_set _ _ _ _ h
  · exact h

theorem State.setWinByte_wf (s : State) (k j o : Nat) (v : Byte) (h : Sparse.wf winDflt (s.kernel j).window) :
    Sparse.wf winDflt ((s.setWinByte k o v).kernel j).window := by
  unfold State.setWinByte State.setKernel State.kernel at *
  simp only [Sparse.get_set]
  split
  · subst j; exact Sparse.wf_set _ _ _ _ h
  · exact h

end Sys2Proof.Machine
end

