-- ==== Sys2Proof/Laws/Raise.lean ====
section
/-! SUPPORT. Raise.lean: everything that a raise can do (R481 to R493): which parts of the state it writes, and what the
source's entries hold after it. -/

namespace Sys2Proof.Machine

/-- Of t, only what a raise writes differs from s: the dictionary, the collector's record, pending vectors, the mark of
a halt, the channels' queues and gates, what is given. -/
def State.RaiseFrame (s t : State) : Prop :=
  t = { s with
    dict := t.dict
    out := t.out
    can := t.can
    gates := t.gates
    msixPend := t.msixPend
    collector := t.collector
    security := { s.security with haltSeen := t.security.haltSeen } }

theorem State.RaiseFrame.refl (s : State) : s.RaiseFrame s := rfl

theorem State.RaiseFrame.trans {s t u : State} (h : s.RaiseFrame t) (g : t.RaiseFrame u) : s.RaiseFrame u := by
  unfold State.RaiseFrame at *
  rw [h] at g
  exact g

/-- The entries that a raise may write: pages 0x70 to 0x72, and the two channels' counters. -/
def State.SameEntries (s t : State) : Prop :=
  ∀ a b : Nat, b < 256 → (a < 0x7000 ∨ 0x7300 ≤ a) → a ≠ 0x100B → a ≠ 0x100C → t.rd a b = s.rd a b

theorem State.SameEntries.refl (s : State) : s.SameEntries s := fun _ _ _ _ _ _ => rfl

theorem State.SameEntries.trans {s t u : State} (h : s.SameEntries t) (g : t.SameEntries u) : s.SameEntries u :=
  fun a b hb ha h1 h2 => (g a b hb ha h1 h2).trans (h a b hb ha h1 h2)

/-- Both frames. -/
def State.RaiseOnly (s t : State) : Prop := s.RaiseFrame t ∧ s.SameEntries t

theorem State.RaiseOnly.refl (s : State) : s.RaiseOnly s := ⟨State.RaiseFrame.refl s, State.SameEntries.refl s⟩

theorem State.RaiseOnly.trans {s t u : State} (h : s.RaiseOnly t) (g : t.RaiseOnly u) : s.RaiseOnly u :=
  ⟨h.1.trans g.1, h.2.trans g.2⟩

/-- An entry that a raise may write. -/
def isRaiseEntry (i j : Nat) : Prop := (0x7000 ≤ i ∧ i < 0x7300 ∧ j < 256) ∨ ((i = 0x100B ∨ i = 0x100C) ∧ j < 256)

theorem State.wr_raiseOnly (s : State) (i j v : Nat) (h : isRaiseEntry i j) : s.RaiseOnly (s.wr i j v) := by
  refine ⟨rfl, ?_⟩
  intro a b hb ha h1 h2
  apply State.wr_rd_ne
  unfold isRaiseEntry at h
  unfold ent
  omega

theorem State.bump_raiseOnly (s : State) (w i j : Nat) (h : isRaiseEntry i j) : s.RaiseOnly (s.bump w i j) :=
  State.wr_raiseOnly s i j _ h

theorem State.wrBit_raiseOnly (s : State) (i j b : Nat) (on : Bool) (h : isRaiseEntry i j) :
    s.RaiseOnly (s.wrBit i j b on) := State.wr_raiseOnly s i j _ h

theorem State.canSend_raiseOnly (s : State) (c : Nat) (ev : FrameUse) (id : BitVec 29) (data : List Byte) (hc : c < 2) :
    s.RaiseOnly (s.canSend c ev id data) := by
  have hi : ∀ j, j < 256 → isRaiseEntry (0x100B + c) j := fun j hj => by
    unfold isRaiseEntry
    omega
  unfold State.canSend
  split
  · exact State.RaiseOnly.refl s
  · dsimp only
    split
    · exact State.RaiseOnly.refl s
    · split
      · refine State.RaiseOnly.trans ?_ ((State.bump_raiseOnly (s.work 4 c) 64 _ _ (hi 5 (by omega))).trans
          ⟨rfl, fun _ _ _ _ _ _ => rfl⟩)
        exact ⟨rfl, fun _ _ _ _ _ _ => rfl⟩
      · split
        · split
          · split
            · exact State.bump_raiseOnly s 32 _ _ (hi _ (by omega))
            · exact State.RaiseOnly.refl s
          · exact ⟨rfl, fun _ _ _ _ _ _ => rfl⟩
        · exact State.RaiseOnly.refl s

theorem State.eventFrame_raiseOnly (s : State) (src level : Nat) : s.RaiseOnly (s.eventFrame src level) :=
  (State.canSend_raiseOnly s 0 .event _ _ (by omega)).trans (State.canSend_raiseOnly _ 1 .event _ _ (by omega))

/-- A further write of an entry that a raise may write. -/
theorem State.RaiseOnly.wr {s t : State} (h : s.RaiseOnly t) (i j v : Nat) (hi : isRaiseEntry i j) :
    s.RaiseOnly (t.wr i j v) := h.trans (State.wr_raiseOnly t i j v hi)

theorem State.RaiseOnly.bump {s t : State} (h : s.RaiseOnly t) (w i j : Nat) (hi : isRaiseEntry i j) :
    s.RaiseOnly (t.bump w i j) := h.trans (State.bump_raiseOnly t w i j hi)

theorem State.RaiseOnly.wrBit {s t : State} (h : s.RaiseOnly t) (i j b : Nat) (on : Bool) (hi : isRaiseEntry i j) :
    s.RaiseOnly (t.wrBit i j b on) := h.trans (State.wrBit_raiseOnly t i j b on hi)

/-- A change of the collector's record. -/
theorem State.RaiseOnly.collector {s t : State} (h : s.RaiseOnly t) (c : CollectorRec) :
    s.RaiseOnly { t with collector := c } := by
  refine h.trans ⟨rfl, ?_⟩
  intro _ _ _ _ _ _
  rfl

theorem State.markRaise_raiseOnly (s : State) (src cls code eff : Nat) (hs : src < 384) (hc : cls < 16) :
    s.RaiseOnly (s.markRaise src cls code eff) := by
  have hi : ∀ j, j < 256 → isRaiseEntry (0x7100 + src) j := fun j hj => by
    unfold isRaiseEntry
    omega
  have h1 : isRaiseEntry 0x7001 (cls + 1) := by
    unfold isRaiseEntry
    omega
  have h2 : isRaiseEntry 0x7000 0x02 := by
    unfold isRaiseEntry
    omega
  have chain : s.RaiseOnly (s.markEntries src cls code eff) := by
    unfold State.markEntries
    dsimp only
    refine State.RaiseOnly.wr ?_ _ _ _ (hi _ (by omega))
    refine State.RaiseOnly.wr ?_ _ _ _ (hi _ (by omega))
    refine State.RaiseOnly.wr ?_ _ _ _ (hi _ (by omega))
    refine State.RaiseOnly.bump ?_ _ _ _ h2
    refine State.RaiseOnly.bump ?_ _ _ _ h1
    refine State.RaiseOnly.bump ?_ _ _ _ (hi _ (by omega))
    exact State.wr_raiseOnly s _ _ _ (hi _ (by omega))
  unfold State.markRaise
  dsimp only
  split
  · exact chain.wrBit (0x7100 + src) 0x0A cls true (hi _ (by omega))
  · exact chain.collector _

theorem State.writeHistory_raiseOnly (s : State) (eff : Nat) (h : HistEntry) : s.RaiseOnly (s.writeHistory eff h) := by
  have hi : ∀ j, j < 256 → isRaiseEntry 0x7010 j := fun j hj => by
    unfold isRaiseEntry
    omega
  unfold State.writeHistory
  split
  · exact State.bump_raiseOnly s 32 0x7010 0x03 (hi _ (by omega))
  · dsimp only
    split
    · exact (((State.RaiseOnly.refl s).collector _).bump 64 0x7010 0x01 (hi _ (by omega))).bump 32 0x7010 0x02
        (hi _ (by omega))
    · exact ((State.RaiseOnly.refl s).collector _).bump 64 0x7010 0x01 (hi _ (by omega))

theorem State.pendVector_raiseOnly (s : State) (w : Nat) : s.RaiseOnly (s.pendVector w) := by
  unfold State.pendVector
  split
  · exact ⟨rfl, fun _ _ _ _ _ _ => rfl⟩
  · exact State.RaiseOnly.refl s

/-- What a raise can write. -/
theorem State.raise_raiseOnly (s : State) (src cls code level detail : Nat) (forced : Bool) (hs : src < 384)
    (hc : cls < 16) : s.RaiseOnly (s.raise src cls code level detail forced) := by
  have halt (t : State) (p : Prop) [Decidable p] : t.RaiseOnly
      (if p then { t with security := { t.security with haltSeen := true } } else t) := by
    split
    · exact ⟨rfl, fun _ _ _ _ _ _ => rfl⟩
    · exact State.RaiseOnly.refl t
  have ev (t : State) (p : Prop) [Decidable p] (e : Nat) : t.RaiseOnly (if p then t.eventFrame src e else t) := by
    split
    · exact State.eventFrame_raiseOnly t src e
    · exact State.RaiseOnly.refl t
  have act (t : State) (p : Prop) [Decidable p] (l : List Action) :
      t.RaiseOnly (if p then t else t.queueActions l) := by
    split
    · exact State.RaiseOnly.refl t
    · exact ⟨rfl, fun _ _ _ _ _ _ => rfl⟩
  unfold State.raise
  dsimp only
  refine State.RaiseOnly.trans ?_ (act _ _ _)
  refine State.RaiseOnly.trans ?_ (ev _ _ _)
  refine State.RaiseOnly.trans ?_ (halt _ _)
  refine State.RaiseOnly.trans ?_ (State.pendVector_raiseOnly _ _)
  refine State.RaiseOnly.trans ?_ (State.writeHistory_raiseOnly _ _ _)
  exact State.markRaise_raiseOnly s src cls code _ hs hc

/-- Entries outside the collector's pages stand through a raise. -/
theorem State.raise_rd (s : State) (src cls code level detail : Nat) (forced : Bool) (a b : Nat) (hs : src < 384)
    (hc : cls < 16) (hb : b < 256) (ha : a < 0x7000 ∨ 0x7300 ≤ a) (h1 : a ≠ 0x100B) (h2 : a ≠ 0x100C) :
    (s.raise src cls code level detail forced).rd a b = s.rd a b :=
  (State.raise_raiseOnly s src cls code level detail forced hs hc).2 a b hb ha h1 h2

/-! ### What a raise leaves in the source's entries (R481) -/

theorem State.canSend_rd (s : State) (c : Nat) (ev : FrameUse) (id : BitVec 29) (data : List Byte) (a b : Nat)
    (hb : b < 256) (ha : a ≠ 0x100B + c) : (s.canSend c ev id data).rd a b = s.rd a b := by
  have hne (j : Nat) (hj : j < 256) : ent a b ≠ ent (0x100B + c) j := by
    unfold ent
    omega
  unfold State.canSend
  split
  · rfl
  · dsimp only
    split
    · rfl
    · split
      · exact State.wr_rd_ne (s.work 4 c) (0x100B + c) 0x05 _ a b (hne 5 (by omega))
      · split
        · split
          · split
            · exact State.wr_rd_ne s (0x100B + c) 0x0A _ a b (hne 10 (by omega))
            · rfl
          · rfl
        · rfl

theorem State.eventFrame_rd (s : State) (src level a b : Nat) (hb : b < 256) (h1 : a ≠ 0x100B) (h2 : a ≠ 0x100C) :
    (s.eventFrame src level).rd a b = s.rd a b := by
  unfold State.eventFrame
  rw [State.canSend_rd _ 1 .event _ _ a b hb h2, State.canSend_rd _ 0 .event _ _ a b hb h1]

theorem State.writeHistory_rd (s : State) (eff : Nat) (h : HistEntry) (a b : Nat) (hb : b < 256) (ha : a ≠ 0x7010) :
    (s.writeHistory eff h).rd a b = s.rd a b := by
  have hne (j : Nat) (hj : j < 256) : ent a b ≠ ent 0x7010 j := by
    unfold ent
    omega
  unfold State.writeHistory
  split
  · exact State.wr_rd_ne s 0x7010 0x03 _ a b (hne 3 (by omega))
  · dsimp only
    split
    · exact (State.wr_rd_ne _ 0x7010 0x02 _ a b (hne 2 (by omega))).trans
        (State.wr_rd_ne _ 0x7010 0x01 _ a b (hne 1 (by omega)))
    · exact State.wr_rd_ne _ 0x7010 0x01 _ a b (hne 1 (by omega))

theorem State.pendVector_rd (s : State) (w a b : Nat) : (s.pendVector w).rd a b = s.rd a b := by
  unfold State.pendVector
  split <;> rfl

/-- After its source's entries are marked, a raise writes none of them again. -/
theorem State.raise_rd_marked (s : State) (src cls code level detail : Nat) (forced : Bool) (a b : Nat) (hb : b < 256)
    (h0 : a ≠ 0x7010) (h1 : a ≠ 0x100B) (h2 : a ≠ 0x100C) :
    (s.raise src cls code level detail forced).rd a b
      = (s.markRaise src cls code (s.effLevel src cls level)).rd a b := by
  have halt (t : State) (p : Prop) [Decidable p] :
      (if p then { t with security := { t.security with haltSeen := true } } else t : State).rd a b = t.rd a b := by
    split <;> rfl
  have ev (t : State) (p : Prop) [Decidable p] (e : Nat) :
      (if p then t.eventFrame src e else t).rd a b = t.rd a b := by
    split
    · exact State.eventFrame_rd t src e a b hb h1 h2
    · rfl
  have act (t : State) (p : Prop) [Decidable p] (l : List Action) :
      (if p then t else t.queueActions l).rd a b = t.rd a b := by
    split <;> rfl
  unfold State.raise
  dsimp only
  rw [act, ev, halt, State.pendVector_rd, State.writeHistory_rd _ _ _ a b hb h0]

@[simp] theorem State.addNote_rd (s : State) (src a b : Nat) : (s.addNote src).rd a b = s.rd a b := rfl

/-- The source's status, cause code and effective level after a raise (R481). -/
theorem State.raise_source (s : State) (src cls code level detail : Nat) (forced : Bool) (hc : cls < 16) :
    (s.raise src cls code level detail forced).rd (0x7100 + src) 0x01 = 1 ∧
      (s.raise src cls code level detail forced).rd (0x7100 + src) 0x08 = code % 0x2000 ∧
      (s.raise src cls code level detail forced).rd (0x7100 + src) 0x09 = s.effLevel src cls level := by
  have e (b : Nat) (hb : b < 256) := State.raise_rd_marked s src cls code level detail forced (0x7100 + src) b hb
    (by omega) (by omega) (by omega)
  have n (i j b : Nat) (h : i ≠ 0x7100 + src ∨ j ≠ b) (hj : j < 256) (hb : b < 256) :
      ent (0x7100 + src) b ≠ ent i j := by
    unfold ent
    omega
  have marked (eff b : Nat) (hb : b ≠ 0x0A) (hb' : b < 256) : (s.markRaise src cls code eff).rd (0x7100 + src) b
      = (s.markEntries src cls code eff).rd (0x7100 + src) b := by
    unfold State.markRaise
    dsimp only
    split
    · exact State.wr_rd_ne _ _ _ _ _ _ (n _ _ _ (by omega) (by omega) hb')
    · exact State.addNote_rd _ src _ b
  rw [e 1 (by omega), e 8 (by omega), e 9 (by omega), marked _ 1 (by omega) (by omega), marked _ 8 (by omega) (by omega),
    marked _ 9 (by omega) (by omega)]
  unfold State.markEntries
  dsimp only
  have skip (t : State) (i j v b : Nat) (h : i ≠ 0x7100 + src ∨ j ≠ b) (hj : j < 256) (hb : b < 256) :
      (t.wr i j v).rd (0x7100 + src) b = t.rd (0x7100 + src) b := State.wr_rd_ne t i j v _ b (n i j b h hj hb)
  have skipBump (t : State) (w i j b : Nat) (h : i ≠ 0x7100 + src ∨ j ≠ b) (hj : j < 256) (hb : b < 256) :
      (t.bump w i j).rd (0x7100 + src) b = t.rd (0x7100 + src) b := skip t i j _ b h hj hb
  refine ⟨?_, ?_, ?_⟩
  · rw [skip _ (0x7100 + src) 0x09 _ 1 (by omega) (by omega) (by omega),
      skip _ (0x7100 + src) 0x08 _ 1 (by omega) (by omega) (by omega),
      skip _ (0x7100 + src) 0x07 _ 1 (by omega) (by omega) (by omega),
      skipBump _ 64 0x7000 0x02 1 (by omega) (by omega) (by omega),
      skipBump _ 32 0x7001 (cls + 1) 1 (by omega) (by omega) (by omega),
      skipBump _ 32 (0x7100 + src) 0x06 1 (by omega) (by omega) (by omega), State.wr_rd_same]
  · rw [skip _ (0x7100 + src) 0x09 _ 8 (by omega) (by omega) (by omega), State.wr_rd_same]
  · rw [State.wr_rd_same]

end Sys2Proof.Machine
end

