-- ==== Sys2Proof/Laws/Settle.lean ====
section
/-! SUPPORT. Settle.lean: the end of a command on a state in which nothing waits. -/

namespace Sys2Proof.Machine

/-- Nothing waits: the command ends as it stands. -/
theorem State.settle_of_quiet (s : State) (h : s.quiet = true) : s.settle = s := by simp [State.settle, h]

/-- What quiet reads: the waiting actions, messages, reads, transfers, accesses and fragments, and two
entries of the pair. -/
theorem State.quiet_congr (s t : State) (ha : t.collector.actions = s.collector.actions) (hp : t.portMsgs = s.portMsgs)
    (hh : t.heldReqs = s.heldReqs) (hb : t.bar2Held = s.bar2Held) (hb4 : t.bar4Held = s.bar4Held)
    (ht : t.transfers = s.transfers) (hd : t.designQ = s.designQ) (hr : t.readoutDue = s.readoutDue)
    (hq : t.readoutQueue = s.readoutQueue)
    (h1 : t.rd 0x8100 0x01 = s.rd 0x8100 0x01) (h2 : t.rd 0x8100 0x10 = s.rd 0x8100 0x10) : t.quiet = s.quiet := by
  unfold State.quiet State.hasMirror State.pairSt State.partner
  rw [ha, hp, hh, hb, hb4, ht, hd, hr, hq, h1, h2]

@[simp] theorem State.fresh_quiet (s : State) : s.fresh.quiet = s.quiet := rfl
@[simp] theorem State.emit_quiet (s : State) (o : Output) : (s.emit o).quiet = s.quiet := rfl
@[simp] theorem State.setKernel_quiet (s : State) (k : Nat) (x : KernelRec) : (s.setKernel k x).quiet = s.quiet := rfl
@[simp] theorem State.setLane_quiet (s : State) (l : Nat) (x : LaneRec) : (s.setLane l x).quiet = s.quiet := rfl
@[simp] theorem State.setRegion_quiet (s : State) (n : Nat) (x : RegionRec) : (s.setRegion n x).quiet = s.quiet := rfl
@[simp] theorem State.setPort_quiet (s : State) (p : Nat) (x : PortRec) : (s.setPort p x).quiet = s.quiet := rfl
@[simp] theorem State.setMailbox_quiet (s : State) (m : Nat) (x : MailboxRec) : (s.setMailbox m x).quiet = s.quiet := rfl
@[simp] theorem State.setCan_quiet (s : State) (c : Nat) (x : CanRec) : (s.setCan c x).quiet = s.quiet := rfl

theorem State.wr_quiet (s : State) (i j v : Nat) (h1 : ent 0x8100 0x01 ≠ ent i j) (h2 : ent 0x8100 0x10 ≠ ent i j) :
    (s.wr i j v).quiet = s.quiet :=
  State.quiet_congr s (s.wr i j v) rfl rfl rfl rfl rfl rfl rfl rfl rfl (State.wr_rd_ne s i j v _ _ h1)
    (State.wr_rd_ne s i j v _ _ h2)

end Sys2Proof.Machine
end

