-- ==== Sys2Proof/Laws/Kernel.lean ====
section
/-! SUPPORT. Kernel.lean: what an instruction of a kernel does: one lemma for the frame of every instruction, one for
each shared effect. -/

namespace Sys2Proof.Machine

/-- The instruction at the PC of a running kernel has its own effect. -/
theorem kernelInstr_next (s t : State) (k : Nat) (i : Instr) (f : State → Except Nat State)
    (h : s.atInstr k i = true) (hf : f s.fresh = .ok t) : kernelInstr s k i f = .next t.settle := by
  simp only [State.atInstr, Bool.and_eq_true, decide_eq_true_eq] at h
  obtain ⟨⟨⟨hk, hr⟩, hp⟩, hi⟩ := h
  have e : s.instr k i f = t := by
    have hr' : s.fresh.canRun k = true := hr
    have hp' : s.fresh.pcOk k = true := hp
    have hi' : (s.fresh.fetched k).map (fun x => x.1) = some i := hi
    unfold State.instr
    simp only [hr', hp', Bool.not_true, Bool.false_eq_true, if_false]
    cases hx : s.fresh.fetched k with
    | none => simp [hx] at hi'
    | some x =>
      obtain ⟨j, n⟩ := x
      rw [hx] at hi'
      have hj : j = i := by simpa using hi'
      simp [hj, hf]
  simp [kernelInstr, onUnit, hk, e]

/-- The instruction at the PC of a running kernel faults. -/
theorem kernelInstr_fault (s : State) (k c : Nat) (i : Instr) (f : State → Except Nat State)
    (h : s.atInstr k i = true) (hf : f s.fresh = .error c) :
    kernelInstr s k i f = .next (s.fresh.kernelFault k c).settle := by
  simp only [State.atInstr, Bool.and_eq_true, decide_eq_true_eq] at h
  obtain ⟨⟨⟨hk, hr⟩, hp⟩, hi⟩ := h
  have e : s.instr k i f = s.fresh.kernelFault k c := by
    have hr' : s.fresh.canRun k = true := hr
    have hp' : s.fresh.pcOk k = true := hp
    have hi' : (s.fresh.fetched k).map (fun x => x.1) = some i := hi
    unfold State.instr
    simp only [hr', hp', Bool.not_true, Bool.false_eq_true, if_false]
    cases hx : s.fresh.fetched k with
    | none => simp [hx] at hi'
    | some x =>
      obtain ⟨j, n⟩ := x
      rw [hx] at hi'
      have hj : j = i := by simpa using hi'
      simp [hj, hf]
  simp [kernelInstr, onUnit, hk, e]

/-! ### Registers -/

@[simp] theorem State.fresh_greg (s : State) (k r : Nat) : s.fresh.greg k r = s.greg k r := rfl
@[simp] theorem State.greg_zero (s : State) (k : Nat) : s.greg k 0 = 0 := rfl

theorem State.setPc_kernel (s : State) (k j : Nat) (pc : Word) :
    (s.setPc k pc).kernel j = if j = k then { s.kernel k with pc := pc } else s.kernel j := by
  simp [State.setPc, State.setKernel_kernel]

theorem State.setGreg_kernel (s : State) (k j r : Nat) (v : Word) :
    (s.setGreg k r v).kernel j =
      if j = k ∧ r ≠ 0 then { s.kernel k with regs := (s.kernel k).regs.setIfInBounds r v } else s.kernel j := by
  unfold State.setGreg
  by_cases hr : r = 0
  · simp [hr]
  · simp [hr, State.setKernel_kernel]

/-- A register written reads back; g0 reads 0 (R370). -/
theorem State.setGreg_greg (s : State) (k r q : Nat) (v : Word) (hr : r < 16) :
    (s.setGreg k r v).greg k q = if q = r ∧ r ≠ 0 then v else s.greg k q := by
  unfold State.greg
  rw [State.setGreg_kernel]
  by_cases hq : q = 0
  · subst hq
    by_cases h : r = 0 <;> simp [h]
    intro h0
    exact absurd h0.symm h
  · by_cases h0 : r = 0
    · subst h0
      simp [hq]
    · simp only [hq, if_false, h0, ne_eq, not_false_eq_true, and_true, if_true]
      by_cases hqr : q = r
      · subst hqr
        simp [Vector.getD, hr]
      · simp [Vector.getD, hqr, Ne.symm hqr]

theorem State.setPc_eq (s : State) (k : Nat) (pc : Word) : s.setPc k pc = { s with kernels := (s.setPc k pc).kernels } :=
  rfl

theorem State.setGreg_eq (s : State) (k r : Nat) (v : Word) :
    s.setGreg k r v = { s with kernels := (s.setGreg k r v).kernels } := by
  unfold State.setGreg
  split <;> rfl

@[simp] theorem State.setPc_greg (s : State) (k q : Nat) (pc : Word) : (s.setPc k pc).greg k q = s.greg k q := by
  simp [State.greg, State.setPc_kernel]

/-- What an instruction that writes a register does. -/
theorem State.writeReg_gives (s : State) (k rd : Nat) (v : Word) (n : Nat) (hr : rd < 16) :
    s.GivesReg k rd v n (s.fresh.writeReg k rd v n) := by
  unfold State.writeReg
  refine ⟨⟨?_, ?_, ?_⟩, ?_, ?_⟩
  · conv => lhs; rw [State.setPc_eq, State.setGreg_eq]
    rfl
  · intro j hj
    simp [State.setPc_kernel, State.setGreg_kernel, hj]
  · by_cases h : rd = 0 <;> simp [State.setPc_kernel, State.setGreg_kernel, h]
  · intro q
    simp [State.setGreg_greg, hr]
  · simp [State.setPc_kernel]

/-- What an instruction that only moves the PC does. -/
theorem State.setPc_gives (s : State) (k : Nat) (pc : Word) : s.GivesPc k pc (s.fresh.setPc k pc) := by
  refine ⟨⟨?_, ?_, ?_⟩, ?_, ?_⟩
  · conv => lhs; rw [State.setPc_eq]
    rfl
  · intro j hj
    simp [State.setPc_kernel, hj]
  · simp [State.setPc_kernel]
  · intro q
    simp
  · simp [State.setPc_kernel]

/-- What a call does. -/
theorem State.setGreg_setPc_gives (s : State) (k rd : Nat) (pc : Word) (hr : rd < 16) :
    s.GivesCall k rd pc ((s.fresh.setGreg k rd ((s.kernel k).pc + 4)).setPc k pc) := by
  refine ⟨⟨?_, ?_, ?_⟩, ?_, ?_⟩
  · conv => lhs; rw [State.setPc_eq, State.setGreg_eq]
    rfl
  · intro j hj
    simp [State.setPc_kernel, State.setGreg_kernel, hj]
  · by_cases h : rd = 0 <;> simp [State.setPc_kernel, State.setGreg_kernel, h]
  · intro q
    simp [State.setGreg_greg, hr]
  · simp [State.setPc_kernel]

/-- An instruction that writes a register completes. -/
theorem kernelInstr_reg (s : State) (k rd : Nat) (v : Word) (n : Nat) (i : Instr) (f : State → Except Nat State)
    (h : s.atInstr k i = true) (hr : rd < 16) (hf : f s.fresh = .ok (s.fresh.writeReg k rd v n)) :
    Completes (kernelInstr s k i f) (s.GivesReg k rd v n) :=
  ⟨_, kernelInstr_next s _ k i f h hf, State.writeReg_gives s k rd v n hr⟩

/-- An instruction that moves the PC completes. -/
theorem kernelInstr_pc (s : State) (k : Nat) (pc : Word) (i : Instr) (f : State → Except Nat State)
    (h : s.atInstr k i = true) (hf : f s.fresh = .ok (s.fresh.setPc k pc)) :
    Completes (kernelInstr s k i f) (s.GivesPc k pc) :=
  ⟨_, kernelInstr_next s _ k i f h hf, State.setPc_gives s k pc⟩

/-- A branch moves the PC by twice its offset, or past the instruction. -/
theorem State.branch_eq (s : State) (k : Nat) (c : Bool) (off : Word) (n : Nat) :
    s.branch k c off n
      = s.setPc k (if c then (s.kernel k).pc + 2 * off else (s.kernel k).pc + BitVec.ofNat 32 n) := by
  have e : off + off = 2 * off := by bv_omega
  unfold State.branch
  cases c <;> simp [e]

/-! ### Memory (R379) -/

theorem State.setKbyte_kernel (s : State) (k j a : Nat) (v : Byte) : (s.setKbyte k a v).kernel j =
    if j = k then { s.kernel k with
        mem := Sparse.set kernelDflt (s.kernel k).mem a v
        staged := if areaOf k a = .staging then
            Sparse.set (fun _ => false) (s.kernel k).staged (a - 0x00400000) true
          else (s.kernel k).staged }
    else s.kernel j := by
  simp [State.setKbyte, State.setKernel_kernel]

/-- The staging ring begins at its address in the map. -/
theorem areaOf_staging (k a : Nat) (h : areaOf k a = .staging) : 0x00400000 ≤ a := by
  unfold areaOf at h
  repeat' split at h
  all_goals first | contradiction | omega

/-- A byte stored in the staging ring is marked, and no other. -/
theorem State.setKbyte_staged (s : State) (k a o : Nat) (v : Byte) :
    (s.setKbyte k a v).stagedAt k o = (s.stagedAt k o || stagesAt k a 1 o) := by
  unfold State.stagedAt stagesAt
  rw [State.setKbyte_kernel, if_pos rfl]
  dsimp only
  by_cases ho : a = 0x00400000 + o
  · subst ho
    by_cases h : areaOf k (0x00400000 + o) = .staging <;> simp [h]
  · have hn : ¬ (areaOf k (0x00400000 + o) = .staging ∧ a ≤ 0x00400000 + o ∧ 0x00400000 + o < a + 1) := by omega
    rw [decide_eq_false hn, Bool.or_false]
    split
    · rename_i h
      have := areaOf_staging k a h
      rw [Sparse.get_set, if_neg (by omega)]
    · rfl

/-- A byte stored reads back, and every other byte stands. -/
theorem State.setKbyte_kbyte (s : State) (k a b : Nat) (v : Byte) :
    (s.setKbyte k a v).kbyte k b = if b = a then v else s.kbyte k b := by
  simp [State.kbyte, State.setKbyte_kernel, Sparse.get_set]

/-- The first m bytes of a block stored one by one. -/
theorem State.storeBytes_spec (s : State) (k a : Nat) (l : List Byte) (m : Nat) :
    let t := (List.range m).foldl (fun s i => s.setKbyte k (a + i) (l.getD i 0)) s
    t = { s with kernels := t.kernels } ∧ (∀ j, j ≠ k → t.kernel j = s.kernel j) ∧
      t.kernel k = { s.kernel k with mem := (t.kernel k).mem, staged := (t.kernel k).staged } ∧
      (∀ b, t.kbyte k b = if a ≤ b ∧ b < a + m then l.getD (b - a) 0 else s.kbyte k b) ∧
      (Sparse.wf kernelDflt (s.kernel k).mem → Sparse.wf kernelDflt (t.kernel k).mem) ∧
      (∀ o, t.stagedAt k o = (s.stagedAt k o || stagesAt k a m o)) := by
  induction m with
  | zero =>
    refine ⟨rfl, fun _ _ => rfl, rfl, ?_, fun h => h, ?_⟩
    · intro b
      have : ¬ (a ≤ b ∧ b < a + 0) := by omega
      rw [if_neg this]
      rfl
    · intro o
      have : ¬ (areaOf k (0x00400000 + o) = .staging ∧ a ≤ 0x00400000 + o ∧ 0x00400000 + o < a + 0) := by omega
      unfold stagesAt
      rw [decide_eq_false this, Bool.or_false]
      rfl
  | succ m ih =>
    intro t
    have ht : t = ((List.range m).foldl (fun s i => s.setKbyte k (a + i) (l.getD i 0)) s).setKbyte k (a + m)
        (l.getD m 0) := by
      simp only [t, List.range_succ, List.foldl_append, List.foldl_cons, List.foldl_nil]
    generalize hu : (List.range m).foldl (fun s i => s.setKbyte k (a + i) (l.getD i 0)) s = u at ih ht
    obtain ⟨h1, h2, h3, h4, h5, h6⟩ := ih
    refine ⟨?_, ?_, ?_, ?_, ?_, ?_⟩
    · rw [ht, h1]
      rfl
    · intro j hj
      rw [ht, State.setKbyte_kernel, if_neg hj, h2 j hj]
    · rw [ht, State.setKbyte_kernel, if_pos rfl, h3]
    · intro b
      rw [ht, State.setKbyte_kbyte, h4 b]
      by_cases hb : b = a + m
      · subst hb
        simp
      · have : (a ≤ b ∧ b < a + m) ↔ (a ≤ b ∧ b < a + (m + 1)) := by omega
        simp only [hb, if_false, this]
    · intro hw
      rw [ht, State.setKbyte_kernel, if_pos rfl]
      exact Sparse.wf_set _ _ _ _ (h5 hw)
    · intro o
      rw [ht, State.setKbyte_staged, h6 o, Bool.or_assoc]
      congr 1
      unfold stagesAt
      rw [← Bool.decide_or]
      apply decide_eq_decide.mpr
      by_cases hs : areaOf k (0x00400000 + o) = .staging
      · simp only [hs, true_and]
        omega
      · simp only [hs, false_and, or_self]

/-- Bytes stored read back, every other byte stands, and nothing but the kernel's memory changes. -/
theorem State.setKbytes_kbyte (s : State) (k a b : Nat) (l : List Byte) :
    (s.setKbytes k a l).kbyte k b = if a ≤ b ∧ b < a + l.length then l.getD (b - a) 0 else s.kbyte k b :=
  (State.storeBytes_spec s k a l l.length).2.2.2.1 b

/-- Loads of a part of memory that holds bytes. -/
theorem State.kload_plain (s : State) (k a n : Nat) (ha : a % n = 0) (h0 : areaOf k a ≠ .none)
    (h1 : areaOf k a ≠ .window) : s.kload k a n = .ok (s.kbytes k a n, s) := by
  unfold State.kload
  rw [if_neg (by simpa using ha)]
  cases h : areaOf k a <;> simp_all [State.kbytes]

theorem State.loadReg_plain (s : State) (k rd : Nat) (a : Word) (n : Nat) (sg : Bool) (len : Nat)
    (ha : a.toNat % n = 0) (h0 : areaOf k a.toNat ≠ .none) (h1 : areaOf k a.toNat ≠ .window) :
    s.loadReg k rd a n sg len = .ok (s.writeReg k rd
      (if sg then (BitVec.ofNat (8 * n) (bytesNat (s.kbytes k a.toNat n))).signExtend 32
        else BitVec.ofNat 32 (bytesNat (s.kbytes k a.toNat n))) len) := by
  unfold State.loadReg
  rw [State.kload_plain s k a.toNat n ha h0 h1]

@[simp] theorem State.setPc_staged (s : State) (k o : Nat) (pc : Word) :
    (s.setPc k pc).stagedAt k o = s.stagedAt k o := by
  simp [State.stagedAt, State.setPc_kernel]

@[simp] theorem State.setPc_kbyte (s : State) (k b : Nat) (pc : Word) : (s.setPc k pc).kbyte k b = s.kbyte k b := by
  simp [State.kbyte, State.setPc_kernel]

/-- What a store to a part of memory that takes bytes does. -/
theorem State.storeReg_plain (s : State) (k : Nat) (a v : Word) (n len : Nat) (ha : a.toNat % n = 0)
    (hp : areaOf k a.toNat = .code ∨ areaOf k a.toNat = .data ∨ areaOf k a.toNat = .staging) :
    ∃ t, s.fresh.storeReg k a v n len = .ok t ∧ s.GivesStore k a.toNat (natBytes n v.toNat) len t := by
  have e : s.fresh.kstore k a.toNat (natBytes n v.toNat) = .ok (s.fresh.setKbytes k a.toNat (natBytes n v.toNat)) := by
    unfold State.kstore
    rw [natBytes_length, if_neg (by simpa using ha)]
    rcases hp with h | h | h <;> simp [h]
  obtain ⟨h1, h2, h3, h4, -, h6⟩ :=
    State.storeBytes_spec s.fresh k a.toNat (natBytes n v.toNat) (natBytes n v.toNat).length
  unfold State.storeReg
  rw [e]
  refine ⟨_, rfl, ?_⟩
  unfold State.setKbytes
  generalize (List.range (natBytes n v.toNat).length).foldl
    (fun s i => s.setKbyte k (a.toNat + i) ((natBytes n v.toNat).getD i 0)) s.fresh = u at h1 h2 h3 h4 h6
  refine ⟨?_, ?_, ?_, ?_, ?_⟩
  · obtain ⟨ks, rfl⟩ : ∃ ks, u = { s.fresh with kernels := ks } := ⟨_, h1⟩
    rfl
  · intro j hj
    rw [State.setPc_kernel, if_neg hj, h2 j hj]
    rfl
  · rw [State.setPc_kernel, if_pos rfl, h3]
    rfl
  · intro b
    rw [State.setPc_kbyte, h4 b]
    rfl
  · intro o
    rw [State.setPc_staged, h6 o]
    rfl

/-! ### Faults (R377) -/

/-- The source of a kernel's fault is one of the collector's. -/
theorem kernelSource_lt (k : Nat) : kernelSource k < 384 := by
  unfold kernelSource quadrantOf
  repeat' split <;> try omega

theorem State.staleRequests_rd (s : State) (k a b : Nat) : (s.staleRequests k).rd a b = s.rd a b := rfl

theorem State.staleRequests_kernel (s : State) (k j : Nat) : (s.staleRequests k).kernel j = s.kernel j := rfl

/-- What a fault of a user kernel does. -/
theorem State.kernelFault_gives (s : State) (k c : Nat) (hk : k < 80) : s.GivesFault k c (s.fresh.kernelFault k c) := by
  have hr : ∃ code, (s.fresh.markFault k c).raiseKernelFault k
      = (s.fresh.markFault k c).raise (kernelSource k) clsKernel code 1 := by
    unfold State.raiseKernelFault
    by_cases h : k < 64
    · exact ⟨_, if_pos h⟩
    · exact ⟨_, (if_neg h).trans (if_pos hk)⟩
  obtain ⟨code, hr⟩ := hr
  have only := State.raise_raiseOnly (s.fresh.markFault k c) (kernelSource k) clsKernel code 1 0 false
    (kernelSource_lt k) (by decide)
  have src := State.raise_source (s.fresh.markFault k c) (kernelSource k) clsKernel code 1 0 false (by decide)
  have hker : (s.fresh.markFault k c).kernel k = { s.kernel k with wait := none, dict := none } := by
    unfold State.markFault
    simp [State.staleRequests_kernel]
  have e1 : (s.fresh.markFault k c).rd (0x6810 + k) 0x01 = 3 := by
    simp [State.markFault, State.staleRequests_rd, State.wr_rd]
  have e3 : (s.fresh.markFault k c).rd (0x6810 + k) 0x03 = c := by
    simp [State.markFault, State.staleRequests_rd, State.wr_rd]
  have e4 : (s.fresh.markFault k c).rd (0x6810 + k) 0x04 = (s.kernel k).pc.toNat := by
    simp [State.markFault, State.staleRequests_rd, State.wr_rd]
  unfold State.kernelFault
  rw [hr]
  generalize hu : (s.fresh.markFault k c).raise (kernelSource k) clsKernel code 1 0 false = u at only src
  obtain ⟨frame, same⟩ := only
  have hker' : u.kernel k = { s.kernel k with wait := none, dict := none } := by
    rw [frame]
    exact hker
  have keep (b : Nat) (hb : b < 256) := same (0x6810 + k) b hb (by omega) (by omega) (by omega)
  refine ⟨?_, ?_, ?_, ?_, ?_, src.1⟩
  · rw [keep 1 (by omega), e1]
  · rw [keep 3 (by omega), e3]
  · rw [keep 4 (by omega), e4]
  · intro q
    unfold State.greg
    rw [hker']
  · rw [hker']

/-- An instruction that faults completes in the fault. -/
theorem kernelInstr_gives_fault (s : State) (k c : Nat) (i : Instr) (f : State → Except Nat State)
    (h : s.atInstr k i = true) (hf : f s.fresh = .error c) : Completes (kernelInstr s k i f) (s.GivesFault k c) := by
  have hk : k < 80 := by
    simp only [State.atInstr, Bool.and_eq_true, decide_eq_true_eq] at h
    exact h.1.1.1
  exact ⟨_, kernelInstr_fault s k c i f h hf, State.kernelFault_gives s k c hk⟩

end Sys2Proof.Machine
end

