-- ==== Sys2Proof/Tests/Slice0.lean ====
section
/-! SUPPORT. Slice0.lean: tests. A witness theorem for each statement that has hypotheses: states and operands that
meet the hypotheses of each of its clauses; an ill-formed command for each check of WellFormed; small tests whose
expected results come from the spec's tables and worked examples. -/

set_option Elab.async false

open Sys2Proof Sys2Proof.Machine

namespace Sys2Proof.Tests

/-- The hypotheses p hold in s. -/
def meets (s : State) (p : State → Bool) : Bool := p s

/-- A device whose firmware runs, with a session of mailbox 0 that has every right and the update lock. -/
def up : State :=
  { startup := { released := true, firmware := true }
    security := { sessions := [{ r := .mailbox 0, rights := 0x0F, signer := 1 }], lock := some (.mailbox 0) } }

/-- That device with entries written: index, sub-index, value. -/
def at_ (l : List (Nat × Nat × Nat)) : State := l.foldl (fun s e => s.wr e.1 e.2.1 e.2.2) up


/-- A small bundle that keeps the rules. -/
def legal : Bundle := { id := 7, fx := 20000000, S := 25, L := 340, strides := [160, 0, 0, 0, 0, 0, 0, 0] }


/-- The first 124 bytes of a header of a full stream for plane 7 of region 63, with 8,192 records. -/
def headerStart : List Byte :=
  natBytes 4 0x53434647 ++ natBytes 2 1 ++ natBytes 2 128 ++ natBytes 4 0x53400000 ++ natBytes 4 0 ++ natBytes 8 (2 ^
      63)
    ++ natBytes 4 0x80 ++ natBytes 4 8192 ++ natBytes 4 8192 ++ natBytes 12 0 ++ natBytes 8 (128 + 268 * 8192 + 24)
    ++ natBytes 68 0

/-- A record in clear: a frame for plane 7 of region 63 at frame address 8191. -/
def frameRecord : List Byte := [1, 63, 7, 0] ++ natBytes 4 8191 ++ List.replicate 256 0x5A

/-- Kernel k runs, with registers as listed, g4 at data memory, and the words of instruction i at address 8. -/
def runs (k : Nat) (i : Instr) (regs : List (Nat × Nat)) : State :=
  let code : List Byte := match encodeShort i, encodeLong i with
    | some h, _ => natBytes 2 h.toNat
    | none, some w => natBytes 2 (w.toNat / 65536) ++ natBytes 2 (w.toNat % 65536)
    | none, none => []
  let cells := code.zipIdx.map (fun c => (8 + c.2, c.1))
  { at_ [(0x6810 + k, 1, 1)] with kernels := [(k, {
      regs := Vector.ofFn (fun r : Fin 16 => BitVec.ofNat 32 ((regs.lookup r.val).getD (if r.val = 4 then 0x00100010
          else 0)))
      pc := 8
      code := cells })] }

/-- The payload p of a block, scrambled from a register of zeros (R204). -/
def onLine (p : Word64) : Word64 := (scramble 0 p).2

/-- A row of control blocks on lanes 0, 1, … of a stack port, each scrambled from a register of zeros. -/
def portRow (l : List Word64) : List PortBlock :=
  l.zipIdx.map (fun x => { lane := x.2, header := 0b10, raw := onLine x.1 })

/-- A message of R289 as such a row. -/
def messageRow (op mseq arg : Nat) (data : List (BitVec 48)) : List PortBlock :=
  portRow (markerBlock 0x66 (op * 2 ^ 40 + data.length * 2 ^ 36 + mseq * 2 ^ 16 + arg)
    :: data.map (fun d => markerBlock 0x66 d.toNat))

/-- The flock table of a half of a pair whose port 7 is its mirror port. -/
def halfTable : FlockTable := { half := some 1, kind := 2, paired := true, ports := [{ port := 7, mode := 2 }] }

/-- The first 124 bytes of such a header for the device itself. -/
def ownHeaderStart : List Byte :=
  natBytes 4 0x53434647 ++ natBytes 2 1 ++ natBytes 2 128 ++ natBytes 4 deviceWord ++ natBytes 4 0
    ++ natBytes 8 (2 ^ 63) ++ natBytes 4 0x80 ++ natBytes 4 8192 ++ natBytes 4 8192 ++ natBytes 12 0
    ++ natBytes 8 (128 + 268 * 8192 + 24) ++ natBytes 68 0

/-- That header with its checksum. -/
def ownHeader : List Byte := ownHeaderStart ++ natBytes 4 (crc32c ownHeaderStart).toNat

/-- The device with entries written, that holds a key in slot 0. -/
def keyed (l : List (Nat × Nat × Nat)) : State :=
  { at_ ((0x2410, 1, 1) :: l) with security := { up.security with duk := true, slotKeys := [(0, 0)] } }

theorem ownHeaderStart_length : ownHeaderStart.length = 124 := by decide +kernel

theorem ownHeader_length : ownHeader.length = 128 := by
  rw [ownHeader, List.length_append, ownHeaderStart_length, natBytes_length]

/-- The checksum is that of the first 124 bytes, whatever the device's revision. -/
theorem ownHeader_checksum : fieldAt ownHeader 124 4 = (crc32c (ownHeader.take 124)).toNat := by
  have e1 : ownHeader.drop 124 = natBytes 4 (crc32c ownHeaderStart).toNat := by
    rw [ownHeader, ← ownHeaderStart_length, List.drop_left]
  have e2 : ownHeader.take 124 = ownHeaderStart := by
    rw [ownHeader, ← ownHeaderStart_length, List.take_left]
  rw [fieldAt, e1, e2, List.take_of_length_le (by rw [natBytes_length])]
  exact bytesNat_natBytes_of_lt 4 _ (crc32c ownHeaderStart).isLt

/-- The header names this device, whatever its revision. -/
theorem ownHeader_device : deviceCheck (fieldAt ownHeader 8 4) = 0 := by
  have e : (ownHeader.drop 8).take 4 = natBytes 4 deviceWord := by rfl
  have h : deviceWord < 256 ^ 4 := by have := Config.stackRevision.isLt; unfold deviceWord; omega
  rw [fieldAt, e, bytesNat_natBytes_of_lt 4 _ h]
  simp [deviceCheck]

/-- The device takes that header on the keep-store load path and on the access port. -/
theorem ownHeader_check (l : List (Nat × Nat × Nat)) (path : Nat) (hl : l = [] ∨ l = [(0x1100, 4, 8), (0x4300, 2, 1)])
    (h : path = 1 ∨ path = 4) : (keyed l).headerCheck path ownHeader = 0 := by
  have e := ownHeader_device
  unfold State.headerCheck
  dsimp only
  rw [e]
  rcases hl with rfl | rfl <;> rcases h with rfl | rfl <;>
  rw [if_neg (by decide +kernel), if_neg (by decide +kernel), if_neg (by simpa using ownHeader_checksum),
    if_neg (by decide), if_neg (by decide +kernel), if_neg (by decide +kernel), if_neg (by decide +kernel),
    if_neg (by decide +kernel), if_neg (by decide +kernel), if_neg (by decide +kernel), if_neg (by decide +kernel),
    if_neg (by decide +kernel)]

/-- States and operands that meet the hypotheses of each clause of StepRunsFrontCommand. -/
theorem witness_StepRunsFrontCommand :
    (fun (s : State) (c : Instr) (rest : List Instr) =>
    decide ((s.pending = c :: rest))) ({ up with pending := [.crossingStart] }) .crossingStart ([]) = true ∧
    (fun (s : State) =>
    decide ((s.quiet = true))) ({ up with pending := [.crossingStart] }) = true := by
  refine ⟨?_, ?_⟩ <;> decide +kernel

/-- States and operands that meet the hypotheses of each clause of EmptyQueueTick. -/
theorem witness_EmptyQueueTick :
    (fun (s : State) =>
    decide ((s.pending = []))) up = true := by
  decide +kernel

/-- States and operands that meet the hypotheses of each clause of CommandsAnswer. -/
theorem witness_CommandsAnswer :
    (fun (i : Instr) =>
    decide ((wellFormed i = true))) .crossingStart = true := by
  decide +kernel

/-- States and operands that meet the hypotheses of each clause of ResetState. -/
theorem witness_ResetState :
    (fun (n : Nat) (p : Nat) =>
    decide ((n < 64) ∧ (p < 8))) 0 0 = true ∧
    (fun (l : Nat) =>
    decide ((l < 512))) 0 = true ∧
    (fun (i : Nat) =>
    decide ((i < 2))) 0 = true ∧
    (fun (src : Nat) =>
    decide ((src < 384))) 0 = true := by
  refine ⟨?_, ?_, ?_, ?_⟩ <;> decide +kernel

/-- States and operands that meet the hypotheses of each clause of KernelEncoding. -/
theorem witness_KernelEncoding :
    (fun (i : Instr) (h : Nat) =>
    decide ((wellFormed i = true) ∧ (encodeShort i = some h))) (.li 25 1 0x10) 0x2090 = true ∧
    (fun (i : Instr) (w : Nat) =>
    decide ((wellFormed i = true) ∧ (encodeLong i = some w))) (.lhi 25 2 0x400) 0x8E400400 = true ∧
    (fun (lead : BitVec 16) =>
    decide (((lead = 0xFFFF ∨ lead.extractLsb' 13 3 = 3)))) 0xFFFF = true := by
  refine ⟨?_, ?_, ?_⟩ <;> decide +kernel

/-- States and operands that meet the hypotheses of each clause of WaveEngineStates. -/
theorem witness_WaveEngineStates :
    (fun (s : State) =>
    decide ((s.engineSt = 2) ∧ (s.nextWaveIdx = s.startIdx + s.L)))
        ({ at_ [(0x4000, 0, 2), (0x4001, 2, 16), (0x4001, 4, 16), (0x4002, 1, 11), (0x4003, 4, 10)] with waveDue := true })
        = true ∧
    (fun (s : State) =>
    decide ((s.stopPending = true) ∧ ((s.engineSt = 2 ∨ s.engineSt = 3)) ∧ (s.nextWave = mkWave (s.rd 0x4003 0x03)
        0)))
        ({ at_ [(0x4000, 0, 3), (0x4001, 2, 16), (0x4002, 1, 11), (0x4003, 3, 11)] with waveDue := true, stopPending := true })
        = true ∧
    (fun (s : State) =>
    decide ((s.engineSt = 4) ∧ (s.nextWaveIdx = s.stopIdx + s.L)))
        ({ at_ [(0x4000, 0, 4), (0x4001, 2, 16), (0x4001, 4, 16), (0x4002, 1, 12), (0x4003, 5, 11)] with waveDue := true })
        = true ∧
    (fun (s : State) =>
    decide (((s.engineSt ≠ 2 ∨ s.nextWaveIdx ≠ s.startIdx + s.L))))
        ({ at_ [(0x4000, 0, 3), (0x4001, 2, 16), (0x4002, 1, 11), (0x4003, 3, 11)] with waveDue := true, stopPending := true })
        = true ∧
    (fun (s : State) =>
    decide (((s.stopPending = false ∨ s.engineSt ≠ 2 ∧ s.engineSt ≠ 3 ∨ s.nextWave ≠ mkWave (s.rd 0x4003 0x03) 0))))
        ({ at_ [(0x4000, 0, 2), (0x4001, 2, 16), (0x4001, 4, 16), (0x4002, 1, 11), (0x4003, 4, 10)] with waveDue := true })
        = true ∧
    (fun (s : State) =>
    decide (((s.engineSt ≠ 4 ∨ s.nextWaveIdx ≠ s.stopIdx + s.L))))
        ({ at_ [(0x4000, 0, 2), (0x4001, 2, 16), (0x4001, 4, 16), (0x4002, 1, 11), (0x4003, 4, 10)] with waveDue := true })
        = true := by
  refine ⟨?_, ?_, ?_, ?_, ?_, ?_⟩ <;> decide +kernel

/-- States and operands that meet the hypotheses of each clause of Runs. -/
theorem witness_Runs :
    (fun (s : State) =>
    decide ((s.startPending = true) ∧ (s.engineSt = 1) ∧ (s.nextWave = mkWave (s.rd 0x4003 0x02) 0) ∧ ((s.rwr.map (fun
        c => c.1)).Nodup) ∧ ((∀ c ∈ s.rwr, c.1 / 256 ∉ [0x1002, 0x1010, 0x1011, 0x4000, 0x4001, 0x4002, 0x4003]))))
        ({ at_ [(0x4000, 0, 1), (0x4001, 2, 16), (0x4002, 1, 4096), (0x4003, 2, 4096)] with waveDue := true, startPending := true, rwr := [(ent 0x4005 4, 20)] })
        = true ∧
    (fun (s : State) =>
    decide (((s.startPending = false ∨ s.engineSt ≠ 1 ∨ s.nextWave ≠ mkWave (s.rd 0x4003 0x02) 0)))) (at_ [(0x4000, 0,
        1), (0x4001, 2, 16), (0x4003, 2, 4096)]) = true ∧
    (fun (s : State) (r : Requester) =>
    let start := mkWave (s.rd 0x4003 0x02) 0
    decide ((s.mayWrite r 0x4003 0x01 1 = true) ∧ (laterByCrossings 1024 s.wave start = true) ∧ ((s.engineSt = 1 ∨
        s.engineSt = 4 ∧ s.stopIdx + s.L ≤ s.idxOf start)) ∧ (s.mayRun = true) ∧ (s.flockReady = true) ∧
        (s.startPending = false))) (at_ [(0x4000, 0, 1), (0x4001, 2, 16), (0x4003, 2, 4096)]) (.mailbox 0) = true ∧
    (fun (s : State) (r : Requester) =>
    let start := mkWave (s.rd 0x4003 0x02) 0
    let stop := mkWave (s.rd 0x4003 0x03) 0
    decide ((s.mayWrite r 0x4003 0x01 2 = true) ∧ (laterByCrossings 1024 s.wave stop = true) ∧ (s.mayRun = true) ∧
        (s.stopPending = false) ∧ ((s.startPending = true → waveLater start stop = true)) ∧ ((s.engineSt = 2 ∨
        s.engineSt = 3 ∨ (s.engineSt = 1 ∨ s.engineSt = 4) ∧ s.startPending = true)))) (at_ [(0x4000, 0, 3), (0x4001,
        2, 16), (0x4003, 3, 4096)]) (.mailbox 0) = true ∧
    (fun (s : State) (r : Requester) =>
    decide ((s.mayWrite r 0x4003 0x01 3 = true) ∧ (s.mayRun = true) ∧ (s.stopPending = true)))
        ({ at_ [(0x4000, 0, 3)] with stopPending := true }) (.mailbox 0) = true ∧
    (fun (s : State) (r : Requester) =>
    decide ((s.mayWrite r 0x4003 0x01 3 = true) ∧ (s.mayRun = true) ∧ (s.stopPending = false) ∧ (s.startPending =
        true)))
        ({ at_ [(0x4000, 0, 1), (0x4001, 2, 16), (0x4002, 1, 4096), (0x4003, 2, 4096)] with waveDue := true, startPending := true, rwr := [(ent 0x4005 4, 20)] })
        (.mailbox 0) = true := by
  refine ⟨?_, ?_, ?_, ?_, ?_, ?_⟩ <;> decide +kernel

/-- States and operands that meet the hypotheses of each clause of CrossingsAndWaves. -/
theorem witness_CrossingsAndWaves :
    (fun (s : State) =>
    decide (((∀ p : Nat, p < 8 → (s.port p).loop = [])))) (at_ [(0x4002, 1, 2 ^ 48 - 2)]) = true ∧
    (fun (s : State) =>
    decide ((s.engineSt = 0))) (at_ [(0x4002, 1, 2 ^ 48 - 2)]) = true ∧
    (fun (s : State) =>
    decide ((s.waveDue = false) ∧ (s.S ≤ s.stepNo + 1))) (at_ [(0x4002, 1, 2 ^ 48 - 2)]) = true ∧
    (fun (s : State) =>
    decide ((s.engineSt ≠ 0) ∧ ((s.waveDue = true ∨ s.stepNo + 1 < s.S)))) (at_ [(0x4000, 0, 1), (0x4001, 2, 16),
        (0x4002, 2, 14)]) = true ∧
    (fun (reg : Nat) =>
    decide ((reg < 512))) 0 = true ∧
    (fun (reg : Nat) =>
    decide ((reg < 8))) 0 = true ∧
    (fun (s : State) (reg : Nat) (n : Nat) (wtag : Nat) =>
    decide ((s.releaseRegion reg = some n) ∧ (serialLater 8 wtag ((s.nextWaveIdx + 255) % 256) = true))) (at_
        [(0x4000, 0, 1), (0x4001, 2, 16), (0x4002, 2, 14)]) 0 0 0 = true ∧
    (fun (s : State) (wtag : Nat) =>
    decide ((serialLater 8 wtag ((s.nextWaveIdx + 255) % 256) = false))) (at_ [(0x4002, 1, 2 ^ 48 - 2)]) 0 = true ∧
    (fun (s : State) (lane : Nat) =>
    decide ((lane < 512) ∧ ((s.engineSt = 2 ∨ s.engineSt = 3)))) (at_ [(0x4000, 0, 2)]) 511 = true ∧
    (fun (s : State) (lane : Nat) =>
    decide ((lane < 512) ∧ (s.engineSt ≠ 2) ∧ (s.engineSt ≠ 3))) (at_ [(0x4002, 1, 2 ^ 48 - 2)]) 0 = true ∧
    (fun (s : State) (span : Nat) =>
    decide ((s.rearmDue.contains span = true) ∧ (s.waveDue = true)))
        ({ up with rearmDue := [5], latched := [5, 6], waveDue := true }) 5 = true ∧
    (fun (s : State) (span : Nat) =>
    decide (((s.rearmDue.contains span = false ∨ s.waveDue = false)))) (at_ [(0x4002, 1, 2 ^ 48 - 2)]) 0 = true ∧
    (fun (s : State) (r : Requester) (n : Nat) =>
    decide ((n < 64) ∧ (s.mayWrite r (0x4040 + n) 0x05 0 = true))) (at_ [(0x4002, 1, 2 ^ 48 - 2)]) (.mailbox 0) 0 =
        true ∧
    (fun (s : State) (r : Requester) (n : Nat) =>
    decide ((n < 64) ∧ (s.mayWrite r (0x4100 + n) 0x08 1 = true))) (at_ [(0x4002, 1, 2 ^ 48 - 2)]) (.mailbox 0) 0 =
        true := by
  refine ⟨?_, ?_, ?_, ?_, ?_, ?_, ?_, ?_, ?_, ?_, ?_, ?_, ?_, ?_⟩ <;> decide +kernel

/-- States and operands that meet the hypotheses of each clause of ByteTagCode. -/
theorem witness_ByteTagCode :
    (fun (w : Nat) (k : Nat) =>
    decide ((w < 16384) ∧ (k < 8))) 16383 7 = true ∧
    (fun (ba : Nat) =>
    decide ((ba < 2 ^ 17))) 0 = true ∧
    (fun (i : Nat) =>
    decide ((i < 17))) 0 = true ∧
    (fun (i : Nat) (j : Nat) =>
    decide ((i < 14) ∧ (j < 14) ∧ (i ≠ j))) 13 0 = true ∧
    (fun (ba : Nat) (other : Nat) (i : Nat) =>
    decide ((i < 8) ∧ (byteTag other = byteTag ba ^^^ (1#8 <<< i)))) 131071 0 0 = true := by
  refine ⟨?_, ?_, ?_, ?_, ?_⟩ <;> decide +kernel

/-- States and operands that meet the hypotheses of each clause of BankWords. -/
theorem witness_BankWords :
    (fun (en : Nat) (data : List Byte) (k : Nat) =>
    decide ((data.length = 8) ∧ (k < 8) ∧ (en.testBit k = true))) 128 ([1, 2, 3, 4, 5, 6, 7, 8]) 7 = true ∧
    (fun (bank : Nat) (w : Nat) (en : Nat) (key : Nat) (data : List Byte) =>
    decide ((data.length = 8) ∧ ((∀ k : Nat, k < 8 → en.testBit k = true → key ≠ byteKey bank w k)))) 0 0 128 0 ([1,
        2, 3, 4, 5, 6, 7, 8]) = true ∧
    (fun (s : State) (bank : Nat) (w : Nat) (en : Nat) (d : Nat → Byte) (k : Nat) =>
    decide (((∀ k : Nat, k < 8 → en.testBit k = true → s.bankByte (byteKey bank w k) = cleanByte (d k) (w * 8 + k))) ∧
        (k < 8) ∧ (en.testBit k = true))) (up.setBankByte (byteKey 4095 16383 7) (cleanByte 0x0F 131071)) 4095 16383
        128 (fun _ => 0x0F) 7 = true ∧
    (fun (s : State) (bank : Nat) (w : Nat) (en : Nat) (key : Nat) (d : Nat → Byte) =>
    decide (((∀ k : Nat, k < 8 → en.testBit k = true → s.bankByte (byteKey bank w k) = cleanByte (d k) (w * 8 + k))) ∧
        ((∀ k : Nat, k < 8 → en.testBit k = true → key ≠ byteKey bank w k)))) (up.setBankByte (byteKey 4095 16383 7)
        (cleanByte 0x0F 131071)) 4095 16383 128 0 (fun _ => 0x0F) = true := by
  refine ⟨?_, ?_, ?_, ?_⟩ <;> decide +kernel

/-- States and operands that meet the hypotheses of each clause of MemoryCanonical. -/
theorem witness_MemoryCanonical :
    (fun (s : State) (t : State) =>
    (s.Canonical) ∧ (step s = .next t)) State.reset ((match step State.reset with | .next t => t | _ => State.reset)) ∧
    (fun (s : State) (n : Nat) (key : Nat) =>
    decide ((Sparse.wf bankDflt s.bankMem) ∧ (key / 131072 / 64 = n))) (up.setBankByte (byteKey 4095 16383 7)
        (cleanByte 0x0F 131071)) 0 0 = true ∧
    (fun (s : State) (n : Nat) (key : Nat) =>
    decide ((Sparse.wf bankDflt s.bankMem) ∧ (key / 131072 / 64 ≠ n))) (up.setBankByte (byteKey 4095 16383 7)
        (cleanByte 0x0F 131071)) 62 (4095 * 131072 + 131071) = true := by
  refine ⟨⟨by decide +kernel, rfl⟩, ?_, ?_⟩ <;> decide +kernel

/-- States and operands that meet the hypotheses of each clause of MemoryCommands. -/
theorem witness_MemoryCommands :
    (fun (s : State) (addr : Nat) (wcnt : Nat) (last : Nat) (data : List Word64) (d : Nat → Nat → Byte) =>
    let reg := addr / 2 ^ 23 % 64
    let ab := addrBank addr
    let w0 := addrWord addr
    let on := fun i k : Nat => ((if i = 0 then firstMask (addrLane addr) else 255) &&&
          (if i + 1 = data.length then lastMask last else 255)).testBit k
    decide ((data.length = wcnt + 1) ∧ (wordsOk addr wcnt last = true) ∧ (s.rd (0x6060 + reg) 0x01 = 0) ∧ (s.openBlock
        ab true 1 = 0) ∧ ((∀ i : Nat, i < data.length → ∀ k : Nat, k < 8 → on i k = true → s.bankByte (byteKey ab (w0
        + i) k) = cleanByte (d i k) ((w0 + i) * 8 + k)))))
        ({ at_ [(0x5000 + 63, 0x0C, 0)] with bankMem := (List.range 8).map (fun k => (byteKey (63 * 64 + 63) 16383 k, cleanByte 0xAB (16383 * 8 + k))) })
        (63 * 2 ^ 23 + 63 * 131072 + 16383 * 8) 0 7 ([5]) (fun _ _ => 0xAB) = true ∧
    (fun (s : State) (addr : Nat) (wcnt : Nat) (last : Nat) (data : List Word64) =>
    let reg := addr / 2 ^ 23 % 64
    let ab := addrBank addr
    decide ((data.length = wcnt + 1) ∧ (wordsOk addr wcnt last = true) ∧ (s.rd (0x6060 + reg) 0x01 = 0) ∧ (s.openBlock
        ab true 1 ≠ 0))) (at_ [(0x6060 + 63, 1, 0)]) (63 * 2 ^ 23) 0 7 ([0]) = true ∧
    (fun (s : State) (n : Nat) (b : Nat) =>
    decide ((n < 64) ∧ (b < 64) ∧ (dPatrol (s.descriptor (bankKey n b)) = true) ∧ (s.rd (0x5000 + n) 0x0C = 0) ∧ (s.rd
        (0x5000 + n) 0x0D ≠ 0))) ((at_ [(0x5000 + 63, 0x0C, 0), (0x4100 + 63, 0x11, 7), (0x4100 + 63, 0x10,
        rActive)]).setPlane 63 7 { net := { descriptors := List.replicate 64 0x0080000000000000 } }) 63 63 = true ∧
    (fun (s : State) (n : Nat) (b : Nat) =>
    decide ((n < 64) ∧ (b < 64) ∧ ((dPatrol (s.descriptor (bankKey n b)) = false ∨ s.rd (0x5000 + n) 0x0C ≠ 0 ∨ s.rd
        (0x5000 + n) 0x0D = 0))))
        ({ at_ [(0x5000 + 63, 0x0C, 0)] with bankMem := (List.range 8).map (fun k => (byteKey (63 * 64 + 63) 16383 k, cleanByte 0xAB (16383 * 8 + k))) })
        0 0 = true ∧
    (fun (s : State) (r : Requester) (q : Nat) (w : BitVec 32) =>
    let scope := marchScope q ((w &&& 0x3FFFFFFF) ||| 0x40000000)
    decide ((q < 4) ∧ (s.mayWrite r (0x5100 + q) 0x01 ((w &&& 0x3FFFFFFF) ||| 0x40000000).toNat = true) ∧ (marchWordOk
        q ((w &&& 0x3FFFFFFF) ||| 0x40000000) = true) ∧ (s.marchOf q = none) ∧ (scope.any (s.marchBars (!mPreserving
        ((w &&& 0x3FFFFFFF) ||| 0x40000000))) = false))) (at_ [(0x4100 + 63, 0x10, rLoading)]) (.mailbox 0) 3
        0x603F003F = true ∧
    (fun (s : State) (r : Requester) (q : Nat) (w : BitVec 32) (c : BitVec 32) (l : List Nat) =>
    decide ((q < 4) ∧ (s.mayWrite r (0x5100 + q) 0x01 ((w &&& 0x3FFFFFFF) ||| 0x80000000).toNat = true) ∧ (marchWordOk
        q ((w &&& 0x3FFFFFFF) ||| 0x80000000) = true) ∧ (s.marchOf q = some (c, l))))
        ({ up with march := [(3, some (0x603F003F, [4095]))] }) (.mailbox 0) 3 0x603F003F 0x603F003F ([4095]) = true ∧
    (fun (s : State) (n : Nat) (b : Nat) (q : Nat) (c : BitVec 32) (l : List Nat) =>
    decide ((q < 4) ∧ (n < 64) ∧ (b < 64) ∧ (s.marchOf q = some (c, l)) ∧ (l.contains (bankKey n b) = true)))
        ({ up with march := [(3, some (0x603F003F, [4095]))] }) 63 63 3 0x603F003F ([4095]) = true ∧
    (fun (s : State) (q : Nat) (c : BitVec 32) =>
    decide ((q < 4) ∧ (s.marchOf q = some (c, []))))
        ({ at_ [(0x5103, 2, 5)] with march := [(3, some (0x603F003F, []))] }) 3 0x603F003F = true ∧
    (fun (s : State) (q : Nat) =>
    decide ((q < 4) ∧ ((s.marchOf q = none ∨ (s.marchOf q).any (fun x => x.2 ≠ []) = true))))
        ({ at_ [(0x5000 + 63, 0x0C, 0)] with bankMem := (List.range 8).map (fun k => (byteKey (63 * 64 + 63) 16383 k, cleanByte 0xAB (16383 * 8 + k))) })
        0 = true ∧
    (fun (s : State) (r : Requester) =>
    decide ((s.mayWrite r 0x5111 0x05 1 = true)))
        ({ at_ [(0x5000 + 63, 0x0C, 0)] with bankMem := (List.range 8).map (fun k => (byteKey (63 * 64 + 63) 16383 k, cleanByte 0xAB (16383 * 8 + k))) })
        (.mailbox 0) = true ∧
    (fun (s : State) (r : Requester) (q : Nat) (m : Nat) =>
    decide ((q < 4) ∧ (m < 7) ∧ (s.mayWrite r (0x51F0 + q) (m + 1) 0 = true)))
        ({ at_ [(0x5000 + 63, 0x0C, 0)] with bankMem := (List.range 8).map (fun k => (byteKey (63 * 64 + 63) 16383 k, cleanByte 0xAB (16383 * 8 + k))) })
        (.mailbox 0) 0 0 = true := by
  refine ⟨?_, ?_, ?_, ?_, ?_, ?_, ?_, ?_, ?_, ?_, ?_⟩ <;> decide +kernel

/-- States and operands that meet the hypotheses of each clause of RegionHaltsAndResets. -/
theorem witness_RegionHaltsAndResets :
    (fun (s : State) (n : Nat) =>
    decide ((n < 64) ∧ (s.regState n = rActive))) (at_ [(0x4100 + 63, 0x10, rActive)]) 63 = true ∧
    (fun (s : State) (n : Nat) =>
    decide ((n < 64) ∧ (s.regState n = rResetting))) (at_ [(0x4100 + 63, 0x10, rResetting)]) 63 = true ∧
    (fun (s : State) (n : Nat) =>
    decide ((n < 64) ∧ (s.regState n = rHalted))) (at_ [(0x4100 + 63, 0x10, rHalted)]) 63 = true ∧
    (fun (s : State) (n : Nat) =>
    decide ((n < 64) ∧ (s.regState n < rActive))) (at_ [(0x4100 + 63, 0x10, rLoading)]) 63 = true ∧
    (fun (n : Nat) (m : Nat) =>
    decide ((n < 64) ∧ (m < 64) ∧ (m ≠ n))) 63 0 = true ∧
    (fun (s : State) (n : Nat) (k : Nat) =>
    decide ((n < 64) ∧ ((s.regState n = rActive ∨ s.regState n = rHalted)) ∧ (k / 131072 = n)))
        ({ at_ [(0x4100 + 63, 0x10, rHalted)] with latched := [63 * 2 ^ 20] }) 63 (63 * 131072) = true ∧
    (fun (s : State) (n : Nat) (k : Nat) =>
    decide ((n < 64) ∧ ((s.regState n = rActive ∨ s.regState n = rHalted)) ∧ (k / 64 = n)))
        ({ at_ [(0x4100 + 63, 0x10, rHalted)] with latched := [63 * 2 ^ 20] }) 63 (63 * 64 + 63) = true ∧
    (fun (s : State) (n : Nat) (id : Nat) =>
    decide ((n < 64) ∧ ((s.regState n = rActive ∨ s.regState n = rHalted)) ∧ (s.latched.contains id = true) ∧
        (spanOwner id = n))) ({ at_ [(0x4100 + spanOwner (5 * 128), 0x10, rHalted)] with latched := [5 * 128] })
        (spanOwner (5 * 128)) (5 * 128) = true := by
  refine ⟨?_, ?_, ?_, ?_, ?_, ?_, ?_, ?_⟩ <;> decide +kernel

/-- States and operands that meet the hypotheses of each clause of RegionCommands. -/
theorem witness_RegionCommands :
    (fun (s : State) (r : Requester) (n : Nat) =>
    decide ((n < 64) ∧ (s.mayWrite r (0x4100 + n) 0x12 1 = true) ∧ ((s.regState n = rActive ∨ s.regState n =
        rResetting)))) (at_ [(0x4100 + 63, 0x10, rActive)]) (.mailbox 0) 63 = true ∧
    (fun (s : State) (r : Requester) (n : Nat) =>
    decide ((n < 64) ∧ (s.mayWrite r (0x4100 + n) 0x12 1 = true) ∧ (s.regState n = rHalted))) (at_ [(0x4100 + 63,
        0x10, rHalted)]) (.mailbox 0) 63 = true ∧
    (fun (s : State) (r : Requester) (n : Nat) =>
    decide ((n < 64) ∧ (s.mayWrite r (0x4100 + n) 0x12 2 = true) ∧ (s.commandWaveOk n = true) ∧ (s.regState n =
        rHalted) ∧ (s.haltUnacknowledged n = false) ∧ (s.hottest < toI32 (s.rd 0x2280 0x05) * 1000) ∧ (s.resumeBarred
        n = false) ∧ ((s.region n).closing = false))) (at_ [(0x4000, 0, 1), (0x4001, 2, 16), (0x4100 + 63, 0x10,
        rHalted), (0x4100 + 63, 0x13, 5), (0x4100 + 63, 0x19, 0xFFFF), (0x2280, 4, 105)]) (.mailbox 0) 63 = true ∧
    (fun (s : State) (r : Requester) (n : Nat) =>
    decide ((n < 64) ∧ (s.mayWrite r (0x4100 + n) 0x12 3 = true) ∧ (s.commandWaveOk n = true) ∧ ((s.regState n =
        rActive ∨ s.regState n = rHalted ∧ s.haltUnacknowledged n = false ∧ (s.region n).closing = false)))) (at_
        [(0x4000, 0, 1), (0x4001, 2, 16), (0x4100 + 63, 0x10, rHalted), (0x4100 + 63, 0x13, 5), (0x4100 + 63, 0x19,
        0xFFFF), (0x2280, 4, 105)]) (.mailbox 0) 63 = true ∧
    (fun (s : State) (r : Requester) (n : Nat) =>
    decide ((n < 64) ∧ (s.mayWrite r (0x4100 + n) 0x12 4 = true) ∧ ((s.regState n = rHalted ∨ s.regState n =
        rLoading)) ∧ ((∀ k : Nat, k < 16 → (s.slotArmed k && s.slotNames k n) = false)) ∧ ((∀ e : Nat, e < 16 →
        (s.migOpen e && s.migNames e n) = false)) ∧ (s.loadInits n = false))) (at_ [(0x4100 + 63, 0x10, rHalted)])
        (.mailbox 0) 63 = true ∧
    (fun (s : State) (r : Requester) (n : Nat) =>
    decide ((n < 64) ∧ (s.mayWrite r (0x4100 + n) 0x12 5 = true) ∧ (s.regState n = rOff) ∧ (s.thermal.queue.contains n
        = false))) (at_ [(0x4100 + 63, 0x10, rOff)]) (.mailbox 0) 63 = true := by
  refine ⟨?_, ?_, ?_, ?_, ?_, ?_⟩ <;> decide +kernel

/-- States and operands that meet the hypotheses of each clause of RegionStates. -/
theorem witness_RegionStates :
    (fun (s : State) (n : Nat) (w : Nat) (mode : Nat) =>
    let hot := s.thermal.haltOn = true
    let ordinary := ¬hot ∧ s.rd 0x2280 0x0A ≠ 1
    decide ((n < 64) ∧ ((s.region n).resume = some (w, mode)) ∧ (s.regState n = rHalted) ∧ (s.isDue (16 + n) w = true)
        ∧ ((s.region n).holdPasses = 0) ∧ (ordinary) ∧ (s.portsFailed n = false)))
        ({ at_ [(0x4000, 0, 1), (0x4001, 2, 16), (0x4002, 1, 5), (0x4100 + 63, 0x10, rHalted)] with waveDue := true, regions := [(63, { resume := some (5, 0) })] })
        63 5 0 = true ∧
    (fun (s : State) (n : Nat) (w : Nat) (mode : Nat) =>
    let hot := s.thermal.haltOn = true
    decide ((n < 64) ∧ ((s.region n).resume = some (w, mode)) ∧ (s.regState n = rHalted) ∧ (s.isDue (16 + n) w = true)
        ∧ ((s.region n).holdPasses = 0) ∧ (hot)))
        ({ at_ [(0x4000, 0, 1), (0x4001, 2, 16), (0x4002, 1, 5), (0x4100 + 63, 0x10, rHalted)] with waveDue := true, regions := [(63, { resume := some (5, 0) })], thermal := { haltOn := true } })
        63 5 0 = true ∧
    (fun (s : State) (n : Nat) (w : Nat) (mode : Nat) =>
    decide ((n < 64) ∧ ((s.region n).resume = some (w, mode)) ∧ (s.regState n = rHalted) ∧ (s.isDue (16 + n) w = true)
        ∧ ((s.region n).holdPasses ≠ 0) ∧ (s.deferred.contains (16 + n) = false)))
        ({ at_ [(0x4000, 0, 1), (0x4001, 2, 16), (0x4002, 1, 5), (0x4100 + 63, 0x10, rHalted)] with waveDue := true, regions := [(63, { resume := some (5, 1), holdPasses := 8 })] })
        63 5 1 = true ∧
    (fun (s : State) (n : Nat) (w : Nat) =>
    let hot := s.thermal.haltOn = true
    let ordinary := ¬hot ∧ s.rd 0x2280 0x0A ≠ 1
    decide ((n < 64) ∧ ((s.region n).rejoin = some w) ∧ (s.regState n = rResetting) ∧ (s.nextWave = w) ∧ (ordinary) ∧
        (s.portsFailed n = false)))
        ({ at_ [(0x4000, 0, 1), (0x4001, 2, 16), (0x4002, 1, 5), (0x4100 + 63, 0x10, rResetting)] with waveDue := true, regions := [(63, { rejoin := some 5 })] })
        63 5 = true ∧
    (fun (s : State) (n : Nat) (w : Nat) =>
    let hot := s.thermal.haltOn = true
    decide ((n < 64) ∧ ((s.region n).rejoin = some w) ∧ (s.regState n = rResetting) ∧ (s.nextWave = w) ∧ (¬hot) ∧
        (s.rd 0x2280 0x0A = 1)))
        ({ at_ [(0x4000, 0, 1), (0x4001, 2, 16), (0x4002, 1, 5), (0x4100 + 63, 0x10, rResetting), (0x2280, 0x0A, 1)] with waveDue := true, regions := [(63, { rejoin := some 5 })] })
        63 5 = true ∧
    (fun (s : State) (n : Nat) (w : Nat) =>
    let hot := s.thermal.haltOn = true
    decide ((n < 64) ∧ ((s.region n).rejoin = some w) ∧ (s.regState n = rResetting) ∧ (s.nextWave = w) ∧ (hot)))
        ({ at_ [(0x4000, 0, 1), (0x4001, 2, 16), (0x4002, 1, 5), (0x4100 + 63, 0x10, rResetting)] with waveDue := true, regions := [(63, { rejoin := some 5 })], thermal := { haltOn := true } })
        63 5 = true ∧
    (fun (s : State) (n : Nat) (w : Nat) =>
    let hot := s.thermal.haltOn = true
    let ordinary := ¬hot ∧ s.rd 0x2280 0x0A ≠ 1
    decide ((n < 64) ∧ ((s.region n).rejoin = some w) ∧ (s.regState n = rResetting) ∧ (s.nextWave = w) ∧ (ordinary) ∧
        (s.portsFailed n = true)))
        ({ at_ [(0x4000, 0, 1), (0x4001, 2, 16), (0x4002, 1, 5), (0x4100 + 63, 0x10, rResetting), (0x4100 + 63, 0x11, 7), (0x5000 + 63, 0x0B, 1)] with waveDue := true, regions := [(63, { rejoin := some 5 })], planes := [(planeKey 63 7, { net := { descriptors := [2 ^ 60] } })] })
        63 5 = true ∧
    (fun (s : State) (n : Nat) =>
    decide ((n < 64) ∧ (s.thermal.queue.head? = some n) ∧ (s.mayPower = true)))
        ({ up with thermal := { queue := [63] } }) 63 = true ∧
    (fun (s : State) (n : Nat) =>
    decide ((n < 64) ∧ (s.regState n = rFilling) ∧ ((16 ≤ s.rd 0x4240 0x05 ∨ s.migComing (s.rd 0x4240 0x05) ≠ n ∨
        s.migOverlap = true)))) (at_ [(0x4100 + 63, 0x10, rFilling), (0x4240, 5, 0xFF)]) 63 = true ∧
    (fun (s : State) (n : Nat) =>
    let hot := s.thermal.haltOn = true
    let ordinary := ¬hot ∧ s.rd 0x2280 0x0A ≠ 1
    decide ((n < 64) ∧ (s.regState n = rFilling) ∧ (s.rd 0x4240 0x05 < 16) ∧ (s.migComing (s.rd 0x4240 0x05) = n) ∧
        (s.migOverlap = false) ∧ (s.activePlane n < 8) ∧ (s.planeState n (s.activePlane n) = 2) ∧ (ordinary) ∧
        (s.portsFailed n = false))) (at_ [(0x4100 + 63, 0x10, rFilling), (0x4100 + 63, 0x11, 7), (0x4100 + 63, 0x27,
        2), (0x4240, 5, 15), (0x4230 + 15, 4, 63)]) 63 = true ∧
    (fun (s : State) (n : Nat) =>
    decide ((n < 64) ∧ (s.rd (0x6060 + n) 0x01 = 1) ∧ (s.outstanding n = 0) ∧ ((s.region n).closing = false))) (at_
        [(0x6060 + 63, 1, 1)]) 63 = true ∧
    (fun (s : State) (n : Nat) =>
    decide ((n < 64) ∧ (s.rd (0x6060 + n) 0x01 = 1) ∧ (s.outstanding n = 0) ∧ ((s.region n).closing = true) ∧
        ((s.regState n = rHalted ∨ s.regState n = rLoading))))
        ({ at_ [(0x6060 + 63, 1, 1), (0x4100 + 63, 0x10, rHalted)] with regions := [(63, { closing := true })] }) 63 =
        true ∧
    (fun (s : State) (n : Nat) =>
    decide ((n < 64) ∧ ((s.rd (0x6060 + n) 0x01 ≠ 1 ∨ s.outstanding n ≠ 0))))
        ({ at_ [(0x4000, 0, 1), (0x4001, 2, 16), (0x4002, 1, 5), (0x4100 + 63, 0x10, rHalted)] with waveDue := true, regions := [(63, { resume := some (5, 0) })] })
        63 = true ∧
    (fun (s : State) (n : Nat) =>
    decide ((n < 64) ∧ (s.rd (0x6060 + n) 0x01 ≠ 1)))
        ({ at_ [(0x4000, 0, 1), (0x4001, 2, 16), (0x4002, 1, 5), (0x4100 + 63, 0x10, rHalted)] with waveDue := true, regions := [(63, { resume := some (5, 0) })] })
        63 = true ∧
    (fun (s : State) (n : Nat) =>
    decide ((n < 64) ∧ (s.autoGate n = true) ∧ ((∀ k : Nat, k < 16 → (s.slotArmed k && s.slotNames k n) = false)) ∧
        ((∀ e : Nat, e < 16 → (s.migOpen e && s.migNames e n) = false)) ∧ (s.loadInits n = false))) (at_ [(0x2110, 1,
        1), (0x4100 + 63, 0x10, rLoading)]) 63 = true ∧
    (fun (s : State) (n : Nat) =>
    decide ((n < 64) ∧ (s.autoGate n = false)))
        ({ at_ [(0x4000, 0, 1), (0x4001, 2, 16), (0x4002, 1, 5), (0x4100 + 63, 0x10, rHalted)] with waveDue := true, regions := [(63, { resume := some (5, 0) })] })
        63 = true := by
  refine ⟨?_, ?_, ?_, ?_, ?_, ?_, ?_, ?_, ?_, ?_, ?_, ?_, ?_, ?_, ?_, ?_⟩ <;> decide +kernel

/-- States and operands that meet the hypotheses of each clause of SwitchSlots. -/
theorem witness_SwitchSlots :
    (fun (s : State) (r : Requester) (k : Nat) =>
    let reason := s.slotReason k true
    let pairs := s.pairSt = 4 ∧ (s.partner = 2 ∨ s.partner = 3)
    decide ((k < 16) ∧ (s.mayWrite r (0x4210 + k) 0x05 1 = true) ∧ (s.slotArmed k = false) ∧ (s.pair.confirm.any (fun
        c => c.1 = k) = false) ∧ (reason = 0) ∧ (¬pairs))) (at_ [(0x4000, 0, 1), (0x4001, 2, 16), (0x4001, 4, 16),
        (0x4210 + 15, 1, 2 ^ 63), (0x4210 + 15, 2, 5), (0x4210 + 15, 3, 7), (0x4100 + 63, 0x10, rLoading), (0x4100 +
        63, 0x27, 2), (0x4200, 2, 4)]) (.mailbox 0) 15 = true ∧
    (fun (s : State) (r : Requester) (k : Nat) =>
    let reason := s.slotReason k true
    let pairs := s.pairSt = 4 ∧ (s.partner = 2 ∨ s.partner = 3)
    decide ((k < 16) ∧ (s.mayWrite r (0x4210 + k) 0x05 1 = true) ∧ (s.slotArmed k = false) ∧ (s.pair.confirm.any (fun
        c => c.1 = k) = false) ∧ (reason = 0) ∧ (pairs))) (at_ [(0x4000, 0, 1), (0x4001, 2, 16), (0x4001, 4, 16),
        (0x4210 + 15, 1, 2 ^ 63), (0x4210 + 15, 2, 5), (0x4210 + 15, 3, 7), (0x4100 + 63, 0x10, rLoading), (0x4100 +
        63, 0x27, 2), (0x4200, 2, 4), (0x8100, 1, 4), (0x8100, 0x10, 2)]) (.mailbox 0) 15 = true ∧
    (fun (s : State) (r : Requester) (k : Nat) =>
    let reason := s.slotReason k true
    decide ((k < 16) ∧ (s.mayWrite r (0x4210 + k) 0x05 1 = true) ∧ (s.slotArmed k = false) ∧ (s.pair.confirm.any (fun
        c => c.1 = k) = false) ∧ (reason ≠ 0))) (at_ [(0x4000, 0, 1), (0x4001, 2, 16)]) (.mailbox 0) 15 = true ∧
    (fun (s : State) (r : Requester) (k : Nat) =>
    decide ((k < 16) ∧ (s.mayWrite r (0x4210 + k) 0x05 2 = true) ∧ (s.slotArmed k = true) ∧ (s.within 2000 (s.slot k
        0x02) = false))) (at_ [(0x4000, 0, 1), (0x4001, 2, 16), (0x4001, 3, 1000000), (0x4210 + 15, 6, 1), (0x4210 +
        15, 2, 5000)]) (.mailbox 0) 15 = true ∧
    (fun (s : State) (k : Nat) =>
    let p := s.slot k 0x03
    let meets := s.spanConflict (fun n => if (s.slotRegions k).contains n then p else s.activePlane n)
    decide ((k < 16) ∧ (s.slotArmed k = true) ∧ (s.isDue k (s.slot k 0x02) = true) ∧ (s.mustDefer (s.slotRegions k) =
        []) ∧ (meets = false)))
        ({ at_ [(0x4000, 0, 1), (0x4001, 2, 16), (0x4002, 1, 5), (0x4210 + 15, 1, 2 ^ 63), (0x4210 + 15, 2, 5), (0x4210 + 15, 3, 7), (0x4210 + 15, 4, 1), (0x4210 + 15, 6, 1), (0x4100 + 63, 0x10, rActive), (0x4100 + 63, 0x27, 2)] with waveDue := true })
        15 = true ∧
    (fun (s : State) (k : Nat) =>
    let p := s.slot k 0x03
    let meets := s.spanConflict (fun n => if (s.slotRegions k).contains n then p else s.activePlane n)
    decide ((k < 16) ∧ (s.slotArmed k = true) ∧ (s.isDue k (s.slot k 0x02) = true) ∧ (s.mustDefer (s.slotRegions k) =
        []) ∧ (meets = true)))
        ({ at_ [(0x4000, 0, 1), (0x4001, 2, 16), (0x4002, 1, 5), (0x4210 + 15, 1, 2 ^ 63), (0x4210 + 15, 2, 5), (0x4210 + 15, 3, 7), (0x4210 + 15, 6, 1), (0x4100 + 63, 0x10, rActive), (0x4100 + 63, 0x27, 2), (0x4100 + 62, 0x11, 0)] with waveDue := true, planes := [(planeKey 62 0, { summary := [5] }), (planeKey 63 7, { summary := [5] })] })
        15 = true ∧
    (fun (s : State) (k : Nat) =>
    decide ((k < 16) ∧ (s.slotArmed k = true) ∧ (s.isDue k (s.slot k 0x02) = true) ∧ (s.mustDefer (s.slotRegions k) ≠
        []) ∧ (s.deferred.contains k = false)))
        ({ at_ [(0x4000, 0, 1), (0x4001, 2, 16), (0x4002, 1, 5), (0x4210 + 15, 1, 2 ^ 63), (0x4210 + 15, 2, 5), (0x4210 + 15, 3, 7), (0x4210 + 15, 4, 1), (0x4210 + 15, 6, 1), (0x4100 + 63, 0x10, rActive), (0x4100 + 63, 0x27, 2)] with waveDue := true, regions := [(63, { holdPasses := 1 })] })
        15 = true ∧
    (fun (s : State) (k : Nat) =>
    decide ((k < 16) ∧ ((s.slotArmed k = false ∨ s.isDue k (s.slot k 0x02) = false)))) (at_ [(0x4000, 0, 1), (0x4001,
        2, 16), (0x4001, 4, 16), (0x4210 + 15, 1, 2 ^ 63), (0x4210 + 15, 2, 5), (0x4210 + 15, 3, 7), (0x4100 + 63,
        0x10, rLoading), (0x4100 + 63, 0x27, 2), (0x4200, 2, 4)]) 15 = true := by
  refine ⟨?_, ?_, ?_, ?_, ?_, ?_, ?_, ?_⟩ <;> decide +kernel

/-- States and operands that meet the hypotheses of each clause of PlaneStates. -/
theorem witness_PlaneStates :
    (fun (n : Nat) (p : Nat) (k : Nat) =>
    decide ((n < 64) ∧ (p < 8) ∧ (k / 131072 = n))) 63 7 (63 * 131072) = true ∧
    (fun (s : State) (n : Nat) (p : Nat) (key : Nat) (x : Bit) =>
    decide ((n < 64) ∧ (p < 8) ∧ (Sparse.get (fun _ => none) s.regs key = some x)))
        ({ up with regs := [(regKey 63 9 1, some { d := true })] }) 63 7 (regKey 63 9 1) ({ d := true }) = true ∧
    (fun (s : State) (n : Nat) (p : Nat) (c : Nat × CellCfg) =>
    decide ((n < 64) ∧ (p < 8) ∧ (((s.activeNet n).cells.map Prod.fst).Nodup) ∧ ((∀ c ∈ (s.activeNet n).cells, c.1 <
        65536)) ∧ (c ∈ (s.activeNet n).cells) ∧ (c.2.reg0.used = true) ∧ (Sparse.get (fun _ => none) s.regs (regKey n
        c.1 0) = none)))
        ({ at_ [(0x4100 + 63, 0x11, 0)] with planes := [(planeKey 63 0, { net := { cells := [(65535, { reg0 := { used := true } })] } })] })
        63 7 ((65535, { reg0 := { used := true } })) = true ∧
    (fun (s : State) (n : Nat) (p : Nat) (k : Nat) =>
    let old := (s.activeNet n).descriptors
    let new := (s.plane n p).net.descriptors
    decide ((n < 64) ∧ (p < 8) ∧ (k / 64 = n) ∧ (old.getD (k % 64) 0 = new.getD (k % 64) 0))) up 63 7 (63 * 64) = true ∧
    (fun (s : State) (n : Nat) (p : Nat) (k : Nat) =>
    let old := (s.activeNet n).descriptors
    let new := (s.plane n p).net.descriptors
    decide ((n < 64) ∧ (p < 8) ∧ (k / 64 = n) ∧ (old.getD (k % 64) 0 ≠ new.getD (k % 64) 0)))
        ({ at_ [(0x4100 + 63, 0x11, 0)] with planes := [(planeKey 63 7, { net := { descriptors := [1] } })] }) 63 7
        (63 * 64) = true ∧
    (fun (n : Nat) (p : Nat) (k : Nat) =>
    decide ((n < 64) ∧ (p < 8) ∧ (k / 64 ≠ n))) 63 7 (63 * 131072) = true ∧
    (fun (n : Nat) (p : Nat) (m : Nat) =>
    decide ((n < 64) ∧ (p < 8) ∧ (m < 64) ∧ (m ≠ n))) 63 7 0 = true ∧
    (fun (s : State) (r : Requester) (n : Nat) (v : Nat) =>
    decide ((n < 64) ∧ (s.mayWrite r (0x4100 + n) 0x15 v = true) ∧ (v < 8) ∧ (s.planeState n v = 2) ∧ (v ≠
        s.activePlane n) ∧ (s.activePlane n < 8) ∧ ((s.plane n v).personality = (s.plane n (s.activePlane
        n)).personality) ∧ ((s.plane n v).layout = (s.plane n (s.activePlane n)).layout))) (at_ [(0x4100 + 63, 0x10,
        rActive), (0x4100 + 63, 0x11, 0), (0x4100 + 63, 0x27, 2)]) (.mailbox 0) 63 7 = true ∧
    (fun (s : State) (r : Requester) (n : Nat) =>
    decide ((n < 64) ∧ (s.mayWrite r (0x4100 + n) 0x15 0xFF = true))) up (.mailbox 0) 63 = true ∧
    (fun (s : State) (n : Nat) (v : Nat) (w : Nat) (mode : Nat) =>
    let due := (s.region n).golden = some (w, v, mode) ∧ s.isDue (96 + n) w = true ∧ (s.region n).holdPasses = 0 ∧
           rLoading ≤ s.regState n ∧
           slotNos.any (fun k => s.slotArmed k && s.slotNames k n && s.slot k 0x02 = s.nextWave) = false
    decide ((n < 64) ∧ (due) ∧ (s.planeState n v = 2) ∧ (s.spanConflict (fun m => if m = n then v else s.activePlane
        m) = false) ∧ (s.planeBarred n v = false) ∧ (slotNos.any (fun e => s.unreverted e && s.migNames e n) =
        false)))
        ({ at_ [(0x4000, 0, 1), (0x4001, 2, 16), (0x4002, 1, 5), (0x4100 + 63, 0x10, rActive), (0x4100 + 63, 0x11, 0), (0x4100 + 63, 0x27, 2)] with waveDue := true, regions := [(63, { golden := some (5, 7, 0) })] })
        63 7 5 0 = true ∧
    (fun (s : State) (n : Nat) (v : Nat) (w : Nat) (mode : Nat) =>
    let due := (s.region n).golden = some (w, v, mode) ∧ s.isDue (96 + n) w = true ∧ (s.region n).holdPasses = 0 ∧
           rLoading ≤ s.regState n ∧
           slotNos.any (fun k => s.slotArmed k && s.slotNames k n && s.slot k 0x02 = s.nextWave) = false
    decide ((n < 64) ∧ (due) ∧ (s.planeState n v ≠ 2) ∧ (s.regState n = rActive)))
        ({ at_ [(0x4000, 0, 1), (0x4001, 2, 16), (0x4002, 1, 5), (0x4100 + 63, 0x10, rActive), (0x4100 + 63, 0x11, 0)] with waveDue := true, regions := [(63, { golden := some (5, 7, 0) })] })
        63 7 5 0 = true := by
  refine ⟨?_, ?_, ?_, ?_, ?_, ?_, ?_, ?_, ?_, ?_, ?_⟩ <;> decide +kernel

/-- States and operands that meet the hypotheses of each clause of Migrations. -/
theorem witness_Migrations :
    (fun (s : State) (r : Requester) =>
    let e := s.rd 0x4240 0x02
    let w := s.rd 0x4240 0x03
    let w' := if w = 0 then s.earliestW else w
    let f := s.mig e 0x01
    let sp := s.mig e 0x04
    decide ((s.mayWrite r 0x4240 0x01 1 = true) ∧ (e < 16) ∧ (f ≠ sp) ∧ ((s.migReason e w' (w = 0)).1 = 0))) (at_
        [(0x4000, 0, 1), (0x4001, 2, 16), (0x4001, 4, 16), (0x4200, 2, 4), (0x4240, 2, 15), (0x4240, 3, 5000),
        (0x4240, 5, 0xFF), (0x4230 + 15, 1, 63), (0x4230 + 15, 2, 0), (0x4230 + 15, 3, 7), (0x4230 + 15, 4, 62),
        (0x4230 + 15, 5, 6), (0x4230 + 15, 6, 3), (0x4100 + 63, 0x11, 0), (0x4100 + 63, 0x27, 2), (0x4100 + 62, 0x26,
        2), (0x4100 + 63, 0x10, rActive), (0x4100 + 62, 0x10, rLoading)]) (.mailbox 0) = true ∧
    (fun (s : State) (r : Requester) =>
    let e := s.rd 0x4240 0x02
    let w := s.rd 0x4240 0x03
    let w' := if w = 0 then s.earliestW else w
    let m := s.rd 0x4240 0x05
    let f := s.mig e 0x01
    decide ((s.mayWrite r 0x4240 0x01 1 = true) ∧ (e < 16) ∧ ((s.migReason e w' (w = 0)).1 ≠ 0) ∧ (m ≠ e) ∧ (s.mig e
        0x07 ≠ 3) ∧ (f ≠ 0xFF))) (at_ [(0x4240, 2, 15), (0x4240, 5, 0xFF), (0x4230 + 15, 1, 63)]) (.mailbox 0) = true ∧
    (fun (s : State) (r : Requester) =>
    let e := s.rd 0x4240 0x02
    let w := s.rd 0x4240 0x03
    let w' := if w = 0 then s.earliestW else w
    decide ((s.mayWrite r 0x4240 0x01 2 = true) ∧ (e < 16) ∧ ((s.revertReason e w' (w = 0)).1 = 0))) (at_ [(0x4000, 0,
        1), (0x4001, 2, 16), (0x4001, 4, 16), (0x4200, 2, 4), (0x4240, 2, 15), (0x4240, 3, 5000), (0x4240, 5, 0xFF),
        (0x4230 + 15, 1, 63), (0x4230 + 15, 2, 0), (0x4230 + 15, 3, 7), (0x4230 + 15, 4, 62), (0x4230 + 15, 5, 6),
        (0x4230 + 15, 6, 3), (0x4230 + 15, 7, 3), (0x4100 + 63, 0x11, 7), (0x4100 + 63, 0x20, 2), (0x4100 + 62, 0x11,
        6), (0x4100 + 62, 0x26, 2), (0x4100 + 63, 0x10, rActive), (0x4100 + 62, 0x10, rActive)]) (.mailbox 0) = true ∧
    (fun (s : State) (r : Requester) =>
    let e := s.rd 0x4240 0x02
    let m := s.rd 0x4240 0x05
    let f := s.mig e 0x01
    let sp := s.mig e 0x04
    decide ((s.mayWrite r 0x4240 0x01 3 = true) ∧ (m = e) ∧ (e < 16) ∧ (f < 64) ∧ (sp < 64) ∧ (s.migOverlap = false)))
        (at_ [(0x4240, 2, 15), (0x4240, 5, 15), (0x4230 + 15, 1, 63), (0x4230 + 15, 4, 62), (0x4230 + 15, 7, 1)])
        (.mailbox 0) = true ∧
    (fun (s : State) =>
    let m := s.rd 0x4240 0x05
    let mf := s.mig m 0x01
    let ms := s.mig m 0x04
    let coming := s.migComing m
    decide ((m < 16) ∧ (mf < 64) ∧ (ms < 64) ∧ (mf ≠ ms) ∧ (s.migOverlap = false) ∧ (s.migWave ≠ 0) ∧ (s.isDue 200
        (s.migEarly m) = true) ∧ ((s.region coming).holdPasses = 0) ∧ (s.spanConflict (s.migAfter m) = false) ∧
        (s.migSpoilt m mf = false) ∧ (s.migSpoilt m ms = false) ∧ ((s.regState coming = rActive ∨ s.regState coming =
        rLoading))))
        ({ at_ [(0x4000, 0, 1), (0x4001, 2, 16), (0x4001, 4, 16), (0x4002, 1, 49), (0x4002, 2, 13), (0x4240, 5, 15), (0x4230 + 15, 1, 63), (0x4230 + 15, 2, 0), (0x4230 + 15, 3, 7), (0x4230 + 15, 4, 62), (0x4230 + 15, 5, 6), (0x4230 + 15, 6, 3), (0x4230 + 15, 7, 1), (0x4100 + 63, 0x11, 0), (0x4100 + 63, 0x27, 2), (0x4100 + 62, 0x26, 2), (0x4100 + 63, 0x10, rActive), (0x4100 + 62, 0x10, rLoading)] with waveDue := true, migWave := 50 })
        = true ∧
    (fun (s : State) =>
    let m := s.rd 0x4240 0x05
    let mf := s.mig m 0x01
    let ms := s.mig m 0x04
    let coming := s.migComing m
    decide ((m < 16) ∧ (mf < 64) ∧ (ms < 64) ∧ (s.migOverlap = false) ∧ (s.migWave ≠ 0) ∧ (s.isDue 200 (s.migEarly m)
        = true) ∧ ((s.region coming).holdPasses = 0) ∧ (s.spanConflict (s.migAfter m) = true)))
        ({ at_ [(0x4000, 0, 1), (0x4001, 2, 16), (0x4001, 4, 16), (0x4002, 1, 49), (0x4002, 2, 13), (0x4240, 5, 15), (0x4230 + 15, 7, 1), (0x4230 + 15, 1, 63), (0x4230 + 15, 2, 0), (0x4230 + 15, 3, 7), (0x4230 + 15, 4, 62), (0x4230 + 15, 5, 6), (0x4230 + 15, 6, 3), (0x4100 + 63, 0x11, 0), (0x4100 + 63, 0x27, 2), (0x4100 + 62, 0x26, 2), (0x4100 + 63, 0x10, rActive), (0x4100 + 62, 0x10, rLoading)] with waveDue := true, migWave := 50, planes := [(planeKey 62 6, { summary := [5] }), (planeKey 63 7, { summary := [5] })] })
        = true ∧
    (fun (s : State) =>
    let m := s.rd 0x4240 0x05
    decide (((16 ≤ m ∨ s.migOverlap = true ∨ s.migWave = 0)))) (at_ [(0x4000, 0, 1), (0x4001, 2, 16), (0x4001, 4, 16),
        (0x4200, 2, 4), (0x4240, 2, 15), (0x4240, 3, 5000), (0x4240, 5, 0xFF), (0x4230 + 15, 1, 63), (0x4230 + 15, 2,
        0), (0x4230 + 15, 3, 7), (0x4230 + 15, 4, 62), (0x4230 + 15, 5, 6), (0x4230 + 15, 6, 3), (0x4100 + 63, 0x11,
        0), (0x4100 + 63, 0x27, 2), (0x4100 + 62, 0x26, 2), (0x4100 + 63, 0x10, rActive), (0x4100 + 62, 0x10,
        rLoading)]) = true ∧
    (fun (s : State) =>
    let m := s.rd 0x4240 0x05
    let mf := s.mig m 0x01
    let ms := s.mig m 0x04
    let leaving := if s.migReverting then ms else mf
    decide ((m < 16) ∧ (mf < 64) ∧ (ms < 64) ∧ (mf ≠ ms) ∧ (s.migOverlap = true) ∧ (s.isDue 201 s.migWave = true) ∧
        ((s.region leaving).holdPasses = 0) ∧ (s.migSpoilt m leaving = false) ∧ (s.migReverting = false)))
        ({ at_ [(0x4000, 0, 1), (0x4001, 2, 16), (0x4001, 4, 16), (0x4002, 1, 50), (0x4240, 5, 15), (0x4230 + 15, 1, 63), (0x4230 + 15, 2, 0), (0x4230 + 15, 3, 7), (0x4230 + 15, 4, 62), (0x4230 + 15, 5, 6), (0x4230 + 15, 6, 3), (0x4230 + 15, 7, 2), (0x4100 + 63, 0x11, 0), (0x4100 + 63, 0x27, 2), (0x4100 + 62, 0x26, 2), (0x4100 + 63, 0x10, rActive), (0x4100 + 62, 0x10, rLoading)] with waveDue := true, migWave := 50, migOverlap := true })
        = true ∧
    (fun (s : State) =>
    let m := s.rd 0x4240 0x05
    let mf := s.mig m 0x01
    let ms := s.mig m 0x04
    let leaving := if s.migReverting then ms else mf
    decide ((m < 16) ∧ (mf < 64) ∧ (ms < 64) ∧ (mf ≠ ms) ∧ (s.migOverlap = true) ∧ (s.isDue 201 s.migWave = true) ∧
        ((s.region leaving).holdPasses = 0) ∧ (s.migSpoilt m leaving = false) ∧ (s.migReverting = true)))
        ({ at_ [(0x4000, 0, 1), (0x4001, 2, 16), (0x4001, 4, 16), (0x4002, 1, 50), (0x4240, 5, 15), (0x4230 + 15, 7, 4), (0x4230 + 15, 1, 63), (0x4230 + 15, 2, 0), (0x4230 + 15, 3, 7), (0x4230 + 15, 4, 62), (0x4230 + 15, 5, 6), (0x4230 + 15, 6, 3), (0x4100 + 63, 0x11, 0), (0x4100 + 63, 0x27, 2), (0x4100 + 62, 0x26, 2), (0x4100 + 63, 0x10, rActive), (0x4100 + 62, 0x10, rLoading)] with waveDue := true, migWave := 50, migOverlap := true, migReverting := true })
        = true ∧
    (fun (s : State) =>
    let m := s.rd 0x4240 0x05
    decide (((16 ≤ m ∨ s.migOverlap = false)))) (at_ [(0x4000, 0, 1), (0x4001, 2, 16), (0x4001, 4, 16), (0x4200, 2,
        4), (0x4240, 2, 15), (0x4240, 3, 5000), (0x4240, 5, 0xFF), (0x4230 + 15, 1, 63), (0x4230 + 15, 2, 0), (0x4230
        + 15, 3, 7), (0x4230 + 15, 4, 62), (0x4230 + 15, 5, 6), (0x4230 + 15, 6, 3), (0x4100 + 63, 0x11, 0), (0x4100 +
        63, 0x27, 2), (0x4100 + 62, 0x26, 2), (0x4100 + 63, 0x10, rActive), (0x4100 + 62, 0x10, rLoading)]) = true := by
  refine ⟨?_, ?_, ?_, ?_, ?_, ?_, ?_, ?_, ?_, ?_⟩ <;> decide +kernel

/-- States and operands that meet the hypotheses of each clause of ClockSources. -/
theorem witness_ClockSources :
    (fun (s : State) (i : Nat) (reason : Nat) =>
    let live := s.srcSt i = 1 ∨ s.srcSt i = 2
    decide ((hasTrip i reason = true) ∧ (live) ∧ ((i = 4 → s.bundle.isSome = true))))
        ({ at_ [(0x2014, 1, 2), (0x4000, 0, 1)] with bundle := some legal }) 4 3 = true ∧
    (fun (s : State) (i : Nat) (reason : Nat) =>
    let live := s.srcSt i = 1 ∨ s.srcSt i = 2
    decide ((hasTrip i reason = true) ∧ ((¬live ∨ (i = 4 ∧ s.bundle = none))))) (at_ [(0x2014, 1, 2)]) 4 3 = true ∧
    (fun (s : State) (i : Nat) =>
    decide ((1 ≤ i) ∧ (i < 8) ∧ (s.srcSt i = 2))) ({ at_ [(0x2014, 1, 2), (0x4000, 0, 1)] with bundle := some legal })
        4 = true ∧
    (fun (s : State) (i : Nat) =>
    decide ((1 ≤ i) ∧ (i < 8) ∧ (s.srcSt i = 1) ∧ (s.refProven i = true) ∧ (s.nothingHeld = true))) (at_ [(0x2017, 1,
        1), (0x2012, 1, 2)]) 7 = true ∧
    (fun (s : State) (i : Nat) =>
    decide ((1 ≤ i) ∧ (i < 8) ∧ (s.srcSt i ≠ 2) ∧ ((s.srcSt i = 1 → s.refProven i = false ∧ s.nothingHeld = true))))
        up 7 = true ∧
    (fun (s : State) (i : Nat) =>
    decide ((i < 8) ∧ (s.srcSt i = 3))) (at_ [(0x2017, 1, 3)]) 7 = true ∧
    (fun (s : State) (i : Nat) =>
    decide ((i < 8) ∧ (s.srcSt i ≠ 3))) ({ at_ [(0x2014, 1, 2), (0x4000, 0, 1)] with bundle := some legal }) 4 = true ∧
    (fun (s : State) (num : Nat) (den : Nat) =>
    decide ((s.domSt 0 = 1) ∧ (den ≠ 0) ∧ (85 * den ≤ 100 * num) ∧ (100 * num ≤ 115 * den))) (at_ [(0x2040, 1, 1)])
        115 100 = true ∧
    (fun (s : State) (num : Nat) (den : Nat) =>
    decide ((s.domSt 0 = 1) ∧ (den ≠ 0) ∧ ((100 * num < 85 * den ∨ 115 * den < 100 * num)))) (at_ [(0x2040, 1, 1)]) 84
        100 = true ∧
    (fun (s : State) (den : Nat) =>
    decide (((s.domSt 0 ≠ 1 ∨ den = 0)))) ({ at_ [(0x2014, 1, 2), (0x4000, 0, 1)] with bundle := some legal }) 0 =
        true ∧
    (fun (s : State) =>
    decide (((s.rd 0x2020 0x01 = 1 ∨ s.rd 0x2020 0x01 = 3)) ∧ (s.startup.switchDue = false) ∧ (s.startup.engineDue =
        false))) (at_ [(0x2020, 1, 1), (0x2014, 1, 1)]) = true ∧
    (fun (s : State) =>
    decide (((s.rd 0x2020 0x01 = 1 ∨ s.rd 0x2020 0x01 = 3)) ∧ (s.startup.switchDue = false) ∧ (s.startup.engineDue =
        true) ∧ (s.startup.warm = false)))
        ({ at_ [(0x2020, 1, 3)] with startup := { released := true, engineDue := true } }) = true ∧
    (fun (s : State) =>
    decide ((s.rd 0x2020 0x01 ≠ 1) ∧ (s.rd 0x2020 0x01 ≠ 3) ∧ (s.startup.switchDue = false) ∧ (s.startup.engineDue =
        false))) ({ at_ [(0x2014, 1, 2), (0x4000, 0, 1)] with bundle := some legal }) = true ∧
    (fun (s : State) =>
    decide ((s.rd 0x2020 0x01 = 2))) (at_ [(0x2020, 1, 2), (0x3300, 3, 0)]) = true ∧
    (fun (s : State) =>
    decide ((s.rd 0x2020 0x01 ≠ 2))) ({ at_ [(0x2014, 1, 2), (0x4000, 0, 1)] with bundle := some legal }) = true := by
  refine ⟨?_, ?_, ?_, ?_, ?_, ?_, ?_, ?_, ?_, ?_, ?_, ?_, ?_, ?_, ?_⟩ <;> decide +kernel

/-- States and operands that meet the hypotheses of each clause of ClockDomains. -/
theorem witness_ClockDomains :
    (fun (s : State) (r : Requester) (d : Nat) (t : Nat) =>
    decide ((d < 7) ∧ (s.mayWrite r (0x2040 + d) 0x04 t = true) ∧ (t < 256) ∧ (domainPermits d t = true) ∧ (s.srcSt t
        = 2) ∧ (s.domSt d = 1))) (at_ [(0x2046, 1, 1), (0x2046, 2, 6), (0x2015, 1, 2)]) (.mailbox 0) 6 5 = true ∧
    (fun (s : State) (r : Requester) (d : Nat) (t : Nat) =>
    decide ((d < 7) ∧ (s.mayWrite r (0x2040 + d) 0x04 t = true) ∧ (t < 256) ∧ (domainPermits d t = false)))
        ({ at_ [(0x2046, 1, 3)] with domains := [(6, { target := some 5, waitingOld := true })] }) (.mailbox 0) 6 0 =
        true ∧
    (fun (s : State) (r : Requester) (d : Nat) (t : Nat) =>
    decide ((d < 7) ∧ (s.mayWrite r (0x2040 + d) 0x04 t = true) ∧ (t < 256) ∧ (domainPermits d t = true) ∧ ((s.srcSt t
        ≠ 2 ∨ s.domSt d ≠ 1)))) ({ at_ [(0x2041, 1, 2)] with domains := [(1, { target := some 5 })] }) (.mailbox 0) 1
        5 = true ∧
    (fun (s : State) (d : Nat) (t : Nat) =>
    let due := s.domSt d = 2 ∧ (s.dom d).target = some t ∧ s.nothingHeld = true
    decide ((d < 7) ∧ (due) ∧ ((s.dom d).moveDue = none)))
        ({ at_ [(0x2041, 1, 2)] with domains := [(1, { target := some 5 })] }) 1 5 = true ∧
    (fun (s : State) (d : Nat) (t : Nat) (i : Nat) =>
    let due := s.domSt d = 2 ∧ (s.dom d).target = some t ∧ s.nothingHeld = true
    decide ((d < 7) ∧ (due) ∧ ((s.dom d).moveDue = some i) ∧ (s.startup.everActive = false) ∧ (s.srcSt i = 2) ∧
        (s.earlier d i t = true)))
        ({ at_ [(0x2046, 1, 2), (0x2046, 3, 0xFF0605), (0x2015, 1, 2)] with domains := [(6, { target := some 6, moveDue := some 5 })] })
        6 6 5 = true ∧
    (fun (s : State) (d : Nat) =>
    decide ((d < 7) ∧ ((s.domSt d ≠ 2 ∨ s.domSt d = 2 ∧ (s.dom d).target = none ∧ s.nothingHeld = true)))) (at_
        [(0x2046, 1, 1), (0x2046, 2, 6), (0x2015, 1, 2)]) 6 = true ∧
    (fun (s : State) (d : Nat) (t : Nat) (v : Nat) =>
    decide ((d < 7) ∧ (s.domSt 5 = 2) ∧ ((s.dom 5).target = some t) ∧ ((s.dom 5).moveDue = none) ∧
        ({ s with pinsHeld := [] }.nothingHeld = true) ∧ (s.pinsHeld = [v])))
        ({ at_ [(0x2045, 1, 2)] with domains := [(5, { target := some 5 })], pinsHeld := [0xFFFFFFFF] }) 6 5
        0xFFFFFFFF = true ∧
    (fun (s : State) (d : Nat) =>
    decide ((d < 7) ∧ (s.domSt d ≠ 1) ∧ ((s.dom d).waitingOld = true)))
        ({ at_ [(0x2046, 1, 3)] with domains := [(6, { target := some 5, waitingOld := true })] }) 6 = true ∧
    (fun (s : State) (d : Nat) =>
    decide ((d < 7) ∧ ((s.domSt d = 1 ∨ (s.dom d).waitingOld = false)))) (at_ [(0x2046, 1, 1), (0x2046, 2, 6),
        (0x2015, 1, 2)]) 6 = true ∧
    (fun (s : State) (r : Requester) (d : Nat) =>
    decide ((d < 7) ∧ (s.mayWrite r (0x2040 + d) 0x09 1 = true))) (at_ [(0x2046, 1, 1), (0x2046, 2, 6), (0x2015, 1,
        2)]) (.mailbox 0) 6 = true ∧
    (fun (s : State) (d : Nat) (b : Nat) =>
    decide ((d < 7) ∧ (gated d b = true) ∧ (s.rd (0x2040 + d) 0x0A = 1))) (at_ [(0x2046, 1, 1), (0x2046, 2, 6),
        (0x2015, 1, 2)]) 6 0 = true ∧
    (fun (s : State) (d : Nat) (b : Nat) =>
    decide ((d < 7) ∧ (gated d b = true) ∧ (s.rd (0x2040 + d) 0x0A ≠ 1))) (at_ [(0x2046, 0x0A, 0)]) 6 0 = true := by
  refine ⟨?_, ?_, ?_, ?_, ?_, ?_, ?_, ?_, ?_, ?_, ?_, ?_⟩ <;> decide +kernel

/-- States and operands that meet the hypotheses of each clause of PowerRails. -/
theorem witness_PowerRails :
    (fun (s : State) (x : Int) =>
    let v := max (s.rd 0x2100 0x01) s.vlFloor
    decide ((s.vlStuck = false) ∧ (s.domSt 6 = 1) ∧ (s.thermal.awaitReport = false) ∧ (s.leastSlack = some x) ∧ (x <
        s.slackLow) ∧ (v < 860))) (at_ [(0x2046, 1, 1), (0x2100, 1, 850), (0x4100 + 63, 0x10, rActive), (0x4100 + 63,
        0x11, 7)]) 0 = true ∧
    (fun (s : State) (x : Int) =>
    let v := max (s.rd 0x2100 0x01) s.vlFloor
    decide ((s.vlStuck = false) ∧ (s.domSt 6 = 1) ∧ (s.thermal.awaitReport = false) ∧ (s.leastSlack = some x) ∧
        (s.slackLow ≤ x) ∧ (s.slackHigh < x) ∧ (s.thermal.lowerAt = none) ∧ (s.vlFloor < v) ∧ (0 < s.rd 0x2100 0x05)))
        ({ at_ [(0x2046, 1, 1), (0x2100, 1, 850), (0x4100 + 63, 0x10, rActive), (0x4100 + 63, 0x11, 7), (0x4005, 1, 10), (0x4005, 2, 20)] with regions := [(63, { slack := 20001 })] })
        20001 = true ∧
    (fun (s : State) (x : Int) =>
    decide ((s.vlStuck = false) ∧ (s.domSt 6 = 1) ∧ (s.thermal.awaitReport = false) ∧ (s.leastSlack = some x) ∧
        (s.slackLow ≤ x) ∧ (x ≤ s.slackHigh)))
        ({ at_ [(0x2046, 1, 1), (0x2100, 1, 850), (0x4100 + 63, 0x10, rActive), (0x4100 + 63, 0x11, 7), (0x4005, 1, 10), (0x4005, 2, 20)] with regions := [(63, { slack := 20000 })] })
        20000 = true ∧
    (fun (s : State) =>
    decide ((s.rd 0x2100 0x01 < s.vlFloor) ∧ (s.vlStuck = false) ∧ (s.domSt 6 = 1))) (at_ [(0x2046, 1, 1), (0x2100, 1,
        579)]) = true ∧
    (fun (s : State) =>
    decide (((s.vlFloor ≤ s.rd 0x2100 0x01 ∨ s.vlStuck = true ∨ s.domSt 6 ≠ 1)))) (at_ [(0x2046, 1, 1), (0x2100, 1,
        850), (0x4100 + 63, 0x10, rActive), (0x4100 + 63, 0x11, 7)]) = true ∧
    (fun (s : State) (r : Requester) (rail : Nat) =>
    let may := s.rdBit 0x2103 0x01 2 = false
    decide ((rail < 3) ∧ (s.mayWrite r 0x2102 0x02 1 = true) ∧ (s.engineSt < 2) ∧ (s.loadBusy = false) ∧ (may))) (at_
        [(0x2046, 1, 1), (0x2100, 1, 850), (0x4100 + 63, 0x10, rActive), (0x4100 + 63, 0x11, 7)]) (.mailbox 0) 0 =
        true ∧
    (fun (s : State) (r : Requester) (rail : Nat) =>
    let may := s.rdBit 0x2103 0x01 2 = false
    decide ((rail < 3) ∧ (s.mayWrite r 0x2102 0x02 1 = true) ∧ (s.engineSt < 2) ∧ (s.loadBusy = false) ∧ (¬may))) (at_
        [(0x2103, 1, 4)]) (.mailbox 0) 2 = true ∧
    (fun (s : State) (r : Requester) (rail : Nat) =>
    decide ((rail < 3) ∧ (s.mayWrite r 0x2102 0x02 1 = true) ∧ ((2 ≤ s.engineSt ∨ s.loadBusy = true)))) (at_ [(0x4000,
        0, 2)]) (.mailbox 0) 2 = true ∧
    (fun (s : State) (r : Requester) (rail : Nat) =>
    decide ((rail < 3) ∧ (s.mayWrite r 0x2102 0x02 2 = true))) (at_ [(0x2046, 1, 1), (0x2100, 1, 850), (0x4100 + 63,
        0x10, rActive), (0x4100 + 63, 0x11, 7)]) (.mailbox 0) 0 = true ∧
    (fun (s : State) (rail : Nat) =>
    let may := s.rdBit 0x2103 0x01 2 = false
    decide ((rail < 3) ∧ (s.rd 0x2102 0x01 = 2) ∧ (may) ∧ (s.thermal.avsHeld.any (fun x => x.1 = 2) = false) ∧
        (s.load.waiting = none))) (at_ [(0x2102, 1, 2)]) 2 = true ∧
    (fun (s : State) (rail : Nat) =>
    let may := s.rdBit 0x2103 0x01 2 = false
    decide ((rail < 3) ∧ ((s.rd 0x2102 0x01 ≠ 2 ∨ ¬may ∨ s.thermal.avsHeld.any (fun x => x.1 = 2) = true)))) (at_
        [(0x2046, 1, 1), (0x2100, 1, 850), (0x4100 + 63, 0x10, rActive), (0x4100 + 63, 0x11, 7)]) 0 = true := by
  refine ⟨?_, ?_, ?_, ?_, ?_, ?_, ?_, ?_, ?_, ?_, ?_⟩ <;> decide +kernel

/-- States and operands that meet the hypotheses of each clause of Sensors. -/
theorem witness_Sensors :
    (fun (s : State) (l : List SensorIn) (i : Nat) (val : Nat → Int) =>
    decide ((i < 128) ∧ ((∀ j : Nat, j < 128 → rawOf l j = some (some (val j)) ∧ inRange (val j) = true ∧ s.rd (0x2200
        + j) 0x03 = 0)) ∧ ((∀ j : Nat, j < 128 → ∀ k : Nat, k < 128 → val j - val k ≤ 20000)) ∧ (s.rd 0x2280 0x0A ≠
        1))) up ((List.range 128).map (fun j => ⟨j, some 25000⟩)) 127 (fun _ => 25000) = true ∧
    (fun (s : State) (l : List SensorIn) (i : Nat) (v : Int) =>
    decide ((i < 128) ∧ (rawOf l i = some (some v)) ∧ (inRange v = true) ∧ (s.rd (0x2200 + i) 0x03 = 0) ∧
        ((s.hottestNeighbour l i).all (fun y => v - y ≤ 20000 && y - v ≤ 20000) = true)))
        ({ up with dict := [(ent (0x2200 + 127) 6, 0xFFFFFFFF)] }) ([{ sensor := 127, reading := some 150000 }]) 127
        150000 = true ∧
    (fun (s : State) (l : List SensorIn) (i : Nat) (v : Int) =>
    decide ((i < 128) ∧ (rawOf l i = some (some v)) ∧ (inRange v = false) ∧ (s.rd (0x2200 + i) 0x03 = 0) ∧ (s.throttle
        = 0))) (at_ [(0x2200 + 127, 3, 0), (0x2290, 1, 0)]) ([{ sensor := 127, reading := some 150001 }]) 127 150001 =
        true ∧
    (fun (l : List SensorIn) (i : Nat) =>
    decide ((i < 128) ∧ (rawOf l i = none))) ([]) 127 = true ∧
    (fun (s : State) (i : Nat) =>
    decide ((i < 128) ∧ (i < 64) ∧ (s.rd 0x2280 0x0A = 1))) (at_ [(0x2280, 0x0A, 1)]) 63 = true ∧
    (fun (i : Nat) (v : Int) (old : Nat) =>
    decide ((i < 128) ∧ (old ≤ 5) ∧ (nextBand old v < old))) 127 0 4 = true ∧
    (fun (i : Nat) (v : Int) (old : Nat) =>
    decide ((i < 128) ∧ (old ≤ 5) ∧ (old < nextBand old v))) 127 0 0 = true := by
  refine ⟨?_, ?_, ?_, ?_, ?_, ?_, ?_⟩ <;> decide +kernel

/-- States and operands that meet the hypotheses of each clause of Throttling. -/
theorem witness_Throttling :
    (fun (s : State) =>
    decide ((s.rd 0x2280 0x0A = 1))) (at_ [(0x2280, 0x0A, 1)]) = true ∧
    (fun (s : State) =>
    decide ((s.rd 0x2280 0x0A ≠ 1))) (at_ [(0x2290, 1, 1)]) = true ∧
    (fun (s : State) (c : Nat) =>
    decide ((s.throttle = 1) ∧ (s.thermal.orderPos = 0) ∧ (s.rd 0x2290 0x05 % 16 = c) ∧ (c ≠ 0))) (at_ [(0x2290, 1,
        1), (0x2290, 5, 0x4321)]) 1 = true ∧
    (fun (s : State) =>
    decide ((s.throttle = 1) ∧ (s.thermal.orderPos = 0) ∧ (s.rd 0x2290 0x05 % 16 = 0))) (at_ [(0x2290, 1, 1), (0x2290,
        5, 0)]) = true ∧
    (fun (s : State) =>
    decide ((s.throttle ≠ 1))) (at_ [(0x2280, 0x0A, 1)]) = true ∧
    (fun (s : State) (c : Nat) =>
    decide ((s.throttle = 2) ∧ (s.thermal.orderPos < 4) ∧ (s.rd 0x2290 0x05 / 16 ^ s.thermal.orderPos % 16 = c) ∧ (c ≠
        0))) ({ at_ [(0x2290, 1, 2), (0x2290, 5, 0x4321)] with thermal := { orderPos := 3 } }) 4 = true ∧
    (fun (s : State) =>
    decide (((s.throttle ≠ 2 ∨ 4 ≤ s.thermal.orderPos ∨ s.rd 0x2290 0x05 / 16 ^ s.thermal.orderPos % 16 = 0)))) (at_
        [(0x2280, 0x0A, 1)]) = true ∧
    (fun (s : State) =>
    decide ((s.throttle ≠ 0) ∧ (s.rd 0x2290 0x02 = 0))) (at_ [(0x2290, 1, 1)]) = true ∧
    (fun (s : State) =>
    decide (((s.throttle = 0 ∨ s.rd 0x2290 0x02 ≠ 0)))) (at_ [(0x2280, 0x0A, 1)]) = true ∧
    (fun (s : State) (r : Requester) =>
    decide ((s.mayWrite r 0x2290 0x08 1 = true))) (at_ [(0x2280, 0x0A, 1)]) (.mailbox 0) = true ∧
    (fun (s : State) (r : Requester) =>
    decide ((s.mayWrite r 0x2290 0x08 2 = true))) (at_ [(0x2280, 0x0A, 1)]) (.mailbox 0) = true ∧
    (fun (s : State) (r : Requester) (i : Nat) =>
    decide ((i < 128) ∧ (s.mayWrite r (0x2200 + i) 0x08 1 = true) ∧ (1000 ≤ (s.sensor i).goodRun)))
        ({ at_ [(0x2200 + 127, 3, 1)] with sensors := [(127, { goodRun := 1000 })] }) (.mailbox 0) 127 = true ∧
    (fun (s : State) (r : Requester) (i : Nat) =>
    decide ((i < 128) ∧ (s.mayWrite r (0x2200 + i) 0x08 1 = true) ∧ ((s.sensor i).goodRun < 1000))) (at_ [(0x2280,
        0x0A, 1)]) (.mailbox 0) 0 = true ∧
    (fun (s : State) (n : Nat) =>
    let rs := (List.range 64).map (fun j => toI32 (s.rd (0x2200 + j) 0x01))
    let hot := s.rd 0x22A0 0x01 = 1 ∧ twiceMedian rs < 2 * (rs.getD n 0 - (s.rd 0x22A0 0x02 * 1000 : Nat))
    let entry := slotNos.find? (fun e => s.mig e 0x01 = n && s.activePlane n = s.mig e 0x02)
    decide ((n < 64) ∧ (hot) ∧ (entry = none))) (at_ [(0x22A0, 1, 1), (0x22A0, 2, 15), (0x2200 + 63, 1, 90000)]) 63 =
        true ∧
    (fun (s : State) (n : Nat) (c : Nat) =>
    let rs := (List.range 64).map (fun j => toI32 (s.rd (0x2200 + j) 0x01))
    let hot := s.rd 0x22A0 0x01 = 1 ∧ twiceMedian rs < 2 * (rs.getD n 0 - (s.rd 0x22A0 0x02 * 1000 : Nat))
    let entry := slotNos.find? (fun e => s.mig e 0x01 = n && s.activePlane n = s.mig e 0x02)
    decide ((n < 64) ∧ (hot) ∧ (entry = some c))) (at_ [(0x22A0, 1, 1), (0x22A0, 2, 15), (0x2200 + 63, 1, 90000),
        (0x4230 + 15, 1, 63), (0x4230 + 15, 2, 0), (0x4100 + 63, 0x11, 0)]) 63 15 = true ∧
    (fun (s : State) (n : Nat) =>
    let rs := (List.range 64).map (fun j => toI32 (s.rd (0x2200 + j) 0x01))
    let hot := s.rd 0x22A0 0x01 = 1 ∧ twiceMedian rs < 2 * (rs.getD n 0 - (s.rd 0x22A0 0x02 * 1000 : Nat))
    decide ((n < 64) ∧ (¬hot))) (at_ [(0x2280, 0x0A, 1)]) 0 = true ∧
    (fun (s : State) =>
    decide ((s.throttle = 0))) (at_ [(0x2280, 0x0A, 1)]) = true ∧
    (fun (s : State) =>
    decide ((s.showCauses.rd 0x2290 0x02 ≠ 0))) (at_ [(0x2290, 2, 8)]) = true ∧
    (fun (s : State) =>
    decide ((s.rdBit 0x2290 0x02 3 = true))) (at_ [(0x2290, 2, 8)]) = true := by
  refine ⟨?_, ?_, ?_, ?_, ?_, ?_, ?_, ?_, ?_, ?_, ?_, ?_, ?_, ?_, ?_, ?_, ?_, ?_, ?_⟩ <;> decide +kernel

/-- States and operands that meet the hypotheses of each clause of Resets. -/
theorem witness_Resets :
    (fun (s : State) (power : Bool) (idx : Nat) (sub : Nat) =>
    decide ((s.startup.tripped = false) ∧ (sub < 256) ∧ (recordKey (ent idx sub) = false) ∧ ((idx ≠ 0x4300 ∨ sub ≠
        0x07)) ∧ ((idx ≠ 0x2430 ∨ sub ≠ 0x01)) ∧ ((power = true ∨ idx ≠ 0x4003 ∧ idx ≠ 0x4301)))) up true 0x4002 1 =
        true ∧
    (fun (idx : Nat) (sub : Nat) =>
    decide ((sub < 256) ∧ (recordKey (ent idx sub) = true))) 0x2400 1 = true ∧
    (fun (s : State) =>
    decide ((s.keepCopy = none))) up = true ∧
    (fun (s : State) (kc : KeepCopy) =>
    decide ((s.keepCopy = some kc))) ({ up with keepCopy := some {} }) ({}) = true ∧
    (fun (s : State) (power : Bool) =>
    decide ((power = false) ∧ (Sparse.wf dfltKey s.dict))) up false = true ∧
    (fun (s : State) =>
    let u := s.keepReset
    decide ((u.collector.logPending = []))) up = true ∧
    (fun (power : Bool) =>
    decide ((power = true))) true = true ∧
    (fun (s : State) =>
    decide ((s.startup.released = false))) State.reset = true ∧
    (fun (s : State) (r : Requester) =>
    let up := s.startup.released = true
    decide ((s.mayWrite r 0x1100 0x01 1 = true) ∧ (up))) up (.mailbox 0) = true ∧
    (fun (s : State) (r : Requester) =>
    let sound := ∀ x ∈ s.load.pairs, x.1 < 64 ∧ x.2 < 8
    decide ((s.mayWrite r 0x1100 0x01 2 = true) ∧ (s.startup.warm = false) ∧ (s.startStep = 0xFF) ∧ (sound))) (at_
        [(0x1100, 4, 0xFF)]) (.mailbox 0) = true ∧
    (fun (s : State) (r : Requester) =>
    let up := s.startup.released = true
    decide ((s.mayWrite r 0x1100 0x01 2 = true) ∧ (up) ∧ ((s.startup.warm = true ∨ s.startStep ≠ 0xFF)))) up (.mailbox
        0) = true ∧
    (fun (s : State) (width : Nat) =>
    let up := s.startup.released = true
    decide ((up) ∧ (10000 ≤ width) ∧ (s.startup.tamperWait = true)))
        ({ up with startup := { released := true, tamperWait := true } }) 10000 = true ∧
    (fun (s : State) (width : Nat) =>
    let up := s.startup.released = true
    decide (((width < 10000 ∨ ¬up)))) up 0 = true ∧
    (fun (s : State) (rail : Nat) (low : Nat) =>
    let up := s.startup.released = true
    decide ((up) ∧ (rail < 9) ∧ (10000 < low))) up 8 10001 = true ∧
    (fun (s : State) (rail : Nat) (low : Nat) =>
    let up := s.startup.released = true
    decide ((rail < 17) ∧ ((¬up ∨ 9 ≤ rail ∨ low ≤ 10000)))) up 0 0 = true ∧
    (fun (s : State) =>
    let up := s.startup.released = true
    decide ((up) ∧ (s.startup.firmware = true))) up = true ∧
    (fun (s : State) =>
    decide ((s.startup.firmware = false))) State.reset = true ∧
    (fun (s : State) (c : StartConds) =>
    let cold := (s.fresh.takeReadings c.readings).tooCold
    decide ((s.startup.coldWait = true) ∧ (cold = true)))
        (({ up with startup := { released := true, coldWait := true }, dict := [((0x2200 + 127) * 256 + 6, 0xFFFFFFFF)] }))
        ({ readings := [(127, -40001)] }) = true ∧
    (fun (s : State) (c : StartConds) =>
    let cold := (s.fresh.takeReadings c.readings).tooCold
    decide ((s.startup.coldWait = true) ∧ (cold = false)))
        ({ up with startup := { released := true, coldWait := true } }) ({}) = true ∧
    (fun (s : State) =>
    decide ((s.startup.coldWait = false))) up = true ∧
    (fun (kind : Nat) =>
    decide ((1 ≤ kind) ∧ (kind ≤ 4))) 1 = true ∧
    (fun (s : State) =>
    decide ((s.startup.tamperWait = false))) up = true := by
  refine ⟨?_, ?_, ?_, ?_, ?_, ?_, ?_, ?_, ?_, ?_, ?_, ?_, ?_, ?_, ?_, ?_, ?_, ?_, ?_, ?_, ?_, ?_⟩ <;> decide +kernel

/-- States and operands that meet the hypotheses of each clause of StartUp. -/
theorem witness_StartUp :
    (fun (c : StartConds) =>
    decide ((c.pufOk = false))) ({ pufOk := false }) = true ∧
    (fun (c : StartConds) =>
    decide ((c.selfTestOk = false))) ({ selfTestOk := false }) = true ∧
    (fun (s : State) =>
    decide ((2 ≤ s.bootSel))) (at_ [(0x1100, 6, 0x200)]) = true ∧
    (fun (s : State) (c : StartConds) =>
    let at7 := s.wr 0x1100 0x04 7
    let x := at7.activeSlot 2
    let stored := s.bootSel = 0 ∧ (at7.imageSt 2 x = imActive ∨ at7.imageSt 2 x = imTrial)
    let res := (at7.readImage 2 x).startResult 2 x (c.imageFails.contains 3)
    decide ((stored) ∧ (res ≠ 1)))
        ({ at_ [(0x2512, 2, 3), (0x2400, 5, 0x010000)] with security := { images := [(4, {})] } }) ({}) = true ∧
    (fun (s : State) =>
    let at7 := s.wr 0x1100 0x04 7
    let x := at7.activeSlot 2
    let stored := s.bootSel = 0 ∧ (at7.imageSt 2 x = imActive ∨ at7.imageSt 2 x = imTrial)
    decide ((s.bootSel = 0) ∧ (¬stored))) up = true ∧
    (fun (s : State) (c : StartConds) =>
    decide ((s.bootSel = 1) ∧ (c.imageFails.contains 3 = true))) (at_ [(0x1100, 6, 256)]) ({ imageFails := [3] }) =
        true ∧
    (fun (s : State) (c : StartConds) (u : State) =>
    let at7 := s.wr 0x1100 0x04 7
    let x := at7.activeSlot 2
    let stored := s.bootSel = 0 ∧ (at7.imageSt 2 x = imActive ∨ at7.imageSt 2 x = imTrial)
    let res := (at7.readImage 2 x).startResult 2 x (c.imageFails.contains 3)
    let flash := s.bootSel = 1 ∧ c.imageFails.contains 3 = false
    let good (u : State) := (stored ∧ res = 1 ∧ u = (at7.readImage 2 x).wr 0x2512 0x08 1) ∨ (flash ∧ u = at7)
    decide ((good u) ∧ (u.selectedBundle = none)))
        ({ at_ [(0x2512, 2, 3)] with security := { images := [(4, { svn := 64, bundle := none })] } }) ({})
        (((({ at_ [(0x2512, 2, 3)] with security := { images := [(4, { svn := 64, bundle := none })] } } : State).wr
        0x1100 0x04 7).wr 0x2512 0x08 1)) = true ∧
    (fun (s : State) (c : StartConds) (b : Bundle) (u : State) =>
    let at7 := s.wr 0x1100 0x04 7
    let x := at7.activeSlot 2
    let stored := s.bootSel = 0 ∧ (at7.imageSt 2 x = imActive ∨ at7.imageSt 2 x = imTrial)
    let res := (at7.readImage 2 x).startResult 2 x (c.imageFails.contains 3)
    let flash := s.bootSel = 1 ∧ c.imageFails.contains 3 = false
    let good (u : State) := (stored ∧ res = 1 ∧ u = (at7.readImage 2 x).wr 0x2512 0x08 1) ∨ (flash ∧ u = at7)
    decide ((good u) ∧ (u.selectedBundle = some b) ∧ ((u.loadStreams s.bootSel b.streams).1 = false)))
        ({ at_ [(0x2512, 2, 3)] with security := { images := [(4, { svn := 64, bundle := some { legal with streams := [[0]] } })] } })
        ({}) ({ legal with streams := [[0]] })
        (((({ at_ [(0x2512, 2, 3)] with security := { images := [(4, { svn := 64, bundle := some { legal with streams := [[0]] } })] } }
        : State).wr 0x1100 0x04 7).wr 0x2512 0x08 1)) = true ∧
    (fun (s : State) (c : StartConds) (b : Bundle) (u : State) =>
    let at7 := s.wr 0x1100 0x04 7
    let x := at7.activeSlot 2
    let stored := s.bootSel = 0 ∧ (at7.imageSt 2 x = imActive ∨ at7.imageSt 2 x = imTrial)
    let res := (at7.readImage 2 x).startResult 2 x (c.imageFails.contains 3)
    let flash := s.bootSel = 1 ∧ c.imageFails.contains 3 = false
    let good (u : State) := (stored ∧ res = 1 ∧ u = (at7.readImage 2 x).wr 0x2512 0x08 1) ∨ (flash ∧ u = at7)
    decide ((good u) ∧ (u.selectedBundle = some b) ∧ ((u.loadStreams s.bootSel b.streams).1 = true) ∧ (programsOk b =
        false)))
        ({ at_ [(0x2512, 2, 3)] with security := { images := [(4, { svn := 64, bundle := some { legal with programs := [{}] } })] } })
        ({}) ({ legal with programs := [{}] })
        (((({ at_ [(0x2512, 2, 3)] with security := { images := [(4, { svn := 64, bundle := some { legal with programs := [{}] } })] } }
        : State).wr 0x1100 0x04 7).wr 0x2512 0x08 1)) = true ∧
    (fun (s : State) (c : StartConds) (b : Bundle) (u : State) =>
    let at7 := s.wr 0x1100 0x04 7
    let x := at7.activeSlot 2
    let stored := s.bootSel = 0 ∧ (at7.imageSt 2 x = imActive ∨ at7.imageSt 2 x = imTrial)
    let res := (at7.readImage 2 x).startResult 2 x (c.imageFails.contains 3)
    let flash := s.bootSel = 1 ∧ c.imageFails.contains 3 = false
    let good (u : State) := (stored ∧ res = 1 ∧ u = (at7.readImage 2 x).wr 0x2512 0x08 1) ∨ (flash ∧ u = at7)
    decide ((good u) ∧ (u.selectedBundle = some b) ∧ ((u.loadStreams s.bootSel b.streams).1 = true) ∧ (programsOk b =
        true))) ({ at_ [(0x2512, 2, 3)] with security := { images := [(4, { svn := 64, bundle := some legal })] } })
        ({}) legal
        (((({ at_ [(0x2512, 2, 3)] with security := { images := [(4, { svn := 64, bundle := some legal })] } } :
        State).wr 0x1100 0x04 7).wr 0x2512 0x08 1)) = true ∧
    (fun (s : State) =>
    decide ((s.startStep = 9))) (at_ [(0x1100, 4, 9)]) = true ∧
    (fun (s : State) =>
    decide ((s.startStep ≠ 9))) up = true ∧
    (fun (s : State) (b : Bundle) (measured : Nat) =>
    let ready := s.engineSt < 2 ∧ s.startup.warm = false ∧ s.rd 0x2280 0x0A ≠ 1 ∧
           (s.startStep = 8 ∨ s.startStep = 0xFF) ∧ s.tracking s.source = true
    let mine := s.startup.loaded = some b
    let legal := bundleLegal b = true
    let near := rateMismatch b.fx measured = false
    decide ((ready) ∧ (mine) ∧ (legal) ∧ (near) ∧ (s.tablesRefused b = false) ∧ (programsOk b = true)))
        ({ at_ [(0x1100, 4, 0xFF), (0x4000, 0, 0), (0x3300, 2, 3), (0x2280, 0x0A, 0)] with startup := { released := true, firmware := true, loaded := some legal } })
        legal 20000000 = true ∧
    (fun (s : State) (b : Bundle) =>
    let ready := s.engineSt < 2 ∧ s.startup.warm = false ∧ s.rd 0x2280 0x0A ≠ 1 ∧
           (s.startStep = 8 ∨ s.startStep = 0xFF) ∧ s.tracking s.source = true
    let mine := s.startup.loaded = some b
    decide ((ready) ∧ (mine) ∧ (bundleLegal b = false)))
        ({ at_ [(0x1100, 4, 8), (0x4000, 0, 0), (0x3300, 2, 3), (0x2280, 0x0A, 0)] with startup := { released := true, firmware := true, loaded := some {} } })
        ({}) = true ∧
    (fun (s : State) (b : Bundle) (measured : Nat) =>
    let ready := s.engineSt < 2 ∧ s.startup.warm = false ∧ s.rd 0x2280 0x0A ≠ 1 ∧
           (s.startStep = 8 ∨ s.startStep = 0xFF) ∧ s.tracking s.source = true
    let mine := s.startup.loaded = some b
    let legal := bundleLegal b = true
    decide ((ready) ∧ (mine) ∧ (legal) ∧ (rateMismatch b.fx measured = true)))
        ({ at_ [(0x1100, 4, 0xFF), (0x4000, 0, 0), (0x3300, 2, 3), (0x2280, 0x0A, 0)] with startup := { released := true, firmware := true, loaded := some legal } })
        legal 20002001 = true ∧
    (fun (s : State) (b : Bundle) (measured : Nat) =>
    let ready := s.engineSt < 2 ∧ s.startup.warm = false ∧ s.rd 0x2280 0x0A ≠ 1 ∧
           (s.startStep = 8 ∨ s.startStep = 0xFF) ∧ s.tracking s.source = true
    let mine := s.startup.loaded = some b
    let legal := bundleLegal b = true
    let near := rateMismatch b.fx measured = false
    decide ((ready) ∧ (mine) ∧ (legal) ∧ (near) ∧ (s.tablesRefused b = true)))
        ({ at_ [(0x1100, 4, 0xFF), (0x4000, 0, 1), (0x3300, 2, 3), (0x2280, 0x0A, 0)] with bundle := some { legal with routes := [{ node := 0, dest := 63, primary := 0xFFFFFF00 }] }, startup := { released := true, firmware := true, loaded := some legal } })
        legal 20000000 = true ∧
    (fun (s : State) (b : Bundle) (measured : Nat) =>
    let ready := s.engineSt < 2 ∧ s.startup.warm = false ∧ s.rd 0x2280 0x0A ≠ 1 ∧
           (s.startStep = 8 ∨ s.startStep = 0xFF) ∧ s.tracking s.source = true
    let mine := s.startup.loaded = some b
    let legal := bundleLegal b = true
    let near := rateMismatch b.fx measured = false
    decide ((ready) ∧ (mine) ∧ (legal) ∧ (near) ∧ (s.tablesRefused b = false) ∧ (programsOk b = false)))
        ({ at_ [(0x1100, 4, 0xFF), (0x4000, 0, 1), (0x3300, 2, 3), (0x2280, 0x0A, 0)] with startup := { released := true, firmware := true, loaded := some { legal with programs := [{ magic := 0 }] } } })
        ({ legal with programs := [{ magic := 0 }] }) 20000000 = true ∧
    (fun (s : State) =>
    let ready := s.engineSt < 2 ∧ s.startup.warm = false ∧ s.rd 0x2280 0x0A ≠ 1 ∧
           (s.startStep = 8 ∨ s.startStep = 0xFF) ∧ s.tracking s.source = true
    decide (((s.startup.loaded = none ∨ ¬ready)))) up = true ∧
    (fun (s : State) =>
    decide ((s.startup.warm = true)))
        ({ at_ [(0x4100 + 63, 0x10, rResetting), (0x1101, 2, 64)] with startup := { released := true, firmware := true, warm := true, cause := 8 }, bundle := some legal })
        = true ∧
    (fun (s : State) =>
    decide ((s.startup.warm = false))) up = true ∧
    (fun (k : Nat) =>
    decide ((k < 8))) 0 = true := by
  refine ⟨?_, ?_, ?_, ?_, ?_, ?_, ?_, ?_, ?_, ?_, ?_, ?_, ?_, ?_, ?_, ?_, ?_, ?_, ?_, ?_, ?_⟩ <;> decide +kernel

/-- States and operands that meet the hypotheses of each clause of LaneStates. -/
theorem witness_LaneStates :
    (fun (s : State) (l : Nat) (g : Nat) (p : Nat) =>
    decide ((l < 512) ∧ (g < 64) ∧ (p < 8) ∧ (s.mayReceive l = true) ∧ ((s.dom 1).lost = false) ∧ ((s.laneSt l = 0 ∨
        s.laneSt l = 6)))) ({ at_ [(0x3000 + 63, 7, 2 ^ 63), (0x3100 + 511, 1, 6)] with bundle := some legal }) 511 63
        7 = true ∧
    (fun (s : State) (l : Nat) (g : Nat) (p : Nat) =>
    decide ((l < 512) ∧ (g < 64) ∧ (p < 8) ∧ ((s.mayReceive l = false ∨ (s.dom 1).lost = true ∨ (s.laneSt l ≠ 0 ∧
        s.laneSt l ≠ 6))))) ({ at_ [(0x3000 + 63, 7, 2 ^ 63)] with lanes := [(511, { trained := true })] }) 511 0 0 =
        true ∧
    (fun (s : State) (l : Nat) (g : Nat) (p : Nat) =>
    decide ((l < 512) ∧ (g < 64) ∧ (p < 8) ∧ (s.laneSt l ≠ 0) ∧ (s.laneSt l ≠ 6))) (at_ [(0x3100 + 511, 1, 4)]) 511 0
        0 = true ∧
    (fun (s : State) (l : Nat) (g : Nat) (p : Nat) =>
    decide ((l < 512) ∧ (g < 64) ∧ (p < 8) ∧ (s.laneSt l = 1))) (at_ [(0x3100 + 511, 1, 1)]) 511 0 0 = true ∧
    (fun (s : State) (l : Nat) (g : Nat) (p : Nat) =>
    decide ((l < 512) ∧ (g < 64) ∧ (p < 8) ∧ (s.laneSt l ≠ 1)))
        ({ at_ [(0x3000 + 63, 7, 2 ^ 63), (0x3100 + 511, 1, 6)] with bundle := some legal }) 511 63 7 = true ∧
    (fun (s : State) (l : Nat) (g : Nat) (p : Nat) (raw : Word64) (header : BitVec 2) =>
    let line := s.rxPolarity l header raw
    let rx := decodeBlock (s.lane l).toCodeRec line.1 line.2
    decide ((l < 512) ∧ (g < 64) ∧ (p < 8) ∧ (s.laneSt l = 2) ∧ (s.looped l = false) ∧ (rx.2 ≠ .headerError) ∧
        (headersLock rx.1 = true)))
        ({ at_ [(0x3100 + 511, 1, 2)] with lanes := [(511, { hdrs := List.replicate 63 true })] }) 511 63 7 0 0b01 =
        true ∧
    (fun (s : State) (l : Nat) (g : Nat) (p : Nat) =>
    decide ((l < 512) ∧ (g < 64) ∧ (p < 8) ∧ (s.laneSt l ≠ 2)))
        ({ at_ [(0x3000 + 63, 7, 2 ^ 63), (0x3100 + 511, 1, 6)] with bundle := some legal }) 511 63 7 = true ∧
    (fun (s : State) (l : Nat) (g : Nat) (p : Nat) =>
    decide ((l < 512) ∧ (g < 64) ∧ (p < 8) ∧ (s.seesBlocks l = true))) (at_ [(0x3100 + 511, 1, 4)]) 511 0 0 = true ∧
    (fun (s : State) (l : Nat) (g : Nat) (p : Nat) =>
    decide ((l < 512) ∧ (g < 64) ∧ (p < 8) ∧ (s.seesBlocks l = false)))
        ({ at_ [(0x3000 + 63, 7, 2 ^ 63), (0x3100 + 511, 1, 6)] with bundle := some legal }) 511 63 7 = true ∧
    (fun (s : State) (r : Requester) (l : Nat) (g : Nat) (p : Nat) (mask : BitVec 8) =>
    decide ((l < 512) ∧ (g < 64) ∧ (p < 8) ∧ (s.mayWrite r (0x3000 + g) 0x13 mask.toNat = true)))
        ({ at_ [(0x3000 + 63, 7, 2 ^ 63), (0x3100 + 511, 1, 6)] with bundle := some legal }) (.mailbox 0) 511 63 7 0 =
        true ∧
    (fun (s : State) (r : Requester) (l : Nat) (g : Nat) (p : Nat) (w : Word64) =>
    decide ((l < 512) ∧ (g < 64) ∧ (p < 8) ∧ (s.mayWrite r (0x3000 + l / 8) (l % 8) w.toNat = true) ∧ (s.laneWordOk l
        w.toNat = true) ∧ (s.engineSt ≤ 1) ∧ ((w.getLsbD 58 = true → s.engineSt = 0)) ∧ ((s.bundle = none ∨
        (s.scheduleFits l w.toNat && s.transmitFits l w.toNat) = true))))
        ({ at_ [(0x4000, 0, 1)] with bundle := some legal }) (.mailbox 0) 511 0 0 (BitVec.ofNat 64 (2 ^ 63 + 2 ^ 61 +
        10312500 * 2 ^ 25 + 10312500)) = true ∧
    (fun (s : State) (r : Requester) (l : Nat) (g : Nat) (p : Nat) (w : Word64) =>
    decide ((l < 512) ∧ (g < 64) ∧ (p < 8) ∧ (s.mayWrite r (0x3000 + l / 8) (l % 8) w.toNat = true) ∧ (s.laneWordOk l
        w.toNat = true) ∧ (2 ≤ s.engineSt))) (at_ [(0x4000, 0, 2)]) (.mailbox 0) 511 63 7 (BitVec.ofNat 64 (2 ^ 63 + 2
        ^ 61 + 10312500 * 2 ^ 25 + 10312500)) = true ∧
    (fun (s : State) (r : Requester) (l : Nat) (g : Nat) (p : Nat) =>
    decide ((l < 512) ∧ (g < 64) ∧ (p < 8) ∧ (s.mayWrite r (0x3100 + l) 0x16 1 = true)))
        ({ at_ [(0x3000 + 63, 7, 2 ^ 63), (0x3100 + 511, 1, 6)] with bundle := some legal }) (.mailbox 0) 511 63 7 =
        true := by
  refine ⟨?_, ?_, ?_, ?_, ?_, ?_, ?_, ?_, ?_, ?_, ?_, ?_, ?_⟩ <;> decide +kernel

/-- States and operands that meet the hypotheses of each clause of LaneBlocks. -/
theorem witness_LaneBlocks :
    (fun (x : CodeRec) (header : BitVec 2) (raw : Word64) =>
    let clear := header = 0b10 ∧ ctlType raw = 0x4B ∧ chkOk (ctlBody raw) = true ∧
           (∀ k, x.sinceAm = some k → (k + 1) % 16384 = 0)
    decide ((clear))) ({ sinceAm := some 16383 }) 0b10 (markerBlock 0x4B (511 * 2 ^ 39 + 1)) = true ∧
    (fun (x : CodeRec) (header : BitVec 2) (raw : Word64) =>
    let clear := header = 0b10 ∧ ctlType raw = 0x4B ∧ chkOk (ctlBody raw) = true ∧
           (∀ k, x.sinceAm = some k → (k + 1) % 16384 = 0)
    decide ((¬clear) ∧ (header = 0b01))) ({}) 0b01 1 = true ∧
    (fun (x : CodeRec) (header : BitVec 2) (raw : Word64) =>
    let clear := header = 0b10 ∧ ctlType raw = 0x4B ∧ chkOk (ctlBody raw) = true ∧
           (∀ k, x.sinceAm = some k → (k + 1) % 16384 = 0)
    decide ((¬clear) ∧ (header = 0b10))) ({ sinceAm := some 5 }) 0b10 (markerBlock 0x4B 1) = true ∧
    (fun (x : CodeRec) (header : BitVec 2) (raw : Word64) =>
    let clear := header = 0b10 ∧ ctlType raw = 0x4B ∧ chkOk (ctlBody raw) = true ∧
           (∀ k, x.sinceAm = some k → (k + 1) % 16384 = 0)
    decide ((¬clear) ∧ (header = 0b00 ∨ header = 0b11))) ({}) 0 0 = true ∧
    (fun (s : State) (l : Nat) (c : Nat) (n : Nat) (nb : Nat) (raw : Word64) (p : Word64) (header : BitVec 2) =>
    let x := s.lane l
    let rx := fun h => decodeBlock x.toCodeRec (s.rxPolarity l h raw).1 (s.rxPolarity l h raw).2
    let takes := x.cur = some (c, n, nb) ∧ s.laneSt l = 4 ∧ (nb = 1023 ∨ n < nb) ∧
           n < (s.laneSchedule l).steps.length ∧ s.slotPast l c = false
    decide ((l < 512) ∧ (s.seesBlocks l = true) ∧ (s.looped l = false) ∧ ((rx header).2 = .data p) ∧ (takes)))
        ({ at_ [(0x3100 + 511, 1, 4)] with lanes := [(511, { cur := some (7, 0, 1) })], bundle := some { legal with lanes := [{ lane := 511, steps := [0, 1] }] } })
        511 7 0 1 (onLine (0x0123456789ABCDEF)) 0x0123456789ABCDEF 0b01 = true ∧
    (fun (s : State) (l : Nat) (c : Nat) (n : Nat) (nb : Nat) (raw : Word64) (p : Word64) (header : BitVec 2) =>
    let x := s.lane l
    let rx := fun h => decodeBlock x.toCodeRec (s.rxPolarity l h raw).1 (s.rxPolarity l h raw).2
    decide ((l < 512) ∧ (s.seesBlocks l = true) ∧ (s.looped l = false) ∧ ((rx header).2 = .data p) ∧ (x.cur = some (c,
        n, nb)) ∧ (s.laneSt l = 4) ∧ (nb ≠ 1023) ∧ (nb ≤ n)))
        ({ at_ [(0x3100 + 511, 1, 4)] with lanes := [(511, { cur := some (7, 1, 1) })], bundle := some { legal with lanes := [{ lane := 511, steps := [0, 1] }] } })
        511 7 1 1 (onLine (0x0123456789ABCDEF)) 0x0123456789ABCDEF 0b01 = true ∧
    (fun (s : State) (l : Nat) (raw : Word64) (p : Word64) (header : BitVec 2) =>
    let x := s.lane l
    let rx := fun h => decodeBlock x.toCodeRec (s.rxPolarity l h raw).1 (s.rxPolarity l h raw).2
    decide ((l < 512) ∧ (s.seesBlocks l = true) ∧ (s.looped l = false) ∧ ((rx header).2 = .data p) ∧ (x.cur = none)))
        ({ at_ [(0x3100 + 511, 1, 4)] with lanes := [(511, { })] }) 511 (onLine (0x0123456789ABCDEF))
        0x0123456789ABCDEF 0b01 = true ∧
    (fun (s : State) (l : Nat) (raw : Word64) (header : BitVec 2) =>
    let x := s.lane l
    let rx := fun h => decodeBlock x.toCodeRec (s.rxPolarity l h raw).1 (s.rxPolarity l h raw).2
    decide ((l < 512) ∧ (s.seesBlocks l = true) ∧ (s.looped l = false) ∧ ((rx header).2 = .headerError) ∧ (headersLost
        (rx header).1 = false)))
        ({ at_ [(0x3100 + 511, 1, 4)] with lanes := [(511, { cur := some (7, 0, 1) })], bundle := some { legal with lanes := [{ lane := 511, steps := [0, 1] }] } })
        511 0 0 = true ∧
    (fun (s : State) (l : Nat) (raw : Word64) (header : BitVec 2) =>
    let x := s.lane l
    let rx := fun h => decodeBlock x.toCodeRec (s.rxPolarity l h raw).1 (s.rxPolarity l h raw).2
    decide ((l < 512) ∧ (s.seesBlocks l = true) ∧ (s.looped l = false) ∧ ((rx header).2 = .headerError) ∧ (headersLost
        (rx header).1 = true)))
        ({ at_ [(0x3100 + 511, 1, 4)] with lanes := [(511, { hdrs := List.replicate 15 false })] }) 511 0 0b00 = true ∧
    (fun (s : State) (l : Nat) (raw : Word64) (p : Word64) =>
    let x := s.lane l
    let rx := fun h => decodeBlock x.toCodeRec (s.rxPolarity l h raw).1 (s.rxPolarity l h raw).2
    let ctl := (rx 0b10).2
    let b := ctlBody p
    let xc := bodyField b 55 40
    let inTime := (s.namedCrossing xc).2 ≤ (s.laneSchedule l).offset ∧ x.refC.all (fun q => serialLater 16 q xc) = true
    decide ((l < 512) ∧ (s.seesBlocks l = true) ∧ (s.looped l = false) ∧ (ctl = .control p) ∧ (ctlType p = 0x33) ∧
        (chkOk b = true) ∧ (s.laneSt l = 4) ∧ (x.mismatch = false) ∧ (inTime)))
        ({ at_ [(0x3100 + 511, 1, 4), (0x4002, 1, 5)] with lanes := [(511, { refC := some 4 })] }) 511 (onLine
        (markerBlock 0x33 (5 * 2 ^ 32 + 1023 * 2 ^ 22))) (markerBlock 0x33 (5 * 2 ^ 32 + 1023 * 2 ^ 22)) = true ∧
    (fun (s : State) (l : Nat) (raw : Word64) (p : Word64) =>
    let x := s.lane l
    let rx := fun h => decodeBlock x.toCodeRec (s.rxPolarity l h raw).1 (s.rxPolarity l h raw).2
    let ctl := (rx 0b10).2
    let b := ctlBody p
    let xc := bodyField b 55 40
    let inTime := (s.namedCrossing xc).2 ≤ (s.laneSchedule l).offset ∧ x.refC.all (fun q => serialLater 16 q xc) = true
    decide ((l < 512) ∧ (s.seesBlocks l = true) ∧ (s.looped l = false) ∧ (ctl = .control p) ∧ (ctlType p = 0x33) ∧
        (chkOk b = true) ∧ (s.laneSt l = 3) ∧ (x.mismatch = false) ∧ (inTime) ∧ (s.admissible l = true)))
        ({ at_ [(0x3100 + 511, 1, 3), (0x3100 + 511, 8, 511), (0x3800 + 63, 0x17, 0), (0x4002, 1, 5)] with lanes := [(511, { matched := true })] })
        511 (onLine (markerBlock 0x33 (5 * 2 ^ 32 + 1023 * 2 ^ 22))) (markerBlock 0x33 (5 * 2 ^ 32 + 1023 * 2 ^ 22)) =
        true ∧
    (fun (s : State) (l : Nat) (raw : Word64) (p : Word64) =>
    let x := s.lane l
    let rx := fun h => decodeBlock x.toCodeRec (s.rxPolarity l h raw).1 (s.rxPolarity l h raw).2
    let ctl := (rx 0b10).2
    let b := ctlBody p
    decide ((l < 512) ∧ (s.seesBlocks l = true) ∧ (s.looped l = false) ∧ (ctl = .control p) ∧ (ctlType p = 0x33) ∧
        (chkOk b = true) ∧ ((s.laneSt l = 3 ∨ s.laneSt l = 4)) ∧ (x.mismatch = true)))
        ({ at_ [(0x3100 + 511, 1, 4)] with lanes := [(511, { mismatch := true })] }) 511 (onLine (markerBlock 0x33 (5
        * 2 ^ 32 + 1023 * 2 ^ 22))) (markerBlock 0x33 (5 * 2 ^ 32 + 1023 * 2 ^ 22)) = true ∧
    (fun (s : State) (l : Nat) (raw : Word64) (p : Word64) =>
    let x := s.lane l
    let rx := fun h => decodeBlock x.toCodeRec (s.rxPolarity l h raw).1 (s.rxPolarity l h raw).2
    let ctl := (rx 0b10).2
    let b := ctlBody p
    decide ((l < 512) ∧ (s.seesBlocks l = true) ∧ (s.looped l = false) ∧ (ctl = .control p) ∧ (ctlType p = 0x33) ∧
        (chkOk b = false))) ({ at_ [(0x3100 + 511, 1, 4)] with lanes := [(511, { })] }) 511 (onLine (markerBlock 0x33
        (5 * 2 ^ 32 + 1023 * 2 ^ 22) ^^^ 0x100)) (markerBlock 0x33 (5 * 2 ^ 32 + 1023 * 2 ^ 22) ^^^ 0x100) = true ∧
    (fun (s : State) (l : Nat) (raw : Word64) (body : BitVec 56) =>
    let x := s.lane l
    let rx := fun h => decodeBlock x.toCodeRec (s.rxPolarity l h raw).1 (s.rxPolarity l h raw).2
    let ctl := (rx 0b10).2
    decide ((l < 512) ∧ (s.seesBlocks l = true) ∧ (s.looped l = false) ∧ (ctl = .marker body)))
        ({ at_ [(0x3100 + 511, 1, 3)] with lanes := [(511, { })] }) 511 (markerBlock 0x4B (511 * 2 ^ 39 + 7 * 2 ^ 15 +
        3)) (ctlBody (markerBlock 0x4B (511 * 2 ^ 39 + 7 * 2 ^ 15 + 3))) = true ∧
    (fun (s : State) (l : Nat) (raw : Word64) (p : Word64) =>
    let x := s.lane l
    let rx := fun h => decodeBlock x.toCodeRec (s.rxPolarity l h raw).1 (s.rxPolarity l h raw).2
    let ctl := (rx 0b10).2
    let b := ctlBody p
    let frev := bodyField b 31 16
    let matching := bodyField b 55 32 = s.grp l (0x08 + l % 8) ∧ s.grp l 0x16 ≤ frev ∧ frev ≤ s.grp l 0x17
    decide ((l < 512) ∧ (s.seesBlocks l = true) ∧ (s.looped l = false) ∧ (ctl = .control p) ∧ (ctlType p = 0x55) ∧
        (chkOk b = true) ∧ (matching) ∧ (x.pendSi = true) ∧ (s.laneSt l ≠ 5)))
        ({ at_ [(0x3100 + 511, 1, 3), (0x3000 + 63, 0x0F, 7), (0x3000 + 63, 0x16, 2), (0x3000 + 63, 0x17, 2)] with lanes := [(511, { pendSi := true })] })
        511 (onLine (markerBlock 0x55 (7 * 2 ^ 24 + 2 * 2 ^ 8 + 1))) (markerBlock 0x55 (7 * 2 ^ 24 + 2 * 2 ^ 8 + 1)) =
        true ∧
    (fun (s : State) (l : Nat) (raw : Word64) (p : Word64) =>
    let x := s.lane l
    let rx := fun h => decodeBlock x.toCodeRec (s.rxPolarity l h raw).1 (s.rxPolarity l h raw).2
    let ctl := (rx 0b10).2
    let b := ctlBody p
    let frev := bodyField b 31 16
    let matching := bodyField b 55 32 = s.grp l (0x08 + l % 8) ∧ s.grp l 0x16 ≤ frev ∧ frev ≤ s.grp l 0x17
    decide ((l < 512) ∧ (s.seesBlocks l = true) ∧ (s.looped l = false) ∧ (ctl = .control p) ∧ (ctlType p = 0x55) ∧
        (chkOk b = true) ∧ (matching) ∧ (x.pendSi = true) ∧ (s.laneSt l = 5) ∧ (s.grp l 0x12 ≤ x.matches_ + 1) ∧
        ((s.rdBit (0x3000 + l / 8) 0x11 1 = true ∨ x.permit = true))))
        ({ at_ [(0x3100 + 511, 1, 5), (0x3000 + 63, 0x0F, 7), (0x3000 + 63, 0x16, 2), (0x3000 + 63, 0x17, 2), (0x3000 + 63, 0x12, 16)] with lanes := [(511, { pendSi := true, matches_ := 15, permit := true })] })
        511 (onLine (markerBlock 0x55 (7 * 2 ^ 24 + 2 * 2 ^ 8 + 1))) (markerBlock 0x55 (7 * 2 ^ 24 + 2 * 2 ^ 8 + 1)) =
        true ∧
    (fun (s : State) (l : Nat) (raw : Word64) (p : Word64) =>
    let x := s.lane l
    let rx := fun h => decodeBlock x.toCodeRec (s.rxPolarity l h raw).1 (s.rxPolarity l h raw).2
    let ctl := (rx 0b10).2
    let b := ctlBody p
    let frev := bodyField b 31 16
    let matching := bodyField b 55 32 = s.grp l (0x08 + l % 8) ∧ s.grp l 0x16 ≤ frev ∧ frev ≤ s.grp l 0x17
    decide ((l < 512) ∧ (s.seesBlocks l = true) ∧ (s.looped l = false) ∧ (ctl = .control p) ∧ (ctlType p = 0x55) ∧
        (chkOk b = true) ∧ (¬matching)))
        ({ at_ [(0x3100 + 511, 1, 3), (0x3000 + 63, 0x0F, 7), (0x3000 + 63, 0x16, 2), (0x3000 + 63, 0x17, 2)] with lanes := [(511, { pendSi := true })] })
        511 (onLine (markerBlock 0x55 (8 * 2 ^ 24))) (markerBlock 0x55 (8 * 2 ^ 24)) = true ∧
    (fun (s : State) (l : Nat) (raw : Word64) (p : Word64) =>
    let x := s.lane l
    let rx := fun h => decodeBlock x.toCodeRec (s.rxPolarity l h raw).1 (s.rxPolarity l h raw).2
    let ctl := (rx 0b10).2
    decide ((l < 512) ∧ (s.seesBlocks l = true) ∧ (s.looped l = false) ∧ (ctl = .control p) ∧ (ctlType p = 0x1E)))
        ({ at_ [(0x3100 + 511, 1, 4)] with lanes := [(511, { })] }) 511 (onLine (0x1E)) 0x1E = true ∧
    (fun (s : State) (l : Nat) (c : Nat) (n : Nat) (nb : Nat) (raw : Word64) (p : Word64) =>
    let x := s.lane l
    let rx := fun h => decodeBlock x.toCodeRec (s.rxPolarity l h raw).1 (s.rxPolarity l h raw).2
    let ctl := (rx 0b10).2
    let takes := x.cur = some (c, n, nb) ∧ s.laneSt l = 4 ∧ (nb = 1023 ∨ n < nb) ∧
           n < (s.laneSchedule l).steps.length ∧ s.slotPast l c = false
    decide ((l < 512) ∧ (s.seesBlocks l = true) ∧ (s.looped l = false) ∧ (ctl = .control p) ∧ (ctlType p = 0x66) ∧
        (takes)))
        ({ at_ [(0x3100 + 511, 1, 4)] with lanes := [(511, { cur := some (7, 0, 1) })], bundle := some { legal with lanes := [{ lane := 511, steps := [0, 1] }] } })
        511 7 0 1 (onLine (0xAB66)) 0xAB66 = true ∧
    (fun (s : State) (l : Nat) (c : Nat) (n : Nat) (nb : Nat) (raw : Word64) (p : Word64) =>
    let x := s.lane l
    let rx := fun h => decodeBlock x.toCodeRec (s.rxPolarity l h raw).1 (s.rxPolarity l h raw).2
    let ctl := (rx 0b10).2
    let b := ctlBody p
    let takes := x.cur = some (c, n, nb) ∧ s.laneSt l = 4 ∧ (nb = 1023 ∨ n < nb) ∧
           n < (s.laneSchedule l).steps.length ∧ s.slotPast l c = false
    decide ((l < 512) ∧ (s.seesBlocks l = true) ∧ (s.looped l = false) ∧ (ctl = .control p) ∧ (ctlType p = 0x78) ∧
        (chkOk b = true) ∧ (takes)))
        ({ at_ [(0x3100 + 511, 1, 4)] with lanes := [(511, { cur := some (7, 0, 1) })], bundle := some { legal with lanes := [{ lane := 511, steps := [0, 1] }] } })
        511 7 0 1 (onLine (markerBlock 0x78 (2 ^ 46))) (markerBlock 0x78 (2 ^ 46)) = true ∧
    (fun (s : State) (l : Nat) (raw : Word64) (p : Word64) =>
    let x := s.lane l
    let rx := fun h => decodeBlock x.toCodeRec (s.rxPolarity l h raw).1 (s.rxPolarity l h raw).2
    let ctl := (rx 0b10).2
    let b := ctlBody p
    decide ((l < 512) ∧ (s.seesBlocks l = true) ∧ (s.looped l = false) ∧ (ctl = .control p) ∧ (ctlType p = 0x78) ∧
        (chkOk b = false)))
        ({ at_ [(0x3100 + 511, 1, 4)] with lanes := [(511, { cur := some (7, 0, 1) })], bundle := some { legal with lanes := [{ lane := 511, steps := [0, 1] }] } })
        511 (onLine (markerBlock 0x78 (2 ^ 46) ^^^ 0x100)) (markerBlock 0x78 (2 ^ 46) ^^^ 0x100) = true ∧
    (fun (s : State) (l : Nat) (raw : Word64) (p : Word64) =>
    let x := s.lane l
    let rx := fun h => decodeBlock x.toCodeRec (s.rxPolarity l h raw).1 (s.rxPolarity l h raw).2
    let ctl := (rx 0b10).2
    decide ((l < 512) ∧ (s.seesBlocks l = true) ∧ (s.looped l = false) ∧ (ctl = .control p) ∧ ((∀ y ∈ ([0x1E, 0x33,
        0x55, 0x66, 0x78] : List Nat), ctlType p ≠ y))))
        ({ at_ [(0x3100 + 511, 1, 4)] with lanes := [(511, { cur := some (7, 0, 1) })], bundle := some { legal with lanes := [{ lane := 511, steps := [0, 1] }] } })
        511 (onLine (0x0123456789ABCDEF)) 0x0123456789ABCDEF = true ∧
    (fun (s : State) (l : Nat) =>
    decide ((l < 512) ∧ ((s.looped l = true ∨ (s.seesBlocks l = false ∧ s.laneSt l ≠ 2))))) up 0 = true := by
  refine ⟨?_, ?_, ?_, ?_, ?_, ?_, ?_, ?_, ?_, ?_, ?_, ?_, ?_, ?_, ?_, ?_, ?_, ?_, ?_, ?_, ?_, ?_, ?_⟩ <;>
      decide +kernel

/-- States and operands that meet the hypotheses of each clause of LaneTransmit. -/
theorem witness_LaneTransmit :
    (fun (s : State) (l : Nat) (type : Nat) (upper : Nat) =>
    decide ((l < 512) ∧ (type < 256) ∧ (upper < 2 ^ 48) ∧ (s.txSends l = true) ∧ (s.looped l = false))) (at_ [(0x3100
        + 511, 0x13, 1), (0x3000 + 63, 0x1F, 0xABCDEF)]) 511 0 0 = true ∧
    (fun (s : State) (l : Nat) (type : Nat) (upper : Nat) =>
    decide ((l < 512) ∧ (type < 256) ∧ (upper < 2 ^ 48) ∧ (s.txSends l = false))) up 511 255 (2 ^ 48 - 1) = true ∧
    (fun (s : State) (l : Nat) (type : Nat) (upper : Nat) =>
    let plain := s.looped l = false ∧ (∀ k, (s.txLane l).sent = some k → k < 16384)
    decide ((l < 512) ∧ (type < 256) ∧ (upper < 2 ^ 48) ∧ (s.txSends l = true) ∧ (s.isReleaseLane l = true) ∧
        (s.engineSt ≠ 0) ∧ ((s.grp l 0x14).testBit (l % 8) = false) ∧ (plain)))
        ({ at_ [(0x3100 + 511, 0x13, 1), (0x4000, 0, 1)] with bundle := some { legal with releaseLanes := [511] } })
        511 0 0 = true ∧
    (fun (s : State) (l : Nat) (type : Nat) (upper : Nat) =>
    decide ((l < 512) ∧ (type < 256) ∧ (upper < 2 ^ 48) ∧ (s.engineSt = 0))) (at_ [(0x3100 + 511, 0x13, 1), (0x3000 +
        63, 0x1F, 0xABCDEF)]) 511 0 0 = true := by
  refine ⟨?_, ?_, ?_, ?_⟩ <;> decide +kernel

/-- States and operands that meet the hypotheses of each clause of TimingInputs. -/
theorem witness_TimingInputs :
    (fun (s : State) (i : Nat) (w : Nat) =>
    decide ((i < 2) ∧ (w < 3) ∧ (s.timSt i = 0) ∧ (s.timRateOk = true) ∧ ((s.dom 1).lost = false))) up 1 0 = true ∧
    (fun (s : State) (i : Nat) (w : Nat) =>
    decide ((i < 2) ∧ (w < 3) ∧ ((s.timSt i ≠ 0 ∨ s.timRateOk = false ∨ (s.dom 1).lost = true)))) (at_ [(0x3300, 4,
        1)]) 1 0 = true ∧
    (fun (s : State) (i : Nat) (w : Nat) =>
    decide ((i < 2) ∧ (w < 3) ∧ (s.timSt i = 1))) (at_ [(0x3300, 4, 1)]) 1 0 = true ∧
    (fun (s : State) (i : Nat) (w : Nat) (q : Nat) (header : BitVec 2) (raw : Word64) (p : Word64) =>
    let x := s.tim i
    let k := s.rd 0x3300 0x08
    let rx := decodeBlock x.toCodeRec header raw
    let b := ctlBody p
    let kept := headersLost rx.1 = false
    let marker := rx.2 = .control p ∧ ctlType p = 0x33 ∧ x.pos = some q
    let good := marker ∧ chkOk b = true ∧ k ≤ q + 1 ∧ bodyField b 55 8 = (x.lastXn + 1) % 2 ^ 48
    decide ((i < 2) ∧ (w < 3) ∧ (2 ≤ s.timSt i) ∧ (x.bad < 2) ∧ (kept) ∧ (rx.2 = .control p) ∧ (ctlType p = 0x33) ∧
        (chkOk b = true) ∧ (x.pos = none) ∧ (x.good < 1024)))
        ({ at_ [(0x3300, 4, 2), (0x3300, 8, 4)] with timing := [(1, { good := 1023 })] }) 1 2 0 0b10 (onLine
        (markerBlock 0x33 9)) (markerBlock 0x33 9) = true ∧
    (fun (s : State) (i : Nat) (w : Nat) (q : Nat) (header : BitVec 2) (raw : Word64) (p : Word64) =>
    let x := s.tim i
    let k := s.rd 0x3300 0x08
    let rx := decodeBlock x.toCodeRec header raw
    let b := ctlBody p
    let kept := headersLost rx.1 = false
    let marker := rx.2 = .control p ∧ ctlType p = 0x33 ∧ x.pos = some q
    let good := marker ∧ chkOk b = true ∧ k ≤ q + 1 ∧ bodyField b 55 8 = (x.lastXn + 1) % 2 ^ 48
    decide ((i < 2) ∧ (w < 3) ∧ (s.timSt i = 2) ∧ (kept) ∧ (good)))
        ({ at_ [(0x3300, 4, 2), (0x3300, 8, 4)] with timing := [(1, { good := 1023, lastXn := 8, pos := some 3 })] })
        1 2 3 0b10 (onLine (markerBlock 0x33 9)) (markerBlock 0x33 9) = true ∧
    (fun (s : State) (i : Nat) (w : Nat) (q : Nat) (header : BitVec 2) (raw : Word64) (p : Word64) =>
    let x := s.tim i
    let k := s.rd 0x3300 0x08
    let rx := decodeBlock x.toCodeRec header raw
    let b := ctlBody p
    let kept := headersLost rx.1 = false
    let marker := rx.2 = .control p ∧ ctlType p = 0x33 ∧ x.pos = some q
    let good := marker ∧ chkOk b = true ∧ k ≤ q + 1 ∧ bodyField b 55 8 = (x.lastXn + 1) % 2 ^ 48
    decide ((i < 2) ∧ (w < 3) ∧ (s.timSt i = 3) ∧ (kept) ∧ (good)))
        ({ at_ [(0x3300, 4, 3), (0x3300, 8, 4)] with timing := [(1, { lastXn := 8, pos := some 3, bad := 1 })] }) 1 2
        3 0b10 (onLine (markerBlock 0x33 9)) (markerBlock 0x33 9) = true ∧
    (fun (s : State) (i : Nat) (w : Nat) (q : Nat) (header : BitVec 2) (raw : Word64) (p : Word64) =>
    let x := s.tim i
    let k := s.rd 0x3300 0x08
    let rx := decodeBlock x.toCodeRec header raw
    let b := ctlBody p
    let marker := rx.2 = .control p ∧ ctlType p = 0x33 ∧ x.pos = some q
    let good := marker ∧ chkOk b = true ∧ k ≤ q + 1 ∧ bodyField b 55 8 = (x.lastXn + 1) % 2 ^ 48
    decide ((i < 2) ∧ (w < 3) ∧ ((s.timSt i = 2 ∨ s.timSt i = 3)) ∧ (marker) ∧ (¬good) ∧ (1 ≤ x.bad)))
        ({ at_ [(0x3300, 4, 3), (0x3300, 8, 4)] with timing := [(1, { lastXn := 9, pos := some 3, bad := 1 })] }) 1 2
        3 0b10 (onLine (markerBlock 0x33 9)) (markerBlock 0x33 9) = true ∧
    (fun (s : State) (i : Nat) (w : Nat) (q : Nat) (header : BitVec 2) (raw : Word64) (p : Word64) =>
    let x := s.tim i
    let k := s.rd 0x3300 0x08
    let rx := decodeBlock x.toCodeRec header raw
    let b := ctlBody p
    let kept := headersLost rx.1 = false
    let marker := rx.2 = .control p ∧ ctlType p = 0x33 ∧ x.pos = some q
    let good := marker ∧ chkOk b = true ∧ k ≤ q + 1 ∧ bodyField b 55 8 = (x.lastXn + 1) % 2 ^ 48
    decide ((i < 2) ∧ (w < 3) ∧ ((s.timSt i = 2 ∨ s.timSt i = 3)) ∧ (marker) ∧ (¬good) ∧ (x.bad = 0) ∧ (kept)))
        ({ at_ [(0x3300, 4, 3), (0x3300, 8, 4)] with timing := [(1, { lastXn := 8, pos := some 2 })] }) 1 2 2 0b10
        (onLine (markerBlock 0x33 9)) (markerBlock 0x33 9) = true ∧
    (fun (s : State) (i : Nat) (w : Nat) (q : Nat) (header : BitVec 2) (raw : Word64) =>
    let x := s.tim i
    let k := s.rd 0x3300 0x08
    let rx := decodeBlock x.toCodeRec header raw
    (i < 2) ∧ (w < 3) ∧ ((s.timSt i = 2 ∨ s.timSt i = 3)) ∧ (x.pos = some q) ∧ (k ≤ q + 1) ∧ ((∀ y, rx.2 = .control y
        → ctlType y ≠ 0x33)) ∧ (1 ≤ x.bad))
        ({ at_ [(0x3300, 4, 3), (0x3300, 8, 4)] with timing := [(1, { lastXn := 8, pos := some 3, bad := 1 })] }) 1 2
        3 0b01 0 ∧
    (fun (s : State) (i : Nat) (w : Nat) (header : BitVec 2) (raw : Word64) =>
    let x := s.tim i
    let rx := decodeBlock x.toCodeRec header raw
    decide ((i < 2) ∧ (w < 3) ∧ ((s.timSt i = 2 ∨ s.timSt i = 3)) ∧ (headersLost rx.1 = true)))
        ({ at_ [(0x3300, 4, 3), (0x3300, 8, 4)] with timing := [(1, { hdrs := List.replicate 15 false })] }) 1 2 0b00
        0 = true ∧
    (fun (s : State) (r : Requester) (i : Nat) (v : Nat) (w : Nat) =>
    decide ((i < 2) ∧ (w < 3) ∧ (s.mayWrite r 0x3300 0x01 v = true) ∧ (v ≤ 5))) up (.mailbox 0) 1 0 0 = true ∧
    (fun (s : State) (i : Nat) (w : Nat) =>
    decide ((i < 2) ∧ (w < 3) ∧ (s.sourceDue = none))) up 1 0 = true ∧
    (fun (s : State) (i : Nat) (w : Nat) =>
    decide ((i < 2) ∧ (w < 3) ∧ (s.sourceDue = some 3))) ({ up with sourceDue := some 3 }) 1 0 = true ∧
    (fun (s : State) (i : Nat) (w : Nat) =>
    let next := if w = 2 then s.xn / 2 ^ 16 * 2 ^ 16 + (s.tim 2).lastXn % 2 ^ 16 else (s.tim w).lastXn
    let due := (s.tim w).edgePs + (if w < 2 then (s.rd 0x3300 (0x05 + w) : Int) + toI32 (s.rd 0x8000 0x07) else 0)
    let near := next % 2 ^ 48 = s.xn ∧ -200 ≤ due ∧ due ≤ 200
    decide ((i < 2) ∧ (w < 3) ∧ (s.sourceDue = some w) ∧ (s.inRun = true) ∧ (near)))
        ({ at_ [(0x3300, 4, 3), (0x4000, 0, 3), (0x4002, 1, 6)] with sourceDue := some 1, timing := [(1, { lastXn := 6, edgePs := -200 })] })
        0 1 = true ∧
    (fun (s : State) (i : Nat) (w : Nat) =>
    let next := if w = 2 then s.xn / 2 ^ 16 * 2 ^ 16 + (s.tim 2).lastXn % 2 ^ 16 else (s.tim w).lastXn
    let due := (s.tim w).edgePs + (if w < 2 then (s.rd 0x3300 (0x05 + w) : Int) + toI32 (s.rd 0x8000 0x07) else 0)
    let near := next % 2 ^ 48 = s.xn ∧ -200 ≤ due ∧ due ≤ 200
    decide ((i < 2) ∧ (w < 3) ∧ (s.sourceDue = some w) ∧ (s.inRun = true) ∧ (¬near)))
        ({ at_ [(0x3300, 4, 3), (0x4000, 0, 3), (0x4002, 1, 6)] with sourceDue := some 1, timing := [(1, { lastXn := 6, edgePs := 201 })] })
        0 1 = true ∧
    (fun (s : State) (i : Nat) (w : Nat) =>
    decide ((i < 2) ∧ (w < 3) ∧ (s.sourceDue = some w) ∧ (s.inRun = false)))
        ({ at_ [(0x3300, 4, 3), (0x4000, 0, 1), (0x4002, 1, 6)] with sourceDue := some 1, timing := [(1, { lastXn := 9, edgePs := 201 })] })
        0 1 = true ∧
    (fun (s : State) (i : Nat) (w : Nat) (q : Nat) (header : BitVec 2) (raw : Word64) (p : Word64) =>
    let x := s.tim i
    let k := s.rd 0x3300 0x08
    let rx := decodeBlock x.toCodeRec header raw
    let b := ctlBody p
    let kept := headersLost rx.1 = false
    let marker := rx.2 = .control p ∧ ctlType p = 0x33 ∧ x.pos = some q
    let good := marker ∧ chkOk b = true ∧ k ≤ q + 1 ∧ bodyField b 55 8 = (x.lastXn + 1) % 2 ^ 48
    decide ((i < 2) ∧ (w < 3) ∧ (2 ≤ s.timSt i) ∧ (x.bad < 2) ∧ (x.good < 1024) ∧ (kept) ∧ (rx.2 = .control p) ∧
        (ctlType p = 0x66) ∧ ((∀ y, x.pos = some y → y + 1 < k))))
        ({ at_ [(0x3300, 4, 3), (0x3300, 8, 4)] with timing := [(1, { lastXn := 8, pos := some 1 })] }) 1 2 1 0b10
        (onLine (0xAB66)) 0xAB66 = true := by
  refine ⟨?_, ?_, ?_, ?_, ?_, ?_, ?_, ?_, ⟨by decide +kernel, by decide +kernel, by decide +kernel, by decide +kernel,
      by decide +kernel,
      by intro y h; have e : (decodeBlock (({ at_ [(0x3300, 4, 3), (0x3300, 8, 4)] with timing := [(1, { lastXn := 8, pos := some 3, bad := 1 })] } : State).tim 1).toCodeRec 0b01 0).2 = .data 0 := (by decide +kernel); exact absurd (e.symm.trans h) (by simp),
      by decide +kernel⟩, ?_, ?_, ?_, ?_, ?_, ?_, ?_, ?_⟩ <;> decide +kernel

/-- States and operands that meet the hypotheses of each clause of LookbackStore. -/
theorem witness_LookbackStore :
    (fun (s : State) (st : Nat) (c : Nat) (k : Nat) =>
    let e := s.slotEntry st
    let lines := s.slotLines e c
    let ready := s.bundle.isSome = true ∧ s.lbif = none ∧ s.stored st c = true ∧ s.slotReady st c = true
    decide ((st < 577) ∧ (k < 8) ∧ (ready) ∧ ((∀ a ∈ lines, a < 2 ^ 32))))
        ({ at_ [(0x5824, 65, 2 ^ 63 + 7 * 2 ^ 60 + 2 ^ 40), (0x5802, 8, 160), (0x5800, 2, 1000), (0x5801, 8, 2), (0x4002, 1, 4)] with bundle := some legal })
        576 3 7 = true ∧
    (fun (s : State) (st : Nat) (c : Nat) (k : Nat) =>
    let ready := s.bundle.isSome = true ∧ s.lbif = none ∧ s.stored st c = true ∧ s.slotReady st c = true
    decide ((st < 577) ∧ (k < 8) ∧ (¬ready)))
        ({ at_ [(0x5824, 65, 2 ^ 63 + 7 * 2 ^ 60 + 2 ^ 40), (0x5801, 8, 2), (0x5802, 8, 160), (0x5800, 2, 1000)] with bundle := some legal })
        576 3 7 = true ∧
    (fun (s : State) (st : Nat) (c : Nat) (k : Nat) =>
    let late := s.stored st c = true ∧ s.slotClosed st c = true ∧ s.slotHolds st c ≠ c + 1
    decide ((st < 577) ∧ (k < 8) ∧ (late)))
        ({ at_ [(0x5824, 65, 2 ^ 63 + 7 * 2 ^ 60 + 2 ^ 40), (0x5802, 8, 160), (0x5800, 2, 1000), (0x5801, 8, 2), (0x4002, 1, 4)] with bundle := some legal })
        576 3 7 = true ∧
    (fun (s : State) (st : Nat) (c : Nat) (k : Nat) =>
    let late := s.stored st c = true ∧ s.slotClosed st c = true ∧ s.slotHolds st c ≠ c + 1
    decide ((st < 577) ∧ (k < 8) ∧ (¬late)))
        ({ at_ [(0x5824, 65, 2 ^ 63 + 7 * 2 ^ 60 + 2 ^ 40), (0x5801, 8, 2), (0x5802, 8, 160), (0x5800, 2, 1000)] with bundle := some legal })
        576 3 7 = true ∧
    (fun (s : State) (st : Nat) (k : Nat) =>
    decide ((st < 577) ∧ (k < 8) ∧ (s.storeCool = true) ∧ (s.rdBit 0x5800 0x06 2 = false)))
        ({ at_ [(0x5824, 65, 2 ^ 63 + 7 * 2 ^ 60 + 2 ^ 40), (0x5802, 8, 160), (0x5800, 2, 1000), (0x5801, 8, 2), (0x4002, 1, 4)] with bundle := some legal })
        576 7 = true ∧
    (fun (s : State) (st : Nat) (k : Nat) =>
    decide ((st < 577) ∧ (k < 8) ∧ ((s.storeCool = false ∨ s.rdBit 0x5800 0x06 2 = true)))) (at_ [(0x2290, 1, 1)]) 0 7
        = true ∧
    (fun (s : State) (st : Nat) (k : Nat) =>
    let window := fun t : State => Sparse.get (fun _ => 0) t.nextWindow k
    decide ((st < 577) ∧ (k < 8) ∧ (window s ≠ 0) ∧ (s.rd 0x2280 0x0A ≠ 1))) ({ up with nextWindow := [(7, 5)] }) 0 7
        = true ∧
    (fun (s : State) (st : Nat) (k : Nat) =>
    let window := fun t : State => Sparse.get (fun _ => 0) t.nextWindow k
    decide ((st < 577) ∧ (k < 8) ∧ ((window s = 0 ∨ s.rd 0x2280 0x0A = 1))))
        ({ at_ [(0x5824, 65, 2 ^ 63 + 7 * 2 ^ 60 + 2 ^ 40), (0x5802, 8, 160), (0x5800, 2, 1000), (0x5801, 8, 2), (0x4002, 1, 4)] with bundle := some legal })
        576 7 = true ∧
    (fun (s : State) (st : Nat) (k : Nat) =>
    decide ((st < 577) ∧ (k < 8) ∧ (s.lbif.isSome = true))) ({ up with lbif := some {} }) 576 7 = true ∧
    (fun (s : State) (st : Nat) (k : Nat) =>
    let pos := Sparse.get (fun _ => 0) s.scrubPos k
    decide ((st < 577) ∧ (k < 8) ∧ (s.lbif = none) ∧ (s.lineDue k pos = true)))
        ({ at_ [(0x5824, 65, 2 ^ 63 + 7 * 2 ^ 60 + 2 ^ 40), (0x5802, 8, 160), (0x5800, 2, 1000), (0x5801, 8, 2)] with slotC := [(576 * 2 ^ 32, 1)] })
        576 7 = true ∧
    (fun (s : State) (st : Nat) (k : Nat) =>
    let pos := Sparse.get (fun _ => 0) s.scrubPos k
    let x := classifyLine pos (s.line k pos)
    decide ((st < 577) ∧ (k < 8) ∧ (s.lbif = none) ∧ (s.lineDue k pos = false) ∧ (x.1 = lnClean)))
        ({ at_ [(0x5824, 65, 2 ^ 63 + 7 * 2 ^ 60 + 2 ^ 40), (0x5802, 8, 160), (0x5800, 2, 1000), (0x5801, 8, 2)] with lines := [(lineKey 7 0, some (encodeLine 0 (List.replicate 64 0xA5)))] })
        576 7 = true ∧
    (fun (s : State) (st : Nat) (k : Nat) =>
    let pos := Sparse.get (fun _ => 0) s.scrubPos k
    let x := classifyLine pos (s.line k pos)
    decide ((st < 577) ∧ (k < 8) ∧ (s.lbif = none) ∧ (s.lineDue k pos = false) ∧ (x.1 = lnCorrected)))
        ({ at_ [(0x5824, 65, 2 ^ 63 + 7 * 2 ^ 60 + 2 ^ 40), (0x5802, 8, 160), (0x5800, 2, 1000), (0x5801, 8, 2)] with lines := [(lineKey 7 0, some (encodeLine 0 (List.replicate 64 0xA5) ^^^ 0xFF))] })
        576 7 = true ∧
    (fun (s : State) (st : Nat) (k : Nat) =>
    let pos := Sparse.get (fun _ => 0) s.scrubPos k
    let x := classifyLine pos (s.line k pos)
    decide ((st < 577) ∧ (k < 8) ∧ (s.lbif = none) ∧ (s.lineDue k pos = false) ∧ ((x.1 = lnUncorrectable ∨ x.1 =
        lnAddressFault))))
        ({ at_ [(0x5824, 65, 2 ^ 63 + 7 * 2 ^ 60 + 2 ^ 40), (0x5802, 8, 160), (0x5800, 2, 1000), (0x5801, 8, 2)] with lines := [(lineKey 7 0, some (encodeLine 1 (List.replicate 64 0xA5)))] })
        576 7 = true ∧
    (fun (s : State) (r : Requester) (st : Nat) (k : Nat) (v : BitVec 64) =>
    let j := v.toNat / 2 ^ 48 % 128
    decide ((st < 577) ∧ (k < 8) ∧ (s.mayWrite r 0x5860 0x00 v.toNat = true) ∧ (v.toNat / 2 ^ 55 % 64 = 0) ∧ (v.toNat
        / 2 ^ 32 % 256 = 0) ∧ (j ≤ 71)))
        ({ at_ [(0x5824, 65, 2 ^ 63 + 7 * 2 ^ 60 + 2 ^ 40), (0x5802, 8, 160), (0x5800, 2, 1000), (0x5801, 8, 2), (0x4002, 1, 4)] with bundle := some legal })
        (.mailbox 0) 576 7 0 = true ∧
    (fun (s : State) (r : Requester) (st : Nat) (k : Nat) (v : BitVec 64) =>
    let j := v.toNat / 2 ^ 48 % 128
    decide ((st < 577) ∧ (k < 8) ∧ (s.mayWrite r 0x5860 0x00 v.toNat = true) ∧ ((v.toNat / 2 ^ 55 % 64 ≠ 0 ∨ v.toNat /
        2 ^ 32 % 256 ≠ 0 ∨ 71 < j)))) up (.mailbox 0) 576 7 (72#64 <<< 48) = true ∧
    (fun (s : State) (st : Nat) (k : Nat) =>
    decide ((st < 577) ∧ (k < 8) ∧ (s.rd 0x5801 (k + 1) ≠ 3)))
        ({ at_ [(0x5824, 65, 2 ^ 63 + 7 * 2 ^ 60 + 2 ^ 40), (0x5802, 8, 160), (0x5800, 2, 1000), (0x5801, 8, 2), (0x4002, 1, 4)] with bundle := some legal })
        576 7 = true ∧
    (fun (s : State) (st : Nat) (k : Nat) =>
    decide ((st < 577) ∧ (k < 8) ∧ (s.rd 0x5801 (k + 1) = 3))) (at_ [(0x5801, 8, 3)]) 576 7 = true ∧
    (fun (s : State) (r : Requester) (st : Nat) (k : Nat) (status : Nat) (slot : List Byte) =>
    let asked := s.fresh.retrieve (s.rd 0x5840 0x01) (s.rd 0x5840 0x02 % 2 ^ 48) (s.rd 0x5840 0x02 / 2 ^ 48 % 16)
    decide ((st < 577) ∧ (k < 8) ∧ (s.mayRead r true 0x5841 0x00 = true) ∧ (asked.1 = some (status, slot)))) (at_
        [(0x5840, 1, 577)]) (.mailbox 0) 576 7 9 ([]) = true ∧
    (fun (s : State) (r : Requester) (st : Nat) (k : Nat) =>
    let asked := s.fresh.retrieve (s.rd 0x5840 0x01) (s.rd 0x5840 0x02 % 2 ^ 48) (s.rd 0x5840 0x02 / 2 ^ 48 % 16)
    decide ((st < 577) ∧ (k < 8) ∧ (s.mayRead r true 0x5841 0x00 = true) ∧ (asked.1 = none))) (at_ [(0x5824, 65, 2 ^
        63 + 7 * 2 ^ 60 + 2 ^ 40), (0x5802, 8, 160), (0x5800, 2, 1000), (0x5801, 8, 2), (0x5840, 1, 576), (0x5840, 2,
        64)]) (.mailbox 0) 576 7 = true := by
  refine ⟨?_, ?_, ?_, ?_, ?_, ?_, ?_, ?_, ?_, ?_, ?_, ?_, ?_, ?_, ?_, ?_, ?_, ?_, ?_⟩ <;> decide +kernel

/-- States and operands that meet the hypotheses of each clause of LineCode. -/
theorem witness_LineCode :
    (fun (la : Nat) (i : Nat) (j : Nat) (mask : Nat) (data : List Byte) =>
    decide ((la < 2 ^ 32) ∧ (data.length = 64) ∧ (j < 72) ∧ (0 < mask) ∧ (mask < 256) ∧ (i < 32))) (2 ^ 32 - 1) 0 71
        255 (List.replicate 64 0xA5) = true := by
  decide +kernel

/-- States and operands that meet the hypotheses of each clause of LookbackRetrievals. -/
theorem witness_LookbackRetrievals :
    (fun (s : State) (st : Nat) (xn : Nat) =>
    let c := s.resolve xn
    let now : Int := s.crossing
    decide (((577 ≤ st ∨ now + 64 < c)))) up 577 0 = true ∧
    (fun (s : State) (st : Nat) (xn : Nat) (era : Nat) =>
    let c := s.resolve xn
    let now : Int := s.crossing
    let inside := st < 577 ∧ c ≤ now + 64 ∧ 0 ≤ c ∧ c / 2 ^ 48 % 16 = ((era % 16 : Nat) : Int) ∧
          now - c < (s.depth : Int) ∧ (s.activationC : Int) ≤ c
    decide ((st < 577) ∧ (c ≤ now + 64) ∧ (¬inside))) (at_ [(0x5800, 2, 1000)]) 576 0 1 = true ∧
    (fun (s : State) (st : Nat) (xn : Nat) (era : Nat) =>
    let c := s.resolve xn
    let now : Int := s.crossing
    let e := s.slotEntry st
    let inside := st < 577 ∧ c ≤ now + 64 ∧ 0 ≤ c ∧ c / 2 ^ 48 % 16 = ((era % 16 : Nat) : Int) ∧
          now - c < (s.depth : Int) ∧ (s.activationC : Int) ≤ c
    decide ((inside) ∧ (seEn e = false))) (at_ [(0x5800, 2, 1000), (0x4002, 1, 64)]) 576 60 0 = true ∧
    (fun (s : State) (st : Nat) (xn : Nat) (era : Nat) =>
    let c := s.resolve xn
    let now : Int := s.crossing
    let e := s.slotEntry st
    let inside := st < 577 ∧ c ≤ now + 64 ∧ 0 ≤ c ∧ c / 2 ^ 48 % 16 = ((era % 16 : Nat) : Int) ∧
          now - c < (s.depth : Int) ∧ (s.activationC : Int) ≤ c
    decide ((inside) ∧ (seEn e = true) ∧ (s.lbif.isSome = true)))
        ({ at_ [(0x5824, 65, 2 ^ 63 + 7 * 2 ^ 60 + 2 ^ 40), (0x5802, 8, 160), (0x5800, 2, 1000), (0x5801, 8, 2), (0x4002, 1, 64)] with lbif := some {} })
        576 60 0 = true ∧
    (fun (s : State) (st : Nat) (xn : Nat) (era : Nat) =>
    let c := s.resolve xn
    let n := c.toNat
    let now : Int := s.crossing
    let e := s.slotEntry st
    let inside := st < 577 ∧ c ≤ now + 64 ∧ 0 ≤ c ∧ c / 2 ^ 48 % 16 = ((era % 16 : Nat) : Int) ∧
          now - c < (s.depth : Int) ∧ (s.activationC : Int) ≤ c
    decide ((inside) ∧ (seEn e = true) ∧ (s.lbif = none) ∧ (s.skipKnown st n = true)))
        ({ at_ [(0x5824, 65, 2 ^ 63 + 7 * 2 ^ 60 + 2 ^ 40), (0x5802, 8, 160), (0x5800, 2, 1000), (0x5801, 8, 2), (0x4002, 1, 64)] with skips := [(7, [{ first := 60, last := some 60, classes := 1 }])] })
        576 60 0 = true ∧
    (fun (s : State) (st : Nat) (xn : Nat) (era : Nat) =>
    let c := s.resolve xn
    let n := c.toNat
    let now : Int := s.crossing
    let e := s.slotEntry st
    let inside := st < 577 ∧ c ≤ now + 64 ∧ 0 ≤ c ∧ c / 2 ^ 48 % 16 = ((era % 16 : Nat) : Int) ∧
          now - c < (s.depth : Int) ∧ (s.activationC : Int) ≤ c
    let open_ := inside ∧ seEn e = true ∧ s.lbif = none ∧ s.skipKnown st n = false
    decide ((open_) ∧ (n + 1 < s.slotHolds st n)))
        ({ at_ [(0x5824, 65, 2 ^ 63 + 7 * 2 ^ 60 + 2 ^ 40), (0x5802, 8, 160), (0x5800, 2, 1000), (0x5801, 8, 2), (0x4002, 1, 64)] with slotC := [(576 * 2 ^ 32 + 60, 1061)] })
        576 60 0 = true ∧
    (fun (s : State) (st : Nat) (xn : Nat) (era : Nat) =>
    let c := s.resolve xn
    let n := c.toNat
    let now : Int := s.crossing
    let e := s.slotEntry st
    let inside := st < 577 ∧ c ≤ now + 64 ∧ 0 ≤ c ∧ c / 2 ^ 48 % 16 = ((era % 16 : Nat) : Int) ∧
          now - c < (s.depth : Int) ∧ (s.activationC : Int) ≤ c
    let open_ := inside ∧ seEn e = true ∧ s.lbif = none ∧ s.skipKnown st n = false
    decide ((open_) ∧ (s.slotHolds st n ≤ n) ∧ (s.slotClosed st n = true) ∧ (s.stored st n = false))) (at_ [(0x5824,
        65, 2 ^ 63 + 7 * 2 ^ 60 + 2 ^ 40), (0x5802, 8, 160), (0x5800, 2, 1000), (0x4002, 1, 64)]) 576 60 0 = true ∧
    (fun (s : State) (st : Nat) (xn : Nat) (era : Nat) =>
    let c := s.resolve xn
    let n := c.toNat
    let now : Int := s.crossing
    let e := s.slotEntry st
    let inside := st < 577 ∧ c ≤ now + 64 ∧ 0 ≤ c ∧ c / 2 ^ 48 % 16 = ((era % 16 : Nat) : Int) ∧
          now - c < (s.depth : Int) ∧ (s.activationC : Int) ≤ c
    let open_ := inside ∧ seEn e = true ∧ s.lbif = none ∧ s.skipKnown st n = false
    decide ((open_) ∧ (s.slotHolds st n ≤ n) ∧ ((s.slotClosed st n = false ∨ s.stored st n = true)))) (at_ [(0x5824,
        65, 2 ^ 63 + 7 * 2 ^ 60 + 2 ^ 40), (0x5801, 8, 2), (0x5802, 8, 160), (0x5800, 2, 1000)]) 576 64 0 = true ∧
    (fun (s : State) (st : Nat) (xn : Nat) (era : Nat) =>
    let c := s.resolve xn
    let n := c.toNat
    let now : Int := s.crossing
    let e := s.slotEntry st
    let inside := st < 577 ∧ c ≤ now + 64 ∧ 0 ≤ c ∧ c / 2 ^ 48 % 16 = ((era % 16 : Nat) : Int) ∧
          now - c < (s.depth : Int) ∧ (s.activationC : Int) ≤ c
    let open_ := inside ∧ seEn e = true ∧ s.lbif = none ∧ s.skipKnown st n = false
    decide ((open_) ∧ (s.slotHolds st n = n + 1) ∧ (s.stored st n = false)))
        ({ at_ [(0x5824, 65, 2 ^ 63 + 7 * 2 ^ 60 + 2 ^ 40), (0x5802, 8, 160), (0x5800, 2, 1000), (0x4002, 1, 64)] with slotC := [(576 * 2 ^ 32 + 60, 61)] })
        576 60 0 = true ∧
    (fun (s : State) (st : Nat) (xn : Nat) (era : Nat) =>
    let c := s.resolve xn
    let n := c.toNat
    let now : Int := s.crossing
    let e := s.slotEntry st
    let inside := st < 577 ∧ c ≤ now + 64 ∧ 0 ≤ c ∧ c / 2 ^ 48 % 16 = ((era % 16 : Nat) : Int) ∧
          now - c < (s.depth : Int) ∧ (s.activationC : Int) ≤ c
    let open_ := inside ∧ seEn e = true ∧ s.lbif = none ∧ s.skipKnown st n = false
    decide ((open_) ∧ (s.slotHolds st n = n + 1) ∧ (s.stored st n = true)))
        ({ at_ [(0x5824, 65, 2 ^ 63 + 7 * 2 ^ 60 + 2 ^ 40), (0x5802, 8, 160), (0x5800, 2, 1000), (0x5801, 8, 2), (0x4002, 1, 64)] with slotC := [(576 * 2 ^ 32 + 60, 61)] })
        576 60 0 = true ∧
    (fun (s : State) (j : Nat) (st : Nat) (xn : Nat) (era : Nat) =>
    let c := s.resolve xn
    let now : Int := s.crossing
    let e := s.slotEntry st
    let inside := st < 577 ∧ c ≤ now + 64 ∧ 0 ≤ c ∧ c / 2 ^ 48 % 16 = ((era % 16 : Nat) : Int) ∧
          now - c < (s.depth : Int) ∧ (s.activationC : Int) ≤ c
    decide ((inside) ∧ (seEn e = true) ∧ (seStack e ≠ j)))
        ({ at_ [(0x5824, 65, 2 ^ 63 + 7 * 2 ^ 60 + 2 ^ 40), (0x5802, 8, 160), (0x5800, 2, 1000), (0x5801, 8, 2), (0x4002, 1, 64)] with lbif := some {} })
        0 576 60 0 = true := by
  refine ⟨?_, ?_, ?_, ?_, ?_, ?_, ?_, ?_, ?_, ?_, ?_⟩ <;> decide +kernel

/-- States and operands that meet the hypotheses of each clause of StackPorts. -/
theorem witness_StackPorts :
    (fun (s : State) (p : Nat) (blocks : List PortBlock) (w : Word64) =>
    let x := s.port p
    let opens := s.BringsControl p blocks w ∧ ctlType w = 0x33
    decide ((p < 8) ∧ (opens) ∧ (s.portSt p = 3) ∧ (x.mismatch = false) ∧ (x.identityOk = true) ∧ (x.frevOk = true) ∧
        (x.skewOk = true) ∧ (x.measured = true) ∧ (s.pt p 0x07 ≤ s.pt p 0x06)))
        ({ at_ [(0x3407, 2, 3), (0x3407, 6, 100), (0x3407, 7, 100)] with ports := [(7, { identityOk := true, frevOk := true, measured := true })] })
        7 (portRow [markerBlock 0x33 9]) (markerBlock 0x33 9) = true ∧
    (fun (s : State) (p : Nat) (blocks : List PortBlock) (w : Word64) =>
    let x := s.port p
    let opens := s.BringsControl p blocks w ∧ ctlType w = 0x33
    decide ((p < 8) ∧ (opens) ∧ ((s.portSt p = 3 ∨ s.portSt p = 4)) ∧ (x.mismatch = true)))
        ({ at_ [(0x3407, 2, 4)] with ports := [(7, { mismatch := true })] }) 7 (portRow [markerBlock 0x33 9])
        (markerBlock 0x33 9) = true ∧
    (fun (s : State) (p : Nat) (blocks : List PortBlock) (arrival : Int) (w : Word64) =>
    let x := s.port p
    let opens := s.BringsControl p blocks w ∧ ctlType w = 0x33
    decide ((p < 8) ∧ (opens) ∧ (s.portSt p = 4) ∧ (x.mismatch = false) ∧ (s.rd 0x8000 0x06 = p) ∧ (s.edgeLag p
        arrival = 0))) ({ at_ [(0x3407, 2, 4), (0x8000, 6, 7), (0x4001, 1, 20000000)] with ports := [(7, { })] }) 7
        (portRow [markerBlock 0x33 9]) 18000 (markerBlock 0x33 9) = true ∧
    (fun (s : State) (p : Nat) =>
    decide ((p < 8) ∧ ((s.portSt p < 2 ∨ s.portSt p = 6 ∨ s.portLooped p = true)))) up 7 = true ∧
    (fun (s : State) (p : Nat) (blocks : List PortBlock) (w : Word64) =>
    decide ((p < 8) ∧ (s.BringsControl p blocks w) ∧ (ctlType w = 0x78) ∧ (s.takesMsgs p = true)))
        ({ at_ [(0x3407, 2, 3)] with ports := [(7, { })] }) 7 (portRow [markerBlock 0x78 (2 ^ 46)]) (markerBlock 0x78
        (2 ^ 46)) = true ∧
    (fun (s : State) (p : Nat) (blocks : List PortBlock) (am : Nat → Word64) (si : Nat → Word64) =>
    let x := s.port p
    let row := rowDecode x.lanes blocks = (List.range 16).map (fun i => .marker (ctlBody (am i))) ++
          (List.range 16).map (fun i => .control (si i)) ∧ blocks.map (fun y => y.lane) = List.range 16 ++ List.range 16 ∧
          ∀ i : Nat, i < 16 → ctlType (si i) = 0x55 ∧ chkOk (ctlBody (si i)) = true
    decide ((p < 8) ∧ (s.portLooped p = false) ∧ ((s.portSt p = 3 ∨ s.portSt p = 4)) ∧ (row) ∧ (s.portMode p = 1)))
        ({ at_ [(0x3407, 2, 3), (0x3407, 1, 2 ^ 62)] with ports := [(7, { })] }) 7 ((List.range 16).map (fun i =>
        { lane := i, header := 0b10, raw := markerBlock 0x4B (i * 2 ^ 39) }) ++ portRow (List.replicate 16
        (markerBlock 0x55 7))) (fun i => markerBlock 0x4B (i * 2 ^ 39)) (fun _ => markerBlock 0x55 7) = true ∧
    (fun (s : State) (p : Nat) (blocks : List PortBlock) (head : Word64) (data : List Word64) =>
    let x := s.port p
    decide ((p < 8) ∧ (s.portLooped p = false) ∧ (s.portSt p = 4) ∧ (x.words = []) ∧ (x.wordsOff = false) ∧
        (data.length = s.pt p 0x09) ∧ (rowDecode x.lanes blocks = (head :: data).map .data)))
        ({ at_ [(0x3407, 2, 4), (0x3407, 9, 2)] with ports := [(7, { })] }) 7
        ([{ lane := 0, header := 0b01, raw := onLine 5 }, { lane := 1, header := 0b01, raw := onLine 6 },
        { lane := 2, header := 0b01, raw := onLine 7 }]) 5 ([6, 7]) = true ∧
    (fun (s : State) (p : Nat) (mseq : Nat) (arg : Nat) (blocks : List PortBlock) =>
    let x := s.port p
    decide ((p < 8) ∧ (s.Brings p blocks 0x06 mseq arg []) ∧ (s.takesMsgs p = true) ∧ (s.portMode p ≠ 0) ∧
        (s.flock.isSome = true) ∧ (x.msgs = []) ∧ (x.used < 16)))
        ({ at_ [(0x3407, 2, 3), (0x3407, 1, 2 ^ 62)] with ports := [(7, { })], bundle := some { legal with flock := some { member := 15, kind := 4, ports := [{ port := 7, mode := 1, upward := true }] } } })
        7 65535 9 (messageRow 6 65535 9 []) = true ∧
    (fun (s : State) (p : Nat) (mseq : Nat) (arg : Nat) (blocks : List PortBlock) =>
    decide ((p < 8) ∧ (s.Brings p blocks 0x07 mseq arg []) ∧ (s.takesMsgs p = true)))
        ({ at_ [(0x3407, 2, 3), (0x3407, 1, 2 ^ 62)] with ports := [(7, { })] }) 7 65535 9 (messageRow 7 65535 9 []) =
        true ∧
    (fun (s : State) (p : Nat) =>
    decide ((p < 8) ∧ (s.portSt p ≠ 4)))
        ({ at_ [(0x3407, 2, 3), (0x3407, 6, 100), (0x3407, 7, 100)] with ports := [(7, { identityOk := true, frevOk := true, measured := true })] })
        7 = true ∧
    (fun (s : State) (p : Nat) (mseq : Nat) (arg : Nat) (blocks : List PortBlock) (start : BitVec 48) (stop : BitVec
        48) (join : BitVec 48) =>
    let mayRun := s.Brings p blocks 0x04 mseq arg [start, stop, join] ∧ s.portMode p = 1 ∧ s.isUpward p = true ∧
          s.isBellwether = false ∧ s.takesMsgs p = true
    decide ((p < 8) ∧ (mayRun)))
        ({ at_ [(0x3407, 2, 4), (0x3407, 1, 2 ^ 62)] with ports := [(7, { })], bundle := some { legal with flock := some { member := 15, kind := 4, ports := [{ port := 7, mode := 1, upward := true }] } } })
        7 1 0 (messageRow 4 1 0 [0x400, 0, 0x1000]) 0x400 0 0x1000 = true ∧
    (fun (s : State) (p : Nat) (mseq : Nat) (arg : Nat) (blocks : List PortBlock) (start : BitVec 48) (stop : BitVec
        48) (join : BitVec 48) =>
    decide ((p < 8) ∧ (s.Brings p blocks 0x04 mseq arg [start, stop, join]) ∧ ((s.portMode p ≠ 1 ∨ s.isBellwether =
        true))))
        ({ at_ [(0x3407, 2, 4), (0x3407, 1, 2 ^ 63)] with ports := [(7, { })], bundle := some { legal with flock := some halfTable } })
        7 1 0 (messageRow 4 1 0 [0x400, 0, 0x1000]) 0x400 0 0x1000 = true ∧
    (fun (s : State) (p : Nat) (op : Nat) (mseq : Nat) (arg : Nat) (blocks : List PortBlock) (cont : List (BitVec 48))
        =>
    decide ((p < 8) ∧ (s.Brings p blocks op mseq arg cont) ∧ ((op = 0 ∨ 0x09 < op))))
        ({ at_ [(0x3407, 2, 4), (0x3407, 1, 2 ^ 62)] with ports := [(7, { })] }) 7 10 1 0 (messageRow 10 1 0 [5])
        ([5]) = true ∧
    (fun (s : State) (p : Nat) =>
    decide ((p < 8) ∧ (s.flock.isSome = true) ∧ (s.isBellwether = true) ∧ (s.engineSt ≠ 1)))
        ({ at_ [(0x4000, 0, 3)] with bundle := some { legal with flock := some { ports := [{ port := 7, mode := 1 }] } } })
        7 = true ∧
    (fun (s : State) (p : Nat) =>
    decide ((p < 8) ∧ ((s.flock = none ∨ s.isBellwether = false ∨ s.engineSt = 1))))
        ({ at_ [(0x3407, 2, 3), (0x3407, 6, 100), (0x3407, 7, 100)] with ports := [(7, { identityOk := true, frevOk := true, measured := true })] })
        7 = true ∧
    (fun (s : State) (r : Requester) (p : Nat) (word : Word64) =>
    decide ((p < 8) ∧ (s.mayWrite r (0x3400 + p) 0x01 word.toNat = true) ∧ (word.toNat / 2 ^ 62 ≠ 3) ∧ (word.toNat / 2
        ^ 25 % 2 ^ 36 = 0) ∧ (10312500 ≤ word.toNat % 2 ^ 25) ∧ (word.toNat % 2 ^ 25 ≤ 32000000) ∧ (s.engineSt ≤ 1) ∧
        ((word.getLsbD 61 = true → s.engineSt = 0)) ∧ (word.toNat / 2 ^ 62 = (s.portPlan p).elim 0 (fun y =>
        y.mode)))) ({ up with bundle := some { legal with flock := some halfTable } }) (.mailbox 0) 7 (BitVec.ofNat 64
        (2 ^ 63 + 2 ^ 61 + 10312500)) = true ∧
    (fun (s : State) (r : Requester) (p : Nat) =>
    decide ((p < 8) ∧ (s.mayWrite r (0x3400 + p) 0x11 1 = true)))
        ({ at_ [(0x3407, 2, 3), (0x3407, 6, 100), (0x3407, 7, 100)] with ports := [(7, { identityOk := true, frevOk := true, measured := true })] })
        (.mailbox 0) 7 = true := by
  refine ⟨?_, ?_, ?_, ?_, ?_, ?_, ?_, ?_, ?_, ?_, ?_, ?_, ?_, ?_, ?_, ?_, ?_⟩ <;> decide +kernel

/-- States and operands that meet the hypotheses of each clause of PairRoles. -/
theorem witness_PairRoles :
    (fun (s : State) (p : Nat) (q : Nat) (mseq : Nat) (arg : Nat) (blocks : List PortBlock) (cont : BitVec 48) =>
    let x := s.pair
    let theirs := cont.toNat / 2 ^ 8 % 256
    let digest := cont.toNat / 2 ^ 16
    let own := x.digests.lookup arg
    let beat := s.Brings p blocks 0x01 mseq arg [cont]
    let onTime := beat ∧ s.portMode p = 2 ∧ s.portSt p = 4 ∧ arg = ((s.port p).rxXn + 2 ^ 48 - 1) % 2 ^ 16
    decide ((p < 8) ∧ (q < 8) ∧ (onTime) ∧ (s.pairSt = 2) ∧ (theirs = 4) ∧ (x.acceptedAny = false) ∧ (15 ≤
        x.sameDigests) ∧ (own = some digest) ∧ (s.itemsDiffer = false)))
        ({ at_ [(0x3407, 1, 2 ^ 63), (0x3407, 2, 4), (0x8100, 1, 2)] with ports := [(7, { rxXn := 9 })], pair := { sameDigests := 15, digests := [(8, 0xABCD)] } })
        7 7 65535 8 (messageRow 1 65535 8 [0xABCD * 2 ^ 16 + 4 * 2 ^ 8]) (0xABCD * 2 ^ 16 + 4 * 2 ^ 8) = true ∧
    (fun (s : State) (p : Nat) (q : Nat) (mseq : Nat) (arg : Nat) (blocks : List PortBlock) (cont : BitVec 48) =>
    let x := s.pair
    let theirs := cont.toNat / 2 ^ 8 % 256
    let digest := cont.toNat / 2 ^ 16
    let own := x.digests.lookup arg
    let beat := s.Brings p blocks 0x01 mseq arg [cont]
    let onTime := beat ∧ s.portMode p = 2 ∧ s.portSt p = 4 ∧ arg = ((s.port p).rxXn + 2 ^ 48 - 1) % 2 ^ 16
    decide ((p < 8) ∧ (q < 8) ∧ (onTime) ∧ (s.pairSt = 3) ∧ (theirs = 4) ∧ (x.acceptedAny = false) ∧ (own.any (fun d
        => d ≠ digest) = true)))
        ({ at_ [(0x3407, 1, 2 ^ 63), (0x3407, 2, 4), (0x8100, 1, 3)] with ports := [(7, { rxXn := 9 })], pair := { digests := [(8, 0xABCE)] } })
        7 7 65535 8 (messageRow 1 65535 8 [0xABCD * 2 ^ 16 + 4 * 2 ^ 8]) (0xABCD * 2 ^ 16 + 4 * 2 ^ 8) = true ∧
    (fun (s : State) (p : Nat) (q : Nat) (mseq : Nat) (arg : Nat) (blocks : List PortBlock) (cont : BitVec 48) =>
    let beat := s.Brings p blocks 0x01 mseq arg [cont]
    let onTime := beat ∧ s.portMode p = 2 ∧ s.portSt p = 4 ∧ arg = ((s.port p).rxXn + 2 ^ 48 - 1) % 2 ^ 16
    decide ((p < 8) ∧ (q < 8) ∧ (onTime) ∧ (s.pairSt = 4)))
        ({ at_ [(0x3407, 1, 2 ^ 63), (0x3407, 2, 4), (0x8100, 1, 4)] with ports := [(7, { rxXn := 9 })], pair := { } })
        7 7 65535 8 (messageRow 1 65535 8 [0xABCD * 2 ^ 16 + 2 * 2 ^ 8]) (0xABCD * 2 ^ 16 + 2 * 2 ^ 8) = true ∧
    (fun (s : State) (p : Nat) (q : Nat) (mseq : Nat) (arg : Nat) (blocks : List PortBlock) (cont : BitVec 48) =>
    let theirs := cont.toNat / 2 ^ 8 % 256
    let beat := s.Brings p blocks 0x01 mseq arg [cont]
    let onTime := beat ∧ s.portMode p = 2 ∧ s.portSt p = 4 ∧ arg = ((s.port p).rxXn + 2 ^ 48 - 1) % 2 ^ 16
    decide ((p < 8) ∧ (q < 8) ∧ (onTime) ∧ (s.pairSt = 1) ∧ (theirs = 1) ∧ (s.rd 0x8100 0x02 = 0)))
        ({ at_ [(0x3407, 1, 2 ^ 63), (0x3407, 2, 4), (0x8100, 1, 1), (0x8100, 2, 0)] with ports := [(7, { rxXn := 9 })], pair := { } })
        7 7 65535 8 (messageRow 1 65535 8 [2 ^ 8]) (2 ^ 8) = true ∧
    (fun (s : State) (p : Nat) (q : Nat) (mseq : Nat) (arg : Nat) (blocks : List PortBlock) (cont : BitVec 48) =>
    let beat := s.Brings p blocks 0x01 mseq arg [cont]
    decide ((p < 8) ∧ (q < 8) ∧ (beat) ∧ ((s.portMode p ≠ 2 ∨ s.pairSt = 0))))
        ({ at_ [(0x3407, 1, 2 ^ 62), (0x3407, 2, 4), (0x8100, 1, 4)] with ports := [(7, { rxXn := 9 })], pair := { } })
        7 7 65535 8 (messageRow 1 65535 8 [0xABCD * 2 ^ 16 + 4 * 2 ^ 8]) (0xABCD * 2 ^ 16 + 4 * 2 ^ 8) = true ∧
    (fun (s : State) (p : Nat) (q : Nat) (mseq : Nat) (arg : Nat) (blocks : List PortBlock) (cont : BitVec 48) =>
    let beat := s.Brings p blocks 0x01 mseq arg [cont]
    decide ((p < 8) ∧ (q < 8) ∧ (beat) ∧ (s.portMode p = 2) ∧ (s.pairSt ≠ 0) ∧ ((s.portSt p ≠ 4 ∨ arg ≠ ((s.port
        p).rxXn + 2 ^ 48 - 1) % 2 ^ 16))))
        ({ at_ [(0x3407, 1, 2 ^ 63), (0x3407, 2, 4), (0x8100, 1, 3)] with ports := [(7, { rxXn := 9 })], pair := { } })
        7 7 65535 7 (messageRow 1 65535 7 [0xABCD * 2 ^ 16 + 4 * 2 ^ 8]) (0xABCD * 2 ^ 16 + 4 * 2 ^ 8) = true ∧
    (fun (s : State) (p : Nat) (q : Nat) (mseq : Nat) (code : Nat) (blocks : List PortBlock) (data : List (BitVec 48))
        =>
    let up := s.portMode p = 2 ∧ s.portSt p = 4
    let item := s.Brings p blocks 0x02 mseq code data ∧ itemBlocks code = some data.length ∧ up ∧ s.isMirror = true
    decide ((p < 8) ∧ (q < 8) ∧ (item) ∧ (s.inOrder mseq = true)))
        ({ at_ [(0x3407, 1, 2 ^ 63), (0x3407, 2, 4), (0x8100, 1, 2), (0x8100, 8, 4)] with ports := [(7, { rxXn := 9 })], pair := { acceptedAny := true } })
        7 7 5 0x101 (messageRow 2 5 0x101 [0x7]) ([0x7]) = true ∧
    (fun (s : State) (p : Nat) (q : Nat) (mseq : Nat) (code : Nat) (blocks : List PortBlock) (data : List (BitVec 48))
        =>
    let up := s.portMode p = 2 ∧ s.portSt p = 4
    let item := s.Brings p blocks 0x02 mseq code data ∧ itemBlocks code = some data.length ∧ up ∧ s.isMirror = true
    decide ((p < 8) ∧ (q < 8) ∧ (item) ∧ (s.inOrder mseq = false)))
        ({ at_ [(0x3407, 1, 2 ^ 63), (0x3407, 2, 4), (0x8100, 1, 2)] with ports := [(7, { rxXn := 9 })], pair := { } })
        7 7 5 0x101 (messageRow 2 5 0x101 [0x7]) ([0x7]) = true ∧
    (fun (s : State) (p : Nat) (q : Nat) (mseq : Nat) (code : Nat) (blocks : List PortBlock) (data : List (BitVec 48))
        =>
    decide ((p < 8) ∧ (q < 8) ∧ (s.Brings p blocks 0x02 mseq code data) ∧ (itemBlocks code ≠ some data.length)))
        ({ at_ [(0x3407, 1, 2 ^ 63), (0x3407, 2, 4), (0x8100, 1, 2)] with ports := [(7, { rxXn := 9 })], pair := { } })
        7 7 5 0x200 (messageRow 2 5 0x200 [0x7]) ([0x7]) = true ∧
    (fun (s : State) (p : Nat) (q : Nat) (mseq : Nat) (arg : Nat) (blocks : List PortBlock) (cont : BitVec 48) (c :
        Nat × Nat × Nat × Option Requester) =>
    let x := s.pair
    let up := s.portMode p = 2 ∧ s.portSt p = 4
    decide ((p < 8) ∧ (q < 8) ∧ (s.Brings p blocks 0x03 mseq arg [cont]) ∧ (up) ∧ (s.pairSt = 4) ∧ (x.confirm.find?
        (fun y => y.2.1 = arg) = some c) ∧ (c.1 < 16) ∧ (cont.toNat / 2 ^ 40 ≠ 0)))
        ({ at_ [(0x3407, 1, 2 ^ 63), (0x3407, 2, 4), (0x8100, 1, 4)] with ports := [(7, { rxXn := 9 })], pair := { confirm := [(15, 7, 0, some (.mailbox 0))] } })
        7 7 65535 7 (messageRow 3 65535 7 [5 * 2 ^ 40]) (5 * 2 ^ 40) ((15, 7, 0, some (.mailbox 0))) = true ∧
    (fun (s : State) (p : Nat) (q : Nat) (mseq : Nat) (arg : Nat) (blocks : List PortBlock) =>
    let up := s.portMode p = 2 ∧ s.portSt p = 4
    decide ((p < 8) ∧ (q < 8) ∧ (s.Brings p blocks 0x05 mseq arg []) ∧ (up) ∧ ((s.pairSt = 2 ∨ s.pairSt = 3))))
        ({ at_ [(0x3407, 1, 2 ^ 63), (0x3407, 2, 4), (0x8100, 1, 3)] with ports := [(7, { rxXn := 9 })], pair := { } })
        7 7 65535 0 (messageRow 5 65535 0 []) = true ∧
    (fun (s : State) (p : Nat) (q : Nat) (mseq : Nat) (arg : Nat) (blocks : List PortBlock) =>
    let up := s.portMode p = 2 ∧ s.portSt p = 4
    decide ((p < 8) ∧ (q < 8) ∧ (s.Brings p blocks 0x05 mseq arg []) ∧ (up) ∧ (s.pairSt = 1)))
        ({ at_ [(0x3407, 1, 2 ^ 63), (0x3407, 2, 4), (0x8100, 1, 1)] with ports := [(7, { rxXn := 9 })], pair := { } })
        7 7 65535 0 (messageRow 5 65535 0 []) = true ∧
    (fun (s : State) (p : Nat) (q : Nat) (mseq : Nat) (arg : Nat) (blocks : List PortBlock) =>
    let up := s.portMode p = 2 ∧ s.portSt p = 4
    decide ((p < 8) ∧ (q < 8) ∧ (s.Brings p blocks 0x08 mseq arg []) ∧ (up) ∧ (s.isMirror = true) ∧ (s.inOrder mseq =
        true) ∧ ((s.port p).role = 1) ∧ ((∀ e, (s.port p).epoch = some e → serialLater 16 e (s.rd 0x8100 0x04) =
        false)) ∧ (s.startup.warm = false) ∧ (s.startStep = 0xFF) ∧ ((∀ y ∈ s.load.pairs, y.1 < 64 ∧ y.2 < 8))))
        ({ at_ [(0x3407, 1, 2 ^ 63), (0x3407, 2, 4), (0x8100, 1, 3), (0x8100, 8, 4), (0x1100, 4, 0xFF), (0x8100, 4, 65535)] with ports := [(7, { rxXn := 9, role := 1, epoch := some 65535 })], pair := { acceptedAny := true } })
        7 7 5 0 (messageRow 8 5 0 []) = true ∧
    (fun (s : State) (p : Nat) (q : Nat) (mseq : Nat) (arg : Nat) (blocks : List PortBlock) =>
    let up := s.portMode p = 2 ∧ s.portSt p = 4
    decide ((p < 8) ∧ (q < 8) ∧ (s.Brings p blocks 0x08 mseq arg []) ∧ (up) ∧ (s.isMirror = true) ∧ (s.inOrder mseq =
        false)))
        ({ at_ [(0x3407, 1, 2 ^ 63), (0x3407, 2, 4), (0x8100, 1, 3)] with ports := [(7, { rxXn := 9 })], pair := { } })
        7 7 5 0 (messageRow 8 5 0 []) = true ∧
    (fun (s : State) (p : Nat) (q : Nat) (mseq : Nat) (arg : Nat) (blocks : List PortBlock) =>
    let up := s.portMode p = 2 ∧ s.portSt p = 4
    decide ((p < 8) ∧ (q < 8) ∧ (s.Brings p blocks 0x09 mseq arg []) ∧ (up) ∧ (s.pairSt = 4) ∧ ((∀ i : Nat, i < 8 →
        s.rd 0x4201 (i + 1) ≠ 3))))
        ({ at_ [(0x3407, 1, 2 ^ 63), (0x3407, 2, 4), (0x8100, 1, 4)] with ports := [(7, { rxXn := 9 })], pair := { } })
        7 7 65535 0 (messageRow 9 65535 0 []) = true ∧
    (fun (s : State) (p : Nat) (q : Nat) (mseq : Nat) (arg : Nat) (blocks : List PortBlock) (k : Nat) =>
    let up := s.portMode p = 2 ∧ s.portSt p = 4
    decide ((p < 8) ∧ (q < 8) ∧ (s.Brings p blocks 0x09 mseq arg []) ∧ (up) ∧ (s.pairSt = 4) ∧ (s.rd 0x4201 (q + 1) =
        3) ∧ ((∀ i : Nat, i < q → s.rd 0x4201 (i + 1) ≠ 3)) ∧ (s.freeSlot = some k)))
        ({ at_ [(0x3407, 1, 2 ^ 63), (0x3407, 2, 4), (0x8100, 1, 4), (0x4201, 8, 3)] with ports := [(7, { rxXn := 9 })], pair := { } })
        7 7 65535 0 (messageRow 9 65535 0 []) 0 = true ∧
    (fun (s : State) (p : Nat) (q : Nat) (mseq : Nat) (arg : Nat) (blocks : List PortBlock) =>
    decide ((p < 8) ∧ (q < 8) ∧ (s.Brings p blocks 0x09 mseq arg []) ∧ ((s.portMode p ≠ 2 ∨ s.pairSt ≠ 4))))
        ({ at_ [(0x3407, 1, 2 ^ 63), (0x3407, 2, 4), (0x8100, 1, 3)] with ports := [(7, { rxXn := 9 })], pair := { } })
        7 7 65535 0 (messageRow 9 65535 0 []) = true ∧
    (fun (s : State) (p : Nat) (q : Nat) =>
    decide ((p < 8) ∧ (q < 8) ∧ (s.takeoverDue = true)))
        ({ at_ [(0x8100, 1, 3), (0x8100, 5, 4)] with pair := { yieldAccepted := true } }) 7 0 = true ∧
    (fun (s : State) (p : Nat) (q : Nat) =>
    decide ((p < 8) ∧ (q < 8) ∧ (s.takeoverDue = false)))
        ({ at_ [(0x3407, 1, 2 ^ 63), (0x3407, 2, 4), (0x8100, 1, 2)] with ports := [(7, { rxXn := 9 })], pair := { sameDigests := 15, digests := [(8, 0xABCD)] } })
        7 7 = true ∧
    (fun (s : State) (p : Nat) (q : Nat) =>
    let x := s.pair
    decide ((p < 8) ∧ (q < 8) ∧ (s.pairSt = 4) ∧ (x.absent = false) ∧ (s.rd 0x8100 0x05 ≤ s.rd 0x8100 0x06))) (at_
        [(0x8100, 1, 4), (0x8100, 5, 3), (0x8100, 6, 4)]) 7 7 = true ∧
    (fun (s : State) (p : Nat) (q : Nat) =>
    let x := s.pair
    decide ((p < 8) ∧ (q < 8) ∧ ((s.pairSt ≠ 4 ∨ x.absent = true ∨ s.rd 0x8100 0x06 < s.rd 0x8100 0x05))))
        ({ at_ [(0x3407, 1, 2 ^ 63), (0x3407, 2, 4), (0x8100, 1, 2)] with ports := [(7, { rxXn := 9 })], pair := { sameDigests := 15, digests := [(8, 0xABCD)] } })
        7 7 = true ∧
    (fun (s : State) (p : Nat) (q : Nat) =>
    let x := s.pair
    let resends := s.pairSt = 4 ∧ 4 ≤ x.stalled ∧ x.overrun = false
    decide ((p < 8) ∧ (q < 8) ∧ (resends)))
        ({ at_ [(0x8100, 1, 4), (0x3407, 1, 2 ^ 63)] with pair := { unacked := [{ mseq := 1 }], stalled := 4 } }) 7 0
        = true ∧
    (fun (s : State) (p : Nat) (q : Nat) =>
    let x := s.pair
    let resends := s.pairSt = 4 ∧ 4 ≤ x.stalled ∧ x.overrun = false
    decide ((p < 8) ∧ (q < 8) ∧ (¬resends)))
        ({ at_ [(0x3407, 1, 2 ^ 63), (0x3407, 2, 4), (0x8100, 1, 2)] with ports := [(7, { rxXn := 9 })], pair := { sameDigests := 15, digests := [(8, 0xABCD)] } })
        7 7 = true ∧
    (fun (s : State) (p : Nat) (q : Nat) =>
    let x := s.pair
    let away := s.pairSt = 1 ∧ ∀ a, s.mirrorPort = some a → s.portSt a ≠ 4
    decide ((p < 8) ∧ (q < 8) ∧ (away) ∧ ((s.rd 0x8100 0x02 = 0 ∨ x.leadSeen = false)))) (at_ [(0x8100, 1, 1),
        (0x3407, 1, 2 ^ 63), (0x8100, 4, 65535)]) 7 0 = true ∧
    (fun (s : State) (p : Nat) (q : Nat) =>
    let x := s.pair
    let away := s.pairSt = 1 ∧ ∀ a, s.mirrorPort = some a → s.portSt a ≠ 4
    decide ((p < 8) ∧ (q < 8) ∧ ((¬away ∨ (s.rd 0x8100 0x02 ≠ 0 ∧ x.leadSeen = true)))))
        ({ at_ [(0x3407, 1, 2 ^ 63), (0x3407, 2, 4), (0x8100, 1, 2)] with ports := [(7, { rxXn := 9 })], pair := { sameDigests := 15, digests := [(8, 0xABCD)] } })
        7 7 = true ∧
    (fun (s : State) (r : Requester) (p : Nat) (q : Nat) =>
    decide ((p < 8) ∧ (q < 8) ∧ (s.mayWrite r 0x8100 0x0D 1 = true) ∧ (s.pairSt = 4) ∧ (s.partner = 3)))
        ({ at_ [(0x8100, 1, 4), (0x8100, 5, 4), (0x8100, 0x10, 3)] with pair := { } }) (.mailbox 0) 7 0 = true ∧
    (fun (s : State) (r : Requester) (p : Nat) (q : Nat) =>
    decide ((p < 8) ∧ (q < 8) ∧ (s.mayWrite r 0x8100 0x0D 1 = true) ∧ ((s.pairSt ≠ 4 ∨ s.partner ≠ 3))))
        ({ at_ [(0x3407, 1, 2 ^ 63), (0x3407, 2, 4), (0x8100, 1, 2)] with ports := [(7, { rxXn := 9 })], pair := { sameDigests := 15, digests := [(8, 0xABCD)] } })
        (.mailbox 0) 7 7 = true ∧
    (fun (s : State) (r : Requester) (p : Nat) (q : Nat) =>
    decide ((p < 8) ∧ (q < 8) ∧ (s.mayWrite r 0x8100 0x0D 2 = true) ∧ (s.hasMirror = true) ∧ (s.mirrorPort.isSome =
        true))) ({ at_ [(0x3407, 1, 2 ^ 63), (0x8100, 1, 4), (0x8100, 0x10, 3)] with pair := {} }) (.mailbox 0) 7 7 =
        true ∧
    (fun (s : State) (r : Requester) (p : Nat) (q : Nat) =>
    decide ((p < 8) ∧ (q < 8) ∧ (s.mayWrite r 0x8100 0x0D 2 = true) ∧ (s.hasMirror = false)))
        ({ at_ [(0x3407, 1, 2 ^ 63), (0x3407, 2, 4), (0x8100, 1, 2)] with ports := [(7, { rxXn := 9 })], pair := { sameDigests := 15, digests := [(8, 0xABCD)] } })
        (.mailbox 0) 7 7 = true := by
  refine ⟨?_, ?_, ?_, ?_, ?_, ?_, ?_, ?_, ?_, ?_, ?_, ?_, ?_, ?_, ?_, ?_, ?_, ?_, ?_, ?_, ?_, ?_, ?_, ?_, ?_, ?_, ?_,
      ?_, ?_⟩ <;> decide +kernel

set_option maxRecDepth 100000 in
/-- States and operands that meet the hypotheses of each clause of ConfigurationLoads; what an opaque function of
Config gives (a deciphered record, a stream of the flash) stands as an operand. -/
theorem witness_ConfigurationLoads :
    (fun (s : State) (path : Nat) (bytes : List Byte) =>
    let comes := s.pathStill path = false
    (path < 6) ∧ (comes) ∧ (bytes.length = 128) ∧ (s.loadBusy = false) ∧ (s.rd 0x2102 0x01 = 0) ∧ (s.headerCheck path
        bytes = 0)) (keyed []) 4 ownHeader ∧
    (fun (s : State) (path : Nat) (bytes : List Byte) =>
    let comes := s.pathStill path = false
    decide ((path < 6) ∧ (comes) ∧ (bytes.length = 128) ∧ (s.loadBusy = false) ∧ (s.rd 0x2102 0x01 = 0) ∧
        (s.headerCheck path bytes ≠ 0))) (at_ [(0x4301, 1, 0)]) 5 (headerStart ++ natBytes 4 0) = true ∧
    (fun (s : State) (path : Nat) (bytes : List Byte) =>
    let comes := s.pathStill path = false
    decide ((path < 6) ∧ (comes) ∧ (bytes.length = 128) ∧ (s.loadBusy = false) ∧ (s.rd 0x2102 0x01 ≠ 0))) (at_
        [(0x2102, 1, 1)]) 5 (headerStart ++ natBytes 4 0) = true ∧
    (fun (s : State) (path : Nat) =>
    let comes := s.pathStill path = false
    decide ((path < 6) ∧ (¬comes))) ({ at_ [(0x2043, 1, 2)] with domains := [(3, { started := true })] }) 0 = true ∧
    (fun (s : State) (path : Nat) =>
    let x := s.load
    let flows := s.pathStill x.path = false
    decide ((path < 6) ∧ (¬flows))) ({ at_ [(0x2043, 1, 2)] with domains := [(3, { started := true })] }) 0 = true ∧
    (fun (s : State) (path : Nat) (bytes : List Byte) =>
    let x := s.load
    let owns := x.active = true ∧ x.path = path
    let comes := s.pathStill path = false
    decide ((path < 6) ∧ (comes) ∧ (bytes.length = 128) ∧ (s.loadBusy = true) ∧ (¬owns)))
        ({ at_ [(0x4301, 1, 2)] with load := { active := true, path := 4 } }) 5 (headerStart ++ natBytes 4 0) = true ∧
    (fun (s : State) (path : Nat) (bytes : List Byte) =>
    decide ((path < 6) ∧ (s.loadBusy = false) ∧ (fieldAt bytes 0 4 ≠ 0x53434647)))
        ({ at_ [(0x2043, 1, 2)] with domains := [(3, { started := true })] }) 0 ([]) = true ∧
    (fun (s : State) (path : Nat) (bytes : List Byte) (plain : List Byte) =>
    let x := s.load
    let h := x.header
    let key := (s.security.slotKeys.lookup (hSlot h)).getD 0
    let st := s.rd 0x4301 0x01
    let num := s.rd 0x4301 0x04
    let kind := fieldAt plain 3 1
    let addr := fieldAt plain 4 4
    let pair := (fieldAt plain 1 1, fieldAt plain 2 1)
    let whole := fieldAt plain 264 4 = (crc32c (plain.take 264)).toNat
    let taken := s.pathStill x.path = false ∧ bytes.length = 268 ∧ x.active = true ∧ st = 2 ∧ num < hRecords h
    decide ((path < 6) ∧ (taken) ∧ (whole) ∧ (fieldAt plain 0 1 = 1) ∧ (kind = 0) ∧ (pair ∈ x.pairs) ∧ (addr < 8192) ∧
        (frameKey pair.1 pair.2 addr ∉ x.seen)))
        ({ at_ [(0x4301, 1, 2)] with load := { active := true, path := 5, header := headerStart, pairs := [(63, 7)] } })
        5 (List.replicate 268 0) (frameRecord ++ natBytes 4 (crc32c (frameRecord)).toNat) = true ∧
    (fun (s : State) (path : Nat) (bytes : List Byte) (plain : List Byte) =>
    let x := s.load
    let h := x.header
    let key := (s.security.slotKeys.lookup (hSlot h)).getD 0
    let st := s.rd 0x4301 0x01
    let num := s.rd 0x4301 0x04
    let kind := fieldAt plain 3 1
    let addr := fieldAt plain 4 4
    let pair := (fieldAt plain 1 1, fieldAt plain 2 1)
    let whole := fieldAt plain 264 4 = (crc32c (plain.take 264)).toNat
    let taken := s.pathStill x.path = false ∧ bytes.length = 268 ∧ x.active = true ∧ st = 2 ∧ num < hRecords h
    decide ((path < 6) ∧ (taken) ∧ (whole) ∧ (fieldAt plain 0 1 = 2) ∧ (kind = 0) ∧ (hMemInit h = true) ∧ ((hRegions
        h).testBit pair.1 = true) ∧ (pair.1 < 64) ∧ (pair.2 < 64) ∧ (addr % 32 = 0) ∧ (addr ≤ 16352) ∧ ((∀ i : Nat, i
        < 32 → bankKey pair.1 pair.2 * 16384 + addr + i ∉ x.memSeen))))
        ({ at_ [(0x4301, 1, 2)] with load := { active := true, path := 5, header := natBytes 128 (4 * 2 ^ 96 + 2 ^ 191 + 2 ^ 256) } })
        5 (List.replicate 268 0) ([2, 63, 63, 0] ++ natBytes 4 16352 ++ List.replicate 256 0x5A ++ natBytes 4 (crc32c
        ([2, 63, 63, 0] ++ natBytes 4 16352 ++ List.replicate 256 0x5A)).toNat) = true ∧
    (fun (s : State) (path : Nat) (bytes : List Byte) (plain : List Byte) =>
    let x := s.load
    let h := x.header
    let key := (s.security.slotKeys.lookup (hSlot h)).getD 0
    let st := s.rd 0x4301 0x01
    let num := s.rd 0x4301 0x04
    let whole := fieldAt plain 264 4 = (crc32c (plain.take 264)).toNat
    let taken := s.pathStill x.path = false ∧ bytes.length = 268 ∧ x.active = true ∧ st = 2 ∧ num < hRecords h
    decide ((path < 6) ∧ (taken) ∧ (¬whole)))
        ({ at_ [(0x4301, 1, 2)] with load := { active := true, path := 5, header := headerStart, pairs := [(63, 7)] } })
        5 (List.replicate 268 0) (frameRecord ++ natBytes 4 0) = true ∧
    (fun (s : State) (path : Nat) (bytes : List Byte) (plain : List Byte) =>
    let x := s.load
    let h := x.header
    let key := (s.security.slotKeys.lookup (hSlot h)).getD 0
    let st := s.rd 0x4301 0x01
    let num := s.rd 0x4301 0x04
    let kind := fieldAt plain 3 1
    let addr := fieldAt plain 4 4
    let pair := (fieldAt plain 1 1, fieldAt plain 2 1)
    let whole := fieldAt plain 264 4 = (crc32c (plain.take 264)).toNat
    let taken := s.pathStill x.path = false ∧ bytes.length = 268 ∧ x.active = true ∧ st = 2 ∧ num < hRecords h
    decide ((path < 6) ∧ (taken) ∧ (whole) ∧ (fieldAt plain 0 1 = 1) ∧ ((kind ≠ 0 ∨ pair ∉ x.pairs ∨ 8192 ≤ addr))))
        ({ at_ [(0x4301, 1, 2)] with load := { active := true, path := 5, header := headerStart, pairs := [(63, 6)] } })
        5 (List.replicate 268 0) (frameRecord ++ natBytes 4 (crc32c (frameRecord)).toNat) = true ∧
    (fun (s : State) (path : Nat) (bytes : List Byte) (plain : List Byte) =>
    let x := s.load
    let h := x.header
    let key := (s.security.slotKeys.lookup (hSlot h)).getD 0
    let st := s.rd 0x4301 0x01
    let num := s.rd 0x4301 0x04
    let kind := fieldAt plain 3 1
    let addr := fieldAt plain 4 4
    let pair := (fieldAt plain 1 1, fieldAt plain 2 1)
    let whole := fieldAt plain 264 4 = (crc32c (plain.take 264)).toNat
    let taken := s.pathStill x.path = false ∧ bytes.length = 268 ∧ x.active = true ∧ st = 2 ∧ num < hRecords h
    decide ((path < 6) ∧ (taken) ∧ (whole) ∧ (fieldAt plain 0 1 = 1) ∧ (kind = 0) ∧ (pair ∈ x.pairs) ∧ (addr < 8192) ∧
        (frameKey pair.1 pair.2 addr ∈ x.seen)))
        ({ at_ [(0x4301, 1, 2)] with load := { active := true, path := 5, header := headerStart, pairs := [(63, 7)], seen := [frameKey 63 7 8191] } })
        5 (List.replicate 268 0) (frameRecord ++ natBytes 4 (crc32c (frameRecord)).toNat) = true ∧
    (fun (s : State) (path : Nat) (bytes : List Byte) =>
    let x := s.load
    let h := x.header
    let st := s.rd 0x4301 0x01
    let num := s.rd 0x4301 0x04
    let flows := s.pathStill x.path = false
    decide ((path < 6) ∧ (flows) ∧ (bytes.length = 268) ∧ (x.active = true) ∧ ((st = 3 ∨ st = 4 ∨ (st = 2 ∧ hRecords h
        ≤ num)))))
        ({ at_ [(0x4301, 1, 2), (0x4301, 4, 8192)] with load := { active := true, path := 5, header := headerStart, pairs := [(63, 7)] } })
        5 (List.replicate 268 0) = true ∧
    (fun (s : State) (path : Nat) (bytes : List Byte) =>
    let x := s.load
    let st := s.rd 0x4301 0x01
    decide ((path < 6) ∧ (bytes.length = 268) ∧ ((x.active = false ∨ st < 2 ∨ 4 < st))))
        ({ at_ [(0x4301, 1, 5)] with load := { active := true, path := 5, header := headerStart, pairs := [(63, 7)] } })
        5 (List.replicate 268 0) = true ∧
    (fun (s : State) (path : Nat) (bytes : List Byte) =>
    let x := s.load
    let h := x.header
    let st := s.rd 0x4301 0x01
    let num := s.rd 0x4301 0x04
    let flows := s.pathStill x.path = false
    decide ((path < 6) ∧ (flows) ∧ (x.active = true) ∧ (x.waiting = none) ∧ (st = 2) ∧ (num < hRecords h) ∧ (0 <
        bytes.length) ∧ ((s.partialOf x.path).length + bytes.length < 268)))
        ({ at_ [(0x4301, 1, 2)] with load := { active := true, path := 5, header := headerStart, pairs := [(63, 7)], partials := [(5, List.replicate 266 0)] } })
        5 ([0]) = true ∧
    (fun (s : State) (path : Nat) (bytes : List Byte) =>
    let x := s.load
    let h := x.header
    let st := s.rd 0x4301 0x01
    let num := s.rd 0x4301 0x04
    let flows := s.pathStill x.path = false
    decide ((path < 6) ∧ (flows) ∧ (x.active = true) ∧ (st = 2) ∧ (bytes.length = trailerLen h) ∧ (hRecords h ≤ num) ∧
        (fieldAt bytes 0 4 = 0x45434647) ∧ (fieldAt bytes 4 4 = hRecords h) ∧ ((hPartial h = true ∨ x.seen.length =
        8192 * x.pairs.length))))
        ({ at_ [(0x4301, 1, 2)] with load := { active := true, header := natBytes 128 (2 * 2 ^ 96) } }) 5 (natBytes 4
        0x45434647 ++ natBytes 20 0) = true ∧
    (fun (s : State) (path : Nat) (bytes : List Byte) =>
    let x := s.load
    let h := x.header
    let st := s.rd 0x4301 0x01
    let num := s.rd 0x4301 0x04
    let flows := s.pathStill x.path = false
    decide ((path < 6) ∧ (flows) ∧ (x.active = true) ∧ (st = 2) ∧ (bytes.length ≤ trailerLen h) ∧ ((bytes.length <
        trailerLen h ∨ num < hRecords h ∨ fieldAt bytes 0 4 ≠ 0x45434647 ∨ fieldAt bytes 4 4 ≠ hRecords h))))
        ({ at_ [(0x4301, 1, 2)] with load := { active := true, path := 5, header := headerStart, pairs := [(63, 7)], partials := [(5, List.replicate 266 0)] } })
        5 ([0]) = true ∧
    (fun (s : State) (path : Nat) (bytes : List Byte) =>
    let x := s.load
    let h := x.header
    let st := s.rd 0x4301 0x01
    let flows := s.pathStill x.path = false
    decide ((path < 6) ∧ (flows) ∧ (x.active = true) ∧ ((st = 3 ∨ st = 4 ∨ (st = 2 ∧ trailerLen h < bytes.length)))))
        ({ at_ [(0x4301, 1, 2)] with load := { active := true, path := 4 } }) 5 (headerStart ++ natBytes 4 0) = true ∧
    (fun (s : State) (path : Nat) =>
    let x := s.load
    let h := x.header
    let st := s.rd 0x4301 0x01
    decide ((path < 6) ∧ (x.active = true) ∧ (st = 3) ∧ (hSig h = true)))
        ({ at_ [(0x4301, 1, 3)] with load := { active := true, header := natBytes 128 (3 * 2 ^ 96) } }) 5 = true ∧
    (fun (s : State) (path : Nat) =>
    let x := s.load
    let h := x.header
    let st := s.rd 0x4301 0x01
    decide ((path < 6) ∧ ((x.active = false ∨ st ≠ 3 ∨ hSig h = false)))) (keyed []) 4 = true ∧
    (fun (s : State) (path : Nat) =>
    let x := s.load
    let st := s.rd 0x4301 0x01
    decide ((path < 6) ∧ (x.active = true) ∧ (st = 4) ∧ ((∀ q ∈ x.pairs, q.1 < 64 ∧ q.2 < 8)) ∧ ((∀ q ∈ x.roles, q.1 <
        8)))) ({ at_ [(0x4301, 1, 4)] with load := { active := true, header := natBytes 128 (3 * 2 ^ 96) } }) 5 = true ∧
    (fun (s : State) (path : Nat) =>
    let x := s.load
    let st := s.rd 0x4301 0x01
    decide ((path < 6) ∧ ((x.active = false ∨ st ≠ 4)))) (keyed []) 4 = true ∧
    (fun (s : State) (path : Nat) =>
    let x := s.load
    let st := s.rd 0x4301 0x01
    let sender := s.senderOn path
    let held := x.active = true ∧ x.path = sender
    let waits := x.waiting.any (fun w => w.1 = sender) = true
    decide ((path < 6) ∧ (held) ∧ (¬waits) ∧ (st = 2)))
        ({ at_ [(0x4301, 1, 2)] with load := { active := true, path := 5, header := headerStart, pairs := [(63, 7)] } })
        5 = true ∧
    (fun (s : State) (path : Nat) =>
    let x := s.load
    let st := s.rd 0x4301 0x01
    let sender := s.senderOn path
    let held := x.active = true ∧ x.path = sender
    let waits := x.waiting.any (fun w => w.1 = sender) = true
    decide ((path < 6) ∧ ((waits ∨ (held ∧ st ≠ 2)))))
        ({ at_ [(0x4301, 1, 5)] with load := { active := true, path := 5, header := headerStart, pairs := [(63, 7)] } })
        5 = true ∧
    (fun (s : State) (path : Nat) =>
    let x := s.load
    let sender := s.senderOn path
    let held := x.active = true ∧ x.path = sender
    let waits := x.waiting.any (fun w => w.1 = sender) = true
    decide ((path < 6) ∧ (¬waits) ∧ (¬held))) (keyed []) 4 = true ∧
    (fun (s : State) (path : Nat) =>
    let x := s.load
    let st := s.rd 0x4301 0x01
    let sender := s.senderOn path
    let held := x.active = true ∧ x.path = sender
    let waits := x.waiting.any (fun w => w.1 = sender) = true
    decide ((path < 6) ∧ (¬waits) ∧ (¬(held ∧ st = 2)))) (keyed []) 4 = true ∧
    (fun (s : State) (path : Nat) (w : List Byte) =>
    let x := s.load
    let sender := s.senderOn path
    decide ((path < 6) ∧ (x.waiting = some (sender, w))))
        ({ at_ [(0x2102, 1, 2)] with load := { waiting := some (5, headerStart) } }) 5 headerStart = true ∧
    (fun (s : State) (path : Nat) =>
    let x := s.load
    let st := s.rd 0x4301 0x01
    decide ((path < 6) ∧ (x.active = true) ∧ (st = 5) ∧ ((∀ q ∈ x.pairs, q.1 < 64 ∧ q.2 < 8))))
        ({ at_ [(0x4301, 1, 5)] with load := { active := true, path := 5, header := headerStart, pairs := [(63, 7)] } })
        5 = true ∧
    (fun (s : State) (path : Nat) =>
    let x := s.load
    let st := s.rd 0x4301 0x01
    decide ((path < 6) ∧ ((x.active = false ∨ st ≠ 5)))) (keyed []) 4 = true ∧
    (fun (s : State) (r : Requester) (path : Nat) (hd : List Byte) =>
    let slot := s.rd 0x4300 0x03 % 2
    let asks := s.mayWrite r 0x4300 0x01 1 = true ∧ (8 ≤ s.startStep ∨ s.startStep = 0) ∧ s.rd 0x4300 0x02 = 1
    let starts := asks ∧ s.loadBusy = false ∧ s.rd 0x2102 0x01 = 0 ∧ s.pathStill 1 = false
    (path < 6) ∧ (starts) ∧ (s.headerCheck 1 hd = 0)) (keyed [(0x1100, 4, 8), (0x4300, 2, 1)]) (.mailbox 0) 5
        ownHeader ∧
    (fun (s : State) (r : Requester) (path : Nat) (hd : List Byte) =>
    let slot := s.rd 0x4300 0x03 % 2
    let asks := s.mayWrite r 0x4300 0x01 1 = true ∧ (8 ≤ s.startStep ∨ s.startStep = 0) ∧ s.rd 0x4300 0x02 = 1
    let starts := asks ∧ s.loadBusy = false ∧ s.rd 0x2102 0x01 = 0 ∧ s.pathStill 1 = false
    decide ((path < 6) ∧ (starts) ∧ (s.headerCheck 1 hd ≠ 0))) (at_ [(0x1100, 4, 8), (0x4300, 2, 1)]) (.mailbox 0) 5
        ([]) = true ∧
    (fun (s : State) (r : Requester) (path : Nat) =>
    let x := s.load
    let st := s.rd 0x4301 0x01
    decide ((path < 6) ∧ (s.mayWrite r 0x4300 0x01 2 = true) ∧ (x.active = true) ∧ (st ≠ 5)))
        ({ at_ [(0x4301, 1, 2)] with load := { active := true, path := 4 } }) (.mailbox 0) 5 = true ∧
    (fun (s : State) (r : Requester) (path : Nat) =>
    let asks := s.mayWrite r 0x4300 0x01 1 = true ∧ (8 ≤ s.startStep ∨ s.startStep = 0) ∧ s.rd 0x4300 0x02 = 1
    decide ((path < 6) ∧ (asks) ∧ (s.pathStill 1 = true)))
        ({ at_ [(0x1100, 4, 8), (0x4300, 2, 1), (0x2045, 1, 2)] with domains := [(5, { started := true })] })
        (.mailbox 0) 5 = true ∧
    (fun (s : State) (r : Requester) (path : Nat) =>
    let x := s.load
    decide ((path < 6) ∧ (s.mayWrite r 0x4300 0x01 2 = true) ∧ (x.active = false) ∧ (s.loadHeld.isSome = true)))
        ({ up with loadHeld := some (1, 0) }) (.mailbox 0) 5 = true ∧
    (fun (s : State) (r : Requester) (path : Nat) =>
    let x := s.load
    decide ((path < 6) ∧ (s.mayWrite r 0x4300 0x01 2 = true) ∧ (x.active = false) ∧ (x.waiting = none) ∧ (s.loadHeld =
        none))) (keyed []) (.mailbox 0) 4 = true := by
  refine ⟨⟨by decide +kernel, by decide +kernel, ownHeader_length, by decide +kernel, by decide +kernel,
      ownHeader_check [] 4 (.inl rfl) (.inr rfl)⟩, ?_, ?_, ?_, ?_, ?_, ?_, ?_, ?_, ?_, ?_, ?_, ?_, ?_, ?_, ?_, ?_, ?_,
      ?_, ?_, ?_, ?_, ?_, ?_, ?_, ?_, ?_, ?_, ?_, ⟨by decide +kernel, by decide +kernel,
      ownHeader_check _ 1 (.inr rfl) (.inl rfl)⟩, ?_, ?_, ?_, ?_, ?_⟩ <;> decide +kernel

/-- States and operands that meet the hypotheses of each clause of FrameCode. -/
theorem witness_FrameCode :
    (fun (j : Nat) (i : Nat) (half : Nat) (q : Nat) =>
    decide ((j < 64) ∧ (i < 64) ∧ (half < 2) ∧ (q < 8))) 0 0 0 0 = true ∧
    (fun (i : Nat) (j : Nat) =>
    decide ((i ≤ 2060) ∧ (j ≤ 2060) ∧ (i ≠ j))) 2060 0 = true := by
  refine ⟨?_, ?_⟩ <;> decide +kernel

set_option maxRecDepth 100000 in
/-- States and operands that meet the hypotheses of each clause of Scrubbing. -/
theorem witness_Scrubbing :
    (fun (s : State) (r : Requester) (n : Nat) (p : Nat) (a : Nat) =>
    let m := s.rd 0x4320 0x01
    let k := s.rd 0x4320 0x02
    let readable := (s.plane m k).flags % 2 = 1 ∧ (s.planeState m k = 2 ∨ s.planeState m k = 3)
    let asked := s.mayRead r true 0x4321 0x00 = true
    decide ((n < 64) ∧ (p < 8) ∧ (a < 8192) ∧ (asked) ∧ (readable))) ((at_ [(0x4320, 1, 63), (0x4320, 2, 7), (0x4100 +
        63, 0x27, 3)]).setPlane 63 7 { flags := 1 }) (.mailbox 0) 63 7 8191 = true ∧
    (fun (s : State) (r : Requester) (n : Nat) (p : Nat) (a : Nat) =>
    let m := s.rd 0x4320 0x01
    let k := s.rd 0x4320 0x02
    let readable := (s.plane m k).flags % 2 = 1 ∧ (s.planeState m k = 2 ∨ s.planeState m k = 3)
    let asked := s.mayRead r true 0x4321 0x00 = true
    decide ((n < 64) ∧ (p < 8) ∧ (a < 8192) ∧ (asked) ∧ (¬readable))) up (.mailbox 0) 63 7 8191 = true ∧
    (fun (s : State) (r : Requester) (n : Nat) (p : Nat) (a : Nat) (v : BitVec 64) =>
    let q := v.toNat / 2 ^ 42 % 64
    let pl := v.toNat / 2 ^ 39 % 8
    let injects := s.mayWrite r 0x4330 0x00 v.toNat = true
    let formed := v.toNat / 2 ^ 48 = 0 ∧ v.toNat / 2 ^ 12 % 2 ^ 14 = 0 ∧ v.toNat % 4096 ≤ 2060
    decide ((n < 64) ∧ (p < 8) ∧ (a < 8192) ∧ (injects) ∧ (formed) ∧ (2 ≤ s.planeState q pl))) (at_ [(0x4100 + 63,
        0x27, 2)]) (.mailbox 0) 63 7 8191 (BitVec.ofNat 64 (63 * 2 ^ 42 + 7 * 2 ^ 39 + 8191 * 2 ^ 26 + 2060)) = true ∧
    (fun (s : State) (r : Requester) (n : Nat) (p : Nat) (a : Nat) (v : BitVec 64) =>
    let q := v.toNat / 2 ^ 42 % 64
    let pl := v.toNat / 2 ^ 39 % 8
    let injects := s.mayWrite r 0x4330 0x00 v.toNat = true
    let formed := v.toNat / 2 ^ 48 = 0 ∧ v.toNat / 2 ^ 12 % 2 ^ 14 = 0 ∧ v.toNat % 4096 ≤ 2060
    decide ((n < 64) ∧ (p < 8) ∧ (a < 8192) ∧ (injects) ∧ (formed) ∧ (s.planeState q pl ≤ 1))) ((at_ [(0x4320, 1, 63),
        (0x4320, 2, 7), (0x4100 + 63, 0x27, 3)]).setPlane 63 7 { flags := 1 }) (.mailbox 0) 63 7 8191 0 = true ∧
    (fun (s : State) (r : Requester) (n : Nat) (p : Nat) (a : Nat) (v : BitVec 64) =>
    let injects := s.mayWrite r 0x4330 0x00 v.toNat = true
    let formed := v.toNat / 2 ^ 48 = 0 ∧ v.toNat / 2 ^ 12 % 2 ^ 14 = 0 ∧ v.toNat % 4096 ≤ 2060
    decide ((n < 64) ∧ (p < 8) ∧ (a < 8192) ∧ (injects) ∧ (¬formed))) up (.mailbox 0) 63 7 8191 2061 = true ∧
    (fun (s : State) (n : Nat) (p : Nat) (a : Nat) =>
    let reads := s.rd 0x2102 0x01 = 0 ∧ (s.planeState n p = 2 ∨ s.planeState n p = 3) ∧
          (p = s.activePlane n ∨ p = (s.region n).pass % 8)
    decide ((n < 64) ∧ (p < 8) ∧ (a < 8192) ∧ (¬reads))) ((at_ [(0x4320, 1, 63), (0x4320, 2, 7), (0x4100 + 63, 0x27,
        3)]).setPlane 63 7 { flags := 1 }) 63 7 8191 = true ∧
    (fun (s : State) (n : Nat) (p : Nat) (a : Nat) =>
    let f := decodeFrame (s.frame n p a)
    let reads := s.rd 0x2102 0x01 = 0 ∧ (s.planeState n p = 2 ∨ s.planeState n p = 3) ∧
          (p = s.activePlane n ∨ p = (s.region n).pass % 8)
    decide ((n < 64) ∧ (p < 8) ∧ (a < 8192) ∧ (reads) ∧ (f.1 = 0))) ((at_ [(0x4100 + 63, 0x27, 2), (0x4100 + 63, 0x11,
        7)]).setFrame 63 7 8191 (encodeFrame 5)) 63 7 8191 = true ∧
    (fun (s : State) (n : Nat) (p : Nat) (a : Nat) =>
    let f := decodeFrame (s.frame n p a)
    let reads := s.rd 0x2102 0x01 = 0 ∧ (s.planeState n p = 2 ∨ s.planeState n p = 3) ∧
          (p = s.activePlane n ∨ p = (s.region n).pass % 8)
    decide ((n < 64) ∧ (p < 8) ∧ (a < 8192) ∧ (reads) ∧ (f.1 = 1) ∧ (s.correctionHeld n p = false))) ((at_ [(0x4100 +
        63, 0x27, 2), (0x4100 + 63, 0x11, 7)]).setFrame 63 7 8191 (flipFrame (encodeFrame 5) 2060)) 63 7 8191 = true ∧
    (fun (s : State) (n : Nat) (p : Nat) (a : Nat) =>
    let f := decodeFrame (s.frame n p a)
    let reads := s.rd 0x2102 0x01 = 0 ∧ (s.planeState n p = 2 ∨ s.planeState n p = 3) ∧
          (p = s.activePlane n ∨ p = (s.region n).pass % 8)
    decide ((n < 64) ∧ (p < 8) ∧ (a < 8192) ∧ (reads) ∧ (f.1 = 1) ∧ (s.correctionHeld n p = true))) ((at_ [(0x4100 +
        63, 0x27, 2), (0x4100 + 63, 0x11, 7), (0x4001, 2, 16), (0x4001, 3, 3125000), (0x421F, 6, 1), (0x421F, 1, 2 ^
        63), (0x421F, 3, 7), (0x421F, 2, 1)]).setFrame 63 7 8191 (flipFrame (encodeFrame 5) 2060)) 63 7 8191 = true ∧
    (fun (s : State) (n : Nat) (p : Nat) (a : Nat) =>
    let f := decodeFrame (s.frame n p a)
    let reads := s.rd 0x2102 0x01 = 0 ∧ (s.planeState n p = 2 ∨ s.planeState n p = 3) ∧
          (p = s.activePlane n ∨ p = (s.region n).pass % 8)
    decide ((n < 64) ∧ (p < 8) ∧ (a < 8192) ∧ (reads) ∧ (f.1 = 2))) ((at_ [(0x4100 + 63, 0x27, 2), (0x4100 + 63, 0x11,
        7)]).setFrame 63 7 8191 (flipFrame (flipFrame (encodeFrame 5) 2060) 0)) 63 7 8191 = true ∧
    (fun (s : State) (n : Nat) (p : Nat) (a : Nat) =>
    decide ((n < 64) ∧ (p < 8) ∧ (a < 8192) ∧ (s.rd 0x2102 0x01 = 0))) ((at_ [(0x4320, 1, 63), (0x4320, 2, 7), (0x4100
        + 63, 0x27, 3)]).setPlane 63 7 { flags := 1 }) 63 7 8191 = true ∧
    (fun (s : State) (n : Nat) (p : Nat) (a : Nat) =>
    decide ((n < 64) ∧ (p < 8) ∧ (a < 8192) ∧ (s.rd 0x2102 0x01 ≠ 0))) (at_ [(0x2102, 1, 1)]) 63 0 0 = true := by
  refine ⟨?_, ?_, ?_, ?_, ?_, ?_, ?_, ?_, ?_, ?_, ?_, ?_⟩ <;> decide +kernel

/-- States and operands that meet the hypotheses of each clause of Routes. -/
theorem witness_Routes :
    (fun (arrival : Nat) =>
    decide ((arrival < 16))) 15 = true ∧
    (fun (a : Nat) (b : Nat) (x : Nat) =>
    decide ((a < 64) ∧ (b < 64) ∧ (quadrantOf a = quadrantOf b) ∧ (x ∈ meshPath a b))) 0 0 0 = true ∧
    (fun (hops : Nat) (i : Nat) =>
    decide ((hops ≤ 8) ∧ (i < 8))) 0 0 = true ∧
    (fun (s : State) (r : Requester) (x : Nat) =>
    let drains := s.mayWrite r (0x6010 + x) 0x02 1 = true
    decide ((x < 69) ∧ (drains) ∧ (s.routerSt x = 0))) up (.mailbox 0) 0 = true ∧
    (fun (s : State) (r : Requester) (x : Nat) =>
    let drains := s.mayWrite r (0x6010 + x) 0x02 1 = true
    decide ((x < 69) ∧ (drains) ∧ (s.routerSt x ≠ 0))) (at_ [(0x6010 + 68, 1, 2)]) (.mailbox 0) 68 = true ∧
    (fun (s : State) (r : Requester) (x : Nat) =>
    let returns := s.mayWrite r (0x6010 + x) 0x02 2 = true
    decide ((x < 69) ∧ (returns) ∧ (s.routerSt x = 2))) (at_ [(0x6010 + 68, 1, 2)]) (.mailbox 0) 68 = true ∧
    (fun (s : State) (r : Requester) (x : Nat) =>
    let returns := s.mayWrite r (0x6010 + x) 0x02 2 = true
    decide ((x < 69) ∧ (returns) ∧ (s.routerSt x ≠ 2))) up (.mailbox 0) 0 = true ∧
    (fun (s : State) (x : Nat) =>
    decide ((x < 69) ∧ (s.routerSt x ≠ 1))) up 0 = true ∧
    (fun (s : State) (x : Nat) =>
    decide ((x < 69) ∧ (s.routerSt x = 1) ∧ (x < 64))) (at_ [(0x6010 + 63, 1, 1)]) 63 = true ∧
    (fun (s : State) (x : Nat) =>
    decide ((x < 69) ∧ (s.routerSt x = 1) ∧ (64 ≤ x))) (at_ [(0x6010 + 68, 1, 1)]) 68 = true ∧
    (fun (s : State) (x : Nat) (port : Nat) (p : Packet) =>
    decide ((x < 69) ∧ (s.routerSt x ≠ 0) ∧ (p.cmd < 0x80) ∧ ((∀ y ∈ (bouncePath x port p).drop 1, s.routerSt y ≠
        2)))) (at_ [(0x6010 + 68, 1, 2)]) 68 0 ({}) = true ∧
    (fun (s : State) (x : Nat) (p : Packet) =>
    decide ((x < 69) ∧ (s.routerSt x = 2) ∧ (0x80 ≤ p.cmd))) (at_ [(0x6010 + 68, 1, 2)]) 68 ({ cmd := 0x80 }) = true ∧
    (fun (s : State) (x : Nat) (p : Packet) =>
    decide ((x < 69) ∧ ((s.routerSt x = 0 ∨ 0x80 ≤ p.cmd ∧ s.routerSt x ≠ 2)))) up 0 ({}) = true := by
  refine ⟨?_, ?_, ?_, ?_, ?_, ?_, ?_, ?_, ?_, ?_, ?_, ?_, ?_⟩ <;> decide +kernel

/-- States and operands that meet the hypotheses of each clause of NetworkPackets. -/
theorem witness_NetworkPackets :
    (fun (s : State) (p : Packet) =>
    let n := p.dest
    let isRead := p.cmd = 0x01
    let closed := n < 64 ∧ s.rd (0x6060 + n) 0x01 ≠ 0
    decide ((closed) ∧ (isRead))) (at_ [(0x6060 + 63, 1, 1)]) ({ cmd := 1, dest := 63 }) = true ∧
    (fun (s : State) (p : Packet) =>
    let n := p.dest
    let isWrite := p.cmd = 0x02
    let closed := n < 64 ∧ s.rd (0x6060 + n) 0x01 ≠ 0
    decide ((closed) ∧ (isWrite))) (at_ [(0x6060 + 63, 1, 1)]) ({ cmd := 2, dest := 63 }) = true ∧
    (fun (s : State) (p : Packet) =>
    let n := p.dest
    let isRead := p.cmd = 0x01
    let closed := n < 64 ∧ s.rd (0x6060 + n) 0x01 ≠ 0
    let named := n < 64 ∧ packetRangeOk p = true ∧ p.addr / 2 ^ 23 % 64 = n
    decide ((isRead) ∧ (¬closed) ∧ (named) ∧ (p.units = []))) (at_ [(0x6060 + 63, 1, 0)])
        ({ cmd := 1, dest := 63, addr := 63 * 2 ^ 23 + 16383 * 8, last := 7 }) = true ∧
    (fun (s : State) (p : Packet) =>
    let n := p.dest
    let isRead := p.cmd = 0x01
    let lines := 0x080 ≤ n ∧ n ≤ 0x087 ∧ p.units = [] ∧ p.wcnt < 32 ∧ p.last < 8 ∧
           p.addr % 2 ^ 38 / 8 + p.wcnt < 2 ^ 35
    let waitsBehind := s.mustWait p = true
    decide ((isRead) ∧ (lines) ∧ (s.lbif = none) ∧ (¬waitsBehind))) up
        ({ cmd := 1, dest := 0x087, wcnt := 31, last := 7, addr := 2 ^ 38 - 256 }) = true ∧
    (fun (s : State) (p : Packet) =>
    let n := p.dest
    let isRead := p.cmd = 0x01
    let lines := 0x080 ≤ n ∧ n ≤ 0x087 ∧ p.units = [] ∧ p.wcnt < 32 ∧ p.last < 8 ∧
           p.addr % 2 ^ 38 / 8 + p.wcnt < 2 ^ 35
    let waitsBehind := s.mustWait p = true
    decide ((isRead) ∧ (lines) ∧ ((s.lbif.isSome = true ∨ waitsBehind)))) ({ up with lbif := some {} })
        ({ cmd := 1, dest := 0x087, wcnt := 31, last := 7, addr := 2 ^ 38 - 256 }) = true ∧
    (fun (s : State) (p : Packet) =>
    let n := p.dest
    let isRead := p.cmd = 0x01
    let keeps := n = 0x090 ∧ 0x158 ≤ p.src ∧ p.src ≤ 0x15F ∧ p.wcnt < 32 ∧ p.last < 8 ∧
           p.addr % 2 ^ 32 + p.wcnt / 8 < 2 ^ 26 ∧
           ∀ i : Nat, i < p.wcnt / 8 + 1 → (keepArea (p.addr % 2 ^ 32 + i)).1 ≠ .spare
    let waitsBehind := s.mustWait p = true
    decide ((isRead) ∧ (keeps) ∧ (p.units = []) ∧ (s.domSt 3 = 1) ∧ (¬waitsBehind))) (at_ [(0x2043, 1, 1)])
        ({ cmd := 1, dest := 0x090, src := 0x15F, wcnt := 31, last := 7, addr := 2 ^ 26 - 4 }) = true ∧
    (fun (s : State) (p : Packet) =>
    let n := p.dest
    let isRead := p.cmd = 0x01
    let keeps := n = 0x090 ∧ 0x158 ≤ p.src ∧ p.src ≤ 0x15F ∧ p.wcnt < 32 ∧ p.last < 8 ∧
           p.addr % 2 ^ 32 + p.wcnt / 8 < 2 ^ 26 ∧
           ∀ i : Nat, i < p.wcnt / 8 + 1 → (keepArea (p.addr % 2 ^ 32 + i)).1 ≠ .spare
    let waitsBehind := s.mustWait p = true
    decide ((isRead) ∧ (keeps) ∧ (p.units = []) ∧ ((s.domSt 3 ≠ 1 ∨ waitsBehind)))) (at_ [(0x2043, 1, 2)])
        ({ cmd := 1, dest := 0x090, src := 0x15F, wcnt := 31, last := 7, addr := 2 ^ 26 - 4 }) = true ∧
    (fun (s : State) (p : Packet) =>
    let n := p.dest
    let isRead := p.cmd = 0x01
    let closed := n < 64 ∧ s.rd (0x6060 + n) 0x01 ≠ 0
    let named := n < 64 ∧ packetRangeOk p = true ∧ p.addr / 2 ^ 23 % 64 = n
    let lines := 0x080 ≤ n ∧ n ≤ 0x087 ∧ p.units = [] ∧ p.wcnt < 32 ∧ p.last < 8 ∧
           p.addr % 2 ^ 38 / 8 + p.wcnt < 2 ^ 35
    let keeps := n = 0x090 ∧ 0x158 ≤ p.src ∧ p.src ≤ 0x15F ∧ p.wcnt < 32 ∧ p.last < 8 ∧
           p.addr % 2 ^ 32 + p.wcnt / 8 < 2 ^ 26 ∧
           ∀ i : Nat, i < p.wcnt / 8 + 1 → (keepArea (p.addr % 2 ^ 32 + i)).1 ≠ .spare
    decide ((isRead) ∧ (¬closed) ∧ (¬(named ∧ p.units = [])) ∧ (¬lines) ∧ (¬(keeps ∧ p.units = [])))) up
        ({ cmd := 1, dest := 0x087, wcnt := 1, addr := 2 ^ 38 - 8 }) = true ∧
    (fun (s : State) (p : Packet) =>
    let n := p.dest
    let isWrite := p.cmd = 0x02
    let closed := n < 64 ∧ s.rd (0x6060 + n) 0x01 ≠ 0
    let named := n < 64 ∧ packetRangeOk p = true ∧ p.addr / 2 ^ 23 % 64 = n
    let full := p.units.length = (p.wcnt + 2) / 2
    decide ((isWrite) ∧ (¬closed) ∧ (named) ∧ (full))) (at_ [(0x6060 + 63, 1, 0)])
        ({ cmd := 2, dest := 63, addr := 63 * 2 ^ 23 + 16383 * 8, last := 7, units := [5] }) = true ∧
    (fun (s : State) (p : Packet) =>
    let n := p.dest
    let isWrite := p.cmd = 0x02
    let full := p.units.length = (p.wcnt + 2) / 2
    let keeps := n = 0x090 ∧ 0x158 ≤ p.src ∧ p.src ≤ 0x15F ∧ p.wcnt < 32 ∧ p.last < 8 ∧
           p.addr % 2 ^ 32 + p.wcnt / 8 < 2 ^ 26 ∧
           ∀ i : Nat, i < p.wcnt / 8 + 1 → (keepArea (p.addr % 2 ^ 32 + i)).1 ≠ .spare
    let waitsBehind := s.mustWait p = true
    decide ((isWrite) ∧ (keeps) ∧ (full) ∧ (s.domSt 3 = 1) ∧ (¬waitsBehind))) (at_ [(0x2043, 1, 1)])
        ({ cmd := 2, dest := 0x090, src := 0x15F, wcnt := 31, last := 7, addr := 2 ^ 26 - 4, units := List.replicate 16 0 })
        = true ∧
    (fun (s : State) (p : Packet) =>
    let n := p.dest
    let isWrite := p.cmd = 0x02
    let full := p.units.length = (p.wcnt + 2) / 2
    let keeps := n = 0x090 ∧ 0x158 ≤ p.src ∧ p.src ≤ 0x15F ∧ p.wcnt < 32 ∧ p.last < 8 ∧
           p.addr % 2 ^ 32 + p.wcnt / 8 < 2 ^ 26 ∧
           ∀ i : Nat, i < p.wcnt / 8 + 1 → (keepArea (p.addr % 2 ^ 32 + i)).1 ≠ .spare
    let waitsBehind := s.mustWait p = true
    decide ((isWrite) ∧ (keeps) ∧ (full) ∧ ((s.domSt 3 ≠ 1 ∨ waitsBehind)))) (at_ [(0x2043, 1, 2)])
        ({ cmd := 2, dest := 0x090, src := 0x15F, wcnt := 31, last := 7, addr := 2 ^ 26 - 4, units := List.replicate 16 0 })
        = true ∧
    (fun (s : State) (p : Packet) =>
    let n := p.dest
    let isWrite := p.cmd = 0x02
    let closed := n < 64 ∧ s.rd (0x6060 + n) 0x01 ≠ 0
    let named := n < 64 ∧ packetRangeOk p = true ∧ p.addr / 2 ^ 23 % 64 = n
    let full := p.units.length = (p.wcnt + 2) / 2
    let keeps := n = 0x090 ∧ 0x158 ≤ p.src ∧ p.src ≤ 0x15F ∧ p.wcnt < 32 ∧ p.last < 8 ∧
           p.addr % 2 ^ 32 + p.wcnt / 8 < 2 ^ 26 ∧
           ∀ i : Nat, i < p.wcnt / 8 + 1 → (keepArea (p.addr % 2 ^ 32 + i)).1 ≠ .spare
    decide ((isWrite) ∧ (¬closed) ∧ (¬(named ∧ full)) ∧ (¬(keeps ∧ full)))) up
        ({ cmd := 2, dest := 0x090, src := 0x15F, addr := 2 ^ 26 }) = true ∧
    (fun (s : State) (p : Packet) =>
    let n := p.dest
    let closed := n < 64 ∧ s.rd (0x6060 + n) 0x01 ≠ 0
    decide (((p.cmd = 0 ∨ 4 < p.cmd)) ∧ (p.cmd < 0x80) ∧ (closed))) (at_ [(0x6060 + 63, 1, 1)])
        ({ cmd := 5, dest := 63 }) = true ∧
    (fun (s : State) (p : Packet) =>
    let n := p.dest
    let closed := n < 64 ∧ s.rd (0x6060 + n) 0x01 ≠ 0
    decide (((p.cmd = 0 ∨ 4 < p.cmd)) ∧ (p.cmd < 0x80) ∧ (¬closed))) (at_ [(0x6060 + 63, 1, 0)])
        ({ dest := 63, addr := 63 * 2 ^ 23 + 16383 * 8, last := 7 }) = true ∧
    (fun (s : State) (p : Packet) (k : Nat) =>
    let isMessage := p.cmd = 0x03
    let sized := p.units ≠ [] ∧ p.units.length ≤ 16 ∧ p.addr < 2 ^ 16
    let queued := s.heldReqs.any (fun x => x.packet.dest = p.dest) = true
    let room := (s.kernel k).inbox.length < 16
    decide ((isMessage) ∧ (nodeKernel p.dest = some k) ∧ (k < 80) ∧ (sized) ∧ (¬queued) ∧ (room))) up
        ({ cmd := 3, dest := kernelNode 79, addr := 2 ^ 16 - 1, units := List.replicate 16 0 }) 79 = true ∧
    (fun (s : State) (p : Packet) (k : Nat) =>
    let isMessage := p.cmd = 0x03
    let sized := p.units ≠ [] ∧ p.units.length ≤ 16 ∧ p.addr < 2 ^ 16
    let queued := s.heldReqs.any (fun x => x.packet.dest = p.dest) = true
    decide ((isMessage) ∧ (nodeKernel p.dest = some k) ∧ (80 ≤ k) ∧ (sized) ∧ (¬queued))) up
        ({ cmd := 3, dest := kernelNode 93, units := [0] }) 93 = true ∧
    (fun (s : State) (p : Packet) (k : Nat) =>
    let isMessage := p.cmd = 0x03
    let sized := p.units ≠ [] ∧ p.units.length ≤ 16 ∧ p.addr < 2 ^ 16
    let queued := s.heldReqs.any (fun x => x.packet.dest = p.dest) = true
    let room := (s.kernel k).inbox.length < 16
    decide ((isMessage) ∧ (nodeKernel p.dest = some k) ∧ (sized) ∧ ((queued ∨ k < 80 ∧ ¬room))))
        ({ up with kernels := [(79, { inbox := List.replicate 16 {} })] })
        ({ cmd := 3, dest := kernelNode 79, units := [0] }) 79 = true ∧
    (fun (p : Packet) (k : Nat) =>
    let isMessage := p.cmd = 0x03
    let sized := p.units ≠ [] ∧ p.units.length ≤ 16 ∧ p.addr < 2 ^ 16
    decide ((isMessage) ∧ (nodeKernel p.dest = some k) ∧ (¬sized))) ({ cmd := 3, dest := kernelNode 93 }) 93 = true ∧
    (fun (s : State) (p : Packet) =>
    let isMessage := p.cmd = 0x03
    let closed := p.dest < 64 ∧ s.rd (0x6060 + p.dest) 0x01 ≠ 0
    decide ((isMessage) ∧ (nodeKernel p.dest = none) ∧ (¬closed))) up
        ({ cmd := 3, dest := 63, addr := 63 * 2 ^ 23 + 16383 * 8, last := 7 }) = true ∧
    (fun (s : State) (p : Packet) =>
    let isMessage := p.cmd = 0x03
    let closed := p.dest < 64 ∧ s.rd (0x6060 + p.dest) 0x01 ≠ 0
    decide ((closed) ∧ (isMessage))) (at_ [(0x6060 + 63, 1, 1)]) ({ cmd := 3, dest := 63 }) = true ∧
    (fun (s : State) (p : Packet) =>
    let isRetrieval := p.cmd = 0x04
    let closed := p.dest < 64 ∧ s.rd (0x6060 + p.dest) 0x01 ≠ 0
    decide ((closed) ∧ (isRetrieval))) (at_ [(0x6060 + 63, 1, 2)]) ({ cmd := 4, dest := 63 }) = true ∧
    (fun (p : Packet) =>
    let isRetrieval := p.cmd = 0x04
    let toLookback := 0x080 ≤ p.dest ∧ p.dest ≤ 0x087 ∧ p.units.length = 1
    decide ((isRetrieval) ∧ (toLookback))) ({ cmd := 4, dest := 0x087, units := [0] }) = true ∧
    (fun (s : State) (p : Packet) =>
    let isRetrieval := p.cmd = 0x04
    let closed := p.dest < 64 ∧ s.rd (0x6060 + p.dest) 0x01 ≠ 0
    let toLookback := 0x080 ≤ p.dest ∧ p.dest ≤ 0x087 ∧ p.units.length = 1
    decide ((isRetrieval) ∧ (¬closed) ∧ (¬toLookback))) up ({ cmd := 4, dest := 63 }) = true ∧
    (fun (s : State) (p : Packet) (node : Nat) (tag : Nat) =>
    let found := s.outReqs.find? (fun z => z.node = p.dest ∧ z.tag = p.tag ∧ z.dest = p.src ∧ z.sent)
    decide ((0x80 ≤ p.cmd) ∧ (found = none))) up ({ cmd := 0x81, dest := kernelNode 79 }) 0 0 = true ∧
    (fun (s : State) (p : Packet) =>
    decide ((0x80 ≤ p.cmd) ∧ (p.dest < 64) ∧ (s.rd (0x6060 + p.dest) 0x01 = 2))) (at_ [(0x6060 + 63, 1, 2)])
        ({ cmd := 0x80, dest := 63 }) = true ∧
    (fun (s : State) (p : Packet) (node : Nat) (tag : Nat) (q : OutReq) =>
    let found := s.outReqs.find? (fun z => z.node = p.dest ∧ z.tag = p.tag ∧ z.dest = p.src ∧ z.sent)
    let ends := 0x80 ≤ p.cmd ∧ p.last / 4 % 2 = 1
    let noneWaits := ∀ z ∈ s.outReqs, z.node = p.dest → z.dest = p.src → z.sent = true
    decide ((ends) ∧ (found = some q) ∧ ((q.stale = true ∨ userKernelOf p.dest = none ∧ p.dest ≠ 0x050)) ∧ (noneWaits)
        ∧ ((64 ≤ p.dest ∨ s.rd (0x6060 + p.dest) 0x01 ≠ 2))))
        ({ up with outReqs := [{ node := kernelNode 79, dest := 5, tag := 3, cmd := 1, stale := true }] })
        ({ dest := kernelNode 79, src := 5, cmd := 0x81, tag := 3, last := 4 }) 0 0
        ({ node := kernelNode 79, dest := 5, tag := 3, cmd := 1, stale := true }) = true ∧
    (fun (s : State) (p : Packet) (node : Nat) (tag : Nat) (q : OutReq) =>
    let found := s.outReqs.find? (fun z => z.node = p.dest ∧ z.tag = p.tag ∧ z.dest = p.src ∧ z.sent)
    decide ((0x80 ≤ p.cmd) ∧ (p.last / 4 % 2 = 0) ∧ (found = some q) ∧ ((q.stale = true ∨ userKernelOf p.dest = none ∧
        p.dest ≠ 0x050)) ∧ ((64 ≤ p.dest ∨ s.rd (0x6060 + p.dest) 0x01 ≠ 2))))
        ({ up with outReqs := [{ node := 5, dest := 63, tag := 3, cmd := 1 }] })
        ({ dest := 5, src := 63, cmd := 0x81, tag := 3 }) 0 0 ({ node := 5, dest := 63, tag := 3, cmd := 1 }) = true ∧
    (fun (s : State) (p : Packet) (k : Nat) (node : Nat) (tag : Nat) (q : OutReq) =>
    let found := s.outReqs.find? (fun z => z.node = p.dest ∧ z.tag = p.tag ∧ z.dest = p.src ∧ z.sent)
    let ends := 0x80 ≤ p.cmd ∧ p.last / 4 % 2 = 1
    let noneWaits := ∀ z ∈ s.outReqs, z.node = p.dest → z.dest = p.src → z.sent = true
    decide ((ends) ∧ (found = some q) ∧ (q.stale = false) ∧ (noneWaits) ∧ (nodeKernel p.dest = some k) ∧ (k < 80) ∧
        (p.units = []) ∧ (q.excess = false)))
        ({ up with outReqs := [{ node := kernelNode 79, dest := 5, tag := 3, cmd := 1 }] })
        ({ dest := kernelNode 79, src := 5, cmd := 0x81, tag := 3, last := 4 }) 79 0 0
        ({ node := kernelNode 79, dest := 5, tag := 3, cmd := 1 }) = true ∧
    (fun (s : State) (k : Nat) (node : Nat) (tag : Nat) (q : OutReq) =>
    let late := s.outReqs.find? (fun z => z.node = node ∧ z.tag = tag ∧ z.sent)
    decide ((late = some q) ∧ (nodeKernel node = some k) ∧ (k < 80) ∧ (q.stale = false)))
        ({ up with outReqs := [{ node := kernelNode 79, dest := 5, tag := 3, cmd := 1 }] }) 79 (kernelNode 79) 3
        ({ node := kernelNode 79, dest := 5, tag := 3, cmd := 1 }) = true ∧
    (fun (s : State) (node : Nat) (tag : Nat) (q : OutReq) =>
    let late := s.outReqs.find? (fun z => z.node = node ∧ z.tag = tag ∧ z.sent)
    decide ((late = some q) ∧ ((q.stale = true ∧ (userKernelOf node).isSome = true ∨ userKernelOf node = none ∧ node ≠
        0x050)))) ({ up with outReqs := [{ node := 5, dest := 63, tag := 3, cmd := 1 }] }) 5 3
        ({ node := 5, dest := 63, tag := 3, cmd := 1 }) = true ∧
    (fun (s : State) (node : Nat) (tag : Nat) (q : OutReq) =>
    let late := s.outReqs.find? (fun z => z.node = node ∧ z.tag = tag ∧ z.sent)
    decide ((late = some q) ∧ (node = 0x050)))
        ({ up with outReqs := [{ node := 0x050, dest := 63, tag := 3, cmd := 1 }] }) 0x050 3
        ({ node := 0x050, dest := 63, tag := 3, cmd := 1 }) = true ∧
    (fun (s : State) (node : Nat) (tag : Nat) =>
    let late := s.outReqs.find? (fun z => z.node = node ∧ z.tag = tag ∧ z.sent)
    decide ((late = none))) (at_ [(0x6060 + 63, 1, 0)]) 0 0 = true := by
  refine ⟨?_, ?_, ?_, ?_, ?_, ?_, ?_, ?_, ?_, ?_, ?_, ?_, ?_, ?_, ?_, ?_, ?_, ?_, ?_, ?_, ?_, ?_, ?_, ?_, ?_, ?_, ?_,
      ?_, ?_, ?_, ?_, ?_⟩ <;> decide +kernel

/-- States and operands that meet the hypotheses of each clause of HostInterface. -/
theorem witness_HostInterface :
    (fun (s : State) (reg : Nat) =>
    decide ((reg < 1024) ∧ (s.startup.firmware = false))) State.reset 0 = true ∧
    (fun (s : State) (reg : Nat) =>
    decide ((reg < 1024) ∧ (s.startup.firmware = true))) up 1 = true ∧
    (fun (offset : Nat) =>
    decide ((offset + 4 ≤ 2 ^ 31))) 0 = true ∧
    (fun (s : State) (offset : Nat) (dws : Nat) (a : Nat) (en : Nat) (be : BitVec 4) (le : BitVec 4) (route : BitVec
        32) (d : Nat → Byte) =>
    let reads := offset + 4 * dws ≤ 2 ^ 31 ∧ s.bar4Held = []
    let n := a / 2 ^ 23 % 64
    let bank := addrBank a
    let w := addrWord a
    let routed := s.missesPort 0x050 n route = none ∧ s.missesPort n 0x050 (s.responseRoute n 0x050) = none
    decide ((reads) ∧ (be ≠ 0) ∧ (splitAccesses (bar4Words offset be le dws) = [[(a, en)]]) ∧ (s.requestStatus 0x050 n
        = (0, route)) ∧ (routed) ∧ (s.bar4May n = true) ∧ (s.openBlock bank false (addrView a) = 0) ∧ (openPops
        (s.descriptor bank) = false) ∧ ((∀ k : Nat, k < 8 → en.testBit k = true → s.bankByte (byteKey bank w k) =
        cleanByte (d k) (w * 8 + k)))))
        ({ at_ [(0x5000 + 63, 0x0C, 0)] with bundle := some { legal with routes := [{ node := 0x050, dest := 63, primary := 0xFFFFFF03 }, { node := 63, dest := 0x050, primary := 0xFFFFFF41 }], credits := [{ node := 0x050, dest := 63, count := 1 }] }, bankMem := (List.range 4).map (fun k => (byteKey (63 * 64 + 63) 16383 k, cleanByte 0xAB (16383 * 8 + k))) })
        (63 * 2 ^ 23 + 63 * 131072 + 16383 * 8) 1 (63 * 2 ^ 23 + 63 * 131072 + 16383 * 8) 15 15 0 0xFFFFFF03 (fun _ =>
        0xAB) = true ∧
    (fun (s : State) (offset : Nat) (dws : Nat) (a : Nat) (en : Nat) (be : BitVec 4) (le : BitVec 4) =>
    let reads := offset + 4 * dws ≤ 2 ^ 31 ∧ s.bar4Held = []
    let n := a / 2 ^ 23 % 64
    decide ((reads) ∧ (be ≠ 0) ∧ (splitAccesses (bar4Words offset be le dws) = [[(a, en)]]) ∧ ((s.requestStatus 0x050
        n).1 ≠ 0))) (at_ [(0x6060 + 63, 1, 1)]) (63 * 2 ^ 23 + 63 * 131072 + 16383 * 8) 1 (63 * 2 ^ 23 + 63 * 131072 +
        16383 * 8) 15 15 0 = true ∧
    (fun (s : State) (offset : Nat) (dws : Nat) (a : Nat) (en : Nat) (be : BitVec 4) (le : BitVec 4) (route : BitVec
        32) =>
    let reads := offset + 4 * dws ≤ 2 ^ 31 ∧ s.bar4Held = []
    let n := a / 2 ^ 23 % 64
    decide ((reads) ∧ (be ≠ 0) ∧ (splitAccesses (bar4Words offset be le dws) = [[(a, en)]]) ∧ (s.requestStatus 0x050 n
        = (0, route)) ∧ (s.bar4May n = false)))
        ({ at_ [(0x5000 + 63, 0x0C, 0)] with bundle := some { legal with routes := [{ node := 0x050, dest := 63, primary := 0xFFFFFF03 }], credits := [{ node := 0x050, dest := 63, count := 0 }] } })
        (63 * 2 ^ 23 + 63 * 131072 + 16383 * 8) 1 (63 * 2 ^ 23 + 63 * 131072 + 16383 * 8) 15 15 0 0xFFFFFF03 = true ∧
    (fun (s : State) (offset : Nat) (a : Nat) (en : Nat) (be : BitVec 4) (le : BitVec 4) (data : List (BitVec 32))
        (route : BitVec 32) =>
    let writes := offset + 4 * data.length ≤ 2 ^ 31 ∧ s.bar4Held = []
    let n := a / 2 ^ 23 % 64
    let bank := addrBank a
    let routed := s.missesPort 0x050 n route = none ∧ s.missesPort n 0x050 (s.responseRoute n 0x050) = none
    decide ((writes) ∧ (splitAccesses ((bar4Words offset be le data.length).filter (fun y => y.2 ≠ 0)) = [[(a, en)]])
        ∧ (s.requestStatus 0x050 n = (0, route)) ∧ (routed) ∧ (s.bar4May n = true) ∧ (s.openBlock bank true (addrView
        a) = 0) ∧ (addrView a = 0)))
        ({ at_ [(0x5000 + 63, 0x0C, 0)] with bundle := some { legal with routes := [{ node := 0x050, dest := 63, primary := 0xFFFFFF03 }, { node := 63, dest := 0x050, primary := 0xFFFFFF41 }], credits := [{ node := 0x050, dest := 63, count := 1 }] } })
        (63 * 2 ^ 23 + 63 * 131072 + 16383 * 8) (63 * 2 ^ 23 + 63 * 131072 + 16383 * 8) 15 15 0 ([5]) 0xFFFFFF03 =
        true ∧
    (fun (s : State) (offset : Nat) (a : Nat) (en : Nat) (be : BitVec 4) (le : BitVec 4) (data : List (BitVec 32)) =>
    let writes := offset + 4 * data.length ≤ 2 ^ 31 ∧ s.bar4Held = []
    let n := a / 2 ^ 23 % 64
    decide ((writes) ∧ (splitAccesses ((bar4Words offset be le data.length).filter (fun y => y.2 ≠ 0)) = [[(a, en)]])
        ∧ ((s.requestStatus 0x050 n).1 ≠ 0))) (at_ [(0x6060 + 63, 1, 1)]) (63 * 2 ^ 23 + 63 * 131072 + 16383 * 8) (63
        * 2 ^ 23 + 63 * 131072 + 16383 * 8) 15 15 0 ([5]) = true ∧
    (fun (s : State) (offset : Nat) (len : Nat) =>
    decide ((offset + len ≤ 2 ^ 41) ∧ (s.lbif.isSome = true))) ({ up with lbif := some {} }) 0 0 = true ∧
    (fun (s : State) (offset : Nat) (len : Nat) =>
    let x := s.fresh.readLine (offset / 2 ^ 38) (offset / 64 % 2 ^ 32)
    let inLine := offset % 64 + len ≤ 64 ∧ 0 < len ∧ offset + len ≤ 2 ^ 41 ∧ s.lbif = none
    let ready := s.rd 0x5801 (offset / 2 ^ 38 + 1) = 2
    decide ((inLine) ∧ (ready) ∧ (x.1 ≠ lnUncorrectable) ∧ (x.1 ≠ lnAddressFault))) ((at_ [(0x5801, 8, 2)]).setLine 7
        (2 ^ 32 - 1) (encodeLine (2 ^ 32 - 1) (List.replicate 64 0x5A))) (2 ^ 41 - 64) 64 = true ∧
    (fun (s : State) (offset : Nat) (len : Nat) =>
    let x := s.fresh.readLine (offset / 2 ^ 38) (offset / 64 % 2 ^ 32)
    let inLine := offset % 64 + len ≤ 64 ∧ 0 < len ∧ offset + len ≤ 2 ^ 41 ∧ s.lbif = none
    let ready := s.rd 0x5801 (offset / 2 ^ 38 + 1) = 2
    decide ((inLine) ∧ (ready) ∧ ((x.1 = lnUncorrectable ∨ x.1 = lnAddressFault))))
        ({ at_ [(0x5801, 8, 2)] with lines := [(lineKey 7 0, some (encodeLine 1 (List.replicate 64 0xA5)))] }) (7 * 2
        ^ 38) 64 = true ∧
    (fun (s : State) (offset : Nat) (len : Nat) =>
    let inLine := offset % 64 + len ≤ 64 ∧ 0 < len ∧ offset + len ≤ 2 ^ 41 ∧ s.lbif = none
    let ready := s.rd 0x5801 (offset / 2 ^ 38 + 1) = 2
    decide ((inLine) ∧ (¬ready))) up (2 ^ 41 - 64) 64 = true ∧
    (fun (s : State) (v : Nat) (entry : BitVec 128) =>
    let pends := s.msixPend.contains v = true
    let held := s.msixHold.contains v = true
    let masked := entry.getLsbD 96 = true
    decide ((v < 512) ∧ (pends) ∧ (¬held) ∧ (¬masked))) ({ up with msixPend := [511] }) 511 5 = true ∧
    (fun (s : State) (v : Nat) (entry : BitVec 128) =>
    let pends := s.msixPend.contains v = true
    let held := s.msixHold.contains v = true
    let masked := entry.getLsbD 96 = true
    decide ((v < 512) ∧ ((¬pends ∨ held ∨ masked)))) State.reset 0 0 = true ∧
    (fun (s : State) (v : Nat) (entry : BitVec 128) =>
    let pends := s.msixPend.contains v = true
    let masked := entry.getLsbD 96 = true
    decide ((v < 512) ∧ ((¬pends ∨ masked)))) State.reset 0 0 = true ∧
    (fun (s : State) (speed : Nat) (width : Nat) (payload : Nat) (corr : Nat) (uncorr : Nat) =>
    let trained := linkOk speed width payload = true ∧ s.rd 0x6100 0x07 + corr < 2 ^ 32 ∧
          s.rd 0x6100 0x08 + uncorr < 2 ^ 32
    decide ((trained) ∧ (16 ≤ width) ∧ (s.rd 0x6100 0x04 ≤ speed) ∧ (uncorr = 0))) (at_ [(0x6100, 4, 5), (0x6100, 7, 2
        ^ 32 - 2)]) 5 16 512 1 0 = true ∧
    (fun (s : State) (speed : Nat) (width : Nat) (payload : Nat) (corr : Nat) (uncorr : Nat) =>
    let trained := linkOk speed width payload = true ∧ s.rd 0x6100 0x07 + corr < 2 ^ 32 ∧
          s.rd 0x6100 0x08 + uncorr < 2 ^ 32
    decide ((trained) ∧ ((width < 16 ∨ speed < s.rd 0x6100 0x04)))) (at_ [(0x6100, 4, 5)]) 5 8 128 0 0 = true ∧
    (fun (s : State) (speed : Nat) (width : Nat) (payload : Nat) (corr : Nat) (uncorr : Nat) =>
    let trained := linkOk speed width payload = true ∧ s.rd 0x6100 0x07 + corr < 2 ^ 32 ∧
          s.rd 0x6100 0x08 + uncorr < 2 ^ 32
    decide ((trained) ∧ (0 < uncorr))) (at_ [(0x6100, 4, 5), (0x6100, 8, 2 ^ 32 - 2)]) 5 16 512 0 1 = true ∧
    (fun (kind : Nat) =>
    decide ((kind < 4))) 0 = true := by
  refine ⟨?_, ?_, ?_, ?_, ?_, ?_, ?_, ?_, ?_, ?_, ?_, ?_, ?_, ?_, ?_, ?_, ?_, ?_, ?_⟩ <;> decide +kernel

set_option maxRecDepth 100000 in
/-- States and operands that meet the hypotheses of each clause of Readout. -/
theorem witness_Readout :
    (fun (s : State) (r : Requester) (e : Nat) (token : Word64) =>
    let k := s.kernel (64 + e)
    let triggered := s.mayWrite r (0x6140 + e) 0x04 token.toNat = true
    decide ((e < 16) ∧ (triggered) ∧ (token.extractLsb' 48 4 = 0) ∧ (k.triggers.length < 64))) up (.mailbox 0) 15 5 =
        true ∧
    (fun (s : State) (r : Requester) (e : Nat) (token : Word64) =>
    let k := s.kernel (64 + e)
    let triggered := s.mayWrite r (0x6140 + e) 0x04 token.toNat = true
    decide ((e < 16) ∧ (triggered) ∧ (token.extractLsb' 48 4 = 0) ∧ (64 ≤ k.triggers.length)))
        ({ up with kernels := [(79, { triggers := List.replicate 64 (1, 2) })] }) (.mailbox 0) 15 0 = true ∧
    (fun (s : State) (r : Requester) (e : Nat) (token : Word64) =>
    let triggered := s.mayWrite r (0x6140 + e) 0x04 token.toNat = true
    decide ((e < 16) ∧ (triggered) ∧ (token.extractLsb' 48 4 ≠ 0))) up (.mailbox 0) 15 (1#64 <<< 48) = true ∧
    (fun (s : State) (r : Requester) (e : Nat) (p : BitVec 32) =>
    let produced := s.mayWrite r (0x6120 + e) 0x03 p.toNat = true
    decide ((e < 16) ∧ (produced) ∧ ((p.toNat + 2 ^ 32 - s.engC e) % 2 ^ 32 ≤ s.engN e) ∧ (s.bufferFull e = false)))
        up (.mailbox 0) 15 0 = true ∧
    (fun (s : State) (r : Requester) (e : Nat) (p : BitVec 32) =>
    let produced := s.mayWrite r (0x6120 + e) 0x03 p.toNat = true
    decide ((e < 16) ∧ (produced) ∧ (s.engN e < (p.toNat + 2 ^ 32 - s.engC e) % 2 ^ 32))) (at_ [(0x612F, 2, 16)])
        (.mailbox 0) 15 17 = true ∧
    (fun (s : State) (r : Requester) (e : Nat) =>
    let commanded := fun v => s.mayWrite r (0x6120 + e) 0x05 v = true
    decide ((e < 16) ∧ (commanded 1) ∧ (s.engState e = 0) ∧ (ringSizeOk (s.engN e) = true))) (at_ [(0x612F, 2, 16)])
        (.mailbox 0) 15 = true ∧
    (fun (s : State) (r : Requester) (e : Nat) =>
    let runs := s.engState e = 1 ∨ s.engState e = 2
    let commanded := fun v => s.mayWrite r (0x6120 + e) 0x05 v = true
    decide ((e < 16) ∧ (commanded 1) ∧ (runs))) (at_ [(0x612F, 6, 2)]) (.mailbox 0) 15 = true ∧
    (fun (s : State) (r : Requester) (e : Nat) =>
    let commanded := fun v => s.mayWrite r (0x6120 + e) 0x05 v = true
    decide ((e < 16) ∧ (commanded 1) ∧ ((s.engState e = 3 ∨ (s.engState e = 0 ∧ ringSizeOk (s.engN e) = false))))) up
        (.mailbox 0) 15 = true ∧
    (fun (s : State) (r : Requester) (e : Nat) =>
    let runs := s.engState e = 1 ∨ s.engState e = 2
    let commanded := fun v => s.mayWrite r (0x6120 + e) 0x05 v = true
    decide ((e < 16) ∧ (commanded 2) ∧ (runs))) (at_ [(0x612F, 6, 2)]) (.mailbox 0) 15 = true ∧
    (fun (s : State) (r : Requester) (e : Nat) =>
    let runs := s.engState e = 1 ∨ s.engState e = 2
    let commanded := fun v => s.mayWrite r (0x6120 + e) 0x05 v = true
    decide ((e < 16) ∧ (commanded 2) ∧ (¬runs))) up (.mailbox 0) 15 = true ∧
    (fun (s : State) (r : Requester) (e : Nat) =>
    let commanded := fun v => s.mayWrite r (0x6120 + e) 0x05 v = true
    decide ((e < 16) ∧ (commanded 3) ∧ (s.engState e = 3))) (at_ [(0x612F, 6, 3)]) (.mailbox 0) 15 = true ∧
    (fun (s : State) (r : Requester) (e : Nat) =>
    let commanded := fun v => s.mayWrite r (0x6120 + e) 0x05 v = true
    decide ((e < 16) ∧ (commanded 3) ∧ (s.engState e ≠ 3))) up (.mailbox 0) 15 = true ∧
    (fun (s : State) (e : Nat) (a : Nat) (sz : Nat) (fill : Nat) (f : List Byte) (rest : List (List Byte)) =>
    let x := s.engine e
    let runs := s.engState e = 1 ∨ s.engState e = 2
    decide ((e < 16) ∧ (runs) ∧ (x.held = f :: rest) ∧ (x.buf = some (a, sz, fill)) ∧ (fill + f.length ≤ sz) ∧ (0 <
        f.length)))
        ({ at_ [(0x612F, 6, 1)] with engines := [(15, { held := [[1, 2], [3]], buf := some (4096, 64, 62) })] }) 15
        4096 64 62 ([1, 2]) ([[3]]) = true ∧
    (fun (s : State) (e : Nat) (f : List Byte) (rest : List (List Byte)) (addr : Word64) (size : BitVec 32) =>
    let x := s.engine e
    let runs := s.engState e = 1 ∨ s.engState e = 2
    decide ((e < 16) ∧ (runs) ∧ (x.held = f :: rest) ∧ (x.buf = none) ∧ (s.engFree e = true) ∧ (addr.toNat % 64 = 0) ∧
        (size.toNat % 64 = 0) ∧ (4096 ≤ size.toNat) ∧ (size.toNat ≤ 16777216) ∧ (f.length ≤ size.toNat)))
        ({ at_ [(0x612F, 6, 1), (0x612F, 2, 16), (0x612F, 3, 1)] with engines := [(15, { held := [[1, 2]] })] }) 15
        ([1, 2]) ([]) 4096 4096 = true ∧
    (fun (s : State) (e : Nat) =>
    let x := s.engine e
    let runs := s.engState e = 1 ∨ s.engState e = 2
    decide ((e < 16) ∧ ((¬runs ∨ x.held = [])))) up 15 = true ∧
    (fun (s : State) (e : Nat) (a : Nat) (sz : Nat) (fill : Nat) =>
    let x := s.engine e
    decide ((e < 16) ∧ (x.buf = some (a, sz, fill)) ∧ (0 < fill)))
        ({ at_ [(0x612F, 6, 1)] with engines := [(15, { held := [[1, 2], [3]], buf := some (4096, 64, 62) })] }) 15
        4096 64 62 = true ∧
    (fun (s : State) (e : Nat) (a : Nat) (sz : Nat) =>
    let x := s.engine e
    decide ((e < 16) ∧ ((x.buf = none ∨ x.buf = some (a, sz, 0))))) up 15 0 0 = true ∧
    (fun (s : State) (e : Nat) (f : List Byte) =>
    let lane := s.rd (0x6160 + e) 0x01
    let queue := Sparse.get (fun _ => []) s.readoutQueue e
    let used := (queue.map List.length).foldl (fun i j => i + j) 0
    decide ((e < 16) ∧ (lane ≠ 0xFFFF) ∧ (used + f.length ≤ 262144) ∧ ((512 ≤ lane ∨ s.txSends lane = false)))) (at_
        [(0x616F, 1, 5)]) 15 ([1, 2]) = true ∧
    (fun (s : State) (e : Nat) (f : List Byte) =>
    let lane := s.rd (0x6160 + e) 0x01
    let queue := Sparse.get (fun _ => []) s.readoutQueue e
    decide ((e < 16) ∧ (lane < 512) ∧ (s.txSends lane = true) ∧ (queue = []) ∧ (f.length ≤ 262144))) (at_ [(0x616F, 1,
        5), (0x3105, 0x13, 1)]) 15 ([1, 2]) = true ∧
    (fun (s : State) (e : Nat) (f : List Byte) =>
    let lane := s.rd (0x6160 + e) 0x01
    let queue := Sparse.get (fun _ => []) s.readoutQueue e
    let used := (queue.map List.length).foldl (fun i j => i + j) 0
    (e < 16) ∧ (lane ≠ 0xFFFF) ∧ (262144 < used + f.length)) (at_ [(0x616F, 1, 5)]) 15 (List.replicate 262145 0) ∧
    (fun (s : State) (e : Nat) =>
    let lane := s.rd (0x6160 + e) 0x01
    decide ((e < 16) ∧ (lane = 0xFFFF))) up 15 = true := by
  refine ⟨?_, ?_, ?_, ?_, ?_, ?_, ?_, ?_, ?_, ?_, ?_, ?_, ?_, ?_, ?_, ?_, ?_, ?_, ?_, ⟨by decide +kernel,
      by decide +kernel,
      by show 262144 < _ + (List.replicate 262145 (0 : Byte)).length; rw [List.length_replicate]; decide +kernel⟩, ?_⟩
      <;> decide +kernel

/-- States and operands that meet the hypotheses of each clause of StandardReadout. -/
theorem witness_StandardReadout :
    (fun (u : BitVec 128) =>
    let kind := u.toNat / 2 ^ 124
    decide ((kind = 0))) 0 = true ∧
    (fun (u : BitVec 128) =>
    let kind := u.toNat / 2 ^ 124
    decide ((3 ≤ kind))) (3#128 <<< 124) = true ∧
    (fun (u : BitVec 128) =>
    let kind := u.toNat / 2 ^ 124
    decide ((kind = 1))) (1#128 <<< 124) = true ∧
    (fun (u : BitVec 128) =>
    let kind := u.toNat / 2 ^ 124
    decide ((kind = 2))) (2#128 <<< 124) = true ∧
    (fun (got : List Byte) =>
    decide (((got.getD 7 0).toNat ≤ 4))) ([]) = true ∧
    (fun (got : List Byte) =>
    decide ((5 ≤ (got.getD 7 0).toNat))) ([0, 0, 0, 0, 0, 0, 0, 5]) = true ∧
    (fun (wcnt : Nat) =>
    decide ((wcnt < 16))) 0 = true ∧
    (fun (s : State) (r : Requester) (e : Nat) (token : Word64) =>
    let x := s.kernel (64 + e)
    let kind := bytesNat (s.kbytes (64 + e) (0x00100000 + 512 * (token.extractLsb' 52 4).toNat) 16) / 2 ^ 124
    decide ((e < 16) ∧ (s.mayWrite r (0x6140 + e) 0x04 token.toNat = true) ∧ (token.extractLsb' 48 4 = 0) ∧ (s.quiet =
        true) ∧ (s.rd (0x6810 + (64 + e)) 0x01 = 1) ∧ (x.std = true) ∧ (x.job = none) ∧ (x.triggers = []) ∧ (x.cqHead
        = x.cqTail) ∧ (x.stageOwned + 32 ≤ 1048576) ∧ (s.engState e = 1) ∧ (s.engFree e = true) ∧ ((kind = 0 ∨ 3 ≤
        kind))))
        ({ at_ [(0x6810 + 79, 1, 1), (0x612F, 6, 1), (0x612F, 2, 16), (0x612F, 3, 1)] with kernels := [(79, { std := true })] })
        (.mailbox 0) 15 5 = true := by
  refine ⟨?_, ?_, ?_, ?_, ?_, ?_, ?_, ?_⟩ <;> decide +kernel

/-- States and operands that meet the hypotheses of each clause of DictionaryWrites. -/
theorem witness_DictionaryWrites :
    (fun (s : State) (r : Requester) (idx : Nat) (sub : Nat) (bytes : List Byte) =>
    decide ((s.mayStore r idx sub bytes = true))) up (.mailbox 0) 0x4003 2 ([0, 0x10, 0, 0, 0, 0, 0, 0]) = true ∧
    (fun (s : State) (r : Requester) (idx : Nat) (sub : Nat) (bytes : List Byte) (row : Row) =>
    let n := bytesNat bytes
    decide ((s.mayWrite r idx sub n = true) ∧ (idx < 0xA000) ∧ (sub < 256) ∧ (rowOf idx sub = some row) ∧ (row.acc =
        .rwr) ∧ (lengthOk row.ty bytes.length = true) ∧ (typeOk row.ty n = true) ∧ (s.rangeOk row.rng n = true) ∧
        (s.valueOk idx sub n = true) ∧ (s.stateOk idx sub n = true))) up (.mailbox 0) 0x4005 4 ([100, 0])
        ({ idx := 0x4005, sub := 4, ty := .u 2, acc := .rwr, persist := true, dflt := .const 10, rng := .range 1 100 })
        = true ∧
    (fun (s : State) (r : Requester) (idx : Nat) (sub : Nat) =>
    decide ((requesterOk r = true) ∧ (s.answers r = true) ∧ (idx < 65536) ∧ (sub < 256) ∧ (s.entryRow idx sub =
        none))) up (.mailbox 0) 65535 255 = true ∧
    (fun (s : State) (r : Requester) (idx : Nat) (sub : Nat) (bytes : List Byte) (row : Row) =>
    let n := bytesNat bytes
    decide ((requesterOk r = true) ∧ (s.answers r = true) ∧ (idx < 65536) ∧ (sub < 256) ∧ (s.entryRow idx sub = some
        row) ∧ (s.writeCode r row idx sub n false ≠ 0))) up (.mailbox 0) 0x4000 0 ([1])
        ({ idx := 0x4000, sub := 0x00, ty := .u 1, acc := .ro }) = true ∧
    (fun (s : State) (r : Requester) (idx : Nat) (sub : Nat) (bytes : List Byte) (row : Row) =>
    let n := bytesNat bytes
    decide ((s.mayWrite r idx sub n = true) ∧ (idx < 0xA000) ∧ (sub < 256) ∧ (rowOf idx sub = some row) ∧ (lengthOk
        row.ty bytes.length = false))) up (.mailbox 0) 0x4003 2 ([1])
        ({ idx := 0x4003, sub := 2, ty := .u 8, acc := .rw }) = true ∧
    (fun (s : State) (r : Requester) (idx : Nat) (sub : Nat) (bytes : List Byte) (row : Row) =>
    let n := bytesNat bytes
    decide ((s.mayWrite r idx sub n = true) ∧ (idx < 0xA000) ∧ (sub < 256) ∧ (rowOf idx sub = some row) ∧ (lengthOk
        row.ty bytes.length = true) ∧ ((typeOk row.ty n = false ∨ s.rangeOk row.rng n = false ∨ s.valueOk idx sub n =
        false)))) up (.mailbox 0) 0x4005 4 ([101, 0])
        ({ idx := 0x4005, sub := 4, ty := .u 2, acc := .rwr, persist := true, dflt := .const 10, rng := .range 1 100 })
        = true ∧
    (fun (s : State) (r : Requester) (idx : Nat) (sub : Nat) =>
    decide ((requesterOk r = true) ∧ (s.answers r = false) ∧ (idx < 65536) ∧ (sub < 256))) State.reset (.mailbox 0)
        0x4000 0 = true ∧
    (fun (s : State) (r : Requester) =>
    decide ((s.mayWrite r 0x1002 0x02 0x65766173 = true) ∧ (s.security.saving = none) ∧ (s.rd 0x2501 0x07 = 2))) (at_
        [(0x2501, 7, 2)]) (.mailbox 0) = true ∧
    (fun (s : State) (r : Requester) =>
    decide ((s.mayWrite r 0x1002 0x02 0x65766173 = true) ∧ (s.security.saving = none) ∧ (s.rd 0x2501 0x07 ≠ 2))) up
        (.mailbox 0) = true ∧
    (fun (s : State) (r : Requester) (set : PersistSet) =>
    decide ((s.security.saving = some (r, set)) ∧ (s.domSt 3 = 1) ∧ (s.usersAsked = false)))
        ({ at_ [(0x2043, 1, 1)] with security := { up.security with saving := some (.mailbox 0, {}) } }) (.mailbox 0)
        ({}) = true ∧
    (fun (s : State) (r : Requester) (set : PersistSet) =>
    decide ((s.security.saving = some (r, set)) ∧ ((s.domSt 3 ≠ 1 ∨ s.usersAsked = true))))
        ({ at_ [(0x2043, 1, 2)] with security := { up.security with saving := some (.mailbox 0, {}) } }) (.mailbox 0)
        ({}) = true ∧
    (fun (s : State) (r : Requester) =>
    decide ((s.mayWrite r 0x1002 0x03 0x64616F6C = true) ∧ (s.security.saving = none))) up (.mailbox 0) = true ∧
    (fun (s : State) (r : Requester) (v : Nat) =>
    decide ((s.mayWrite r 0x1008 0x01 v = true) ∧ (1 ≤ v) ∧ (v ≤ 127))) up (.mailbox 0) 127 = true := by
  refine ⟨?_, ?_, ?_, ?_, ?_, ?_, ?_, ?_, ?_, ?_, ?_, ?_, ?_⟩ <;> decide +kernel

/-- States and operands that meet the hypotheses of each clause of FieldBus. -/
theorem witness_FieldBus :
    (fun (s : State) (c : Nat) (prio : Nat) (node : Nat) (tid : Nat) (idx : Nat) (sub : Nat) (f : CanFrame) =>
    let hears := s.canHears c = true
    decide ((c < 2) ∧ (prio < 8) ∧ (1 ≤ node) ∧ (node ≤ 127) ∧ (tid < 256) ∧ (idx < 65536) ∧ (sub < 256) ∧ (hears) ∧
        ((f.fd = false ∨ f.id.toNat / 2 ^ 21 % 32 ≠ 0x16)))) (at_ [(0x100C, 1, 1), (0x2044, 1, 1)]) 1 0 127 0 0 0
        ({ fd := false }) = true ∧
    (fun (s : State) (c : Nat) (prio : Nat) (node : Nat) (tid : Nat) (idx : Nat) (sub : Nat) (f : CanFrame) =>
    let hears := s.canHears c = true
    decide ((c < 2) ∧ (prio < 8) ∧ (1 ≤ node) ∧ (node ≤ 127) ∧ (tid < 256) ∧ (idx < 65536) ∧ (sub < 256) ∧ (hears) ∧
        (f.fd = true) ∧ (f.id.toNat / 2 ^ 21 % 32 = 0x16) ∧ (f.data.head? = some 0x53) ∧ (f.id.toNat / 2 ^ 14 % 128 =
        s.rd 0x1008 0x01) ∧ (f.id.toNat / 2 ^ 7 % 128 = s.rd 0x1008 0x01) ∧ ((s.canCh c).silent = false))) (at_
        [(0x100C, 1, 1), (0x2044, 1, 1), (0x1008, 1, 96)]) 1 0 127 0 0 0
        ({ fd := true, id := BitVec.ofNat 29 (0x16 * 2 ^ 21 + 96 * 2 ^ 14 + 96 * 2 ^ 7), data := [0x53] }) = true ∧
    (fun (s : State) (c : Nat) (prio : Nat) (node : Nat) (tid : Nat) (idx : Nat) (sub : Nat) =>
    let r := Requester.can c node
    let hears := s.canHears c = true
    let alone := (s.canCh (1 - c)).recent = [] ∧ s.canOpen = []
    decide ((c < 2) ∧ (prio < 8) ∧ (1 ≤ node) ∧ (node ≤ 127) ∧ (tid < 256) ∧ (idx < 65536) ∧ (sub < 256) ∧ (hears) ∧
        (alone) ∧ (s.mayShow r false idx sub = true) ∧ (idx ≠ 0x100B + c))) (at_ [(0x100C, 1, 1), (0x2044, 1, 1)]) 1 7
        127 255 0x4003 2 = true ∧
    (fun (s : State) (c : Nat) (prio : Nat) (node : Nat) (tid : Nat) (idx : Nat) (sub : Nat) (bytes : List Byte) =>
    let r := Requester.can c node
    let hears := s.canHears c = true
    let alone := (s.canCh (1 - c)).recent = [] ∧ s.canOpen = []
    decide ((c < 2) ∧ (prio < 8) ∧ (1 ≤ node) ∧ (node ≤ 127) ∧ (tid < 256) ∧ (idx < 65536) ∧ (sub < 256) ∧ (hears) ∧
        (alone) ∧ (s.mayStore r idx sub bytes = true))) (at_ [(0x100C, 1, 1), (0x2044, 1, 1)]) 1 7 127 255 0x4003 2
        ([0, 0x10, 0, 0, 0, 0, 0, 0]) = true ∧
    (fun (s : State) (c : Nat) (prio : Nat) (node : Nat) (tid : Nat) (idx : Nat) (sub : Nat) (win : Nat) =>
    let r := Requester.can c node
    let hears := s.canHears c = true
    let alone := (s.canCh (1 - c)).recent = [] ∧ s.canOpen = []
    decide ((c < 2) ∧ (prio < 8) ∧ (1 ≤ node) ∧ (node ≤ 127) ∧ (tid < 256) ∧ (idx < 65536) ∧ (sub < 256) ∧ (hears) ∧
        (alone) ∧ (s.transfers = []) ∧ (1 ≤ win) ∧ (win ≤ s.rd 0x100D 0x02) ∧ (win < 256) ∧ (s.mayShow r true idx sub
        = true) ∧ (s.shownBytes r idx sub ≠ [])))
        ({ at_ [(0x100C, 1, 1), (0x2044, 1, 1)] with repairs := [5], storedMap := [5] }) 1 7 127 255 0x5112 0 16 =
        true ∧
    (fun (s : State) (c : Nat) (prio : Nat) (node : Nat) (tid : Nat) (idx : Nat) (sub : Nat) (win : Nat) (size : Nat)
        =>
    let r := Requester.can c node
    let hears := s.canHears c = true
    let alone := (s.canCh (1 - c)).recent = [] ∧ s.canOpen = []
    decide ((c < 2) ∧ (prio < 8) ∧ (1 ≤ node) ∧ (node ≤ 127) ∧ (tid < 256) ∧ (idx < 65536) ∧ (sub < 256) ∧ (hears) ∧
        (alone) ∧ (s.transfers = []) ∧ (1 ≤ win) ∧ (win ≤ s.rd 0x100D 0x02) ∧ (win < 256) ∧ (1 ≤ size) ∧ (size < 2 ^
        32) ∧ (s.maySend r idx sub = true) ∧ (¬(0x2510 ≤ idx ∧ idx < 0x2513))))
        ({ at_ [(0x100C, 1, 1), (0x2044, 1, 1)] with security := { sessions := [{ r := .can 1 127, rights := 0x0F, signer := 1 }] } })
        1 7 127 255 0x4310 0 16 (2 ^ 32 - 1) = true ∧
    (fun (s : State) (c : Nat) (prio : Nat) (node : Nat) (tid : Nat) (idx : Nat) (sub : Nat) (win : Nat) (size : Nat)
        (seq : Nat) (bytes : List Byte) (tr : Transfer) =>
    let hears := s.canHears c = true
    let mine := s.canTransfer c node tid = some tr
    decide ((c < 2) ∧ (prio < 8) ∧ (1 ≤ node) ∧ (node ≤ 127) ∧ (tid < 256) ∧ (idx < 65536) ∧ (sub < 256) ∧ (hears) ∧
        (mine) ∧ (tr.write = true) ∧ (tr.key ≠ ent 0x4310 0x00) ∧ (¬(0x2510 ≤ tr.key / 256 ∧ tr.key / 256 < 0x2513)) ∧
        (seq = tr.seq % 256) ∧ (bytes.length = 60) ∧ (tr.data.length + 60 < tr.size) ∧ (tr.seq + 1 - tr.sent ≠
        tr.win)))
        ({ at_ [(0x100C, 1, 1), (0x2044, 1, 1)] with transfers := [{ r := .can 1 127, tid := 255, write := true, size := 200, win := 16, key := 5, seq := 1, data := [9] }] })
        1 0 127 255 0 0 0 0 1 (List.replicate 60 7)
        ({ r := .can 1 127, tid := 255, write := true, size := 200, win := 16, key := 5, seq := 1, data := [9] }) =
        true ∧
    (fun (s : State) (c : Nat) (prio : Nat) (node : Nat) (tid : Nat) (idx : Nat) (sub : Nat) (win : Nat) (size : Nat)
        (seq : Nat) (tr : Transfer) =>
    let hears := s.canHears c = true
    let mine := s.canTransfer c node tid = some tr
    let ends := seq = (min (tr.sent + tr.win) (segCount tr.size) + 255) % 256
    decide ((c < 2) ∧ (prio < 8) ∧ (1 ≤ node) ∧ (node ≤ 127) ∧ (tid < 256) ∧ (idx < 65536) ∧ (sub < 256) ∧ (hears) ∧
        (mine) ∧ (tr.write = true) ∧ (seq ≠ tr.seq % 256) ∧ (¬ends)))
        ({ at_ [(0x100C, 1, 1), (0x2044, 1, 1)] with transfers := [{ r := .can 1 127, tid := 255, write := true, size := 200, win := 16, key := 5, seq := 1, data := [9] }] })
        1 0 127 255 0 0 0 0 0
        ({ r := .can 1 127, tid := 255, write := true, size := 200, win := 16, key := 5, seq := 1, data := [9] }) =
        true ∧
    (fun (s : State) (c : Nat) (prio : Nat) (node : Nat) (tid : Nat) (idx : Nat) (sub : Nat) (win : Nat) (size : Nat)
        (seq : Nat) (tr : Transfer) =>
    let hears := s.canHears c = true
    let mine := s.canTransfer c node tid = some tr
    let ends := seq = (min (tr.sent + tr.win) (segCount tr.size) + 255) % 256
    decide ((c < 2) ∧ (prio < 8) ∧ (1 ≤ node) ∧ (node ≤ 127) ∧ (tid < 256) ∧ (idx < 65536) ∧ (sub < 256) ∧ (hears) ∧
        (mine) ∧ (tr.write = true) ∧ (seq ≠ tr.seq % 256) ∧ (ends)))
        ({ at_ [(0x100C, 1, 1), (0x2044, 1, 1)] with transfers := [{ r := .can 1 127, tid := 255, write := true, size := 200, win := 2, key := 5, seq := 0, data := [9] }] })
        1 0 127 255 0 0 0 0 1
        ({ r := .can 1 127, tid := 255, write := true, size := 200, win := 2, key := 5, seq := 0, data := [9] }) =
        true ∧
    (fun (s : State) (c : Nat) (prio : Nat) (node : Nat) (tid : Nat) (idx : Nat) (sub : Nat) (win : Nat) (size : Nat)
        (seq : Nat) (tr : Transfer) =>
    let hears := s.canHears c = true
    let mine := s.canTransfer c node tid = some tr
    decide ((c < 2) ∧ (prio < 8) ∧ (1 ≤ node) ∧ (node ≤ 127) ∧ (tid < 256) ∧ (idx < 65536) ∧ (sub < 256) ∧ (hears) ∧
        (mine) ∧ (tr.write = false) ∧ (s.badWindow win = false) ∧ (seq = (segCount tr.size - 1) % 256) ∧ (tr.seq <
        segCount tr.size) ∧ (tr.sent = segCount tr.size) ∧ (segCount tr.size - tr.seq < 256)))
        ({ at_ [(0x100C, 1, 1), (0x2044, 1, 1)] with transfers := [{ r := .can 1 127, tid := 255, size := 180, win := 16, key := 5, seq := 0, sent := 3 }] })
        1 0 127 255 0 0 16 0 2
        ({ r := .can 1 127, tid := 255, size := 180, win := 16, key := 5, seq := 0, sent := 3 }) = true ∧
    (fun (s : State) (c : Nat) (prio : Nat) (node : Nat) (tid : Nat) (idx : Nat) (sub : Nat) (tr : Transfer) =>
    let r := Requester.can c node
    decide ((c < 2) ∧ (prio < 8) ∧ (1 ≤ node) ∧ (node ≤ 127) ∧ (tid < 256) ∧ (idx < 65536) ∧ (sub < 256) ∧
        (s.transfers.find? (fun t => t.r = r && t.tid = tid) = some tr)))
        ({ at_ [(0x100C, 1, 1), (0x2044, 1, 1)] with transfers := [{ r := .can 1 127, tid := 255, write := true, size := 200, win := 16, key := 5, seq := 1, data := [9] }] })
        1 0 127 255 0 0
        ({ r := .can 1 127, tid := 255, write := true, size := 200, win := 16, key := 5, seq := 1, data := [9] }) =
        true ∧
    (fun (s : State) (c : Nat) (prio : Nat) (node : Nat) (tid : Nat) (idx : Nat) (sub : Nat) =>
    decide ((c < 2) ∧ (prio < 8) ∧ (1 ≤ node) ∧ (node ≤ 127) ∧ (tid < 256) ∧ (idx < 65536) ∧ (sub < 256) ∧
        (s.startup.firmware = true) ∧ (s.rdBit 0x1009 0x03 0 = true) ∧ (s.rdBit 0x1009 0x03 1 = false) ∧ (s.canSends 0
        = true) ∧ ((s.canCh 0).silent = false))) (at_ [(0x1009, 3, 1), (0x100B, 1, 1), (0x2044, 1, 1)]) 1 7 127 255
        65535 255 = true ∧
    (fun (s : State) (c : Nat) (prio : Nat) (node : Nat) (tid : Nat) (idx : Nat) (sub : Nat) =>
    decide ((c < 2) ∧ (prio < 8) ∧ (1 ≤ node) ∧ (node ≤ 127) ∧ (tid < 256) ∧ (idx < 65536) ∧ (sub < 256) ∧ ([1, 2,
        4].contains (s.rd (0x100B + c) 0x01) = true))) (at_ [(0x100C, 1, 1), (0x2044, 1, 1)]) 1 0 127 0 0 0 = true ∧
    (fun (s : State) (c : Nat) (prio : Nat) (node : Nat) (tid : Nat) (idx : Nat) (sub : Nat) =>
    decide ((c < 2) ∧ (prio < 8) ∧ (1 ≤ node) ∧ (node ≤ 127) ∧ (tid < 256) ∧ (idx < 65536) ∧ (sub < 256) ∧ (s.rd
        (0x100B + c) 0x01 = 3) ∧ ((s.canCh c).offSince + s.rd 0x1009 0x04 * 1000000 ≤ s.now))) (at_ [(0x100C, 1, 3),
        (0x2030, 2, 10 ^ 8)]) 1 0 127 0 0 0 = true ∧
    (fun (s : State) (c : Nat) (prio : Nat) (node : Nat) (tid : Nat) (idx : Nat) (sub : Nat) (tec : Nat) (rec : Nat)
        (lost : Nat) =>
    let listens := [1, 2, 4].contains (s.rd (0x100B + c) 0x01) = true ∧ s.rd (0x100B + c) 0x09 + lost < 2 ^ 64
    decide ((c < 2) ∧ (prio < 8) ∧ (1 ≤ node) ∧ (node ≤ 127) ∧ (tid < 256) ∧ (idx < 65536) ∧ (sub < 256) ∧ (listens) ∧
        ((s.canCh c).silent = false) ∧ (s.rd (0x100B + c) 0x02 ≤ 127) ∧ (s.rd (0x100B + c) 0x03 ≤ 127) ∧ ((127 < tec ∨
        127 < rec)))) (at_ [(0x100C, 1, 1)]) 1 0 127 0 0 0 128 0 0 = true ∧
    (fun (s : State) (c : Nat) (prio : Nat) (node : Nat) (tid : Nat) (idx : Nat) (sub : Nat) (tec : Nat) (rec : Nat)
        (lost : Nat) =>
    let listens := [1, 2, 4].contains (s.rd (0x100B + c) 0x01) = true ∧ s.rd (0x100B + c) 0x09 + lost < 2 ^ 64
    decide ((c < 2) ∧ (prio < 8) ∧ (1 ≤ node) ∧ (node ≤ 127) ∧ (tid < 256) ∧ (idx < 65536) ∧ (sub < 256) ∧ (listens) ∧
        ((s.canCh c).silent = false) ∧ (tec ≤ 127) ∧ (rec ≤ 127))) (at_ [(0x100C, 1, 1), (0x2044, 1, 1)]) 1 0 127 0 0
        0 0 0 0 = true ∧
    (fun (s : State) (c : Nat) (prio : Nat) (node : Nat) (tid : Nat) (idx : Nat) (sub : Nat) (lost : Nat) =>
    let listens := [1, 2, 4].contains (s.rd (0x100B + c) 0x01) = true ∧ s.rd (0x100B + c) 0x09 + lost < 2 ^ 64
    decide ((c < 2) ∧ (prio < 8) ∧ (1 ≤ node) ∧ (node ≤ 127) ∧ (tid < 256) ∧ (idx < 65536) ∧ (sub < 256) ∧ (listens) ∧
        ((s.canCh c).silent = true))) ({ at_ [(0x100C, 1, 4)] with can := [(1, { silent := true })] }) 1 7 127 255
        65535 255 5 = true := by
  refine ⟨?_, ?_, ?_, ?_, ?_, ?_, ?_, ?_, ?_, ?_, ?_, ?_, ?_, ?_, ?_, ?_, ?_⟩ <;> decide +kernel

/-- States and operands that meet the hypotheses of each clause of MailboxesAndPort. -/
theorem witness_MailboxesAndPort :
    (fun (s : State) (m : Nat) (tag : Nat) (idx : Nat) (sub : Nat) =>
    let r := Requester.mailbox m
    decide ((m < 16) ∧ (tag < 256) ∧ (idx < 65536) ∧ (sub < 256) ∧ (s.answers r = true) ∧ ((s.mailbox
        m).status.getLsbD 31 = true))) ({ up with mailboxes := [(15, { status := 0x80000000 })] }) 15 0 0 0 = true ∧
    (fun (s : State) (m : Nat) (tag : Nat) (idx : Nat) (sub : Nat) =>
    let r := Requester.mailbox m
    let free := s.answers r = true ∧ (s.mailbox m).status.getLsbD 31 = false ∧ (s.mailbox m).opening = false
    decide ((m < 16) ∧ (tag < 256) ∧ (idx < 65536) ∧ (sub < 256) ∧ (free) ∧ (s.mayShow r false idx sub = true))) up 15
        0 0x4003 2 = true ∧
    (fun (s : State) (m : Nat) (tag : Nat) (idx : Nat) (sub : Nat) (bytes : List Byte) =>
    let r := Requester.mailbox m
    let free := s.answers r = true ∧ (s.mailbox m).status.getLsbD 31 = false ∧ (s.mailbox m).opening = false
    decide ((m < 16) ∧ (tag < 256) ∧ (idx < 65536) ∧ (sub < 256) ∧ (free) ∧ (s.mayStore r idx sub bytes = true))) up
        15 0 0x4003 2 ([0, 0x10, 0, 0, 0, 0, 0, 0]) = true ∧
    (fun (s : State) (m : Nat) (tag : Nat) (idx : Nat) (sub : Nat) =>
    let r := Requester.mailbox m
    let free := s.answers r = true ∧ (s.mailbox m).status.getLsbD 31 = false ∧ (s.mailbox m).opening = false
    let shown := s.shownBytes r idx sub
    decide ((m < 16) ∧ (tag < 256) ∧ (idx < 65536) ∧ (sub < 256) ∧ (free) ∧ (s.mailboxTransfer m = none) ∧
        (s.transfersFull = false) ∧ (s.mayShow r true idx sub = true) ∧ (shown.length ≤ 1044480)))
        ({ up with repairs := [5], storedMap := [5] }) 15 0 0x5112 0 = true ∧
    (fun (s : State) (m : Nat) (tag : Nat) (idx : Nat) (sub : Nat) (total : Nat) =>
    let r := Requester.mailbox m
    let free := s.answers r = true ∧ (s.mailbox m).status.getLsbD 31 = false ∧ (s.mailbox m).opening = false
    decide ((m < 16) ∧ (tag < 256) ∧ (idx < 65536) ∧ (sub < 256) ∧ (free) ∧ (s.mailboxTransfer m = none) ∧
        (s.transfersFull = false) ∧ (s.maySend r idx sub = true) ∧ (¬(0x2510 ≤ idx ∧ idx < 0x2513)) ∧ (1 ≤ total) ∧
        (total < 2 ^ 32)))
        ({ up with security := { sessions := [{ r := .mailbox 15, rights := 0x0F, signer := 1 }] } }) 15 0 0x4310 0 (2
        ^ 32 - 1) = true ∧
    (fun (s : State) (m : Nat) (tag : Nat) (idx : Nat) (sub : Nat) (bytes : List Byte) (tr : Transfer) =>
    let r := Requester.mailbox m
    let free := s.answers r = true ∧ (s.mailbox m).status.getLsbD 31 = false ∧ (s.mailbox m).opening = false
    decide ((m < 16) ∧ (tag < 256) ∧ (idx < 65536) ∧ (sub < 256) ∧ (free) ∧ (s.mailboxTransfer m = some tr) ∧
        (tr.write = true) ∧ (tr.key ≠ ent 0x4310 0x00) ∧ (¬(0x2510 ≤ tr.key / 256 ∧ tr.key / 256 < 0x2513)) ∧ (1 ≤
        bytes.length) ∧ (bytes.length ≤ 1044480) ∧ (tr.data.length + bytes.length < tr.size)))
        ({ up with transfers := [{ r := .mailbox 15, write := true, size := 9, key := 5 }] }) 15 0 0 0 ([1])
        ({ r := .mailbox 15, write := true, size := 9, key := 5 }) = true ∧
    (fun (s : State) (m : Nat) (tag : Nat) (idx : Nat) (sub : Nat) =>
    let idle := s.answers .port = true ∧ s.portReq = none
    decide ((m < 16) ∧ (tag < 256) ∧ (idx < 65536) ∧ (sub < 256) ∧ (idle) ∧ (s.mayShow .port false idx sub = true)))
        up 15 0 0x4003 2 = true ∧
    (fun (s : State) (m : Nat) (tag : Nat) (idx : Nat) (sub : Nat) (bytes : List Byte) =>
    let idle := s.answers .port = true ∧ s.portReq = none
    decide ((m < 16) ∧ (tag < 256) ∧ (idx < 65536) ∧ (sub < 256) ∧ (idle) ∧ (s.mayStore .port idx sub bytes = true)))
        ({ up with bundle := some { legal with portPermit := [ent 0x4003 2] } }) 0 255 0x4003 2 ([0, 0x10, 0, 0, 0, 0,
        0, 0]) = true ∧
    (fun (s : State) (m : Nat) (tag : Nat) (idx : Nat) (sub : Nat) =>
    let idle := s.answers .port = true ∧ s.portReq = none
    decide ((m < 16) ∧ (tag < 256) ∧ (idx < 65536) ∧ (sub < 256) ∧ (idle) ∧ (s.portTransfer = none) ∧ (s.transfersFull
        = false) ∧ (s.maySend .port idx sub = true) ∧ (¬(0x2510 ≤ idx ∧ idx < 0x2513))))
        ({ up with bundle := some { legal with portPermit := [ent 0x4310 0] } }) 0 255 0x4310 0 = true ∧
    (fun (s : State) (m : Nat) (tag : Nat) (idx : Nat) (sub : Nat) (bytes : List Byte) (tr : Transfer) =>
    let idle := s.answers .port = true ∧ s.portReq = none
    decide ((m < 16) ∧ (tag < 256) ∧ (idx < 65536) ∧ (sub < 256) ∧ (idle) ∧ (s.portTransfer = some tr) ∧ (tr.key ≠ ent
        0x4310 0x00) ∧ (¬(0x2510 ≤ tr.key / 256 ∧ tr.key / 256 < 0x2513)) ∧ (tr.data.length + bytes.length ≤
        1048576))) ({ up with transfers := [{ r := .port, write := true, key := 5 }] }) 0 255 0 0 ([1])
        ({ r := .port, write := true, key := 5 }) = true ∧
    (fun (s : State) (m : Nat) (tag : Nat) (idx : Nat) (sub : Nat) (tr : Transfer) =>
    let idle := s.answers .port = true ∧ s.portReq = none
    decide ((m < 16) ∧ (tag < 256) ∧ (idx < 65536) ∧ (sub < 256) ∧ (idle) ∧ (s.portTransfer = some tr) ∧ (tr.key = ent
        0x4310 0x00) ∧ (tr.failed = 0) ∧ (s.ownsLoad 5 = false) ∧ (s.load.waiting = none)))
        ({ up with transfers := [{ r := .port, write := true, key := ent 0x4310 0 }] }) 0 255 0 0
        ({ r := .port, write := true, key := ent 0x4310 0 }) = true ∧
    (fun (s : State) (m : Nat) (tag : Nat) (idx : Nat) (sub : Nat) (res : Nat) (d : DesignReq) (q : Requester) =>
    let r := Requester.mailbox m
    decide ((m < 16) ∧ (tag < 256) ∧ (idx < 65536) ∧ (sub < 256) ∧ (s.design = some d) ∧ (d.tag = res) ∧ (d.r = some
        q) ∧ (d.write = false) ∧ (s.designQ = [])))
        ({ up with design := some { r := some (.mailbox 3), tag := 9, key := ent 0xA000 1 } }) 0 0 0 0 9
        ({ r := some (.mailbox 3), tag := 9, key := ent 0xA000 1 }) (.mailbox 3) = true ∧
    (fun (s : State) (m : Nat) (tag : Nat) (idx : Nat) (sub : Nat) (res : Nat) (d : DesignReq) =>
    decide ((m < 16) ∧ (tag < 256) ∧ (idx < 65536) ∧ (sub < 256) ∧ (s.design = some d) ∧ (d.tag ≠ res)))
        ({ up with design := some { r := some (.mailbox 3), tag := 9, key := ent 0xA000 1 } }) 0 0 0 0 8
        ({ r := some (.mailbox 3), tag := 9, key := ent 0xA000 1 }) = true := by
  refine ⟨?_, ?_, ?_, ?_, ?_, ?_, ?_, ?_, ?_, ?_, ?_, ?_, ?_⟩ <;> decide +kernel

/-- States and operands that meet the hypotheses of each clause of Raises. -/
theorem witness_Raises :
    (fun (s : State) (src : Nat) (cls : Nat) (level : Nat) =>
    let conf := if s.rd (0x7100 + src) 0x03 = 0xFF then level else s.rd (0x7100 + src) 0x03
    let esc : Bool := decide (1 ≤ conf) && decide (conf < 3) && s.classOpen cls && decide (s.rd (0x7100 + src) 0x05 = 1)
    let eff := if esc then conf + 1 else conf
    decide ((src < 384) ∧ (cls < 16) ∧ (1 ≤ eff))) up 383 15 1 = true ∧
    (fun (s : State) (src : Nat) (cls : Nat) (level : Nat) =>
    let conf := if s.rd (0x7100 + src) 0x03 = 0xFF then level else s.rd (0x7100 + src) 0x03
    let esc : Bool := decide (1 ≤ conf) && decide (conf < 3) && s.classOpen cls && decide (s.rd (0x7100 + src) 0x05 = 1)
    let eff := if esc then conf + 1 else conf
    decide ((src < 384) ∧ (cls < 16) ∧ (eff = 0))) up 0 0 0 = true ∧
    (fun (s : State) (src : Nat) (cls : Nat) =>
    decide ((src < 384) ∧ (cls < 16) ∧ (s.historyBurst = false))) up 383 15 = true ∧
    (fun (s : State) (src : Nat) (cls : Nat) =>
    decide ((src < 384) ∧ (cls < 16) ∧ (s.rd (0x6110 + src / 128) (src % 128 + 1) / 2 ^ 15 % 2 = 1))) up 383 15 = true ∧
    (fun (src : Nat) (cls : Nat) (forced : Bool) =>
    decide ((src < 384) ∧ (cls < 16) ∧ (forced = false))) 383 15 false = true ∧
    (fun (s : State) (src : Nat) (cls : Nat) (level : Nat) =>
    let conf := if s.rd (0x7100 + src) 0x03 = 0xFF then level else s.rd (0x7100 + src) 0x03
    let esc : Bool := decide (1 ≤ conf) && decide (conf < 3) && s.classOpen cls && decide (s.rd (0x7100 + src) 0x05 = 1)
    let eff := if esc then conf + 1 else conf
    decide ((src < 384) ∧ (cls < 16) ∧ (eff < 2))) up 383 15 1 = true ∧
    (fun (s : State) (src : Nat) (cls : Nat) (level : Nat) =>
    let conf := if s.rd (0x7100 + src) 0x03 = 0xFF then level else s.rd (0x7100 + src) 0x03
    let esc : Bool := decide (1 ≤ conf) && decide (conf < 3) && s.classOpen cls && decide (s.rd (0x7100 + src) 0x05 = 1)
    let eff := if esc then conf + 1 else conf
    decide ((src < 384) ∧ (cls < 16) ∧ (eff = 3))) up 383 15 3 = true ∧
    (fun (src : Nat) (cls : Nat) (a : Nat) (b : Nat) =>
    decide ((src < 384) ∧ (cls < 16) ∧ (b < 256) ∧ ((a < 0x7000 ∨ 0x7300 ≤ a)) ∧ (a ≠ 0x100B) ∧ (a ≠ 0x100C))) 383 15
        0 0 = true := by
  refine ⟨?_, ?_, ?_, ?_, ?_, ?_, ?_, ?_⟩ <;> decide +kernel

/-- States and operands that meet the hypotheses of each clause of CollectorCommands. -/
theorem witness_CollectorCommands :
    (fun (s : State) (r : Requester) (src : Nat) (other : Nat) =>
    decide ((src < 384) ∧ (other < 384) ∧ (s.mayWrite r (0x7100 + src) 0x01 1 = true))) (at_ [(0x7100 + 383, 1, 1),
        (0x7100 + 383, 0x0A, 0x8000)]) (.mailbox 0) 383 382 = true ∧
    (fun (s : State) (r : Requester) (src : Nat) (other : Nat) (mask : BitVec 16) =>
    decide ((src < 384) ∧ (other < 384) ∧ (s.mayWrite r 0x7000 0x05 mask.toNat = true))) (at_ [(0x7100 + 383, 1, 1),
        (0x7100 + 383, 0x0A, 0x8000)]) (.mailbox 0) 383 382 0 = true ∧
    (fun (s : State) (r : Requester) (src : Nat) (other : Nat) =>
    decide ((src < 384) ∧ (other < 384) ∧ (s.mayWrite r 0x7000 0x06 1 = true))) (at_ [(0x7100 + 383, 1, 1), (0x7100 +
        383, 0x0A, 0x8000)]) (.mailbox 0) 383 382 = true ∧
    (fun (s : State) (r : Requester) (src : Nat) (other : Nat) =>
    decide ((src < 384) ∧ (other < 384) ∧ (s.mayWrite r (0x7100 + src) 0x02 1 = true))) (at_ [(0x7100 + 383, 1, 1),
        (0x7100 + 383, 0x0A, 0x8000)]) (.mailbox 0) 383 382 = true ∧
    (fun (s : State) (r : Requester) (src : Nat) (other : Nat) (v : BitVec 64) =>
    decide ((src < 384) ∧ (other < 384) ∧ (s.mayWrite r 0x7002 0x01 v.toNat = true) ∧ (v.toNat / 65536 % 65536 = 0) ∧
        (v.toNat / 32 % 8 = 0) ∧ (v.toNat / 256 % 256 ≠ 0))) up (.mailbox 0) 383 0 (BitVec.ofNat 64 (5 * 2 ^ 32 + 255
        * 256 + 31)) = true ∧
    (fun (s : State) (r : Requester) (src : Nat) (other : Nat) =>
    decide ((src < 384) ∧ (other < 384) ∧ (s.mayWrite r 0x7010 0x04 1 = true))) (at_ [(0x7100 + 383, 1, 1), (0x7100 +
        383, 0x0A, 0x8000)]) (.mailbox 0) 383 382 = true ∧
    (fun (s : State) (r : Requester) (src : Nat) (other : Nat) =>
    decide ((src < 384) ∧ (other < 384) ∧ (s.mayWrite r 0x7031 0x03 1 = true))) (at_ [(0x7100 + 383, 1, 1), (0x7100 +
        383, 0x0A, 0x8000)]) (.mailbox 0) 383 382 = true ∧
    (fun (s : State) (src : Nat) (other : Nat) =>
    decide ((src < 384) ∧ (other < 384) ∧ (s.collector.logPending ≠ []) ∧ (s.domSt 3 = 1)))
        ({ at_ [(0x2043, 1, 1)] with collector := { logPending := [{}] } }) 383 382 = true ∧
    (fun (s : State) (src : Nat) (other : Nat) =>
    decide ((src < 384) ∧ (other < 384) ∧ (s.collector.logPending = []))) (at_ [(0x7100 + 383, 1, 1), (0x7100 + 383,
        0x0A, 0x8000)]) 383 382 = true := by
  refine ⟨?_, ?_, ?_, ?_, ?_, ?_, ?_, ?_, ?_⟩ <;> decide +kernel

/-- States and operands that meet the hypotheses of each clause of KeysAndFuses. -/
theorem witness_KeysAndFuses :
    (fun (s : State) (r : Requester) (k : Nat) (i : Nat) (bytes : List Byte) (digest : Nat) =>
    let free := s.rdBit 0x2400 0x01 i = false ∧ (s.rdBit 0x2400 0x01 (1 - i) = false ∨ s.rd 0x2400 (4 - i) ≠ digest) ∧
          (i = 1 → s.sessionSigner r = 1)
    decide ((k < 15) ∧ (i < 2) ∧ (s.maySend r 0x2401 (i + 1) = true) ∧ (bytes.length = 97) ∧ (free)))
        ({ up with security := { up.security with sessions := [{ r := .mailbox 0, rights := 0x0F, signer := 1 }] } })
        (.mailbox 0) 0 1 (List.replicate 97 0) 1 = true ∧
    (fun (s : State) (r : Requester) (k : Nat) (i : Nat) (bytes : List Byte) (digest : Nat) =>
    let free := s.rdBit 0x2400 0x01 i = false ∧ (s.rdBit 0x2400 0x01 (1 - i) = false ∨ s.rd 0x2400 (4 - i) ≠ digest) ∧
          (i = 1 → s.sessionSigner r = 1)
    decide ((k < 15) ∧ (i < 2) ∧ (s.maySend r 0x2401 (i + 1) = true) ∧ ((bytes.length ≠ 97 ∨ ¬free)))) (at_ [(0x2400,
        1, 2)]) (.mailbox 0) 0 1 (List.replicate 97 0) 0 = true ∧
    (fun (s : State) (r : Requester) (k : Nat) (i : Nat) =>
    decide ((k < 15) ∧ (i < 2) ∧ (s.mayWrite r 0x2401 0x03 1 = true) ∧ (s.rdBit 0x2400 0x01 1 = true) ∧ (s.rdBit
        0x2400 0x01 3 = false) ∧ (s.sessionSigner r = 2)))
        ({ at_ [(0x2400, 1, 3)] with security := { up.security with sessions := [{ r := .mailbox 0, rights := 0x0F, signer := 2 }] } })
        (.mailbox 0) 14 0 = true ∧
    (fun (s : State) (r : Requester) (k : Nat) (i : Nat) =>
    decide ((k < 15) ∧ (i < 2) ∧ (s.mayWrite r 0x2401 0x03 2 = true) ∧ (s.rdBit 0x2400 0x01 0 = true) ∧ (s.rdBit
        0x2400 0x01 2 = false) ∧ (s.sessionSigner r = 1))) (at_ [(0x2400, 1, 1)]) (.mailbox 0) 14 0 = true ∧
    (fun (s : State) (r : Requester) (k : Nat) (i : Nat) =>
    decide ((k < 15) ∧ (i < 2) ∧ (s.mayWrite r 0x2401 0x03 3 = true))) up (.mailbox 0) 14 0 = true ∧
    (fun (s : State) (r : Requester) (k : Nat) (i : Nat) =>
    decide ((k < 15) ∧ (i < 2) ∧ (s.mayWrite r 0x2401 0x03 4 = true))) up (.mailbox 0) 14 0 = true ∧
    (fun (s : State) (r : Requester) (k : Nat) (i : Nat) =>
    decide ((k < 15) ∧ (i < 2) ∧ (s.maySend r 0x241F 0x03 = true))) up (.mailbox 0) 14 0 = true ∧
    (fun (s : State) (r : Requester) (k : Nat) (i : Nat) =>
    decide ((k < 15) ∧ (i < 2) ∧ (s.mayWrite r 0x241F 0x04 1 = true))) up (.mailbox 0) 14 0 = true ∧
    (fun (s : State) (k : Nat) (i : Nat) =>
    decide ((k < 15) ∧ (i < 2) ∧ (s.spareLines = 779879))) ({ up with spareLines := 779879 }) 14 1 = true ∧
    (fun (s : State) (r : Requester) (k : Nat) (i : Nat) (bytes : List Byte) =>
    decide ((k < 15) ∧ (i < 2) ∧ (s.maySend r (0x2410 + k) 0x03 = true) ∧ (s.installedKey k bytes = none))) up
        (.mailbox 0) 14 0 (List.replicate 97 5) = true ∧
    (fun (s : State) (r : Requester) (k : Nat) (i : Nat) =>
    decide ((k < 15) ∧ (i < 2) ∧ (s.mayWrite r (0x2410 + k) 0x04 1 = true))) up (.mailbox 0) 14 0 = true ∧
    (fun (s : State) (r : Requester) (k : Nat) (i : Nat) =>
    decide ((k < 15) ∧ (i < 2) ∧ (s.mayWrite r 0x2430 0x06 1 = true) ∧ (s.rdBit 0x2400 0x01 5 = false) ∧
        (s.sessionSigner r ≠ 0))) up (.mailbox 0) 14 0 = true ∧
    (fun (s : State) (r : Requester) (k : Nat) (i : Nat) =>
    decide ((k < 15) ∧ (i < 2) ∧ (s.mayWrite r 0x2430 0x06 2 = true) ∧ (s.rd 0x2430 0x01 = 1))) (at_ [(0x2430, 1, 1)])
        (.mailbox 0) 14 0 = true ∧
    (fun (s : State) (k : Nat) (i : Nat) =>
    decide ((k < 15) ∧ (i < 2) ∧ (s.startup.firmware = true))) up 14 0 = true := by
  refine ⟨?_, ?_, ?_, ?_, ?_, ?_, ?_, ?_, ?_, ?_, ?_, ?_, ?_, ?_⟩ <;> decide +kernel

/-- States and operands that meet the hypotheses of each clause of SessionsAndLock. -/
theorem witness_SessionsAndLock :
    (fun (s : State) (r : Requester) =>
    decide ((s.mayRead r false 0x2420 0x01 = true))) up (.mailbox 0) = true ∧
    (fun (s : State) (r : Requester) (bytes : List Byte) =>
    decide ((s.maySend r 0x2420 0x02 = true) ∧ (s.responseRights r bytes = none))) up (.mailbox 0) ([]) = true ∧
    (fun (s : State) (r : Requester) =>
    decide ((s.mayWrite r 0x2420 0x05 1 = true))) up (.mailbox 0) = true ∧
    (fun (r : Requester) =>
    decide ((requesterOk r = true))) (.mailbox 0) = true ∧
    (fun (s : State) (r : Requester) =>
    decide ((s.mayWrite r 0x2500 0x01 1 = true) ∧ (s.security.lock = none)))
        ({ up with security := { up.security with lock := none } }) (.mailbox 0) = true ∧
    (fun (s : State) (r : Requester) (q : Requester) =>
    decide ((s.mayWrite r 0x2500 0x01 1 = true) ∧ (s.security.lock = some q) ∧ (sameRequester r q = false)))
        ({ up with security := { up.security with lock := some (.mailbox 1) } }) (.mailbox 0) (.mailbox 1) = true ∧
    (fun (s : State) (r : Requester) =>
    decide ((s.mayWrite r 0x2500 0x01 2 = true) ∧ (s.holdsLock r = true))) up (.mailbox 0) = true ∧
    (fun (s : State) =>
    decide ((s.security.lock.isSome = true))) up = true := by
  refine ⟨?_, ?_, ?_, ?_, ?_, ?_, ?_, ?_⟩ <;> decide +kernel

/-- States and operands that meet the hypotheses of each clause of Updates. -/
theorem witness_Updates :
    (fun (s : State) (r : Requester) (j : Nat) =>
    decide ((j < 3) ∧ (s.maySend r (0x2510 + j) 0x06 = true) ∧ (s.imageWritable j = true))) (at_ [(0x2512, 1, 0),
        (0x2512, 2, 3), (0x2512, 3, 0)]) (.mailbox 0) 2 = true ∧
    (fun (s : State) (r : Requester) (j : Nat) =>
    decide ((j < 3) ∧ (s.maySend r (0x2510 + j) 0x06 = true) ∧ (s.imageWritable j = false))) (at_ [(0x2512, 1, 0),
        (0x2512, 2, 3), (0x2512, 3, 2)]) (.mailbox 0) 2 = true ∧
    (fun (s : State) (r : Requester) (j : Nat) (v : BitVec 32) =>
    let old := s.rd 0x2400 0x05 / 256 ^ j % 256
    decide ((j < 3) ∧ (s.mayWrite r 0x2401 0x04 v.toNat = true) ∧ (v.toNat / 65536 = j + 1) ∧ (v.toNat / 256 % 256 =
        0) ∧ (v.toNat % 256 ≤ 64) ∧ (s.imageSt j 0 = imActive) ∧ (old ≤ v.toNat % 256) ∧ (v.toNat % 256 ≤ (s.image j
        0).svn)))
        ({ at_ [(0x2512, 2, 3), (0x2400, 5, 63 * 65536)] with security := { up.security with images := [(4, { svn := 64 })] } })
        (.mailbox 0) 2 0x30040 = true ∧
    (fun (s : State) (r : Requester) (j : Nat) =>
    decide ((j < 3) ∧ (s.mayWrite r 0x2520 0x01 1 = true) ∧ ((s.rd 0x2520 0x03 = 0 ∨ 4 ≤ s.rd 0x2520 0x03)) ∧
        (orderWordOk (s.rd 0x2520 0x02) = true))) (at_ [(0x2520, 3, 5), (0x2520, 2, 0x321)]) (.mailbox 0) 2 = true ∧
    (fun (s : State) (r : Requester) (j : Nat) =>
    decide ((j < 3) ∧ (s.mayWrite r 0x2520 0x01 2 = true) ∧ (s.rd 0x2520 0x03 = 1) ∧ (s.failingStep = 0)))
        ({ at_ [(0x2520, 3, 1), (0x2512, 3, 2)] with security := { up.security with journal := [{ type := jBegin, order := 3 }] } })
        (.mailbox 0) 2 = true ∧
    (fun (s : State) (r : Requester) (j : Nat) =>
    decide ((j < 3) ∧ (s.mayWrite r 0x2520 0x01 2 = true) ∧ (s.rd 0x2520 0x03 = 1) ∧ (s.failingStep ≠ 0)))
        ({ at_ [(0x2520, 3, 1), (0x2512, 3, 0)] with security := { up.security with journal := [{ type := jBegin, order := 3 }] } })
        (.mailbox 0) 2 = true ∧
    (fun (s : State) (r : Requester) (j : Nat) =>
    decide ((j < 3) ∧ (s.mayWrite r 0x2520 0x01 3 = true) ∧ (s.rd 0x2520 0x03 = 1)))
        ({ at_ [(0x2520, 3, 1), (0x2512, 3, 2)] with security := { up.security with journal := [{ type := jBegin, order := 3 }] } })
        (.mailbox 0) 2 = true ∧
    (fun (s : State) (j : Nat) =>
    decide ((j < 3) ∧ (s.mayActivate = true) ∧ (s.nextPart = some (j + 1)) ∧ ((s.pairSt ≠ 4 ∨ s.partner ≠ 3))))
        ({ at_ [(0x2520, 3, 2), (0x4000, 0, 0)] with security := { up.security with journal := [{ type := jBegin, order := 3 }] } })
        2 = true ∧
    (fun (s : State) (j : Nat) =>
    decide ((j < 3) ∧ (s.mayActivate = true) ∧ (s.nextPart = some (j + 1)) ∧ (s.pairSt = 4) ∧ (s.partner = 3)))
        ({ at_ [(0x2520, 3, 2), (0x8100, 1, 4), (0x8100, 0x10, 3)] with security := { up.security with journal := [{ type := jBegin, order := 3 }] } })
        2 = true ∧
    (fun (s : State) (j : Nat) =>
    decide ((j < 3) ∧ (s.mayActivate = false))) (at_ [(0x2512, 1, 0), (0x2512, 2, 3), (0x2512, 3, 0)]) 2 = true ∧
    (fun (s : State) (j : Nat) =>
    decide ((j < 3) ∧ (s.rd 0x2501 0x01 = 1) ∧ (s.rd 0x2501 0x02 = j + 1) ∧ (s.trialGood = true)))
        ({ at_ [(0x2501, 1, 1), (0x2501, 2, 3), (0x4000, 0, 1), (0x2512, 2, 4)] with bundle := some legal, security := { up.security with images := [(4, { bundle := some legal })] } })
        2 = true ∧
    (fun (s : State) (r : Requester) (j : Nat) =>
    decide ((j < 3) ∧ (s.mayWrite r 0x2501 0x06 1 = true))) (at_ [(0x2512, 1, 0), (0x2512, 2, 3), (0x2512, 3, 0)])
        (.mailbox 0) 2 = true ∧
    (fun (s : State) (j : Nat) =>
    decide ((j < 3) ∧ (s.rd 0x2501 0x01 = 1) ∧ (s.rd 0x2501 0x02 = j + 1) ∧ (s.onTrial j = true) ∧ ((s.decidingRec.any
        (fun y => y.type = jFallback)) = false))) (at_ [(0x2501, 1, 1), (0x2501, 2, 3), (0x2512, 2, 4)]) 2 = true ∧
    (fun (s : State) (j : Nat) =>
    decide ((j < 3) ∧ (s.security.fallbackDue = true) ∧ (s.engineSt ≤ 1)))
        ({ at_ [(0x4000, 0, 1)] with security := { up.security with fallbackDue := true } }) 2 = true ∧
    (fun (s : State) (j : Nat) =>
    decide ((j < 3) ∧ ((s.security.fallbackDue = false ∨ 1 < s.engineSt)))) (at_ [(0x2512, 1, 0), (0x2512, 2, 3),
        (0x2512, 3, 0)]) 2 = true := by
  refine ⟨?_, ?_, ?_, ?_, ?_, ?_, ?_, ?_, ?_, ?_, ?_, ?_, ?_, ?_, ?_⟩ <;> decide +kernel

/-- States and operands that meet the hypotheses of each clause of KernelShortResults. -/
theorem witness_KernelShortResults :
    (fun (s : State) (k : Nat) (rd : Nat) (rs : Nat) =>
    decide ((rd < 16) ∧ (s.atInstr k (.mv k rd rs) = true))) (runs 79 (.mv 79 15 4) []) 79 15 4 = true ∧
    (fun (s : State) (k : Nat) (rd : Nat) (rs : Nat) =>
    decide ((rd < 16) ∧ (s.atInstr k (.add k rd rs) = true))) (runs 79 (.add 79 15 4) []) 79 15 4 = true ∧
    (fun (s : State) (k : Nat) (rd : Nat) (rs : Nat) =>
    decide ((rd < 16) ∧ (s.atInstr k (.sub k rd rs) = true))) (runs 79 (.sub 79 15 4) []) 79 15 4 = true ∧
    (fun (s : State) (k : Nat) (rd : Nat) (rs : Nat) =>
    decide ((rd < 16) ∧ (s.atInstr k (.and k rd rs) = true))) (runs 79 (.and 79 15 4) []) 79 15 4 = true ∧
    (fun (s : State) (k : Nat) (rd : Nat) (rs : Nat) =>
    decide ((rd < 16) ∧ (s.atInstr k (.or k rd rs) = true))) (runs 79 (.or 79 15 4) []) 79 15 4 = true ∧
    (fun (s : State) (k : Nat) (rd : Nat) (rs : Nat) =>
    decide ((rd < 16) ∧ (s.atInstr k (.xor k rd rs) = true))) (runs 79 (.xor 79 15 4) []) 79 15 4 = true ∧
    (fun (s : State) (k : Nat) (rd : Nat) (rs : Nat) =>
    decide ((rd < 16) ∧ (s.atInstr k (.sll k rd rs) = true))) (runs 79 (.sll 79 15 4) []) 79 15 4 = true ∧
    (fun (s : State) (k : Nat) (rd : Nat) (rs : Nat) =>
    decide ((rd < 16) ∧ (s.atInstr k (.srl k rd rs) = true))) (runs 79 (.srl 79 15 4) []) 79 15 4 = true ∧
    (fun (s : State) (k : Nat) (rd : Nat) (rs : Nat) =>
    decide ((rd < 16) ∧ (s.atInstr k (.sra k rd rs) = true))) (runs 79 (.sra 79 15 4) []) 79 15 4 = true ∧
    (fun (s : State) (k : Nat) (rd : Nat) (imm : BitVec 7) =>
    decide ((rd < 16) ∧ (s.atInstr k (.li k rd imm) = true))) (runs 79 (.li 79 15 12) []) 79 15 12 = true ∧
    (fun (s : State) (k : Nat) (rd : Nat) (imm : BitVec 7) =>
    decide ((rd < 16) ∧ (s.atInstr k (.cAddi k rd imm) = true))) (runs 79 (.cAddi 79 15 12) []) 79 15 12 = true ∧
    (fun (s : State) (k : Nat) (rd : Nat) (rs : Nat) =>
    decide ((rd < 16) ∧ (s.atInstr k (.jr k rs) = true))) (runs 79 (.jr 79 4) []) 79 15 4 = true ∧
    (fun (s : State) (k : Nat) (rd : Nat) =>
    decide ((rd < 16) ∧ (s.atInstr k (.nop k) = true))) (runs 79 (.nop 79) []) 79 15 = true := by
  refine ⟨?_, ?_, ?_, ?_, ?_, ?_, ?_, ?_, ?_, ?_, ?_, ?_, ?_⟩ <;> decide +kernel

/-- States and operands that meet the hypotheses of each clause of KernelAluResults. -/
theorem witness_KernelAluResults :
    (fun (s : State) (k : Nat) (rd : Nat) (rs1 : Nat) (rs2 : Nat) =>
    decide ((rd < 16) ∧ (s.atInstr k (.aluAdd k rd rs1 rs2) = true))) (runs 79 (.aluAdd 79 15 4 5) []) 79 15 4 5 =
        true ∧
    (fun (s : State) (k : Nat) (rd : Nat) (rs1 : Nat) (rs2 : Nat) =>
    decide ((rd < 16) ∧ (s.atInstr k (.aluSub k rd rs1 rs2) = true))) (runs 79 (.aluSub 79 15 4 5) []) 79 15 4 5 =
        true ∧
    (fun (s : State) (k : Nat) (rd : Nat) (rs1 : Nat) (rs2 : Nat) =>
    decide ((rd < 16) ∧ (s.atInstr k (.aluAnd k rd rs1 rs2) = true))) (runs 79 (.aluAnd 79 15 4 5) []) 79 15 4 5 =
        true ∧
    (fun (s : State) (k : Nat) (rd : Nat) (rs1 : Nat) (rs2 : Nat) =>
    decide ((rd < 16) ∧ (s.atInstr k (.aluOr k rd rs1 rs2) = true))) (runs 79 (.aluOr 79 15 4 5) []) 79 15 4 5 = true ∧
    (fun (s : State) (k : Nat) (rd : Nat) (rs1 : Nat) (rs2 : Nat) =>
    decide ((rd < 16) ∧ (s.atInstr k (.aluXor k rd rs1 rs2) = true))) (runs 79 (.aluXor 79 15 4 5) []) 79 15 4 5 =
        true ∧
    (fun (s : State) (k : Nat) (rd : Nat) (rs1 : Nat) (rs2 : Nat) =>
    decide ((rd < 16) ∧ (s.atInstr k (.aluSll k rd rs1 rs2) = true))) (runs 79 (.aluSll 79 15 4 5) []) 79 15 4 5 =
        true ∧
    (fun (s : State) (k : Nat) (rd : Nat) (rs1 : Nat) (rs2 : Nat) =>
    decide ((rd < 16) ∧ (s.atInstr k (.aluSrl k rd rs1 rs2) = true))) (runs 79 (.aluSrl 79 15 4 5) []) 79 15 4 5 =
        true ∧
    (fun (s : State) (k : Nat) (rd : Nat) (rs1 : Nat) (rs2 : Nat) =>
    decide ((rd < 16) ∧ (s.atInstr k (.aluSra k rd rs1 rs2) = true))) (runs 79 (.aluSra 79 15 4 5) []) 79 15 4 5 =
        true ∧
    (fun (s : State) (k : Nat) (rd : Nat) (rs1 : Nat) (rs2 : Nat) =>
    decide ((rd < 16) ∧ (s.atInstr k (.setlt k rd rs1 rs2) = true))) (runs 79 (.setlt 79 15 4 5) []) 79 15 4 5 = true ∧
    (fun (s : State) (k : Nat) (rd : Nat) (rs1 : Nat) (rs2 : Nat) =>
    decide ((rd < 16) ∧ (s.atInstr k (.setlo k rd rs1 rs2) = true))) (runs 79 (.setlo 79 15 4 5) []) 79 15 4 5 = true ∧
    (fun (s : State) (k : Nat) (rd : Nat) (rs1 : Nat) (rs2 : Nat) =>
    decide ((rd < 16) ∧ (s.atInstr k (.mul k rd rs1 rs2) = true))) (runs 79 (.mul 79 15 4 5) []) 79 15 4 5 = true ∧
    (fun (s : State) (k : Nat) (rd : Nat) (rs1 : Nat) (rs2 : Nat) =>
    decide ((rd < 16) ∧ (s.atInstr k (.mulhi k rd rs1 rs2) = true))) (runs 79 (.mulhi 79 15 4 5) []) 79 15 4 5 = true ∧
    (fun (s : State) (k : Nat) (rd : Nat) (rs1 : Nat) (imm : BitVec 17) =>
    decide ((rd < 16) ∧ (s.atInstr k (.addi k rd rs1 imm) = true))) (runs 79 (.addi 79 15 4 12) []) 79 15 4 12 = true ∧
    (fun (s : State) (k : Nat) (rd : Nat) (rs1 : Nat) (imm : BitVec 17) =>
    decide ((rd < 16) ∧ (s.atInstr k (.andi k rd rs1 imm) = true))) (runs 79 (.andi 79 15 4 12) []) 79 15 4 12 = true ∧
    (fun (s : State) (k : Nat) (rd : Nat) (rs1 : Nat) (imm : BitVec 17) =>
    decide ((rd < 16) ∧ (s.atInstr k (.ori k rd rs1 imm) = true))) (runs 79 (.ori 79 15 4 12) []) 79 15 4 12 = true ∧
    (fun (s : State) (k : Nat) (rd : Nat) (rs1 : Nat) (imm : BitVec 17) =>
    decide ((rd < 16) ∧ (s.atInstr k (.xori k rd rs1 imm) = true))) (runs 79 (.xori 79 15 4 12) []) 79 15 4 12 = true ∧
    (fun (s : State) (k : Nat) (rd : Nat) (rs1 : Nat) (sh : BitVec 5) =>
    decide ((rd < 16) ∧ (s.atInstr k (.shiSll k rd rs1 sh) = true))) (runs 79 (.shiSll 79 15 4 31) []) 79 15 4 31 =
        true ∧
    (fun (s : State) (k : Nat) (rd : Nat) (rs1 : Nat) (sh : BitVec 5) =>
    decide ((rd < 16) ∧ (s.atInstr k (.shiSrl k rd rs1 sh) = true))) (runs 79 (.shiSrl 79 15 4 31) []) 79 15 4 31 =
        true ∧
    (fun (s : State) (k : Nat) (rd : Nat) (rs1 : Nat) (sh : BitVec 5) =>
    decide ((rd < 16) ∧ (s.atInstr k (.shiSra k rd rs1 sh) = true))) (runs 79 (.shiSra 79 15 4 31) []) 79 15 4 31 =
        true ∧
    (fun (s : State) (k : Nat) (rd : Nat) (rs1 : Nat) (imm : BitVec 17) =>
    decide ((rd < 16) ∧ (s.atInstr k (.setlti k rd rs1 imm) = true))) (runs 79 (.setlti 79 15 4 12) []) 79 15 4 12 =
        true ∧
    (fun (s : State) (k : Nat) (rd : Nat) (upper : BitVec 21) =>
    decide ((rd < 16) ∧ (s.atInstr k (.lhi k rd upper) = true))) (runs 79 (.lhi 79 15 0x1FFFFF) []) 79 15 0x1FFFFF =
        true := by
  refine ⟨?_, ?_, ?_, ?_, ?_, ?_, ?_, ?_, ?_, ?_, ?_, ?_, ?_, ?_, ?_, ?_, ?_, ?_, ?_, ?_, ?_⟩ <;> decide +kernel

/-- States and operands that meet the hypotheses of each clause of KernelBranches. -/
theorem witness_KernelBranches :
    (fun (s : State) (k : Nat) (rd : Nat) (rs1 : Nat) (off : BitVec 7) =>
    decide ((rd < 16) ∧ (s.atInstr k (.beqz k rs1 off) = true))) (runs 79 (.beqz 79 4 9) []) 79 15 4 9 = true ∧
    (fun (s : State) (k : Nat) (rd : Nat) (rs1 : Nat) (off : BitVec 7) =>
    decide ((rd < 16) ∧ (s.atInstr k (.bnez k rs1 off) = true))) (runs 79 (.bnez 79 4 9) []) 79 15 4 9 = true ∧
    (fun (s : State) (k : Nat) (rd : Nat) (rs1 : Nat) (off : BitVec 7) =>
    decide ((rd < 16) ∧ (s.atInstr k (.bltz k rs1 off) = true))) (runs 79 (.bltz 79 4 9) []) 79 15 4 9 = true ∧
    (fun (s : State) (k : Nat) (rd : Nat) (rs1 : Nat) (off : BitVec 7) =>
    decide ((rd < 16) ∧ (s.atInstr k (.bgez k rs1 off) = true))) (runs 79 (.bgez 79 4 9) []) 79 15 4 9 = true ∧
    (fun (s : State) (k : Nat) (rd : Nat) (rs1 : Nat) (rs2 : Nat) (imm : BitVec 17) =>
    decide ((rd < 16) ∧ (s.atInstr k (.beq k rs1 rs2 imm) = true))) (runs 79 (.beq 79 4 5 12) []) 79 15 4 5 12 = true ∧
    (fun (s : State) (k : Nat) (rd : Nat) (rs1 : Nat) (rs2 : Nat) (imm : BitVec 17) =>
    decide ((rd < 16) ∧ (s.atInstr k (.bne k rs1 rs2 imm) = true))) (runs 79 (.bne 79 4 5 12) []) 79 15 4 5 12 = true ∧
    (fun (s : State) (k : Nat) (rd : Nat) (rs1 : Nat) (rs2 : Nat) (imm : BitVec 17) =>
    decide ((rd < 16) ∧ (s.atInstr k (.blt k rs1 rs2 imm) = true))) (runs 79 (.blt 79 4 5 12) []) 79 15 4 5 12 = true ∧
    (fun (s : State) (k : Nat) (rd : Nat) (rs1 : Nat) (rs2 : Nat) (imm : BitVec 17) =>
    decide ((rd < 16) ∧ (s.atInstr k (.bge k rs1 rs2 imm) = true))) (runs 79 (.bge 79 4 5 12) []) 79 15 4 5 12 = true ∧
    (fun (s : State) (k : Nat) (rd : Nat) (rs1 : Nat) (rs2 : Nat) (imm : BitVec 17) =>
    decide ((rd < 16) ∧ (s.atInstr k (.blo k rs1 rs2 imm) = true))) (runs 79 (.blo 79 4 5 12) []) 79 15 4 5 12 = true ∧
    (fun (s : State) (k : Nat) (rd : Nat) (rs1 : Nat) (rs2 : Nat) (imm : BitVec 17) =>
    decide ((rd < 16) ∧ (s.atInstr k (.bhs k rs1 rs2 imm) = true))) (runs 79 (.bhs 79 4 5 12) []) 79 15 4 5 12 = true ∧
    (fun (s : State) (k : Nat) (rd : Nat) (far : BitVec 21) =>
    decide ((rd < 16) ∧ (s.atInstr k (.call k rd far) = true))) (runs 79 (.call 79 15 0x1FFFFF) []) 79 15 0x1FFFFF =
        true ∧
    (fun (s : State) (k : Nat) (rd : Nat) (rs1 : Nat) (imm : BitVec 17) =>
    decide ((rd < 16) ∧ (s.atInstr k (.callr k rd rs1 imm) = true))) (runs 79 (.callr 79 15 4 12) []) 79 15 4 12 =
        true := by
  refine ⟨?_, ?_, ?_, ?_, ?_, ?_, ?_, ?_, ?_, ?_, ?_, ?_⟩ <;> decide +kernel

/-- States and operands that meet the hypotheses of each clause of KernelMemory. -/
theorem witness_KernelMemory :
    (fun (s : State) (k : Nat) (rd : Nat) (off : BitVec 7) =>
    let sp := (s.greg k 13 + 4 * off.setWidth 32).toNat
    let plain := fun x : Nat => areaOf k x ≠ .none ∧ areaOf k x ≠ .window
    decide ((rd < 16) ∧ (s.atInstr k (.lws k rd off) = true) ∧ (sp % 4 = 0) ∧ (plain sp))) (runs 79 (.lws 79 15 9)
        [(13, 0x00300000)]) 79 15 9 = true ∧
    (fun (s : State) (k : Nat) (rd : Nat) (rs1 : Nat) (imm : BitVec 17) =>
    let a := (s.greg k rs1 + imm.signExtend 32).toNat
    let plain := fun x : Nat => areaOf k x ≠ .none ∧ areaOf k x ≠ .window
    decide ((rd < 16) ∧ (s.atInstr k (.lw k rd rs1 imm) = true) ∧ (a % 4 = 0) ∧ (plain a))) (runs 79 (.lw 79 15 4 12)
        []) 79 15 4 12 = true ∧
    (fun (s : State) (k : Nat) (rd : Nat) (rs1 : Nat) (imm : BitVec 17) =>
    let a := (s.greg k rs1 + imm.signExtend 32).toNat
    let plain := fun x : Nat => areaOf k x ≠ .none ∧ areaOf k x ≠ .window
    decide ((rd < 16) ∧ (s.atInstr k (.lh k rd rs1 imm) = true) ∧ (a % 2 = 0) ∧ (plain a))) (runs 79 (.lh 79 15 4 10)
        [(13, 0x00300000)]) 79 15 4 10 = true ∧
    (fun (s : State) (k : Nat) (rd : Nat) (rs1 : Nat) (imm : BitVec 17) =>
    let a := (s.greg k rs1 + imm.signExtend 32).toNat
    let plain := fun x : Nat => areaOf k x ≠ .none ∧ areaOf k x ≠ .window
    decide ((rd < 16) ∧ (s.atInstr k (.lhu k rd rs1 imm) = true) ∧ (a % 2 = 0) ∧ (plain a))) (runs 79 (.lhu 79 15 4
        12) []) 79 15 4 12 = true ∧
    (fun (s : State) (k : Nat) (rd : Nat) (rs1 : Nat) (imm : BitVec 17) =>
    let a := (s.greg k rs1 + imm.signExtend 32).toNat
    let plain := fun x : Nat => areaOf k x ≠ .none ∧ areaOf k x ≠ .window
    decide ((rd < 16) ∧ (s.atInstr k (.lb k rd rs1 imm) = true) ∧ (plain a))) (runs 79 (.lb 79 15 4 11) [(13,
        0x00300000)]) 79 15 4 11 = true ∧
    (fun (s : State) (k : Nat) (rd : Nat) (rs1 : Nat) (imm : BitVec 17) =>
    let a := (s.greg k rs1 + imm.signExtend 32).toNat
    let plain := fun x : Nat => areaOf k x ≠ .none ∧ areaOf k x ≠ .window
    decide ((rd < 16) ∧ (s.atInstr k (.lbu k rd rs1 imm) = true) ∧ (plain a))) (runs 79 (.lbu 79 15 4 11) [(13,
        0x00300000)]) 79 15 4 11 = true ∧
    (fun (s : State) (k : Nat) (rd : Nat) (off : BitVec 7) =>
    let sp := (s.greg k 13 + 4 * off.setWidth 32).toNat
    let plain := fun x : Nat => areaOf k x = .code ∨ areaOf k x = .data ∨ areaOf k x = .staging
    decide ((s.atInstr k (.sws k rd off) = true) ∧ (sp % 4 = 0) ∧ (plain sp))) (runs 79 (.sws 79 15 9) [(13,
        0x00400000)]) 79 15 9 = true ∧
    (fun (s : State) (k : Nat) (rs1 : Nat) (rs2 : Nat) (imm : BitVec 17) =>
    let a := (s.greg k rs1 + imm.signExtend 32).toNat
    let plain := fun x : Nat => areaOf k x = .code ∨ areaOf k x = .data ∨ areaOf k x = .staging
    decide ((s.atInstr k (.sw k rs1 rs2 imm) = true) ∧ (a % 4 = 0) ∧ (plain a))) (runs 79 (.sw 79 4 5 12) []) 79 4 5
        12 = true ∧
    (fun (s : State) (k : Nat) (rs1 : Nat) (rs2 : Nat) (imm : BitVec 17) =>
    let a := (s.greg k rs1 + imm.signExtend 32).toNat
    let plain := fun x : Nat => areaOf k x = .code ∨ areaOf k x = .data ∨ areaOf k x = .staging
    decide ((s.atInstr k (.sh k rs1 rs2 imm) = true) ∧ (a % 2 = 0) ∧ (plain a))) (runs 79 (.sh 79 4 5 10) [(13,
        0x00400000)]) 79 4 5 10 = true ∧
    (fun (s : State) (k : Nat) (rs1 : Nat) (rs2 : Nat) (imm : BitVec 17) =>
    let a := (s.greg k rs1 + imm.signExtend 32).toNat
    let plain := fun x : Nat => areaOf k x = .code ∨ areaOf k x = .data ∨ areaOf k x = .staging
    decide ((s.atInstr k (.sb k rs1 rs2 imm) = true) ∧ (plain a))) (runs 79 (.sb 79 4 5 11) [(13, 0x00400000)]) 79 4 5
        11 = true ∧
    (fun (s : State) (k : Nat) (rd : Nat) (rs1 : Nat) (off : BitVec 7) (imm : BitVec 17) (g : Instr × Nat × Nat × Bool
        × Nat) =>
    let a := (s.greg k rs1 + imm.signExtend 32).toNat
    let sp := (s.greg k 13 + 4 * off.setWidth 32).toNat
    let at_ := g.2.1
    let n := g.2.2.1
    decide ((rd < 16) ∧ (g ∈ [(Instr.lws k rd off, sp, 4, false, 2), (.lw k rd rs1 imm, a, 4, false, 4), (.lh k rd rs1
        imm, a, 2, true, 4),          (.lhu k rd rs1 imm, a, 2, false, 4), (.lb k rd rs1 imm, a, 1, true, 4), (.lbu k
        rd rs1 imm, a, 1, false, 4)]) ∧ (s.atInstr k g.1 = true) ∧ (at_ % n ≠ 0))) (runs 63 (.lw 63 15 4 3) []) 63 15
        4 1 3 (.lw 63 15 4 3, 0x00100013, 4, false, 4) = true ∧
    (fun (s : State) (k : Nat) (rd : Nat) (rs1 : Nat) (off : BitVec 7) (imm : BitVec 17) (g : Instr × Nat × Nat × Bool
        × Nat) =>
    let a := (s.greg k rs1 + imm.signExtend 32).toNat
    let sp := (s.greg k 13 + 4 * off.setWidth 32).toNat
    let at_ := g.2.1
    let n := g.2.2.1
    decide ((rd < 16) ∧ (g ∈ [(Instr.lws k rd off, sp, 4, false, 2), (.lw k rd rs1 imm, a, 4, false, 4), (.lh k rd rs1
        imm, a, 2, true, 4),          (.lhu k rd rs1 imm, a, 2, false, 4), (.lb k rd rs1 imm, a, 1, true, 4), (.lbu k
        rd rs1 imm, a, 1, false, 4)]) ∧ (s.atInstr k g.1 = true) ∧ (at_ % n = 0) ∧ (areaOf k at_ = .none))) (runs 63
        (.lhu 63 15 4 3) [(4, 0x004FFFFD)]) 63 15 4 1 3 (.lhu 63 15 4 3, 0x00500000, 2, false, 4) = true ∧
    (fun (s : State) (k : Nat) (rd : Nat) (rs1 : Nat) (off : BitVec 7) (imm : BitVec 17) (g : Instr × Nat × Nat × Bool
        × Nat) =>
    let a := (s.greg k rs1 + imm.signExtend 32).toNat
    let sp := (s.greg k 13 + 4 * off.setWidth 32).toNat
    let at_ := g.2.1
    let n := g.2.2.1
    let w := at_ - 0x00200000
    decide ((rd < 16) ∧ (g ∈ [(Instr.lws k rd off, sp, 4, false, 2), (.lw k rd rs1 imm, a, 4, false, 4), (.lh k rd rs1
        imm, a, 2, true, 4),          (.lhu k rd rs1 imm, a, 2, false, 4), (.lb k rd rs1 imm, a, 1, true, 4), (.lbu k
        rd rs1 imm, a, 1, false, 4)]) ∧ (s.atInstr k g.1 = true) ∧ (at_ % n = 0) ∧ (areaOf k at_ = .window) ∧ ((w %
        256 < 0x38 ∨ 0x40 ≤ w % 256)))) (runs 63 (.lh 63 15 4 3) [(4, 0x002006FF)]) 63 15 4 1 3 (.lh 63 15 4 3,
        0x00200702, 2, true, 4) = true ∧
    (fun (s : State) (k : Nat) (rd : Nat) (rs1 : Nat) (rs2 : Nat) (off : BitVec 7) (imm : BitVec 17) (e : Instr × Nat
        × Word × Nat × Nat) =>
    let a := (s.greg k rs1 + imm.signExtend 32).toNat
    let sp := (s.greg k 13 + 4 * off.setWidth 32).toNat
    let at_ := e.2.1
    let n := e.2.2.2.1
    decide ((e ∈ [(Instr.sws k rd off, sp, s.greg k rd, 4, 2), (.sw k rs1 rs2 imm, a, s.greg k rs2, 4, 4),
        (.sh k rs1 rs2 imm, a, s.greg k rs2, 2, 4), (.sb k rs1 rs2 imm, a, s.greg k rs2, 1, 4)]) ∧ (s.atInstr k e.1 =
        true) ∧ (at_ % n ≠ 0))) (runs 63 (.sws 63 15 1) [(13, 2)]) 63 15 4 5 1 4 (.sws 63 15 1, 6, 0, 4, 2) = true ∧
    (fun (s : State) (k : Nat) (rd : Nat) (rs1 : Nat) (rs2 : Nat) (off : BitVec 7) (imm : BitVec 17) (e : Instr × Nat
        × Word × Nat × Nat) =>
    let a := (s.greg k rs1 + imm.signExtend 32).toNat
    let sp := (s.greg k 13 + 4 * off.setWidth 32).toNat
    let at_ := e.2.1
    let n := e.2.2.2.1
    decide ((e ∈ [(Instr.sws k rd off, sp, s.greg k rd, 4, 2), (.sw k rs1 rs2 imm, a, s.greg k rs2, 4, 4),
        (.sh k rs1 rs2 imm, a, s.greg k rs2, 2, 4), (.sb k rs1 rs2 imm, a, s.greg k rs2, 1, 4)]) ∧ (s.atInstr k e.1 =
        true) ∧ (at_ % n = 0) ∧ (areaOf k at_ = .none))) (runs 63 (.sh 63 4 5 4) [(4, 0x004FFFFC)]) 63 15 4 5 1 4 (.sh
        63 4 5 4, 0x00500000, 0, 2, 4) = true ∧
    (fun (s : State) (k : Nat) (rd : Nat) (rs1 : Nat) (rs2 : Nat) (off : BitVec 7) (imm : BitVec 17) (e : Instr × Nat
        × Word × Nat × Nat) =>
    let a := (s.greg k rs1 + imm.signExtend 32).toNat
    let sp := (s.greg k 13 + 4 * off.setWidth 32).toNat
    let at_ := e.2.1
    let n := e.2.2.2.1
    decide ((e ∈ [(Instr.sws k rd off, sp, s.greg k rd, 4, 2), (.sw k rs1 rs2 imm, a, s.greg k rs2, 4, 4),
        (.sh k rs1 rs2 imm, a, s.greg k rs2, 2, 4), (.sb k rs1 rs2 imm, a, s.greg k rs2, 1, 4)]) ∧ (s.atInstr k e.1 =
        true) ∧ (at_ % n = 0) ∧ (areaOf k at_ = .ring))) (runs 63 (.sw 63 4 5 4) [(4, 0x003001F8)]) 63 15 4 5 1 4 (.sw
        63 4 5 4, 0x003001FC, 0, 4, 4) = true ∧
    (fun (s : State) (k : Nat) (rd : Nat) (rs1 : Nat) (rs2 : Nat) (off : BitVec 7) (imm : BitVec 17) (e : Instr × Nat
        × Word × Nat × Nat) =>
    let a := (s.greg k rs1 + imm.signExtend 32).toNat
    let sp := (s.greg k 13 + 4 * off.setWidth 32).toNat
    let at_ := e.2.1
    let n := e.2.2.2.1
    let w := at_ - 0x00200000
    let o := w % 256
    let inWindow := s.atInstr k e.1 = true ∧ at_ % n = 0 ∧ areaOf k at_ = .window
    decide ((e ∈ [(Instr.sws k rd off, sp, s.greg k rd, 4, 2), (.sw k rs1 rs2 imm, a, s.greg k rs2, 4, 4),
        (.sh k rs1 rs2 imm, a, s.greg k rs2, 2, 4), (.sb k rs1 rs2 imm, a, s.greg k rs2, 1, 4)]) ∧ (inWindow) ∧
        (winReadOnly o = true))) (runs 63 (.sw 63 4 5 4) [(4, 0x00200730)]) 63 15 4 5 1 4 (.sw 63 4 5 4, 0x00200734,
        0, 4, 4) = true ∧
    (fun (s : State) (k : Nat) (rd : Nat) (rs1 : Nat) (rs2 : Nat) (off : BitVec 7) (imm : BitVec 17) (e : Instr × Nat
        × Word × Nat × Nat) =>
    let a := (s.greg k rs1 + imm.signExtend 32).toNat
    let sp := (s.greg k 13 + 4 * off.setWidth 32).toNat
    let at_ := e.2.1
    let n := e.2.2.2.1
    let w := at_ - 0x00200000
    let o := w % 256
    let inWindow := s.atInstr k e.1 = true ∧ at_ % n = 0 ∧ areaOf k at_ = .window
    decide ((e ∈ [(Instr.sws k rd off, sp, s.greg k rd, 4, 2), (.sw k rs1 rs2 imm, a, s.greg k rs2, 4, 4),
        (.sh k rs1 rs2 imm, a, s.greg k rs2, 2, 4), (.sb k rs1 rs2 imm, a, s.greg k rs2, 1, 4)]) ∧ (inWindow) ∧ (o <
        32))) (runs 63 (.sb 63 4 5 4) [(4, 0x0020071B), (5, 255)]) 63 15 4 5 1 4 (.sb 63 4 5 4, 0x0020071F, 255, 1, 4)
        = true ∧
    (fun (s : State) (k : Nat) (rd : Nat) (rs1 : Nat) (rs2 : Nat) (off : BitVec 7) (imm : BitVec 17) (e : Instr × Nat
        × Word × Nat × Nat) =>
    let a := (s.greg k rs1 + imm.signExtend 32).toNat
    let sp := (s.greg k 13 + 4 * off.setWidth 32).toNat
    let at_ := e.2.1
    let n := e.2.2.2.1
    let w := at_ - 0x00200000
    let o := w % 256
    let inWindow := s.atInstr k e.1 = true ∧ at_ % n = 0 ∧ areaOf k at_ = .window
    decide ((e ∈ [(Instr.sws k rd off, sp, s.greg k rd, 4, 2), (.sw k rs1 rs2 imm, a, s.greg k rs2, 4, 4),
        (.sh k rs1 rs2 imm, a, s.greg k rs2, 2, 4), (.sb k rs1 rs2 imm, a, s.greg k rs2, 1, 4)]) ∧ (inWindow) ∧ (n =
        4) ∧ (o = 0x3C))) (runs 63 (.sw 63 4 5 4) [(4, 0x00200738), (5, 255)]) 63 15 4 5 1 4 (.sw 63 4 5 4,
        0x0020073C, 255, 4, 4) = true ∧
    (fun (s : State) (k : Nat) (rd : Nat) (rs1 : Nat) (rs2 : Nat) (off : BitVec 7) (imm : BitVec 17) (e : Instr × Nat
        × Word × Nat × Nat) =>
    let a := (s.greg k rs1 + imm.signExtend 32).toNat
    let sp := (s.greg k 13 + 4 * off.setWidth 32).toNat
    let at_ := e.2.1
    let n := e.2.2.2.1
    let w := at_ - 0x00200000
    let o := w % 256
    let inWindow := s.atInstr k e.1 = true ∧ at_ % n = 0 ∧ areaOf k at_ = .window
    decide ((e ∈ [(Instr.sws k rd off, sp, s.greg k rd, 4, 2), (.sw k rs1 rs2 imm, a, s.greg k rs2, 4, 4),
        (.sh k rs1 rs2 imm, a, s.greg k rs2, 2, 4), (.sb k rs1 rs2 imm, a, s.greg k rs2, 1, 4)]) ∧ (inWindow) ∧ (n =
        4) ∧ (o = 0x38))) (runs 63 (.sw 63 4 5 4) [(4, 0x00200734), (5, 255)]) 63 15 4 5 1 4 (.sw 63 4 5 4,
        0x00200738, 255, 4, 4) = true ∧
    (fun (s : State) (k : Nat) (rd : Nat) (rs1 : Nat) (rs2 : Nat) (off : BitVec 7) (imm : BitVec 17) (e : Instr × Nat
        × Word × Nat × Nat) =>
    let a := (s.greg k rs1 + imm.signExtend 32).toNat
    let sp := (s.greg k 13 + 4 * off.setWidth 32).toNat
    let at_ := e.2.1
    let n := e.2.2.2.1
    let w := at_ - 0x00200000
    let o := w % 256
    let inWindow := s.atInstr k e.1 = true ∧ at_ % n = 0 ∧ areaOf k at_ = .window
    decide ((e ∈ [(Instr.sws k rd off, sp, s.greg k rd, 4, 2), (.sw k rs1 rs2 imm, a, s.greg k rs2, 4, 4),
        (.sh k rs1 rs2 imm, a, s.greg k rs2, 2, 4), (.sb k rs1 rs2 imm, a, s.greg k rs2, 1, 4)]) ∧ (inWindow) ∧ (n =
        4) ∧ (o = 0x40))) (runs 63 (.sw 63 4 5 4) [(4, 0x0020073C), (5, 0x80000001)]) 63 15 4 5 1 4 (.sw 63 4 5 4,
        0x00200740, 0x80000001, 4, 4) = true ∧
    (fun (s : State) (k : Nat) (rd : Nat) (rs1 : Nat) (rs2 : Nat) (off : BitVec 7) (imm : BitVec 17) (e : Instr × Nat
        × Word × Nat × Nat) =>
    let a := (s.greg k rs1 + imm.signExtend 32).toNat
    let sp := (s.greg k 13 + 4 * off.setWidth 32).toNat
    let at_ := e.2.1
    let n := e.2.2.2.1
    let w := at_ - 0x00200000
    let o := w % 256
    let inWindow := s.atInstr k e.1 = true ∧ at_ % n = 0 ∧ areaOf k at_ = .window
    decide ((e ∈ [(Instr.sws k rd off, sp, s.greg k rd, 4, 2), (.sw k rs1 rs2 imm, a, s.greg k rs2, 4, 4),
        (.sh k rs1 rs2 imm, a, s.greg k rs2, 2, 4), (.sb k rs1 rs2 imm, a, s.greg k rs2, 1, 4)]) ∧ (inWindow) ∧ ((0x4C
        ≤ o ∨ 0x24 ≤ o ∧ o < 0x28)))) (runs 63 (.sw 63 4 5 4) [(4, 0x002007F8), (5, 255)]) 63 15 4 5 1 4 (.sw 63 4 5
        4, 0x002007FC, 255, 4, 4) = true := by
  refine ⟨?_, ?_, ?_, ?_, ?_, ?_, ?_, ?_, ?_, ?_, ?_, ?_, ?_, ?_, ?_, ?_, ?_, ?_, ?_, ?_, ?_, ?_⟩ <;> decide +kernel

/-- States and operands that meet the hypotheses of each clause of KernelControlRegisters. -/
theorem witness_KernelControlRegisters :
    (fun (s : State) (k : Nat) (rd : Nat) =>
    decide ((rd < 16) ∧ (s.atInstr k (.crd k rd 0x003) = true))) (runs 79 (.crd 79 15 0x003) []) 79 15 = true ∧
    (fun (s : State) (k : Nat) (rd : Nat) =>
    decide ((rd < 16) ∧ (s.atInstr k (.crd k rd 0x005) = true))) (runs 79 (.crd 79 15 0x005) []) 79 15 = true ∧
    (fun (s : State) (k : Nat) (rd : Nat) =>
    decide ((rd < 16) ∧ (s.atInstr k (.crd k rd 0x006) = true))) (runs 79 (.crd 79 15 0x006) []) 79 15 = true ∧
    (fun (s : State) (k : Nat) (rd : Nat) =>
    decide ((rd < 16) ∧ (s.atInstr k (.crd k rd 0x013) = true))) (runs 79 (.crd 79 15 0x013) []) 79 15 = true ∧
    (fun (s : State) (k : Nat) (rd : Nat) =>
    decide ((rd < 16) ∧ (s.atInstr k (.crd k rd 0x002) = true))) (runs 79 (.crd 79 15 0x002) []) 79 15 = true ∧
    (fun (s : State) (k : Nat) (rd : Nat) =>
    decide ((rd < 16) ∧ (s.atInstr k (.crd k rd 0x004) = true))) (runs 79 (.crd 79 15 0x004) []) 79 15 = true ∧
    (fun (s : State) (k : Nat) (rd : Nat) (rs1 : Nat) =>
    decide ((rd < 16) ∧ (s.atInstr k (.cwr k rs1 0x013) = true))) (runs 79 (.cwr 79 4 0x013) []) 79 15 4 = true ∧
    (fun (s : State) (k : Nat) (rd : Nat) (rs1 : Nat) =>
    decide ((rd < 16) ∧ (s.atInstr k (.cwr k rs1 0x011) = true))) (runs 79 (.cwr 79 4 0x011) []) 79 15 4 = true ∧
    (fun (s : State) (k : Nat) (rd : Nat) (rs1 : Nat) =>
    decide ((rd < 16) ∧ (s.atInstr k (.cwr k rs1 0x012) = true))) (runs 79 (.cwr 79 4 0x012) []) 79 15 4 = true ∧
    (fun (s : State) (k : Nat) (rd : Nat) (rs1 : Nat) =>
    decide ((rd < 16) ∧ (s.atInstr k (.cor k rs1 0x013) = true))) (runs 79 (.cor 79 4 0x013) []) 79 15 4 = true ∧
    (fun (s : State) (k : Nat) (rd : Nat) (rs1 : Nat) =>
    decide ((rd < 16) ∧ (s.atInstr k (.cwr k rs1 0x000) = true))) (runs 79 (.cwr 79 4 0x000) []) 79 15 4 = true ∧
    (fun (s : State) (k : Nat) (rd : Nat) =>
    decide ((rd < 16) ∧ (s.atInstr k (.crd k rd 0xFFF) = true))) (runs 79 (.crd 79 15 0xFFF) []) 79 15 = true ∧
    (fun (s : State) (k : Nat) (rd : Nat) =>
    decide ((rd < 16) ∧ (s.atInstr k (.sync k) = true))) (runs 79 (.sync 79) []) 79 15 = true := by
  refine ⟨?_, ?_, ?_, ?_, ?_, ?_, ?_, ?_, ?_, ?_, ?_, ?_, ?_⟩ <;> decide +kernel

/-- States and operands that meet the hypotheses of each clause of KernelEvents. -/
theorem witness_KernelEvents :
    (fun (s : State) (k : Nat) (rd : Nat) (rs1 : Nat) =>
    let mask : BitVec 8 := (s.greg k rs1).setWidth 8
    let hit := s.evPend k &&& mask
    decide ((rd < 16) ∧ (s.atInstr k (.wait k rd rs1) = true) ∧ (hit ≠ 0)))
        ({ runs 79 (.wait 79 15 5) [(5, 0x48)] with kernels := [(79, { (runs 79 (.wait 79 15 5) [(5, 0x48)]).kernel 79 with edges := 0x40 })] })
        79 15 5 = true ∧
    (fun (s : State) (k : Nat) (rd : Nat) (rs1 : Nat) =>
    let mask : BitVec 8 := (s.greg k rs1).setWidth 8
    let hit := s.evPend k &&& mask
    decide ((rd < 16) ∧ (s.atInstr k (.wait k rd rs1) = true) ∧ (mask ≠ 0) ∧ (hit = 0))) (runs 79 (.wait 79 15 4) [(4,
        0x48)]) 79 15 4 = true ∧
    (fun (s : State) (k : Nat) (rd : Nat) (rs1 : Nat) =>
    let mask : BitVec 8 := (s.greg k rs1).setWidth 8
    decide ((rd < 16) ∧ (s.atInstr k (.wait k rd rs1) = true) ∧ (mask = 0))) (runs 79 (.wait 79 15 4) [(4, 0)]) 79 15
        4 = true ∧
    (fun (s : State) (k : Nat) (rd : Nat) (q : Nat) (m : BitVec 8) =>
    let x := s.kernel k
    decide ((rd < 16) ∧ (k < 80) ∧ (s.kernelSt k = 2) ∧ (q < 16) ∧ (x.wait = some (q, m)) ∧ (s.evPend k &&& m ≠ 0)))
        ({ at_ [(0x6810 + 79, 1, 2)] with kernels := [(79, { wait := some (15, 0x48), edges := 0x40 })] }) 79 0 15
        0x48 = true ∧
    (fun (s : State) (k : Nat) (rd : Nat) =>
    let x := s.kernel k
    decide ((rd < 16) ∧ (k < 80) ∧ (x.timer.isSome = true) ∧ (s.domSt 0 = 1)))
        ({ at_ [(0x2040, 1, 1)] with kernels := [(79, { timer := some 5 })] }) 79 15 = true ∧
    (fun (s : State) (k : Nat) (rd : Nat) =>
    decide ((rd < 16) ∧ (k < 80) ∧ (s.domSt 0 ≠ 1)))
        ({ runs 79 (.wait 79 15 5) [(5, 0x48)] with kernels := [(79, { (runs 79 (.wait 79 15 5) [(5, 0x48)]).kernel 79 with edges := 0x40 })] })
        79 15 = true ∧
    (fun (s : State) (k : Nat) (rd : Nat) (p : Nat) =>
    let x := s.kernel k
    decide ((rd < 16) ∧ (k < 64) ∧ (p < 8) ∧ (x.eyeRun.contains p = true)))
        ({ up with kernels := [(63, { eyeRun := [6, 7] })] }) 63 0 7 = true := by
  refine ⟨?_, ?_, ?_, ?_, ?_, ?_, ?_⟩ <;> decide +kernel

/-- States and operands that meet the hypotheses of each clause of KernelMessages. -/
theorem witness_KernelMessages :
    (fun (s : State) (k : Nat) (rd : Nat) (rs1 : Nat) =>
    let a := (s.greg k rs1).toNat
    decide ((rd < 16) ∧ (s.atInstr k (.send k rd rs1) = true) ∧ (a % 16 ≠ 0))) (runs 79 (.send 79 15 4) [(4, 8)]) 79
        15 4 = true ∧
    (fun (s : State) (k : Nat) (rd : Nat) (rs1 : Nat) (q : Packet) (len : Nat) (rbuf : Nat) (rmax : Nat) =>
    let a := (s.greg k rs1).toNat
    let node := kernelNode k
    let credit := s.creditsUsed node q.dest < s.creditsFor node q.dest
    decide ((rd < 16) ∧ (s.atInstr k (.send k rd rs1) = true) ∧ (a % 16 = 0) ∧ (blockFault k a 32 false = 0) ∧
        (blockRequest node (s.kbytes k a 32) = (q, len, rbuf, rmax)) ∧ (lenOk q.cmd q.wcnt len = true) ∧ ((attach
        q.dest).isSome = true) ∧ (areaOf k (a + 31 + 16 * len) = areaOf k a) ∧ (¬credit)))
        (({ runs 79 (.send 79 15 4) [] with bundle := some { legal with credits := [{ node := 0x14F, dest := 0x050, count := 0 }], routes := [{ node := 0x14F, dest := 0x050, primary := 0xFFFFFFF4 }] } }
        : State).setKbytes 79 0x00100010 (natBytes 16 (0x050 * 2 ^ 84 + 2 ^ 64))) 79 15 4
        ({ dest := 0x050, src := 0x14F, cmd := 1 }) 0 0 0 = true ∧
    (fun (s : State) (k : Nat) (rd : Nat) (rs1 : Nat) (q : Packet) (len : Nat) (rbuf : Nat) (rmax : Nat) =>
    let a := (s.greg k rs1).toNat
    let node := kernelNode k
    let units := (List.range len).map (fun i => BitVec.ofNat 128 (bytesNat (s.kbytes k (a + 32 + 16 * i) 16)))
    let route := (s.requestStatus node q.dest).2
    let leaves : Packet := { q with units := units, route := route }
    let credit := s.creditsUsed node q.dest < s.creditsFor node q.dest
    decide ((rd < 16) ∧ (s.atInstr k (.send k rd rs1) = true) ∧ (a % 16 = 0) ∧ (blockFault k a 32 false = 0) ∧
        (blockRequest node (s.kbytes k a 32) = (q, len, rbuf, rmax)) ∧ (lenOk q.cmd q.wcnt len = true) ∧ ((attach
        q.dest).isSome = true) ∧ (areaOf k (a + 31 + 16 * len) = areaOf k a) ∧ (credit) ∧ ((s.requestStatus node
        q.dest).1 = 0) ∧ (s.otherRoute node q.dest route = false) ∧ ((spineOf leaves).noPort = false)))
        (({ runs 79 (.send 79 15 4) [] with bundle := some { legal with credits := [{ node := 0x14F, dest := 0x050, count := 1 }], routes := [{ node := 0x14F, dest := 0x050, primary := 0xFFFFFFF4 }] } }
        : State).setKbytes 79 0x00100010 (natBytes 16 (0x050 * 2 ^ 84 + 2 ^ 64))) 79 15 4
        ({ dest := 0x050, src := 0x14F, cmd := 1 }) 0 0 0 = true ∧
    (fun (s : State) (k : Nat) (rd : Nat) (rs1 : Nat) (q : Packet) (len : Nat) (rbuf : Nat) (rmax : Nat) =>
    let a := (s.greg k rs1).toNat
    let node := kernelNode k
    let route := (s.requestStatus node q.dest).2
    let credit := s.creditsUsed node q.dest < s.creditsFor node q.dest
    decide ((rd < 16) ∧ (s.atInstr k (.send k rd rs1) = true) ∧ (a % 16 = 0) ∧ (blockFault k a 32 false = 0) ∧
        (blockRequest node (s.kbytes k a 32) = (q, len, rbuf, rmax)) ∧ (lenOk q.cmd q.wcnt len = true) ∧ ((attach
        q.dest).isSome = true) ∧ (areaOf k (a + 31 + 16 * len) = areaOf k a) ∧ (credit) ∧ ((s.requestStatus node
        q.dest).1 = 0) ∧ (s.otherRoute node q.dest route = true)))
        (({ runs 79 (.send 79 15 4) [] with bundle := some { legal with credits := [{ node := 0x14F, dest := 0x050, count := 2 }], routes := [{ node := 0x14F, dest := 0x050, primary := 0xFFFFFFF4 }] }, outReqs := [{ node := 0x14F, dest := 0x050, route := 0xFFFFFF54 }] }
        : State).setKbytes 79 0x00100010 (natBytes 16 (0x050 * 2 ^ 84 + 2 ^ 64))) 79 15 4
        ({ dest := 0x050, src := 0x14F, cmd := 1 }) 0 0 0 = true ∧
    (fun (s : State) (k : Nat) (rd : Nat) (rs1 : Nat) =>
    let x := s.kernel k
    decide ((rd < 16) ∧ (s.atInstr k (.recv k rd rs1) = true) ∧ (x.inbox = []))) (runs 79 (.recv 79 15 4) []) 79 15 4
        = true ∧
    (fun (s : State) (k : Nat) (rd : Nat) (rs1 : Nat) (m : Packet) (rest : List Packet) =>
    let x := s.kernel k
    let a := (s.greg k rs1).toNat
    let bytes := natBytes 16 (headerUnit m).toNat ++ m.units.flatMap (fun u => natBytes 16 u.toNat)
    decide ((rd < 16) ∧ (s.atInstr k (.recv k rd rs1) = true) ∧ (x.inbox = m :: rest) ∧ (blockFault k a bytes.length
        true = 0)))
        ({ runs 79 (.recv 79 15 4) [] with kernels := [(79, { (runs 79 (.recv 79 15 4) []).kernel 79 with inbox := [{ units := [5] }] })] })
        79 15 4 ({ units := [5] }) ([]) = true ∧
    (fun (s : State) (k : Nat) (rd : Nat) (rs1 : Nat) =>
    decide ((rd < 16) ∧ (s.atInstr k (.trig k rd rs1) = true) ∧ (k < 64))) (runs 63 (.trig 63 15 4) []) 63 15 4 = true ∧
    (fun (s : State) (k : Nat) (rd : Nat) (rs1 : Nat) (w0 : Word64) (w1 : Word64) (rest : List (Word64 × Word64)) =>
    let x := s.kernel k
    let a := (s.greg k rs1).toNat
    decide ((rd < 16) ∧ (s.atInstr k (.trig k rd rs1) = true) ∧ (64 ≤ k) ∧ (x.triggers = (w0, w1) :: rest) ∧
        (blockFault k a 16 true = 0)))
        ({ runs 79 (.trig 79 15 4) [] with kernels := [(79, { (runs 79 (.trig 79 15 4) []).kernel 79 with triggers := [(1, 2), (3, 4)] })] })
        79 15 4 1 2 ([(3, 4)]) = true ∧
    (fun (s : State) (k : Nat) (rd : Nat) (rs1 : Nat) (rs2 : Nat) =>
    decide ((rd < 16) ∧ (s.atInstr k (.frag k rd rs1 rs2) = true) ∧ (k < 64))) (runs 63 (.frag 63 15 4 5) []) 63 15 4
        5 = true ∧
    (fun (s : State) (k : Nat) (rd : Nat) (rs1 : Nat) (rs2 : Nat) =>
    let a := (s.greg k rs1).toNat
    let b := (s.greg k rs2).toNat
    decide ((rd < 16) ∧ (s.atInstr k (.frag k rd rs1 rs2) = true) ∧ (64 ≤ k) ∧ (a < 1048576) ∧ (b % 8 = 0) ∧ (32 ≤ b)
        ∧ (s.stagedAll k a b = true) ∧ (fieldAt (s.stageBytes k a b) 0 4 = b) ∧ ((s.engState (k - 64) = 1 ∨ s.engState
        (k - 64) = 2)) ∧ (s.engFree (k - 64) = true)))
        ({ ((runs 79 (.frag 79 15 4 5) [(4, 1048544), (5, 32)]).wr 0x612F 6 1).wr 0x612F 3 1 with kernels := [(79, { (runs 79 (.frag 79 15 4 5) [(4, 1048544), (5, 32)]).kernel 79 with mem := [(0x00400000 + 1048544, 32)], staged := (List.range 32).map (fun i => (1048544 + i, true)) })] })
        79 15 4 5 = true ∧
    (fun (s : State) (k : Nat) (rd : Nat) (rs1 : Nat) (rs2 : Nat) =>
    let a := (s.greg k rs1).toNat
    let b := (s.greg k rs2).toNat
    decide ((rd < 16) ∧ (s.atInstr k (.frag k rd rs1 rs2) = true) ∧ (64 ≤ k) ∧ ((1048576 ≤ a ∨ b % 8 ≠ 0 ∨ b < 32 ∨
        s.stagedAll k a b = false ∨ fieldAt (s.stageBytes k a b) 0 4 ≠ b))))
        ({ ((runs 79 (.frag 79 15 4 5) [(4, 1048544), (5, 32)]).wr 0x612F 6 1).wr 0x612F 3 1 with kernels := [(79, { (runs 79 (.frag 79 15 4 5) [(4, 1048544), (5, 32)]).kernel 79 with mem := [(0x00400000 + 1048544, 32)] })] })
        79 15 4 5 = true := by
  refine ⟨?_, ?_, ?_, ?_, ?_, ?_, ?_, ?_, ?_, ?_, ?_⟩ <;> decide +kernel

/-- States and operands that meet the hypotheses of each clause of KernelDictionary. -/
theorem witness_KernelDictionary :
    (fun (s : State) (k : Nat) (rd : Nat) (rs1 : Nat) (rs2 : Nat) =>
    let b := s.greg k rs2
    decide ((rd < 16) ∧ (s.atInstr k (.dictRead k rd rs1 rs2) = true) ∧ (bufferFault k b.toNat 4 true = 0))) (runs 79
        (.dictRead 79 15 4 5) []) 79 15 4 5 = true ∧
    (fun (s : State) (k : Nat) (rd : Nat) (rs1 : Nat) (rs2 : Nat) =>
    let b := s.greg k rs2
    decide ((rd < 16) ∧ (s.atInstr k (.dictWrite k rd rs1 rs2) = true) ∧ (bufferFault k b.toNat (4 + bytesNat
        (s.kbytes k b.toNat 2)) false = 0))) (runs 79 (.dictWrite 79 15 4 5) []) 79 15 4 5 = true ∧
    (fun (s : State) (k : Nat) (rd : Nat) (rs1 : Nat) (v : Nat) =>
    decide ((rd < 16) ∧ (s.atInstr k (.dictPublish k rd rs1 v) = true))) (runs 79 (.dictPublish 79 15 4 16) []) 79 15
        4 16 = true ∧
    (fun (s : State) (k : Nat) (rd : Nat) (d : DictReq) (code : Nat) (value : List Byte) =>
    let x := s.kernel k
    decide ((rd < 16) ∧ (k < 80) ∧ (x.dict = some d) ∧ (x.dictMade = true) ∧ (x.dictDone = some (code, value)) ∧ (code
        ≠ 0) ∧ (d.rd < 16) ∧ (x.stopAfter = false)))
        ({ at_ [(0x6810 + 79, 1, 1)] with kernels := [(79, { dict := some { fn := 0, rd := 15, arg := 5 }, dictMade := true, dictDone := some (0x06020000, []) })] })
        79 0 ({ fn := 0, rd := 15, arg := 5 }) 0x06020000 ([]) = true ∧
    (fun (s : State) (k : Nat) (rd : Nat) (d : DictReq) (value : List Byte) =>
    let x := s.kernel k
    let n := value.length
    let buf := d.buf.toNat
    decide ((rd < 16) ∧ (k < 80) ∧ (x.dict = some d) ∧ (x.dictMade = true) ∧ (x.dictDone = some (0, value)) ∧ (d.rd <
        16) ∧ (x.stopAfter = false) ∧ (d.fn = 0) ∧ (n ≤ 48) ∧ (bufferFault k buf (4 + n) true = 0) ∧ (areaOf k buf ≠
        .window)))
        ({ at_ [(0x6810 + 79, 1, 1)] with kernels := [(79, { dict := some { fn := 0, rd := 15, arg := 5, buf := 0x00100000 }, dictMade := true, dictDone := some (0, List.replicate 48 7) })] })
        79 0 ({ fn := 0, rd := 15, arg := 5, buf := 0x00100000 }) (List.replicate 48 7) = true ∧
    (fun (s : State) (k : Nat) (rd : Nat) (d : DictReq) (value : List Byte) =>
    let x := s.kernel k
    let n := value.length
    let buf := d.buf.toNat
    decide ((rd < 16) ∧ (k < 80) ∧ (x.dict = some d) ∧ (x.dictMade = true) ∧ (x.dictDone = some (0, value)) ∧ (d.rd <
        16) ∧ (x.stopAfter = false) ∧ (d.fn = 0) ∧ (n ≤ 48) ∧ (bufferFault k buf (4 + n) true ≠ 0)))
        ({ at_ [(0x6810 + 79, 1, 1)] with kernels := [(79, { dict := some { fn := 0, rd := 15, arg := 5, buf := 0x00300000 }, dictMade := true, dictDone := some (0, [7]) })] })
        79 0 ({ fn := 0, rd := 15, arg := 5, buf := 0x00300000 }) ([7]) = true ∧
    (fun (s : State) (k : Nat) (rd : Nat) (d : DictReq) (value : List Byte) =>
    let x := s.kernel k
    decide ((rd < 16) ∧ (k < 80) ∧ (x.dict = some d) ∧ (x.dictMade = true) ∧ (x.dictDone = some (0, value)) ∧ (d.rd <
        16) ∧ (x.stopAfter = false) ∧ (d.fn = 1)))
        ({ at_ [(0x6810 + 79, 1, 1)] with kernels := [(79, { dict := some { fn := 1, rd := 15, arg := 5, buf := 0x00100000 }, dictMade := true, dictDone := some (0, []) })] })
        79 0 ({ fn := 1, rd := 15, arg := 5, buf := 0x00100000 }) ([]) = true ∧
    (fun (s : State) (k : Nat) (rd : Nat) (v : Nat) (d : DictReq) =>
    let x := s.kernel k
    decide ((rd < 16) ∧ (k < 80) ∧ (x.dict = some d) ∧ (x.dictMade = false) ∧ (d.fn = 2) ∧ (1 ≤ d.v) ∧ (d.v ≤ 16) ∧
        (d.rd < 16) ∧ (x.stopAfter = false)))
        ({ at_ [(0x6810 + 79, 1, 1)] with kernels := [(79, { dict := some { fn := 2, rd := 15, arg := 5, v := 16 } })] })
        79 0 0 ({ fn := 2, rd := 15, arg := 5, v := 16 }) = true := by
  refine ⟨?_, ?_, ?_, ?_, ?_, ?_, ?_, ?_⟩ <;> decide +kernel

/-- States and operands that meet the hypotheses of each clause of KernelFaultsAndStarts. -/
theorem witness_KernelFaultsAndStarts :
    (fun (s : State) (k : Nat) (rs1 : Nat) =>
    decide ((s.atInstr k (.trap k rs1) = true))) (runs 79 (.trap 79 4) []) 79 4 = true ∧
    (fun (s : State) (k : Nat) =>
    decide ((s.canRun k = true) ∧ (s.pcOk k = true) ∧ (s.fetched k = none)))
        ({ at_ [(0x6810 + 79, 1, 1)] with kernels := [(79, { pc := 131070 })] }) 79 = true ∧
    (fun (s : State) (k : Nat) =>
    decide ((s.canRun k = true) ∧ (s.pcOk k = false)))
        ({ at_ [(0x6810 + 79, 1, 1)] with kernels := [(79, { pc := 131072 })] }) 79 = true ∧
    (fun (s : State) (k : Nat) =>
    decide ((k < 80) ∧ (s.kernelSt k = 1) ∧ (s.domSt 0 = 1))) (at_ [(0x6810 + 79, 1, 1), (0x2040, 1, 1)]) 79 = true ∧
    (fun (s : State) (k : Nat) =>
    decide ((k < 94) ∧ (s.domSt 0 ≠ 1))) (runs 79 (.trap 79 4) []) 79 = true ∧
    (fun (s : State) (k : Nat) =>
    decide ((80 ≤ k) ∧ (k < 94) ∧ (s.kernelSt k = 1) ∧ (s.domSt 0 = 1))) (at_ [(0x6810 + 93, 1, 1), (0x2040, 1, 1)])
        93 = true ∧
    (fun (s : State) (k : Nat) =>
    decide ((k < 80) ∧ (s.kernelSt k = 3) ∧ (s.rd (0x6810 + k) 0x09 = 1) ∧ (s.rd (0x6810 + k) 0x07 < s.rd 0x6800
        0x04))) (at_ [(0x6810 + 79, 1, 3), (0x6810 + 79, 9, 1), (0x6810 + 79, 7, 7)]) 79 = true ∧
    (fun (s : State) (r : Requester) (k : Nat) =>
    decide ((k < 80) ∧ (s.kernelSt k ≠ 0) ∧ (s.mayWrite r (0x6810 + k) 0x08 1 = true) ∧ ((∀ j : Nat, j < 94 → r ≠
        .kernel j)))) (runs 79 (.trap 79 4) []) (.mailbox 0) 79 = true ∧
    (fun (s : State) (r : Requester) (k : Nat) =>
    decide ((k < 80) ∧ (s.kernelSt k ≠ 0) ∧ ((s.kernel k).dict = none) ∧ (s.mayWrite r (0x6810 + k) 0x08 2 = true) ∧
        ((∀ j : Nat, j < 94 → r ≠ .kernel j)))) (runs 79 (.trap 79 4) []) (.mailbox 0) 79 = true := by
  refine ⟨?_, ?_, ?_, ?_, ?_, ?_, ?_, ?_, ?_⟩ <;> decide +kernel

/-! ### Ill-formed commands: one for each check of WellFormed -/

/-- Each check on the commands from deviceResetCommand to laneConfigurationWrite refuses a command that fails it alone. -/
theorem test_illformed_1 :
    (([.deviceResetCommand (.mailbox 16) {}, .warmResetCommand (.mailbox 16), .powerLoss 17 0 false,
       .inputDeadlineMissed 512 0, .leastSlackReset (.mailbox 16) 0, .leastSlackReset .port 64,
       .runStart (.mailbox 16), .runStop (.mailbox 16), .runCancel (.mailbox 16), .rearmSpans (.mailbox 16) 0,
       .rearmSpans .port 64, .bitSetAliasWrite 0 0 0 0 [] 0, .bitSetAliasWrite 0 0 0 8 [0] 0,
       .bitClearAliasWrite 0 0 0 0 [] 0, .bitClearAliasWrite 0 0 0 8 [0] 0, .patrolRead 64 0,
       .patrolRead 0 64, .blankFillEnd 64, .blankFillTimeout 64, .marchStart (.mailbox 16) 0 0] : List Instr).all (fun
           i => !wellFormed i) &&
    ([.marchStart .port 4 0, .marchCancel (.mailbox 16) 0 0, .marchCancel .port 4 0, .marchBankEnd 4 0 0 [] 0,
       .marchBankEnd 0 64 0 [] 0, .marchBankEnd 0 0 64 [] 0, .marchEnd 4 false, .clearRepairMap (.mailbox 16),
       .conflictCounterClear (.mailbox 16) 0 0, .conflictCounterClear .port 4 0,
       .conflictCounterClear .port 0 7, .halt (.mailbox 16) 0, .halt .port 64, .resume (.mailbox 16) 0,
       .resume .port 64, .reset (.mailbox 16) 0, .reset .port 64, .powerOff (.mailbox 16) 0,
       .powerOff .port 64, .powerOn (.mailbox 16) 0] : List Instr).all (fun i => !wellFormed i) &&
    ([.powerOn .port 64, .regionSwitchOn 64 false, .resumeWave 64, .rejoinWave 64, .slotArm (.mailbox 16) 0,
       .slotArm .port 16, .slotCancel (.mailbox 16) 0, .slotCancel .port 16, .switchWave 16,
       .goldenPlaneWrite (.mailbox 16) 0 0, .goldenPlaneWrite .port 64 0, .goldenSwitch 64,
       .migrationStart (.mailbox 16), .migrationRevert (.mailbox 16), .migrationCancel (.mailbox 16),
       .streamHeader 6 [], .loadStart (.mailbox 16), .loadCancel (.mailbox 16), .readback (.mailbox 16),
       .injectFrameError (.mailbox 16) 0] : List Instr).all (fun i => !wellFormed i) &&
    ([.scrubRead 64 0 0, .scrubRead 0 8 0, .scrubRead 0 0 8192, .scrubPass 64, .signalDetected 522,
       .signalLost 522, .trainingDone 522, .blockLock 522, .lossOfLock 522, .dataBlock 512 0 0 0,
       .crossingMarker 512 0 0, .alignmentMarker 512 0 0, .sourceIdentifierBlock 512 0,
       .userControlBlock 512 0 0, .pairRoleBlock 512 0 0, .idleBlock 512 0, .readmit (.mailbox 16) 0 0,
       .readmit .port 64 0, .laneConfigurationWrite (.mailbox 16) 0 0, .laneConfigurationWrite .port 512 0] : List
           Instr).all (fun i => !wellFormed i)) = true := by
  decide +kernel

/-- Each check on the commands from clearCounters to sll refuses a command that fails it alone. -/
theorem test_illformed_2 :
    (([.clearCounters (.mailbox 16) 0, .clearCounters .port 512, .txAlignmentMarker 520,
       .timingCrossingMarker 2 0 0 0, .timingInputLost 2, .selectionModeWrite (.mailbox 16) 0,
       .timingUserControl 2 0 0, .slotWritten 577 0, .slotWriteLate 577 0, .refresh 8, .lookbackScrubRead 8,
       .recordRead (.mailbox 16), .injectLineError (.mailbox 16) 0, .stackFailed 8, .portCrossingMarker 8 [] 0,
       .portPairRoleBlock 8 [], .portAlignmentMarker 8 [] 0, .waveRecord 8 [], .heartbeat 8 [],
       .item 8 []] : List Instr).all (fun i => !wellFormed i) &&
    ([.refusal 8 [], .run 8 [], .yield 8 [], .echoRequest 8 [], .echoAnswer 8 [] 0, .pairReset 8 [], .throttle 8 [],
       .cableRecheck 8 0, .pairYieldCommand (.mailbox 16), .pairResetCommand (.mailbox 16),
       .portConfigurationWrite (.mailbox 16) 0 0, .portConfigurationWrite .port 8 0,
       .portClearCounters (.mailbox 16) 0, .portClearCounters .port 8, .routerDrain (.mailbox 16) 0,
       .routerDrain .port 69, .routerReturn (.mailbox 16) 0, .routerReturn .port 69, .routerOut 69,
       .drainTimeout 69 0] : List Instr).all (fun i => !wellFormed i) &&
    ([.bounce 69 0 {}, .regionClosed 64 0, .closeTimeout 64 0, .msixMessage 512 0, .msixHoldoffEnd 512 0,
       .softwareTrigger (.mailbox 16) 0 0, .softwareTrigger .port 16 0, .producerIndexWrite (.mailbox 16) 0 0,
       .producerIndexWrite .port 16 0, .engineStart (.mailbox 16) 0, .engineStart .port 16,
       .engineStop (.mailbox 16) 0, .engineStop .port 16, .engineClearError (.mailbox 16) 0,
       .engineClearError .port 16, .fragmentWritten 16 0 0, .bufferFlush 16, .descriptorReadError 16,
       .readoutLaneFragment 16 [], .pcieReset 4] : List Instr).all (fun i => !wellFormed i) &&
    ([.mv 80 0 0, .mv 0 16 0, .mv 0 0 16, .add 80 0 0, .add 0 16 0, .add 0 0 16, .sub 80 0 0, .sub 0 16 0,
       .sub 0 0 16, .and 80 0 0, .and 0 16 0, .and 0 0 16, .or 80 0 0, .or 0 16 0, .or 0 0 16, .xor 80 0 0,
       .xor 0 16 0, .xor 0 0 16, .sll 80 0 0, .sll 0 16 0] : List Instr).all (fun i => !wellFormed i)) = true := by
  decide +kernel

/-- Each check on the commands from sll to andi refuses a command that fails it alone. -/
theorem test_illformed_3 :
    (([.sll 0 0 16, .srl 80 0 0, .srl 0 16 0, .srl 0 0 16, .sra 80 0 0, .sra 0 16 0, .sra 0 0 16, .jr 80 0,
       .jr 0 16, .nop 80, .li 80 0 0, .li 0 16 0, .cAddi 80 0 0, .cAddi 0 16 0, .lws 80 0 0, .lws 0 16 0,
       .sws 80 0 0, .sws 0 16 0, .beqz 80 0 0, .beqz 0 16 0] : List Instr).all (fun i => !wellFormed i) &&
    ([.bnez 80 0 0, .bnez 0 16 0, .bltz 80 0 0, .bltz 0 16 0, .bgez 80 0 0, .bgez 0 16 0, .aluAdd 80 0 0 0,
       .aluAdd 0 16 0 0, .aluAdd 0 0 16 0, .aluAdd 0 0 0 16, .aluSub 80 0 0 0, .aluSub 0 16 0 0,
       .aluSub 0 0 16 0, .aluSub 0 0 0 16, .aluAnd 80 0 0 0, .aluAnd 0 16 0 0, .aluAnd 0 0 16 0,
       .aluAnd 0 0 0 16, .aluOr 80 0 0 0, .aluOr 0 16 0 0] : List Instr).all (fun i => !wellFormed i) &&
    ([.aluOr 0 0 16 0, .aluOr 0 0 0 16, .aluXor 80 0 0 0, .aluXor 0 16 0 0, .aluXor 0 0 16 0,
       .aluXor 0 0 0 16, .aluSll 80 0 0 0, .aluSll 0 16 0 0, .aluSll 0 0 16 0, .aluSll 0 0 0 16,
       .aluSrl 80 0 0 0, .aluSrl 0 16 0 0, .aluSrl 0 0 16 0, .aluSrl 0 0 0 16, .aluSra 80 0 0 0,
       .aluSra 0 16 0 0, .aluSra 0 0 16 0, .aluSra 0 0 0 16, .setlt 80 0 0 0, .setlt 0 16 0 0] : List Instr).all (fun
           i => !wellFormed i) &&
    ([.setlt 0 0 16 0, .setlt 0 0 0 16, .setlo 80 0 0 0, .setlo 0 16 0 0, .setlo 0 0 16 0, .setlo 0 0 0 16,
       .mul 80 0 0 0, .mul 0 16 0 0, .mul 0 0 16 0, .mul 0 0 0 16, .mulhi 80 0 0 0, .mulhi 0 16 0 0,
       .mulhi 0 0 16 0, .mulhi 0 0 0 16, .addi 80 0 0 0, .addi 0 16 0 0, .addi 0 0 16 0, .andi 80 0 0 0,
       .andi 0 16 0 0, .andi 0 0 16 0] : List Instr).all (fun i => !wellFormed i)) = true := by
  decide +kernel

/-- Each check on the commands from ori to frag refuses a command that fails it alone. -/
theorem test_illformed_4 :
    (([.ori 80 0 0 0, .ori 0 16 0 0, .ori 0 0 16 0, .xori 80 0 0 0, .xori 0 16 0 0, .xori 0 0 16 0,
       .shiSll 80 0 0 0, .shiSll 0 16 0 0, .shiSll 0 0 16 0, .shiSrl 80 0 0 0, .shiSrl 0 16 0 0,
       .shiSrl 0 0 16 0, .shiSra 80 0 0 0, .shiSra 0 16 0 0, .shiSra 0 0 16 0, .setlti 80 0 0 0,
       .setlti 0 16 0 0, .setlti 0 0 16 0, .lhi 80 0 0, .lhi 0 16 0] : List Instr).all (fun i => !wellFormed i) &&
    ([.lw 80 0 0 0, .lw 0 16 0 0, .lw 0 0 16 0, .lh 80 0 0 0, .lh 0 16 0 0, .lh 0 0 16 0, .lhu 80 0 0 0,
       .lhu 0 16 0 0, .lhu 0 0 16 0, .lb 80 0 0 0, .lb 0 16 0 0, .lb 0 0 16 0, .lbu 80 0 0 0, .lbu 0 16 0 0,
       .lbu 0 0 16 0, .sw 80 0 0 0, .sw 0 16 0 0, .sw 0 0 16 0, .sh 80 0 0 0, .sh 0 16 0 0] : List Instr).all (fun i
           => !wellFormed i) &&
    ([.sh 0 0 16 0, .sb 80 0 0 0, .sb 0 16 0 0, .sb 0 0 16 0, .beq 80 0 0 0, .beq 0 16 0 0, .beq 0 0 16 0,
       .bne 80 0 0 0, .bne 0 16 0 0, .bne 0 0 16 0, .blt 80 0 0 0, .blt 0 16 0 0, .blt 0 0 16 0,
       .bge 80 0 0 0, .bge 0 16 0 0, .bge 0 0 16 0, .blo 80 0 0 0, .blo 0 16 0 0, .blo 0 0 16 0,
       .bhs 80 0 0 0] : List Instr).all (fun i => !wellFormed i) &&
    ([.bhs 0 16 0 0, .bhs 0 0 16 0, .call 80 0 0, .call 0 16 0, .callr 80 0 0 0, .callr 0 16 0 0,
       .callr 0 0 16 0, .send 80 0 0, .send 0 16 0, .send 0 0 16, .recv 80 0 0, .recv 0 16 0, .recv 0 0 16,
       .trig 80 0 0, .trig 0 16 0, .trig 0 0 16, .frag 80 0 0 0, .frag 0 16 0 0, .frag 0 0 16 0,
       .frag 0 0 0 16] : List Instr).all (fun i => !wellFormed i)) = true := by
  decide +kernel

/-- Each check on the commands from wait to save refuses a command that fails it alone. -/
theorem test_illformed_5 :
    (([.wait 80 0 0, .wait 0 16 0, .wait 0 0 16, .waitWakeup 80, .crd 80 0 0, .crd 0 16 0, .cwr 80 0 0,
       .cwr 0 16 0, .cor 80 0 0, .cor 0 16 0, .dictRead 80 0 0 0, .dictRead 0 16 0 0, .dictRead 0 0 16 0,
       .dictRead 0 0 0 16, .dictWrite 80 0 0 0, .dictWrite 0 16 0 0, .dictWrite 0 0 16 0, .dictWrite 0 0 0 16,
       .dictPublish 80 0 0 0, .dictPublish 0 16 0 0] : List Instr).all (fun i => !wellFormed i) &&
    ([.dictPublish 0 0 16 0, .dictPublish 0 0 0 1024, .dictAnswer 80, .trap 80 0, .trap 0 16, .sync 80,
       .kernelWatchdog 94, .kernelRestart 94, .kernelTimer 80, .eyeMeasurementDone 64 0 0,
       .eyeMeasurementDone 0 8 0, .kernelRestartCommand (.mailbox 16) 0, .kernelRestartCommand .port 94,
       .kernelStop (.mailbox 16) 0, .kernelStop .port 94, .registerWrite (.mailbox 16) 0 0 [],
       .registerWrite .port 65536 0 [], .registerWrite .port 0 256 [], .canFrameReceived 2 {},
       .canExpeditedRead 2 0 1 0 0 0] : List Instr).all (fun i => !wellFormed i) &&
    ([.canExpeditedRead 0 8 1 0 0 0, .canExpeditedRead 0 0 128 0 0 0, .canExpeditedRead 0 0 1 256 0 0,
       .canExpeditedRead 0 0 1 0 65536 0, .canExpeditedRead 0 0 1 0 0 256, .canExpeditedRead 0 0 0 0 0 0,
       .canExpeditedWrite 2 0 1 0 0 0 [], .canExpeditedWrite 0 8 1 0 0 0 [],
       .canExpeditedWrite 0 0 128 0 0 0 [], .canExpeditedWrite 0 0 1 256 0 0 [],
       .canExpeditedWrite 0 0 1 0 65536 0 [], .canExpeditedWrite 0 0 1 0 0 256 [],
       .canExpeditedWrite 0 0 0 0 0 0 [], .canSegmentedRead 2 0 1 0 0 0 0, .canSegmentedRead 0 8 1 0 0 0 0,
       .canSegmentedRead 0 0 128 0 0 0 0, .canSegmentedRead 0 0 1 256 0 0 0,
       .canSegmentedRead 0 0 1 0 65536 0 0, .canSegmentedRead 0 0 1 0 0 256 0,
       .canSegmentedRead 0 0 0 0 0 0 0] : List Instr).all (fun i => !wellFormed i) &&
    ([.canSegmentedWrite 2 0 1 0 0 0 0 0, .canSegmentedWrite 0 8 1 0 0 0 0 0,
       .canSegmentedWrite 0 0 128 0 0 0 0 0, .canSegmentedWrite 0 0 1 256 0 0 0 0,
       .canSegmentedWrite 0 0 1 0 65536 0 0 0, .canSegmentedWrite 0 0 1 0 0 256 0 0,
       .canSegmentedWrite 0 0 0 0 0 0 0 0, .canSegment 2 0 0 0 [], .canSegment 0 128 0 0 [],
       .canSegment 0 0 256 0 [], .canAcknowledge 2 0 0 0 0, .canAcknowledge 0 128 0 0 0,
       .canAcknowledge 0 0 256 0 0, .canAbort 2 0 0 0, .canAbort 0 128 0 0, .canAbort 0 0 256 0,
       .transferTimeout (.mailbox 16) 0, .busOff 2, .busOffRecovery 2 0, .save (.mailbox 16)] : List Instr).all (fun i
           => !wellFormed i)) = true := by
  decide +kernel

/-- Each check on the commands from restoreDefaults to sourceEdgeAfterTrip refuses a command that fails it alone. -/
theorem test_illformed_6 :
    (([.restoreDefaults (.mailbox 16), .nodeNumberWrite (.mailbox 16) 0, .mailboxRead 16 0 0,
       .mailboxRead 0 65536 0, .mailboxRead 0 0 256, .mailboxWrite 16 0 0 [], .mailboxWrite 0 65536 0 [],
       .mailboxWrite 0 0 256 [], .mailboxSegmentedRead 16 0 0, .mailboxSegmentedRead 0 65536 0,
       .mailboxSegmentedRead 0 0 256, .mailboxSegmentedWrite 16 0 0 0, .mailboxSegmentedWrite 0 65536 0 0,
       .mailboxSegmentedWrite 0 0 256 0, .mailboxSegment 16 [], .mailboxAbort 16, .dictPortRead 0 65536 0,
       .dictPortRead 0 0 256, .dictPortWrite 0 65536 0 [], .dictPortWrite 0 0 256 []] : List Instr).all (fun i =>
           !wellFormed i) &&
    ([.dictPortSegmentedOpen 0 65536 0, .dictPortSegmentedOpen 0 0 256, .monitorTrip 0 1 0, .monitorTrip 8 1 0, .monitorTrip 1 0 0, .monitorTrip 1 3 0, .sourceProven 0 0,
       .sourceProven 8 0,
       .domainSwitchCommand (.mailbox 16) 0 0, .domainSwitchCommand .port 7 0, .domainSwitchDone 7 0,
       .deadClockTimeout 7, .deadClockFlagClear (.mailbox 16) 0, .deadClockFlagClear .port 7, .gateClose 0 0, .gateClose 3 1, .gateClose 4 2, .gateClose 6 3,
       .automaticGating 64, .avsTransactionFail 3 false, .vcHold (.mailbox 16), .vcLeave (.mailbox 16),
       .throttleCommandRequest (.mailbox 16), .throttleCommandWithdraw (.mailbox 16),
       .clearSensorFailure (.mailbox 16) 0, .clearSensorFailure .port 128, .hotspotMigration 64] : List Instr).all
           (fun i => !wellFormed i) &&
    ([.statusAcknowledge (.mailbox 16) 0, .statusAcknowledge .port 384, .acknowledgeClasses (.mailbox 16) 0,
       .acknowledgeAll (.mailbox 16), .force (.mailbox 16) 0, .force .port 384, .userRaise (.mailbox 16) 0,
       .clearHistory (.mailbox 16), .clearLog (.mailbox 16), .programOwnerKey (.mailbox 16) 0 [],
       .programOwnerKey .port 2 [], .revokeOwnerKey0 (.mailbox 16), .revokeOwnerKey1 (.mailbox 16),
       .requireSignatures (.mailbox 16), .disableDebug (.mailbox 16), .svnFloorCommand (.mailbox 16) 0,
       .installKey (.mailbox 16) 0 [], .installKey .port 16 [], .revokeKey (.mailbox 16) 0,
       .revokeKey .port 16] : List Instr).all (fun i => !wellFormed i) &&
    ([.challenge (.mailbox 16), .response (.mailbox 16) [], .closeSession (.mailbox 16),
       .sessionIdleTimeout (.mailbox 16), .debugUnlock (.mailbox 16), .debugLock (.mailbox 16), .tamper 0,
       .tamper 5, .lockClaim (.mailbox 16), .lockRelease (.mailbox 16), .imageWrite (.mailbox 16) 0 [],
       .imageWrite .port 3 [], .transactionBegin (.mailbox 16), .transactionCommit (.mailbox 16),
       .transactionAbort (.mailbox 16), .hostConfirm (.mailbox 16), .vioOutOfRange 8 0, .vioRestored 8 0,
       .illegalInstruction 94, .sourceEdgeAfterTrip 8] : List Instr).all (fun i => !wellFormed i)) = true := by
  decide +kernel

/-- Each check on the commands from errorPassive to typeError refuses a command that fails it alone. -/
theorem test_illformed_7 :
    ([.errorPassive 2 0 0 0, .transmitLoopRelock 64, .typeError 512 0, .streamInactivityTimeout 6, .streamPathEnd 6,
       .bar2Read (2 ^ 41) 1, .bar2Write (2 ^ 41 - 1) [0, 0], .pcieConfigurationRequest 1024 none,
       .bar4Read (2 ^ 31) 15 15 1 0, .bar4Write (2 ^ 31 - 4) 15 15 [0, 0] 0, .linkTrainingDone 6 16 256 0 0,
       .linkTrainingDone 5 16 1024 0 0] : List Instr).all (fun i => !wellFormed i) = true := by
  decide +kernel

/-- Requesters that do not exist: a third channel, node 0, node 128, mailbox 16, kernel 94. -/
theorem test_requesters :
    ([.can 2 1, .can 0 0, .can 0 128, .mailbox 16, .kernel 94] : List Requester).all (fun r => !requesterExists r) =
        true ∧
    ([.can 1 1, .can 0 127, .mailbox 15, .port, .kernel 93] : List Requester).all requesterExists = true := by
  decide +kernel
/-! ### The spec's worked examples -/

/-- Table 1-4 and Table 5-5: a decision 340 waves after wave 1,000,002:0 at 25 steps; 40 waves before 6,000,000:0, and
the wave tags of both. -/
theorem test_waves :
    waveAdd 25 (mkWave 1000002 0) 340 = mkWave 1000015 15 ∧ waveSub 25 (mkWave 6000000 0) 40 = mkWave 5999998 10 ∧
      waveTag 25 6000000 0 = 128 ∧ waveTag 25 5999998 10 = 88 := by
  decide +kernel

/-- The wave engine's worked example (R55): the slack of region 18 at D = 17.5 pace units, 2,000 ps a step and 96.0 ps a
unit in band B3 is 130.0 ps; at 99.0 ps in band B4 it is 37.5 ps. -/
theorem test_slack :
    let s := { at_ [(0x4001, 3, 2000000), (0x2200 + 18, 2, 3), (0x4083, 1, 190), (0x4084, 1, 230),
                    (0x4100 + 18, 0x11, 0)] with planes := [(planeKey 18 0, { depth := 280 })] }
    s.slackOf 18 960 = 130000 ∧ (s.wr (0x2200 + 18) 2 4).slackOf 18 990 = 37500 := by
  decide +kernel

/-- The worked example of chapter 3: the tiles of spans 0x153403 and 0x45902. -/
theorem test_spans :
    (spanTiles 0x153403).length = 64 ∧ (spanTiles 0x153403).head? = some (17, 20 * 64 + 40) ∧
      (spanTiles 0x45902).head? = some (17, 50 * 64 + 16) ∧ (spanTiles 0x45902).contains (18, 50 * 64 + 8) ∧
      (spanTiles 0x45902).contains (17, 50 * 64 + 40) := by
  decide +kernel

/-- R115, R117, R119 (worked example): lane 5 of word 0x1234: the tag, the check field, an upset of D6, a read that
lands on word 0x1274, the blank and the void check field. -/
theorem test_bank_byte :
    byteTag 0x091A5 = 0x34 ∧ checkField 0xA5 0x091A5 = 0x3B ∧
      classify (storedByte 0xE5 0x3B) 0x091A5 = (1, 0xA5, storedByte 0xA5 0x3B) ∧ byteTag 0x093A5 = 0x36 ∧
      (classify (cleanByte 0xA5 0x093A5) 0x091A5).1 = 5 ∧ blankByte 0x091A5 = storedByte 0 0x0C ∧
      voidByte 0x091A5 = storedByte 0 0x33 := by
  decide +kernel

/-- R261 (worked example): the tag symbols of line 0x09896814 are A0 = 0x9D and A1 = 0x61. -/
theorem test_line_tag : lineTag 0x09896814 = [0x9D, 0x61] ∧ lineTag 0x0989681C = [0x95, 0x61] := by
  decide +kernel

/-- R262 (worked example): a line written at 0x0989681C and read at 0x09896814 is an address fault, located at the tag
symbol A0. -/
theorem test_line_address_fault :
    (classifyLine 0x09896814 (encodeLine 0x0989681C (List.replicate 64 0x5A))).1 = 3 := by
  decide +kernel

/-- R249 (worked example): the slot of lane 200 for crossing 1,000,000 lies in lines 160,000,020 to 160,000,022 and its
slot word is 0x00F4240013000000. -/
theorem test_slot :
    let s := at_ [(0x5802, 4, 160), (0x5800, 2, 26843545)]
    let e := 2 ^ 63 + 3 * 2 ^ 60 + 5 * 2 ^ 40 + 40
    s.slotByte e 1000000 = 10240001280 ∧ s.slotLines e 1000000 = [160000020, 160000021, 160000022] ∧
      slotWord 1000000 0 19 0 = 0x00F4240013000000 := by
  decide +kernel

/-- The worked example of chapter 10: a route from the system controller to gateway 0 of SQ0, as it is shifted, the
reversal of what it gathered, and the routers on the way to region 18. -/
theorem test_route :
    routeShift (routeShift 0xFFFFFF00 4) 1 = 0x14FFFFFF ∧ routeBack 0x14FFFFFF 2 = 0xFFFFFF41 ∧
      routersOn 0x090 18 0xFFFFFF00 = [68, 64, 19, 18] := by
  decide +kernel

/-- R172: bit 64 of cell 13 is bit 0 of byte 168 of its frame and the first bit of the inputs; bit 124 of cell 0 is bit 4
of byte 15 and the first of the modes. -/
theorem test_cell_bits :
    (cellBits (cellConfig (BitVec.ofNat 2048 (256 ^ 168)) 13)).inputs = 1 ∧
      (cellBits (cellConfig (BitVec.ofNat 2048 (16 * 256 ^ 15)) 0)).modes = 1 := by
  decide +kernel

/-- R355 (worked example of chapter 11): FIRST 0, COUNT 512, DXF -1 and NX 3 read every lane for crossings XN - 1 to
XN + 1. -/
theorem test_readout_table :
    let l := (walkTable 1000000 [BitVec.ofNat 128 (2 ^ 124 + 512 * 2 ^ 96 + 255 * 2 ^ 56 + 3 * 2 ^ 48)]).1
    l.length = 1537 ∧ l[1]? = some (.slot 0 999999) ∧ l[1536]? = some (.slot 511 1000001) := by
  decide +kernel

/-- R409 (worked example): the identifiers of a request and its response. -/
theorem test_can_id : canId 4 0x12 0x21 0x01 = 0x12C49081 ∧ canId 4 0x21 0x12 0x02 = 0x12C84902 := by
  decide +kernel

/-- Table 16-9: words 1 and 2 of the history entry of step 2. -/
theorem test_history :
    let h := (at_ [(0x4002, 1, 7000400)]).histEntry 99 0x201 2 1 0 true false
    h.w1 = 0x00000000006AD150 ∧ h.w2 = 0x0000000010098E60 := by
  decide +kernel

/-- The worked example of chapter 13: node 0x21 writes 60 to 0x4005:01 of node 0x12 over channel 0; the response frame,
the value, and the generation that rises by one. -/
theorem test_can_write :
    let s := { at_ [(0x2044, 1, 1), (0x1008, 1, 0x12), (0x1009, 3, 1), (0x100B, 1, 1), (0x1002, 1, 41)] with
               security := { sessions := [{ r := .can 0 0x21, rights := 0x0F, signer := 1 }] } }
    let t := match execCanExpeditedWrite 0 4 0x21 5 0x4005 0x01 [0x3C, 0] s with
      | .next t => t
      | _ => {}
    t.out.head? = some (.canFrame 0 0x12C84902 [0x53, 0x82, 5, 0, 5, 0x40, 1, 0]) ∧ t.rd 0x4005 1 = 60 ∧ t.rd 0x1002 1
        = 42 := by
  decide +kernel

/-- Table 12-17: LHI of lane kernel 25 places 0x0020_0000 in g2. -/
theorem test_lhi :
    (match execLhi 25 2 0x400 (runs 25 (.lhi 25 2 0x400) []) with
      | .next t => t.greg 25 2
      | _ => 0) = 0x00200000 := by
  decide +kernel

end Sys2Proof.Tests
end

section
/-! PROOFS. The byte-tag code (R115 to R119). The check field is linear: the syndrome of a stored byte under an error
pattern is its own syndrome XOR the columns of the wrong bits. Every column has odd weight and no two are the same, so a
single wrong bit shows its own column, and two wrong bits show a syndrome of even weight that is not 0. -/

namespace Sys2Proof.Machine

/-! ### The tag of a byte address -/

theorem byteTag_xor (a b : Nat) : byteTag (a ^^^ b) = byteTag a ^^^ byteTag b := by
  have low : (a ^^^ b) / 256 = a / 256 ^^^ b / 256 := Nat.xor_div_two_pow (n := 8)
  have high : (a ^^^ b) / 65536 % 2 = a / 65536 % 2 ^^^ b / 65536 % 2 := by
    rw [show (a ^^^ b) / 65536 = a / 65536 ^^^ b / 65536 from Nat.xor_div_two_pow (n := 16)]
    exact Nat.xor_mod_two_pow (n := 1)
  unfold byteTag
  rw [low, high]
  simp only [BitVec.ofNat_xor]
  ac_rfl

theorem byteTag_two_pow : ∀ i < 17, byteTag (2 ^ i) = 1#8 <<< (i % 8) := by decide

theorem byteTag_of_lt (ba : Nat) (h : ba < 2 ^ 17) :
    byteTag ba = BitVec.ofNat 8 ba ^^^ BitVec.ofNat 8 (ba / 256) ^^^ BitVec.ofNat 8 (ba / 65536) := by
  have : ba / 65536 % 2 = ba / 65536 := by omega
  rw [byteTag, this]

theorem bankDflt_byteKey (bank w k : Nat) (hw : w < 16384) (hk : k < 8) :
    bankDflt (byteKey bank w k) = blankByte (8 * w + k) := by
  have : byteKey bank w k % 131072 = 8 * w + k := by unfold byteKey; omega
  rw [bankDflt, this]

/-! ### Columns and check fields -/

/-- XOR of the f i of the selected i is linear in the selection. -/
theorem foldl_xor_select {n : Nat} (f : Nat → BitVec n) (p q : Nat → Bool) (l : List Nat) (a b : BitVec n) :
    l.foldl (fun acc i => if (p i ^^ q i) = true then acc ^^^ f i else acc) (a ^^^ b) =
      l.foldl (fun acc i => if p i = true then acc ^^^ f i else acc) a ^^^
        l.foldl (fun acc i => if q i = true then acc ^^^ f i else acc) b := by
  induction l generalizing a b with
  | nil => rfl
  | cons i l ih =>
    simp only [List.foldl_cons, ← ih]
    congr 1
    cases p i <;> cases q i
    · rfl
    · exact BitVec.xor_assoc a b (f i)
    · show a ^^^ b ^^^ f i = a ^^^ f i ^^^ b
      ac_rfl
    · calc a ^^^ b = a ^^^ b ^^^ (f i ^^^ f i) := by rw [BitVec.xor_self, BitVec.xor_zero]
        _ = a ^^^ f i ^^^ (b ^^^ f i) := by ac_rfl

theorem columnSum_xor (cols : List (BitVec 6)) (u v : BitVec 8) :
    columnSum cols (u ^^^ v) = columnSum cols u ^^^ columnSum cols v := by
  simpa [columnSum] using
    foldl_xor_select (fun i => cols.getD i 0) u.getLsbD v.getLsbD (List.range 8) 0 0

theorem columnSum_tag_bit : ∀ i < 8, columnSum tagColumns (1#8 <<< i) = tagColumns.getD i 0 := by decide

theorem checkField_xor_data (d e : Byte) (ba : Nat) :
    checkField (d ^^^ e) ba = checkField d ba ^^^ columnSum dataColumns e := by
  rw [checkField, columnSum_xor, checkField]
  ac_rfl

/-- A data byte's check field at another address differs by the columns of the tag bits that differ. -/
theorem checkField_xor_tag (d : Byte) (ba other : Nat) (e : BitVec 8) (h : byteTag other = byteTag ba ^^^ e) :
    checkField d other = checkField d ba ^^^ columnSum tagColumns e := by
  rw [checkField, h, columnSum_xor, checkField, BitVec.xor_assoc]

/-! ### Syndromes -/

@[simp] theorem storedByte_data (d : Byte) (c : BitVec 6) : (storedByte d c).extractLsb' 0 8 = d :=
  BitVec.extractLsb'_append_eq_right

@[simp] theorem storedByte_check (d : Byte) (c : BitVec 6) : (storedByte d c).extractLsb' 8 6 = c :=
  BitVec.extractLsb'_append_eq_left

/-- The syndrome of a stored byte at a byte address (R117). -/
def byteSyndrome (x : BitVec 14) (ba : Nat) : BitVec 6 :=
  x.extractLsb' 8 6 ^^^ checkField (x.extractLsb' 0 8) ba

/-- What an error pattern adds to the syndrome: the columns of its wrong bits. -/
def errorColumns (e : BitVec 14) : BitVec 6 :=
  e.extractLsb' 8 6 ^^^ columnSum dataColumns (e.extractLsb' 0 8)

/-- The columns of the 14 stored bits: Table 4-4's data bits, then the check bits. -/
def bitColumns : List (BitVec 6) := dataColumns ++ [0x01, 0x02, 0x04, 0x08, 0x10, 0x20]

theorem byteSyndrome_storedByte (d : Byte) (c : BitVec 6) (ba : Nat) :
    byteSyndrome (storedByte d c) ba = c ^^^ checkField d ba := by simp [byteSyndrome]

theorem byteSyndrome_cleanByte (d : Byte) (ba : Nat) : byteSyndrome (cleanByte d ba) ba = 0#6 := by
  simp [cleanByte, byteSyndrome_storedByte]

theorem byteSyndrome_xor (x e : BitVec 14) (ba : Nat) :
    byteSyndrome (x ^^^ e) ba = byteSyndrome x ba ^^^ errorColumns e := by
  simp only [byteSyndrome, errorColumns, BitVec.extractLsb'_xor, checkField_xor_data]
  ac_rfl

theorem errorColumns_bit : ∀ i < 14, errorColumns (1#14 <<< i) = bitColumns.getD i 0 := by decide

theorem bitColumns_distinct :
    ∀ i < 14, ∀ j < 14, i ≠ j → bitColumns.getD i 0 ≠ bitColumns.getD j 0 := by decide

/-! ### The classes of Table 4-5 -/

theorem classify_syndrome_zero (x : BitVec 14) (ba : Nat) (h : byteSyndrome x ba = 0) :
    classify x ba = (bClean, x.extractLsb' 0 8, x) := by
  unfold byteSyndrome at h
  simp [classify, h]

theorem dataColumns_found :
    ∀ i < 8, bitColumns.getD i 0 ≠ 0 ∧ dataColumns.idxOf? (bitColumns.getD i 0) = some i := by
  decide

theorem classify_data_column (x : BitVec 14) (ba i : Nat) (hi : i < 8) (h : byteSyndrome x ba = bitColumns.getD i 0) :
    classify x ba = (bCorrected, x.extractLsb' 0 8 ^^^ (1#8 <<< i),
      storedByte (x.extractLsb' 0 8 ^^^ (1#8 <<< i)) (x.extractLsb' 8 6)) := by
  obtain ⟨nonzero, found⟩ := dataColumns_found i hi
  unfold byteSyndrome at h
  simp only [classify, h, nonzero, found, if_false]

/-- A column of a check bit is no data bit's, and is among the columns that R117 lists. -/
theorem checkColumns_listed : ∀ i < 14, 8 ≤ i →
    bitColumns.getD i 0 ≠ 0 ∧ dataColumns.idxOf? (bitColumns.getD i 0) = none ∧
      bitColumns.getD i 0 ∈ [0x01#6, 0x02, 0x04, 0x08, 0x10, 0x20] := by decide

theorem classify_check_column (x : BitVec 14) (ba i : Nat) (hi : i < 14) (hc : 8 ≤ i)
    (h : byteSyndrome x ba = bitColumns.getD i 0) :
    classify x ba = (bCorrected, x.extractLsb' 0 8, cleanByte (x.extractLsb' 0 8) ba) := by
  obtain ⟨nonzero, notData, listed⟩ := checkColumns_listed i hi hc
  simp only [List.mem_cons, List.not_mem_nil, or_false] at listed
  unfold byteSyndrome at h
  simp only [classify, h, nonzero, notData, if_false]
  exact if_pos listed

/-- A tag bit's column is no data bit's, no check bit's, and neither 0 nor a mark of R119. -/
theorem tagColumns_apart : ∀ c ∈ tagColumns, c ≠ 0 ∧ dataColumns.idxOf? c = none ∧
    ¬(c = 0x01 ∨ c = 0x02 ∨ c = 0x04 ∨ c = 0x08 ∨ c = 0x10 ∨ c = 0x20) := by decide

theorem classify_tag_column (x : BitVec 14) (ba : Nat) (h : byteSyndrome x ba ∈ tagColumns) :
    classify x ba = (bAddressFault, 0, x) := by
  obtain ⟨nonzero, notData, notCheck⟩ := tagColumns_apart _ h
  unfold byteSyndrome at h nonzero notData notCheck
  simp only [classify, nonzero, notData, if_false]
  rw [if_neg notCheck, if_pos (List.contains_iff_mem.mpr h)]

/-- A syndrome that is not 0 and no column: the last three rows of Table 4-5. -/
abbrev NoColumn (c : BitVec 6) : Prop :=
  c ≠ 0 ∧ dataColumns.idxOf? c = none ∧
    ¬(c = 0x01 ∨ c = 0x02 ∨ c = 0x04 ∨ c = 0x08 ∨ c = 0x10 ∨ c = 0x20) ∧ tagColumns.contains c = false

theorem classify_no_column (x : BitVec 14) (ba : Nat) (h : NoColumn (byteSyndrome x ba)) :
    classify x ba = (if byteSyndrome x ba = 0x07 then bVoid else if byteSyndrome x ba = 0x38 then bUnwritten
      else bUncorrectable, 0, x) := by
  obtain ⟨nonzero, notData, notCheck, notTag⟩ := h
  unfold byteSyndrome at *
  simp only [classify, nonzero, notData, if_false]
  rw [if_neg notCheck, notTag, if_neg Bool.false_ne_true]
  split
  · rfl
  · split <;> rfl

theorem classify_void_mark (x : BitVec 14) (ba : Nat) (h : byteSyndrome x ba = 0x07) :
    classify x ba = (bVoid, 0, x) := by
  rw [classify_no_column x ba (h ▸ by decide), h]
  rfl

theorem classify_blank_mark (x : BitVec 14) (ba : Nat) (h : byteSyndrome x ba = 0x38) :
    classify x ba = (bUnwritten, 0, x) := by
  rw [classify_no_column x ba (h ▸ by decide), h]
  rfl

/-- Whether an odd number of bits is 1. -/
def oddWeight (v : BitVec 6) : Bool :=
  v.getLsbD 0 ^^ v.getLsbD 1 ^^ v.getLsbD 2 ^^ v.getLsbD 3 ^^ v.getLsbD 4 ^^ v.getLsbD 5

theorem oddWeight_xor (u v : BitVec 6) : oddWeight (u ^^^ v) = (oddWeight u ^^ oddWeight v) := by
  simp only [oddWeight, BitVec.getLsbD_xor, Bool.xor_assoc, Bool.xor_left_comm]

theorem oddWeight_bitColumns : ∀ i < 14, oddWeight (bitColumns.getD i 0) = true := by decide

/-- A syndrome of even weight that is not 0 is in no other row of Table 4-5: it is no column and no mark of R119. -/
theorem even_syndrome_unlisted :
    ∀ c : BitVec 6, c ≠ 0 → oddWeight c = false → NoColumn c ∧ c ≠ 0x07 ∧ c ≠ 0x38 := by decide

theorem classify_even_syndrome (x : BitVec 14) (ba : Nat) (nonzero : byteSyndrome x ba ≠ 0)
    (even : oddWeight (byteSyndrome x ba) = false) : classify x ba = (bUncorrectable, 0, x) := by
  obtain ⟨noColumn, notVoid, notBlank⟩ := even_syndrome_unlisted _ nonzero even
  rw [classify_no_column x ba noColumn, if_neg notVoid, if_neg notBlank]

/-! ### What is read of a byte under wrong bits -/

theorem cleanByte_data (d : Byte) (ba : Nat) : (cleanByte d ba).extractLsb' 0 8 = d := storedByte_data _ _

theorem classify_cleanByte (d : Byte) (ba : Nat) : classify (cleanByte d ba) ba = (bClean, d, cleanByte d ba) := by
  rw [classify_syndrome_zero _ _ (byteSyndrome_cleanByte d ba), cleanByte_data]

theorem singleBit_data : ∀ i < 14, (1#14 <<< i).extractLsb' 0 8 = 1#8 <<< i := by decide

theorem singleBit_check_of_data : ∀ i < 8, (1#14 <<< i).extractLsb' 8 6 = 0#6 := by decide

theorem singleBit_data_of_check : ∀ i < 14, 8 ≤ i → 1#8 <<< i = 0#8 := by decide

theorem classify_one_wrong_bit (d : Byte) (ba i : Nat) (hi : i < 14) :
    classify (cleanByte d ba ^^^ (1#14 <<< i)) ba = (bCorrected, d, cleanByte d ba) := by
  have syn : byteSyndrome (cleanByte d ba ^^^ (1#14 <<< i)) ba = bitColumns.getD i 0 := by
    rw [byteSyndrome_xor, byteSyndrome_cleanByte, errorColumns_bit i hi, BitVec.zero_xor]
  by_cases hd : i < 8
  · rw [classify_data_column _ _ i hd syn]
    simp only [BitVec.extractLsb'_xor, cleanByte_data, singleBit_data i hi, singleBit_check_of_data i hd,
      BitVec.xor_assoc, BitVec.xor_self, BitVec.xor_zero]
    simp [cleanByte]
  · have hc : 8 ≤ i := by omega
    rw [classify_check_column _ _ i hi hc syn]
    simp only [BitVec.extractLsb'_xor, cleanByte_data, singleBit_data i hi, singleBit_data_of_check i hi hc,
      BitVec.xor_zero]

theorem classify_two_wrong_bits (d : Byte) (ba i j : Nat) (hi : i < 14) (hj : j < 14) (hij : i ≠ j) :
    classify (cleanByte d ba ^^^ (1#14 <<< i) ^^^ (1#14 <<< j)) ba =
      (bUncorrectable, 0, cleanByte d ba ^^^ (1#14 <<< i) ^^^ (1#14 <<< j)) := by
  have syn : byteSyndrome (cleanByte d ba ^^^ (1#14 <<< i) ^^^ (1#14 <<< j)) ba =
      bitColumns.getD i 0 ^^^ bitColumns.getD j 0 := by
    rw [byteSyndrome_xor, byteSyndrome_xor, byteSyndrome_cleanByte, errorColumns_bit i hi, errorColumns_bit j hj,
      BitVec.zero_xor]
  apply classify_even_syndrome
  · rw [syn]
    exact fun h => bitColumns_distinct i hi j hj hij (BitVec.xor_eq_zero_iff.mp h)
  · rw [syn, oddWeight_xor, oddWeight_bitColumns i hi, oddWeight_bitColumns j hj]
    rfl

theorem classify_voidByte (ba : Nat) : classify (voidByte ba) ba = (bVoid, 0, voidByte ba) := by
  apply classify_void_mark
  rw [voidByte, byteSyndrome_storedByte, BitVec.xor_comm, ← BitVec.xor_assoc, BitVec.xor_self, BitVec.zero_xor]

theorem classify_blankByte (ba : Nat) : classify (blankByte ba) ba = (bUnwritten, 0, blankByte ba) := by
  apply classify_blank_mark
  rw [blankByte, byteSyndrome_storedByte, BitVec.xor_comm, ← BitVec.xor_assoc, BitVec.xor_self, BitVec.zero_xor]

theorem tagColumns_getD_mem : ∀ i < 8, tagColumns.getD i 0 ∈ tagColumns := by decide

/-- R118: a read that lands at an address whose tag differs in one bit shows that tag bit's column. -/
theorem classify_one_wrong_tag_bit (d : Byte) (ba other i : Nat) (hi : i < 8)
    (h : byteTag other = byteTag ba ^^^ (1#8 <<< i)) :
    classify (cleanByte d ba) other = (bAddressFault, 0, cleanByte d ba) := by
  apply classify_tag_column
  rw [cleanByte, byteSyndrome_storedByte, checkField_xor_tag d ba other _ h, ← BitVec.xor_assoc, BitVec.xor_self,
    BitVec.zero_xor, columnSum_tag_bit i hi]
  exact tagColumns_getD_mem i hi

/-- Settles O10: the tag is linear in the address, and the syndrome is linear in the stored bits and in the tag, so each
clause is the class of Table 4-5 that the wrong bits' columns fall in. The blank pattern of bytes that nothing has
written is the model's choice (log entry 128). -/
theorem byteTagCode : Obligations.ByteTagCode := by
  intro d ba other i j bank w k
  refine ⟨fun hw hk => ⟨by omega, bankDflt_byteKey bank w k hw hk⟩, byteTag_of_lt ba, fun hi => ?_,
    classify_cleanByte d ba, classify_one_wrong_bit d ba i, classify_two_wrong_bits d ba i j, ?_, ?_, fun hi h => ?_⟩
  · exact ⟨i % 8, Nat.mod_lt i (by decide), by rw [byteTag_xor, byteTag_two_pow i hi]⟩
  · rw [classify_voidByte]
  · rw [classify_blankByte]
  · rw [classify_one_wrong_tag_bit d ba other i hi h]

end Sys2Proof.Machine
end

section
/-! PROOFS. Words of a bank (R107, R112, R117): a word is written lane by lane at keys of its own, and each byte of a
word that reads clean is read, and written through a view, as what it holds. -/

namespace Sys2Proof.Machine

/-! ### One byte of the array -/

theorem State.bankByte_setBankByte (s : State) (key j : Nat) (v : BitVec 14) :
    (s.setBankByte key v).bankByte j = if j = key then v else s.bankByte j :=
  Sparse.get_set bankDflt s.bankMem key j v

theorem byteKey_inj (bank w k j : Nat) : byteKey bank w k = byteKey bank w j ↔ k = j := by
  unfold byteKey
  omega

theorem Sparse.erase_insert {α : Type} (m : Sparse α) (k : Nat) (v : α) :
    Sparse.erase (Sparse.insert m k v) k = Sparse.erase m k := by
  induction m with
  | nil => simp [Sparse.insert, Sparse.erase]
  | cons c m ih =>
    simp only [Sparse.insert]
    split
    · simp [Sparse.erase]
    · simp only [Sparse.erase] at ih ⊢
      simp only [List.filter_cons, ih]

theorem Sparse.erase_set {α : Type} [DecidableEq α] (d : Nat → α) (m : Sparse α) (k : Nat) (v : α) :
    Sparse.erase (Sparse.set d m k v) k = Sparse.erase m k := by
  have twice : Sparse.erase (Sparse.erase m k) k = Sparse.erase m k := by simp [Sparse.erase]
  unfold Sparse.set
  split
  · exact twice
  · rw [Sparse.erase_insert, twice]

/-- The later of two writes at one key stands alone. -/
theorem State.setBankByte_setBankByte (s : State) (key : Nat) (u v : BitVec 14) :
    (s.setBankByte key u).setBankByte key v = s.setBankByte key v := by
  have table : Sparse.set bankDflt (Sparse.set bankDflt s.bankMem key u) key v =
      Sparse.set bankDflt s.bankMem key v := by
    rw [Sparse.set, Sparse.erase_set, ← Sparse.set]
  simp only [State.setBankByte, table]

/-- A clean byte is read as it stands; the write-back is of the byte itself, and nothing is counted or raised. -/
theorem State.readBankByte_clean (s : State) (rd : Reader) (bank w k : Nat) (d : Byte)
    (h : s.bankByte (byteKey bank w k) = cleanByte d (w * 8 + k)) :
    s.readBankByte rd bank w k = (bClean, d, s.setBankByte (byteKey bank w k) (cleanByte d (w * 8 + k))) := by
  simp only [State.readBankByte, h, classify_cleanByte]
  rfl

/-! ### The lanes of a word -/

/-- The enabled lanes among l of a word take the stored bytes v. -/
def State.setLanes (s : State) (bank w en : Nat) (v : Nat → BitVec 14) (l : List Nat) : State :=
  l.foldl (fun s k => if en.testBit k then s.setBankByte (byteKey bank w k) (v k) else s) s

theorem State.writeBankWord_eq_setLanes (s : State) (bank w en : Nat) (data : List Byte) (void : Bool) :
    s.writeBankWord bank w en data void =
      s.setLanes bank w en (fun k => if void then voidByte (w * 8 + k) else cleanByte (data.getD k 0) (w * 8 + k))
        (List.range 8) := rfl

theorem State.setLanes_cons (s : State) (bank w en k : Nat) (v : Nat → BitVec 14) (l : List Nat) :
    s.setLanes bank w en v (k :: l) =
      (if en.testBit k then s.setBankByte (byteKey bank w k) (v k) else s).setLanes bank w en v l := rfl

theorem State.setLanes_only_bankMem (s : State) (bank w en : Nat) (v : Nat → BitVec 14) (l : List Nat) :
    s.setLanes bank w en v l = { s with bankMem := (s.setLanes bank w en v l).bankMem } := by
  induction l generalizing s with
  | nil => rfl
  | cons k l ih =>
    rw [State.setLanes_cons]
    split
    · exact ih _
    · exact ih s

theorem State.bankByte_setLanes_ne (s : State) (bank w en key : Nat) (v : Nat → BitVec 14) (l : List Nat)
    (h : ∀ k ∈ l, en.testBit k = true → key ≠ byteKey bank w k) :
    (s.setLanes bank w en v l).bankByte key = s.bankByte key := by
  induction l generalizing s with
  | nil => rfl
  | cons k l ih =>
    rw [State.setLanes_cons, ih _ fun j hj => h j (List.mem_cons_of_mem k hj)]
    split
    next on => rw [State.bankByte_setBankByte, if_neg (h k List.mem_cons_self on)]
    next => rfl

theorem State.bankByte_setLanes (s : State) (bank w en k : Nat) (v : Nat → BitVec 14) (l : List Nat)
    (hk : k ∈ l) (on : en.testBit k = true) :
    (s.setLanes bank w en v l).bankByte (byteKey bank w k) = v k := by
  induction l generalizing s with
  | nil => cases hk
  | cons j l ih =>
    rw [State.setLanes_cons]
    by_cases later : k ∈ l
    · exact ih _ later
    · obtain rfl : k = j := (List.mem_cons.mp hk).resolve_right later
      rw [State.bankByte_setLanes_ne, if_pos on, State.bankByte_setBankByte, if_pos rfl]
      rintro j hj - same
      exact later ((byteKey_inj bank w k j).mp same ▸ hj)

/-! ### A word written and read -/

theorem State.bankByte_writeBankWord_ne (s : State) (bank w en key : Nat) (data : List Byte) (void : Bool)
    (h : ∀ k, k < 8 → en.testBit k = true → key ≠ byteKey bank w k) :
    (s.writeBankWord bank w en data void).bankByte key = s.bankByte key := by
  rw [State.writeBankWord_eq_setLanes]
  exact State.bankByte_setLanes_ne s bank w en key _ _ fun k hk => h k (List.mem_range.mp hk)

theorem State.bankByte_writeBankWord (s : State) (bank w en k : Nat) (data : List Byte) (void : Bool)
    (hk : k < 8) (on : en.testBit k = true) :
    (s.writeBankWord bank w en data void).bankByte (byteKey bank w k) =
      if void then voidByte (w * 8 + k) else cleanByte (data.getD k 0) (w * 8 + k) := by
  rw [State.writeBankWord_eq_setLanes]
  exact State.bankByte_setLanes s bank w en k _ _ (List.mem_range.mpr hk) on

/-- One lane of a word read: readBankWord takes it for each lane in turn. -/
def readLane (rd : Reader) (bank w en : Nat) (acc : Nat × List Byte × State) (k : Nat) : Nat × List Byte × State :=
  if en.testBit k then
    let r := acc.2.2.readBankByte rd bank w k
    (max acc.1 r.1, acc.2.1 ++ [r.2.1], r.2.2)
  else (acc.1, acc.2.1 ++ [0], acc.2.2)

theorem State.readBankWord_eq_readLane (s : State) (rd : Reader) (bank w en : Nat) :
    s.readBankWord rd bank w en = (List.range 8).foldl (readLane rd bank w en) (0, [], s) := rfl

/-- Enabled lanes that are clean are read as they stand, and leave the status as it was. -/
theorem readLane_foldl_clean (s : State) (rd : Reader) (bank w en st : Nat) (out : List Byte) (d : Nat → Byte)
    (l : List Nat) (on : ∀ k ∈ l, en.testBit k = true)
    (h : ∀ k ∈ l, s.bankByte (byteKey bank w k) = cleanByte (d k) (w * 8 + k)) :
    (l.foldl (readLane rd bank w en) (st, out, s)).1 = st ∧
      (l.foldl (readLane rd bank w en) (st, out, s)).2.1 = out ++ l.map d := by
  induction l generalizing s out with
  | nil => simp
  | cons k l ih =>
    have hk := h k List.mem_cons_self
    have lane : readLane rd bank w en (st, out, s) k =
        (st, out ++ [d k], s.setBankByte (byteKey bank w k) (cleanByte (d k) (w * 8 + k))) := by
      simp [readLane, on k List.mem_cons_self, State.readBankByte_clean s rd bank w k (d k) hk]
    rw [List.foldl_cons, lane]
    have rest := ih (s.setBankByte (byteKey bank w k) (cleanByte (d k) (w * 8 + k))) (out ++ [d k])
      (fun j hj => on j (List.mem_cons_of_mem k hj)) fun j hj => by
        rw [State.bankByte_setBankByte]
        split
        next same => rw [(byteKey_inj bank w j k).mp same]
        next => exact h j (List.mem_cons_of_mem k hj)
    simpa using rest

theorem map_getD_range (data : List Byte) (h : data.length = 8) :
    (List.range 8).map (fun k => data.getD k 0) = data := by
  apply List.ext_getElem (by simp [h])
  intro k _ hk
  simp [hk]

theorem testBit_255 : ∀ k < 8, (255).testBit k = true := by decide

/-- R117: a word written in full reads clean, with the data written. -/
theorem State.readBankWord_writeBankWord (s : State) (rd : Reader) (bank w : Nat) (data : List Byte)
    (h : data.length = 8) :
    ((s.writeBankWord bank w 255 data false).readBankWord rd bank w 255).1 = bClean ∧
      ((s.writeBankWord bank w 255 data false).readBankWord rd bank w 255).2.1 = data := by
  have clean (k : Nat) (hk : k ∈ List.range 8) :
      (s.writeBankWord bank w 255 data false).bankByte (byteKey bank w k) = cleanByte (data.getD k 0) (w * 8 + k) :=
    have hk := List.mem_range.mp hk
    State.bankByte_writeBankWord s bank w 255 k data false hk (testBit_255 k hk)
  rw [State.readBankWord_eq_readLane]
  have read := readLane_foldl_clean _ rd bank w 255 0 [] (fun k => data.getD k 0) (List.range 8)
    (fun k hk => testBit_255 k (List.mem_range.mp hk)) clean
  rwa [map_getD_range data h, List.nil_append] at read

/-! ### The bit-set and bit-clear views -/

/-- What a view makes of a byte: the written bits set in it (view 1) or cleared. -/
def viewByte (view : Nat) (d x : Byte) : Byte := if view = 1 then d ||| x else d &&& ~~~x

/-- One lane of a write through a view: openWriteWord takes it for each lane in turn. -/
def viewLane (bank w en view : Nat) (data : List Byte) (acc : Nat × State) (k : Nat) : Nat × State :=
  if en.testBit k then
    let r := acc.2.readBankByte .open_ bank w k
    if 2 ≤ r.1 then (max acc.1 r.1, r.2.2)
    else (max acc.1 r.1,
      r.2.2.setBankByte (byteKey bank w k) (cleanByte (viewByte view r.2.1 (data.getD k 0)) (w * 8 + k)))
  else acc

theorem State.openWriteWord_eq_viewLane (s : State) (bank w en view : Nat) (data : List Byte) (h : view ≠ 0) :
    s.openWriteWord bank w en view data = (List.range 8).foldl (viewLane bank w en view data) (0, s) := by
  rw [State.openWriteWord, if_neg h]
  rfl

/-- A write through a view to enabled lanes that are clean is a write of the combined bytes. -/
theorem viewLane_foldl_clean (s : State) (bank w en view st : Nat) (data : List Byte) (d : Nat → Byte) (l : List Nat)
    (distinct : l.Nodup)
    (h : ∀ k ∈ l, en.testBit k = true → s.bankByte (byteKey bank w k) = cleanByte (d k) (w * 8 + k)) :
    l.foldl (viewLane bank w en view data) (st, s) =
      (st, s.setLanes bank w en (fun k => cleanByte (viewByte view (d k) (data.getD k 0)) (w * 8 + k)) l) := by
  induction l generalizing s with
  | nil => rfl
  | cons k l ih =>
    obtain ⟨fresh, distinct⟩ := List.nodup_cons.mp distinct
    rw [List.foldl_cons, State.setLanes_cons]
    split
    next on =>
      have lane : viewLane bank w en view data (st, s) k =
          (st, s.setBankByte (byteKey bank w k) (cleanByte (viewByte view (d k) (data.getD k 0)) (w * 8 + k))) := by
        simp [viewLane, on, State.readBankByte_clean s .open_ bank w k (d k) (h k List.mem_cons_self on),
          State.setBankByte_setBankByte]
      rw [lane]
      refine ih _ distinct fun j hj hon => ?_
      have other : byteKey bank w j ≠ byteKey bank w k := fun same =>
        fresh ((byteKey_inj bank w j k).mp same ▸ hj)
      rw [State.bankByte_setBankByte, if_neg other]
      exact h j (List.mem_cons_of_mem k hj) hon
    next off =>
      rw [show viewLane bank w en view data (st, s) k = (st, s) from if_neg off]
      exact ih s distinct fun j hj => h j (List.mem_cons_of_mem k hj)

theorem State.openWriteWord_clean (s : State) (bank w en view : Nat) (data : List Byte) (d : Nat → Byte)
    (hv : view ≠ 0)
    (h : ∀ k, k < 8 → en.testBit k = true → s.bankByte (byteKey bank w k) = cleanByte (d k) (w * 8 + k)) :
    s.openWriteWord bank w en view data =
      (0, s.setLanes bank w en (fun k => cleanByte (viewByte view (d k) (data.getD k 0)) (w * 8 + k))
        (List.range 8)) := by
  rw [State.openWriteWord_eq_viewLane s bank w en view data hv]
  exact viewLane_foldl_clean s bank w en view 0 data d _ List.nodup_range fun k hk => h k (List.mem_range.mp hk)

/-- R112: what a write through a view does where the enabled bytes are clean: each takes the combined byte, no other
byte and nothing else of the state changes. -/
theorem State.openWriteWord_view (s : State) (bank w en view key : Nat) (data : List Byte) (d : Nat → Byte)
    (hv : view ≠ 0)
    (h : ∀ k, k < 8 → en.testBit k = true → s.bankByte (byteKey bank w k) = cleanByte (d k) (w * 8 + k)) :
    let t := s.openWriteWord bank w en view data
    t.1 = 0 ∧ t.2 = { s with bankMem := t.2.bankMem } ∧
      (∀ k, k < 8 → en.testBit k = true →
        t.2.bankByte (byteKey bank w k) = cleanByte (viewByte view (d k) (data.getD k 0)) (w * 8 + k)) ∧
      ((∀ k, k < 8 → en.testBit k = true → key ≠ byteKey bank w k) → t.2.bankByte key = s.bankByte key) := by
  rw [State.openWriteWord_clean s bank w en view data d hv h]
  refine ⟨rfl, State.setLanes_only_bankMem _ _ _ _ _ _, fun k hk on => ?_, fun outside => ?_⟩
  · exact State.bankByte_setLanes s bank w en k _ _ (List.mem_range.mpr hk) on
  · exact State.bankByte_setLanes_ne s bank w en key _ _ fun k hk => outside k (List.mem_range.mp hk)

/-- Only the view 0b11 stands against an access; a read through any other view is a plain read. -/
theorem State.openRead_view (s : State) (bank w m first last view : Nat) (h : view ≠ 3) :
    s.openRead bank w m first last view = s.openRead bank w m first last 0 := by
  have block : s.openBlock bank false view = s.openBlock bank false 0 := by
    unfold State.openBlock
    rw [if_neg h, if_neg (by decide : ¬(0 = 3))]
  unfold State.openRead
  rw [block]

/-- Settles O11: a write sets its enabled lanes, which lie at keys of their own; a write through a view of clean bytes
is such a write, of the combined bytes. -/
theorem bankWords : Obligations.BankWords := by
  refine ⟨fun s bank w en key data hlen => ?_, fun s bank w en key m first last d data hclean => ?_⟩
  · exact ⟨fun k => State.bankByte_writeBankWord s bank w en k data true,
      State.bankByte_writeBankWord_ne s bank w en key data true,
      fun k => State.bankByte_writeBankWord s bank w en k data false,
      State.bankByte_writeBankWord_ne s bank w en key data false,
      State.readBankWord_writeBankWord s .open_ bank w data hlen⟩
  · obtain ⟨setStatus, setFrame, setBytes, setOthers⟩ :=
      State.openWriteWord_view s bank w en 1 key data d (by decide) hclean
    obtain ⟨clearStatus, clearFrame, clearBytes, clearOthers⟩ :=
      State.openWriteWord_view s bank w en 2 key data d (by decide) hclean
    exact ⟨setStatus, clearStatus, setFrame, clearFrame,
      fun k hk on => ⟨setBytes k hk on, clearBytes k hk on⟩,
      fun outside => ⟨setOthers outside, clearOthers outside⟩,
      State.openRead_view s bank w m first last 1 (by decide),
      State.openRead_view s bank w m first last 2 (by decide)⟩

end Sys2Proof.Machine
end

section
/-! PROOFS. The line code of the look-back store (R260 to R263). A product in GF(2^8) is the sum of the shifts of one
factor that the other selects, so a map of field elements that is additive and commutes with the product by α is a
product. The check bytes are the remainder of the division by g(x), and g(α^i) = 0 for i from 0 to 7, so every syndrome
of a written line is 0; a symbol error e at position p shows e α^(ip), which no other position shows. -/

namespace Sys2Proof.Machine

/-! ### Products in GF(2^8) -/

theorem gfDouble_xor (a b : BitVec 8) : gfDouble (a ^^^ b) = gfDouble a ^^^ gfDouble b := by
  unfold gfDouble
  rw [BitVec.shiftLeft_xor_distrib, BitVec.getLsbD_xor]
  cases a.getLsbD 7 <;> cases b.getLsbD 7
  · simp
  · simp [BitVec.xor_assoc]
  · simp only [Bool.xor_false, if_true, Bool.false_eq_true, if_false, BitVec.ofNat_eq_ofNat, BitVec.xor_zero]
    ac_rfl
  · calc _ = a <<< 1 ^^^ b <<< 1 ^^^ (0x1D ^^^ 0x1D) := rfl
      _ = _ := by simp only [if_true]; ac_rfl

theorem gfDouble_iterate_xor (k : Nat) (a b : BitVec 8) :
    gfDouble^[k] (a ^^^ b) = gfDouble^[k] a ^^^ gfDouble^[k] b := by
  induction k generalizing a b with
  | zero => rfl
  | succ k ih => simp only [Function.iterate_succ_apply, gfDouble_xor, ih]

/-- A product is the XOR of the shifts of its first factor that the bits of the second select. -/
theorem gfMul_eq_foldl (a b : BitVec 8) :
    gfMul a b = (List.range 8).foldl (fun acc k => if b.getLsbD k = true then acc ^^^ gfDouble^[k] a else acc) 0 :=
  rfl

theorem gfMul_xor_right (a b c : BitVec 8) : gfMul a (b ^^^ c) = gfMul a b ^^^ gfMul a c := by
  simpa [gfMul_eq_foldl] using
    foldl_xor_select (fun k => gfDouble^[k] a) b.getLsbD c.getLsbD (List.range 8) 0 0

/-- The XOR of selected terms is additive in the terms. -/
theorem foldl_xor_terms {n : Nat} (p : Nat → Bool) (f g : Nat → BitVec n) (l : List Nat) (a b : BitVec n) :
    l.foldl (fun acc i => if p i = true then acc ^^^ (f i ^^^ g i) else acc) (a ^^^ b) =
      l.foldl (fun acc i => if p i = true then acc ^^^ f i else acc) a ^^^
        l.foldl (fun acc i => if p i = true then acc ^^^ g i else acc) b := by
  induction l generalizing a b with
  | nil => rfl
  | cons i l ih =>
    simp only [List.foldl_cons, ← ih]
    congr 1
    cases p i
    · rfl
    · show a ^^^ b ^^^ (f i ^^^ g i) = a ^^^ f i ^^^ (b ^^^ g i)
      ac_rfl

theorem gfMul_xor_left (a b c : BitVec 8) : gfMul (a ^^^ b) c = gfMul a c ^^^ gfMul b c := by
  simpa [gfMul_eq_foldl, gfDouble_iterate_xor] using
    foldl_xor_terms c.getLsbD (fun k => gfDouble^[k] a) (fun k => gfDouble^[k] b) (List.range 8) 0 0

/-- What is additive and commutes with the product by α maps the shifts of a to the shifts of its image. -/
theorem additive_gfMul (f : BitVec 8 → BitVec 8) (add : ∀ x y, f (x ^^^ y) = f x ^^^ f y)
    (double : ∀ x, f (gfDouble x) = gfDouble (f x)) (a b : BitVec 8) : f (gfMul a b) = gfMul (f a) b := by
  have iterate : ∀ k, f (gfDouble^[k] a) = gfDouble^[k] (f a) := fun k =>
    (Function.Semiconj.iterate_right (f := f) double k) a
  have zero : f 0 = 0 := by
    have h := add 0 0
    rwa [BitVec.xor_self, BitVec.xor_self] at h
  rw [gfMul_eq_foldl, gfMul_eq_foldl]
  conv_rhs => rw [← zero]
  refine (List.foldl_hom f fun acc k => ?_).symm
  cases b.getLsbD k
  · rfl
  · show f acc ^^^ gfDouble^[k] (f a) = f (acc ^^^ gfDouble^[k] a)
    rw [add, iterate]

theorem gfMul_gfDouble_left (a b : BitVec 8) : gfMul (gfDouble a) b = gfDouble (gfMul a b) :=
  (additive_gfMul gfDouble gfDouble_xor (fun _ => rfl) a b).symm

@[simp] theorem gfMul_one_left : ∀ b : BitVec 8, gfMul 1#8 b = b := by decide +kernel

theorem gfMul_comm (a b : BitVec 8) : gfMul a b = gfMul b a := by
  have h := additive_gfMul (gfMul · b) (fun x y => gfMul_xor_left x y b) (fun x => gfMul_gfDouble_left x b) 1 a
  simpa using h

theorem gfMul_assoc (a b c : BitVec 8) : gfMul (gfMul a b) c = gfMul a (gfMul b c) := by
  refine (additive_gfMul (gfMul a) (gfMul_xor_right a) (fun x => ?_) b c).symm
  rw [gfMul_comm a, gfMul_gfDouble_left, gfMul_comm x]

theorem gfMul_left_comm (a b c : BitVec 8) : gfMul a (gfMul b c) = gfMul b (gfMul a c) := by
  rw [← gfMul_assoc, gfMul_comm a, gfMul_assoc]

@[simp] theorem gfMul_one_right (a : BitVec 8) : gfMul a 1#8 = a := by rw [gfMul_comm, gfMul_one_left]

@[simp] theorem gfMul_zero_right (a : BitVec 8) : gfMul a 0#8 = 0#8 := rfl

/-! ### Powers of α -/

@[simp] theorem gfPow_zero (a : BitVec 8) : gfPow a 0 = 1#8 := rfl

theorem gfPow_succ (a : BitVec 8) (n : Nat) : gfPow a (n + 1) = gfMul a (gfPow a n) := rfl

theorem gfPow_add (a : BitVec 8) (m n : Nat) : gfPow a (m + n) = gfMul (gfPow a m) (gfPow a n) := by
  induction m with
  | zero => rw [Nat.zero_add, gfPow_zero, gfMul_one_left]
  | succ m ih => rw [Nat.succ_add, gfPow_succ, ih, gfPow_succ, gfMul_assoc]

theorem gfPow_two_order : gfPow 2 255 = 1#8 := by decide +kernel

theorem gfPow_two_multiple (q : Nat) : gfPow 2 (255 * q) = 1#8 := by
  induction q with
  | zero => rfl
  | succ q ih => rw [Nat.mul_succ, gfPow_add, ih, gfPow_two_order, gfMul_one_left]

theorem alpha_eq (n : Nat) : alpha n = gfPow 2 n := by
  conv_rhs => rw [← Nat.div_add_mod n 255, gfPow_add, gfPow_two_multiple, gfMul_one_left]
  rfl

theorem alpha_add (m n : Nat) : alpha (m + n) = gfMul (alpha m) (alpha n) := by
  simp only [alpha_eq, gfPow_add]

theorem alpha_mul_alpha (n : Nat) : gfMul (alpha n) (alpha (254 * n)) = 1#8 := by
  rw [← alpha_add, show n + 254 * n = 255 * n by omega, alpha_eq, gfPow_two_multiple]

theorem alpha_ne_zero (n : Nat) : alpha n ≠ 0#8 := fun h => by
  have inverse := alpha_mul_alpha n
  rw [h, gfMul_comm, gfMul_zero_right] at inverse
  exact absurd inverse (by decide)

/-- α has order 255: no lower power of it is 1. -/
theorem alpha_ne_one : ∀ n < 255, 0 < n → alpha n ≠ 1#8 := by decide +kernel

theorem alpha_mul_cancel (n : Nat) (a b : BitVec 8) (h : gfMul (alpha n) a = gfMul (alpha n) b) : a = b := by
  have undo : ∀ x, gfMul (alpha (254 * n)) (gfMul (alpha n) x) = x := fun x => by
    rw [← gfMul_assoc, gfMul_comm (alpha _), alpha_mul_alpha, gfMul_one_left]
  rw [← undo a, h, undo]

theorem alpha_lt_ne (m n : Nat) (hmn : m < n) (hn : n < 255) : alpha m ≠ alpha n := fun h => by
  refine alpha_ne_one (n - m) (by omega) (by omega) (alpha_mul_cancel m _ _ ?_)
  rw [← alpha_add, Nat.add_sub_cancel' hmn.le, gfMul_one_right, h]

theorem alpha_injOn : Set.InjOn alpha (Finset.range 255) := by
  intro m hm n hn h
  simp only [Finset.coe_range, Set.mem_Iio] at hm hn
  rcases Nat.lt_trichotomy m n with lt | eq | gt
  · exact absurd h (alpha_lt_ne m n lt hn)
  · exact eq
  · exact absurd h.symm (alpha_lt_ne n m gt hm)

/-- The 255 powers of α are distinct and not 0, so they are all the elements but 0. -/
theorem exists_alpha_eq (e : BitVec 8) (he : e ≠ 0#8) : ∃ n, alpha n = e := by
  have onto : (Finset.range 255).image alpha = Finset.univ.erase 0#8 := by
    refine Finset.eq_of_subset_of_card_le (fun x hx => ?_) ?_
    · obtain ⟨n, -, rfl⟩ := Finset.mem_image.mp hx
      exact Finset.mem_erase.mpr ⟨alpha_ne_zero n, Finset.mem_univ _⟩
    · rw [Finset.card_image_of_injOn alpha_injOn, Finset.card_range,
        Finset.card_erase_of_mem (Finset.mem_univ _), Finset.card_univ, ← FinEnum.card_eq_fintypeCard,
        FinEnum.card_bitVec]
      decide
  have mem : e ∈ (Finset.range 255).image alpha := onto ▸ Finset.mem_erase.mpr ⟨he, Finset.mem_univ e⟩
  obtain ⟨n, -, h⟩ := Finset.mem_image.mp mem
  exact ⟨n, h⟩

theorem gfMul_left_cancel (e a b : BitVec 8) (he : e ≠ 0#8) (h : gfMul e a = gfMul e b) : a = b := by
  obtain ⟨n, rfl⟩ := exists_alpha_eq e he
  exact alpha_mul_cancel n a b h

/-! ### Syndromes -/

@[simp] theorem syndrome_nil (i : Nat) : syndrome [] i = 0#8 := rfl

@[simp] theorem syndrome_cons (c : BitVec 8) (cs : List (BitVec 8)) (i : Nat) :
    syndrome (c :: cs) i = c ^^^ gfMul (alpha i) (syndrome cs i) := rfl

theorem syndrome_append (u v : List (BitVec 8)) (i : Nat) :
    syndrome (u ++ v) i = syndrome u i ^^^ gfMul (alpha (i * u.length)) (syndrome v i) := by
  induction u with
  | nil => exact (BitVec.zero_xor.trans (gfMul_one_left _)).symm
  | cons c u ih =>
    rw [List.cons_append, syndrome_cons, ih, gfMul_xor_right, ← gfMul_assoc, ← alpha_add, syndrome_cons,
      List.length_cons, Nat.mul_succ, Nat.add_comm i, BitVec.xor_assoc]

theorem syndrome_zipWith_xor (u v : List (BitVec 8)) (i : Nat) (h : u.length = v.length) :
    syndrome (List.zipWith (· ^^^ ·) u v) i = syndrome u i ^^^ syndrome v i := by
  induction u generalizing v with
  | nil => simp [List.length_eq_zero_iff.mp h.symm]
  | cons a u ih =>
    obtain ⟨b, v, rfl⟩ := List.exists_cons_of_length_eq_add_one h.symm
    rw [List.zipWith_cons_cons, syndrome_cons, ih v (by simpa using h), syndrome_cons, syndrome_cons, gfMul_xor_right]
    ac_rfl

theorem syndrome_map_gfMul (f : BitVec 8) (l : List (BitVec 8)) (i : Nat) :
    syndrome (l.map (gfMul f)) i = gfMul f (syndrome l i) := by
  induction l with
  | nil => exact (gfMul_zero_right f).symm
  | cons c l ih => rw [List.map_cons, syndrome_cons, ih, syndrome_cons, gfMul_xor_right, gfMul_left_comm]

/-- A symbol error e at position p adds e α^(ip) to syndrome i. -/
theorem syndrome_modify (c : List (BitVec 8)) (p i : Nat) (e : BitVec 8) (hp : p < c.length) :
    syndrome (c.modify p (· ^^^ e)) i = syndrome c i ^^^ gfMul e (alpha (i * p)) := by
  induction c generalizing p with
  | nil => exact absurd hp (Nat.not_lt_zero p)
  | cons a c ih =>
    cases p with
    | zero =>
      show a ^^^ e ^^^ gfMul (alpha i) (syndrome c i) = _ ^^^ gfMul e 1#8
      rw [gfMul_one_right, syndrome_cons]
      ac_rfl
    | succ p =>
      rw [List.modify_succ_cons, syndrome_cons, ih p (Nat.lt_of_succ_lt_succ hp), gfMul_xor_right,
        gfMul_left_comm, ← alpha_add, Nat.add_comm i, ← Nat.mul_succ, syndrome_cons, BitVec.xor_assoc]

/-! ### The check bytes -/

/-- The remainder of a message, its lowest symbol first, under the division by g(x). -/
def lineRemainder (msg : List (BitVec 8)) : List (BitVec 8) := msg.reverse.foldl genStep (List.replicate 8 0)

theorem lineCheck_eq (la : Nat) (data : List Byte) : lineCheck la data = lineRemainder (data ++ lineTag la) := rfl

theorem lineRemainder_cons (m : BitVec 8) (msg : List (BitVec 8)) :
    lineRemainder (m :: msg) = genStep (lineRemainder msg) m := by
  simp [lineRemainder]

@[simp] theorem genStep_length (rem : List (BitVec 8)) (m : BitVec 8) : (genStep rem m).length = 8 := by simp [genStep]

@[simp] theorem lineRemainder_length (msg : List (BitVec 8)) : (lineRemainder msg).length = 8 := by
  cases msg with
  | nil => rfl
  | cons m msg => rw [lineRemainder_cons, genStep_length]

theorem lineGen_length : lineGen.length = 8 := by decide

/-- α^i is a root of g(x) for i from 0 to 7 (R260), where lineGen leaves out the term x^8. -/
theorem syndrome_lineGen : ∀ i < 8, syndrome lineGen i = alpha (i * 8) := by decide +kernel

/-- A step shifts the remainder and takes off the multiple of g(x) that clears the coefficient of x^8. -/
theorem genStep_eq_zipWith (low : List (BitVec 8)) (top m : BitVec 8) (h : low.length = 7) :
    genStep (low ++ [top]) m = List.zipWith (· ^^^ ·) (0 :: low) (lineGen.map (gfMul (m ^^^ top))) := by
  refine List.ext_getElem (by simp [h, lineGen_length]) fun j hj hj' => ?_
  have hj8 : j < 8 := by simpa using hj
  have top_eq : (low ++ [top]).getD 7 0 = top := by simp [List.getD_eq_getElem?_getD, ← h]
  have gen : lineGen.getD j 0 = lineGen[j]'(by rw [lineGen_length]; exact hj8) := List.getD_eq_getElem _ _ _
  simp only [genStep, top_eq, List.getElem_map, List.getElem_range, List.getElem_zipWith, gen]
  cases j with
  | zero => rfl
  | succ j =>
    have hlow : j < low.length := by omega
    simp [List.getD_eq_getElem?_getD, List.getElem?_append_left hlow, List.getElem?_eq_getElem hlow]

theorem syndrome_genStep (rem : List (BitVec 8)) (m : BitVec 8) (i : Nat) (hi : i < 8) (h : rem.length = 8) :
    syndrome (genStep rem m) i = gfMul (alpha i) (syndrome rem i) ^^^ gfMul (alpha (i * 8)) m := by
  obtain ⟨low, top, rfl⟩ := (List.eq_nil_or_concat' rem).resolve_left (by rintro rfl; simp at h)
  have hlow : low.length = 7 := by simpa using h
  rw [genStep_eq_zipWith low top m hlow, syndrome_zipWith_xor _ _ _ (by simp [hlow, lineGen_length]), syndrome_cons,
    syndrome_map_gfMul, syndrome_lineGen i hi, syndrome_append, hlow, gfMul_comm (m ^^^ top), gfMul_xor_right,
    gfMul_xor_right, ← gfMul_assoc, ← alpha_add, show i + i * 7 = i * 8 by omega]
  simp only [syndrome_cons, syndrome_nil, gfMul_zero_right, BitVec.ofNat_eq_ofNat, BitVec.xor_zero, BitVec.zero_xor]
  ac_rfl

/-- A message after its check bytes is a multiple of g(x). -/
theorem syndrome_lineRemainder (msg : List (BitVec 8)) (i : Nat) (hi : i < 8) :
    syndrome (lineRemainder msg ++ msg) i = 0#8 := by
  have remainder : syndrome (lineRemainder msg) i = gfMul (alpha (i * 8)) (syndrome msg i) := by
    induction msg with
    | nil => simp [lineRemainder, List.replicate_succ]
    | cons m msg ih =>
      rw [lineRemainder_cons, syndrome_genStep _ _ _ hi (lineRemainder_length msg), ih, gfMul_left_comm,
        ← gfMul_xor_right, syndrome_cons, BitVec.xor_comm]
  rw [syndrome_append, remainder, lineRemainder_length, BitVec.xor_self]

/-! ### Lines as bytes -/

theorem bytesNat_cons (b : Byte) (l : List Byte) : bytesNat (b :: l) = b.toNat + 256 * bytesNat l := rfl

theorem bytesNat_lt (l : List Byte) : bytesNat l < 256 ^ l.length := by
  induction l with
  | nil => exact Nat.one_pos
  | cons b l ih =>
    have := b.isLt
    rw [bytesNat_cons, List.length_cons, Nat.pow_succ]
    omega

/-- Bytes come back from their number (R5). -/
theorem natBytes_bytesNat (l : List Byte) : natBytes l.length (bytesNat l) = l := by
  induction l with
  | nil => rfl
  | cons b l ih =>
    have := b.isLt
    have low : BitVec.ofNat 8 (b.toNat + 256 * bytesNat l) = b := by
      apply BitVec.eq_of_toNat_eq
      rw [BitVec.toNat_ofNat]
      omega
    have high : (b.toNat + 256 * bytesNat l) / 256 = bytesNat l := by omega
    rw [bytesNat_cons, List.length_cons, natBytes_succ, low, high, ih]

theorem lineBytes_packLine (l : List Byte) (h : l.length = 72) : lineBytes (packLine l) = l := by
  have number : (packLine l).toNat = bytesNat l := by
    rw [packLine, BitVec.toNat_ofNat, show 576 = 8 * l.length by rw [h], Nat.pow_mul]
    exact Nat.mod_eq_of_lt (bytesNat_lt l)
  rw [lineBytes, number, ← h, natBytes_bytesNat]

@[simp] theorem lineBytes_length (x : BitVec 576) : (lineBytes x).length = 72 := natBytes_length _ _

theorem lineBytes_getElem (x : BitVec 576) (k : Nat) (h : k < (lineBytes x).length) :
    (lineBytes x)[k] = x.extractLsb' (8 * k) 8 := by
  simp [lineBytes, natBytes, BitVec.extractLsb', Nat.shiftRight_eq_div_pow, Nat.pow_mul]

/-- The mask of a symbol, as bits of the line. -/
theorem symbolMask_extractLsb' (mask j k : Nat) (hm : mask < 256) (hk : k < 72) :
    (BitVec.ofNat 576 (mask * 256 ^ j)).extractLsb' (8 * k) 8 = if j = k then BitVec.ofNat 8 mask else 0#8 := by
  apply BitVec.eq_of_getLsbD_eq
  intro b hb
  have high : ∀ i, 8 ≤ i → mask.testBit i = false := fun i hi =>
    Nat.testBit_lt_two_pow (Nat.lt_of_lt_of_le hm (Nat.pow_le_pow_right (n := 2) (by decide) hi))
  have bits : (BitVec.ofNat 576 (mask * 256 ^ j)).getLsbD (8 * k + b) =
      (decide (8 * j ≤ 8 * k + b) && mask.testBit (8 * k + b - 8 * j)) := by
    rw [BitVec.getLsbD_ofNat, show 256 ^ j = 2 ^ (8 * j) from (Nat.pow_mul 2 8 j).symm, Nat.testBit_mul_two_pow,
      decide_eq_true (by omega : 8 * k + b < 576), Bool.true_and]
  rw [BitVec.getLsbD_extractLsb', decide_eq_true hb, Bool.true_and, bits]
  rcases Nat.lt_trichotomy j k with lt | rfl | gt
  · simp [lt.ne, high _ (by omega : 8 ≤ 8 * k + b - 8 * j)]
  · simp [hb, -BitVec.getLsbD_eq_getElem, BitVec.getLsbD_ofNat]
  · simp [gt.ne', show ¬ 8 * j ≤ 8 * k + b by omega]

theorem lineBytes_xor_symbol (x : BitVec 576) (j mask : Nat) (hm : mask < 256) :
    lineBytes (x ^^^ BitVec.ofNat 576 (mask * 256 ^ j)) = (lineBytes x).modify j (· ^^^ BitVec.ofNat 8 mask) := by
  refine List.ext_getElem (by simp) fun k hk _ => ?_
  rw [lineBytes_length] at hk
  rw [lineBytes_getElem, BitVec.extractLsb'_xor, symbolMask_extractLsb' mask j k hm hk, List.getElem_modify,
    lineBytes_getElem]
  split
  · rfl
  · exact BitVec.xor_zero

/-! ### Codewords -/

/-- The position in the codeword of the stored byte j (R260). -/
def symbolPosition (j : Nat) : Nat := if j < 64 then j + 8 else j - 64

theorem lineTag_length (la : Nat) : (lineTag la).length = 2 := rfl

theorem codeword_length (la : Nat) (x : BitVec 576) : (codeword la x).length = 74 := by
  simp [codeword, lineTag_length]

theorem modify_append {α : Type} (u v : List α) (p : Nat) (f : α → α) :
    (u ++ v).modify p f = if p < u.length then u.modify p f ++ v else u ++ v.modify (p - u.length) f := by
  induction u generalizing p with
  | nil => rfl
  | cons a u ih =>
    cases p with
    | zero => rfl
    | succ p => simp only [List.cons_append, List.modify_succ_cons, ih, List.length_cons, Nat.succ_lt_succ_iff,
        Nat.add_sub_add_right, apply_ite (List.cons a)]

theorem codeword_of_bytes (la : Nat) (x : BitVec 576) (data check : List Byte) (h : data.length = 64)
    (hx : lineBytes x = data ++ check) : codeword la x = check ++ data ++ lineTag la := by
  rw [codeword, hx, List.drop_left' h, List.take_left' h]

/-- Data bytes stand eight positions higher in the codeword than in the stored line, check bytes below them. -/
theorem codeword_of_modified (la j : Nat) (f : Byte → Byte) (x y : BitVec 576) (hj : j < 72)
    (h : lineBytes y = (lineBytes x).modify j f) : codeword la y = (codeword la x).modify (symbolPosition j) f := by
  obtain ⟨data, check, hx, hd, hc⟩ :
      ∃ data check, lineBytes x = data ++ check ∧ data.length = 64 ∧ check.length = 8 :=
    ⟨(lineBytes x).take 64, (lineBytes x).drop 64, (List.take_append_drop 64 _).symm, by simp, by simp⟩
  rw [hx, modify_append, hd] at h
  rw [codeword_of_bytes la x data check hd hx, modify_append, modify_append, List.length_append, hc, hd, symbolPosition]
  by_cases low : j < 64
  · rw [if_pos low] at h ⊢
    rw [codeword_of_bytes la y _ _ (by rw [List.length_modify, hd]) h, if_pos (by omega), if_neg (by omega),
      Nat.add_sub_cancel]
  · rw [if_neg low] at h ⊢
    rw [codeword_of_bytes la y _ _ hd h, if_pos (by omega), if_pos (by omega)]

theorem lineCheck_length (la : Nat) (data : List Byte) : (lineCheck la data).length = 8 := lineRemainder_length _

theorem lineBytes_encodeLine (la : Nat) (data : List Byte) (h : data.length = 64) :
    lineBytes (encodeLine la data) = data ++ lineCheck la data :=
  lineBytes_packLine _ (by rw [List.length_append, h, lineCheck_length])

theorem codeword_encodeLine (la : Nat) (data : List Byte) (h : data.length = 64) :
    codeword la (encodeLine la data) = lineCheck la data ++ (data ++ lineTag la) := by
  rw [codeword_of_bytes la _ data _ h (lineBytes_encodeLine la data h), List.append_assoc]

theorem syndrome_encodeLine (la i : Nat) (data : List Byte) (h : data.length = 64) (hi : i < 8) :
    syndrome (codeword la (encodeLine la data)) i = 0#8 := by
  rw [codeword_encodeLine la data h, lineCheck_eq, syndrome_lineRemainder _ i hi]

/-! ### The classes of Table 8-4 -/

theorem fitsErrors_single (syn : Nat → BitVec 8) (p : Nat) (e : BitVec 8) :
    fitsErrors ((List.range 8).map syn) [(p, e)] = true ↔ ∀ i < 8, syn i = gfMul e (alpha (i * p)) := by
  simp only [fitsErrors, List.all_eq_true, List.mem_range, decide_eq_true_eq]
  refine forall₂_congr fun i hi => ?_
  simp [List.getD_eq_getElem?_getD, hi]

/-- Syndromes that one symbol error explains: the positions of the codeword have distinct powers of α. -/
theorem locate_single (p : Nat) (e : BitVec 8) (hp : p < 74) (he : e ≠ 0#8) :
    locate ((List.range 8).map fun i => gfMul e (alpha (i * p))) = some [(p, e)] := by
  have s0 : ((List.range 8).map fun i => gfMul e (alpha (i * p))).getD 0 0 = e := by
    show gfMul e (alpha (0 * p)) = e
    rw [Nat.zero_mul]
    exact gfMul_one_right e
  have found : (List.range 74).find? (fun j => e ≠ 0 &&
      fitsErrors ((List.range 8).map fun i => gfMul e (alpha (i * p))) [(j, e)]) = some p := by
    rw [List.find?_range_eq_some]
    refine ⟨?_, List.mem_range.mpr hp, fun j hj => ?_⟩
    · simpa [he] using (fitsErrors_single _ p e).mpr fun _ _ => rfl
    · have other : fitsErrors ((List.range 8).map fun i => gfMul e (alpha (i * p))) [(j, e)] ≠ true := fun fits => by
        have first := (fitsErrors_single _ j e).mp fits 1 (by decide)
        rw [Nat.one_mul, Nat.one_mul] at first
        exact alpha_lt_ne j p hj (by omega) (gfMul_left_cancel e _ _ he first).symm
      simp [other]
  simp only [locate, s0, found]

theorem classifyLine_clean (la : Nat) (x : BitVec 576) (h : ∀ i < 8, syndrome (codeword la x) i = 0#8) :
    classifyLine la x = (lnClean, (lineBytes x).take 64, x) := by
  unfold classifyLine
  rw [if_pos]
  simpa using h

/-- The correction of one symbol gives the codeword back. -/
theorem map_correct_modify (c : List (BitVec 8)) (p : Nat) (e : BitVec 8) :
    (List.range c.length).map (fun j =>
      [(p, e)].foldl (fun v e => if e.1 = j then v ^^^ e.2 else v) ((c.modify p (· ^^^ e)).getD j 0)) = c := by
  refine List.ext_getElem (by simp) fun k hk hk' => ?_
  by_cases h : p = k <;> simp [h, List.getD_eq_getElem?_getD, hk', List.getElem?_modify]

/-- A codeword with one wrong symbol among the stored ones. -/
theorem classifyLine_single (la p : Nat) (x : BitVec 576) (c : List (BitVec 8)) (e : BitVec 8) (he : e ≠ 0#8)
    (hp : p < 72) (hlen : c.length = 74) (hc : ∀ i < 8, syndrome c i = 0#8)
    (hx : codeword la x = c.modify p (· ^^^ e)) :
    classifyLine la x = (lnCorrected, (c.drop 8).take 64, packLine ((c.drop 8).take 64 ++ c.take 8)) := by
  have syn : (List.range 8).map (syndrome (codeword la x)) =
      (List.range 8).map fun i => gfMul e (alpha (i * p)) := by
    refine List.map_congr_left fun i hi => ?_
    rw [hx, syndrome_modify c p i e (by omega), hc i (List.mem_range.mp hi), BitVec.zero_xor]
  have wrong : ((List.range 8).map fun i => gfMul e (alpha (i * p))).all (fun v => v = 0) = false := by
    rw [List.all_eq_false]
    exact ⟨e, List.mem_map.mpr ⟨0, by decide, by rw [Nat.zero_mul]; exact gfMul_one_right e⟩, by simpa using he⟩
  have stored : [(p, e)].any (fun e => decide (72 ≤ e.1)) = false := by simp [hp]
  have fixed := map_correct_modify c p e
  rw [hlen, ← hx] at fixed
  simp only [classifyLine, syn, wrong, locate_single p e (by omega) he, stored, fixed, Bool.false_eq_true, if_false]

/-! ### The obligation -/

theorem lineTag_bit : ∀ i < 32,
    BitVec.ofNat 16 (2 ^ i) ^^^ BitVec.ofNat 16 (2 ^ i / 65536) = 1#16 <<< (i % 16) := by decide

theorem classifyLine_encodeLine (la : Nat) (data : List Byte) (h : data.length = 64) :
    classifyLine la (encodeLine la data) = (lnClean, data, encodeLine la data) := by
  rw [classifyLine_clean la _ fun i hi => syndrome_encodeLine la i data h hi, lineBytes_encodeLine la data h,
    List.take_left' h]

theorem classifyLine_encodeLine_damaged (la j mask : Nat) (data : List Byte) (h : data.length = 64) (hj : j < 72)
    (hpos : 0 < mask) (hm : mask < 256) :
    classifyLine la (encodeLine la data ^^^ BitVec.ofNat 576 (mask * 256 ^ j)) =
      (lnCorrected, data, encodeLine la data) := by
  have he : BitVec.ofNat 8 mask ≠ 0#8 := fun zero => by
    have := congrArg BitVec.toNat zero
    rw [BitVec.toNat_ofNat, Nat.mod_eq_of_lt hm] at this
    exact hpos.ne' this
  have hp : symbolPosition j < 72 := by unfold symbolPosition; split <;> omega
  rw [classifyLine_single la (symbolPosition j) _ (codeword la (encodeLine la data)) _ he hp (codeword_length la _)
    (fun i hi => syndrome_encodeLine la i data h hi)
    (codeword_of_modified la j _ _ _ hj (lineBytes_xor_symbol _ j mask hm)), codeword_encodeLine la data h]
  have check := lineCheck_length la data
  rw [List.drop_left' check, List.take_left' check, List.take_left' h]
  rfl

/-- Settles O32: each bit of LA feeds one symbol bit; the syndromes of a written line are 0, and those of one damaged
symbol name its place and value. -/
theorem lineCode : Obligations.LineCode := by
  intro la i j mask data _ hdata hj hpos hm
  refine ⟨rfl, fun hi => ⟨i % 16, Nat.mod_lt _ (by decide), ?_⟩, classifyLine_encodeLine la data hdata,
    classifyLine_encodeLine_damaged la j mask data hdata hj hpos hm⟩
  have high : (la ^^^ 2 ^ i) / 65536 = la / 65536 ^^^ 2 ^ i / 65536 := Nat.xor_div_two_pow (n := 16)
  rw [← lineTag_bit i hi]
  simp only [high, BitVec.ofNat_xor]
  ac_rfl

end Sys2Proof.Machine
end

section
/-! PROOFS. Events at kernels (R380 to R382): WAIT and its wake-up, the timer, the end of an eye measurement. -/

namespace Sys2Proof.Machine

/-- A command that is no dictionary access and names a unit that exists completes in its effect. -/
theorem event_completes {ok : Bool} {s : State} {f : State → State} {P : State → Prop} (hok : ok = true)
    (h : P (f s.fresh)) : Completes (event ok s f) P :=
  ⟨f s.fresh, by simp [event, onUnit, hok], h⟩

/-! ### WAIT (R381) -/

theorem State.waitEvent_mask_zero (s : State) (k rd : Nat) : s.waitEvent k rd 0 = .error 6 := rfl

theorem State.waitEvent_hit (s : State) (k rd : Nat) (mask : BitVec 8) (hit : s.evPend k &&& mask ≠ 0) :
    s.waitEvent k rd mask = .ok (s.writeReg k rd ((s.evPend k &&& mask).setWidth 32) 4) := by
  have hm : mask ≠ 0 := fun zero => hit (by simp [zero])
  simp only [State.waitEvent, if_neg hm, if_pos hit]

theorem State.waitEvent_miss (s : State) (k rd : Nat) (mask : BitVec 8) (hm : mask ≠ 0)
    (miss : s.evPend k &&& mask = 0) :
    s.waitEvent k rd mask
      = .ok ((s.setKernel k { s.kernel k with wait := some (rd, mask) }).wr (0x6810 + k) 0x01 2) := by
  simp only [State.waitEvent, if_neg hm, miss, ne_eq, not_true_eq_false, if_false]

/-- The kernel waits: its mask and register are held, and its state shows WAITING. -/
theorem kernelInstr_waits (s : State) (k rd rs1 : Nat) (mask : BitVec 8) (h : s.atInstr k (.wait k rd rs1) = true)
    (hmask : mask = (s.greg k rs1).setWidth 8) (hm : mask ≠ 0) (miss : s.evPend k &&& mask = 0) :
    Completes (execWait k rd rs1 s) (fun t => t = { s with out := [], kernels := t.kernels, dict := t.dict } ∧
      t.rd (0x6810 + k) 0x01 = 2 ∧ t.kernel k = { s.kernel k with wait := some (rd, mask) }) := by
  subst hmask
  refine ⟨_, kernelInstr_next s _ k _ _ h (State.waitEvent_miss s.fresh k rd _ hm miss), rfl, State.wr_rd_same ..,
    ?_⟩
  rw [State.wr_kernel_frame, State.setKernel_kernel_same]
  rfl

/-- A wake-up writes the pending events of the mask to the waiting instruction's register and goes past it. -/
theorem State.wakeUp_hit (s : State) (k rd : Nat) (mask : BitVec 8) (hst : s.kernelSt k = 2)
    (hw : (s.kernel k).wait = some (rd, mask)) (hit : s.evPend k &&& mask ≠ 0) :
    s.wakeUp k = ((s.setKernel k { s.kernel k with wait := none }).wr (0x6810 + k) 0x01 1).writeReg k rd
      ((s.evPend k &&& mask).setWidth 32) 4 := by
  simp only [State.wakeUp, hst, ne_eq, not_true_eq_false, if_false, hw, hit]

/-- Which events are pending depends on the queues and edges of a kernel only. -/
theorem State.evPend_congr (s t : State) (k : Nat) (he : (t.kernel k).edges = (s.kernel k).edges)
    (hi : (t.kernel k).inbox = (s.kernel k).inbox) (ht : (t.kernel k).triggers = (s.kernel k).triggers)
    (hh : (t.kernel k).cqHead = (s.kernel k).cqHead) (hq : (t.kernel k).cqTail = (s.kernel k).cqTail) :
    t.evPend k = s.evPend k := by
  simp only [State.evPend, he, hi, ht, hh, hq]

@[simp] theorem State.writeReg_rd (s : State) (k r n a b : Nat) (v : Word) :
    (s.writeReg k r v n).rd a b = s.rd a b := by
  unfold State.writeReg State.setGreg
  split <;> rfl

theorem State.wakeUp_gives (s : State) (k q : Nat) (m : BitVec 8) (hq : q < 16) (hst : s.kernelSt k = 2)
    (hw : (s.kernel k).wait = some (q, m)) (hit : s.evPend k &&& m ≠ 0) :
    let t := s.fresh.wakeUp k
    t.rd (0x6810 + k) 0x01 = 1 ∧ (t.kernel k).wait = none ∧ (t.kernel k).pc = (s.kernel k).pc + 4 ∧
      (t.kernel k).edges = (s.kernel k).edges ∧ t.evPend k = s.evPend k ∧
      ∀ r, t.greg k r = if r = q ∧ q ≠ 0 then (s.evPend k &&& m).setWidth 32 else s.greg k r := by
  intro t
  let u := (s.setKernel k { s.kernel k with wait := none }).wr (0x6810 + k) 0x01 1
  have ht : t = u.fresh.writeReg k q ((s.evPend k &&& m).setWidth 32) 4 := State.wakeUp_hit s.fresh k q m hst hw hit
  have hu : u.kernel k = { s.kernel k with wait := none } := by simp [u]
  obtain ⟨⟨-, -, frame⟩, regs, pc⟩ := State.writeReg_gives u k q ((s.evPend k &&& m).setWidth 32) 4 hq
  rw [← ht, hu] at frame
  rw [← ht] at regs pc
  refine ⟨?_, ?_, ?_, ?_, ?_, fun r => ?_⟩
  · rw [ht, State.writeReg_rd]
    exact State.wr_rd_same ..
  · rw [frame]
  · rw [pc, hu]
    rfl
  · rw [frame]
  · apply State.evPend_congr <;> rw [frame]
  · rw [regs r, State.greg, hu]
    rfl

/-! ### The timer (R382, R444) -/

/-- A kernel's record written on its own. -/
theorem State.setKernel_gives (s : State) (k : Nat) (x : KernelRec) : s.GivesKernel k x (s.fresh.setKernel k x) := by
  refine ⟨rfl, fun j hj => ?_, State.setKernel_kernel_same ..⟩
  rw [State.setKernel_kernel, if_neg hj]
  rfl

/-- A record written, then an event set, is one record written. -/
theorem State.GivesKernel.kernelEdge {s t : State} {k : Nat} {x : KernelRec} (h : s.GivesKernel k x t) (bit : Nat) :
    s.GivesKernel k { x with edges := x.edges ||| (1#8 <<< bit) } (t.kernelEdge k bit) := by
  obtain ⟨frame, others, own⟩ := h
  refine ⟨?_, fun j hj => ?_, ?_⟩
  · rw [frame]
    rfl
  · rw [State.kernelEdge, State.setKernel_kernel, if_neg hj, others j hj]
  · rw [State.kernelEdge, State.setKernel_kernel_same, own]

theorem State.timerEnd_running (s : State) (k : Nat) (ht : (s.kernel k).timer.isSome = true) (hd : s.domSt 0 = 1) :
    s.timerEnd k = (s.setKernel k { s.kernel k with timer := none }).kernelEdge k 3 := if_pos ⟨ht, hd⟩

theorem State.timerEnd_paused (s : State) (k : Nat) (hd : s.domSt 0 ≠ 1) : s.timerEnd k = s :=
  if_neg fun h => hd h.2

/-! ### Eye measurements (R380) -/

theorem State.setWinByte_winByte (s : State) (k o q : Nat) (v : Byte) :
    (s.setWinByte k o v).winByte k q = if q = o then v else s.winByte k q := by
  simp [State.winByte, State.setWinByte, Sparse.get_set]

theorem State.setWinByte_kernel (s : State) (k o : Nat) (v : Byte) : (s.setWinByte k o v).kernel k
    = { s.kernel k with window := Sparse.set winDflt (s.kernel k).window o v } := by
  simp [State.setWinByte]

/-- Bytes of a list written one by one to the lane window, from offset a on. -/
def State.setWinBytes (s : State) (k a : Nat) (l : List Byte) (m : Nat) : State :=
  (List.range m).foldl (fun s i => s.setWinByte k (a + i) (l.getD i 0)) s

theorem State.setWinBytes_succ (s : State) (k a : Nat) (l : List Byte) (m : Nat) :
    s.setWinBytes k a l (m + 1) = (s.setWinBytes k a l m).setWinByte k (a + m) (l.getD m 0) := by
  simp [State.setWinBytes, List.range_succ]

theorem State.setWinBytes_kernel (s : State) (k a : Nat) (l : List Byte) (m : Nat) :
    (s.setWinBytes k a l m).kernel k
      = { s.kernel k with window := ((s.setWinBytes k a l m).kernel k).window } := by
  induction m with
  | zero => rfl
  | succ m ih => rw [State.setWinBytes_succ, State.setWinByte_kernel, ih]

theorem State.setWinBytes_winByte (s : State) (k a : Nat) (l : List Byte) (m q : Nat) :
    (s.setWinBytes k a l m).winByte k q = if a ≤ q ∧ q < a + m then l.getD (q - a) 0 else s.winByte k q := by
  induction m with
  | zero => rw [if_neg (by omega)]; rfl
  | succ m ih =>
    rw [State.setWinBytes_succ, State.setWinByte_winByte, ih]
    by_cases hq : q = a + m
    · rw [if_pos hq, if_pos (by omega), show q - a = m by omega]
    · rw [if_neg hq]
      exact if_congr (by omega) rfl rfl

@[simp] theorem State.kernelEdge_winByte (s : State) (k bit q : Nat) :
    (s.kernelEdge k bit).winByte k q = s.winByte k q := by
  simp [State.winByte, State.kernelEdge]

theorem State.winWord_kernelEdge (s : State) (k bit o : Nat) : (s.kernelEdge k bit).winWord k o = s.winWord k o := by
  simp [State.winWord]

/-- The four bytes of a number written to the window are the word that reads back (R5). -/
theorem State.winWord_setWinBytes (s : State) (k a v : Nat) (hv : v < 2 ^ 32) :
    (s.setWinBytes k a (natBytes 4 v) 4).winWord k a = v := by
  have bytes : (List.range 4).map (fun i => (s.setWinBytes k a (natBytes 4 v) 4).winByte k (a + i)) = natBytes 4 v := by
    refine List.map_congr_left fun i hi => ?_
    have hi : i < 4 := List.mem_range.mp hi
    rw [State.setWinBytes_winByte, if_pos (by omega), Nat.add_sub_cancel_left]
    simp [natBytes, hi]
  rw [State.winWord, bytes, bytesNat_natBytes_of_lt 4 v hv]

theorem State.eyeDone_running (s : State) (k p : Nat) (errors : BitVec 24)
    (hp : (s.kernel k).eyeRun.contains p = true) : s.eyeDone k p errors =
      ((s.setKernel k { s.kernel k with eyeRun := (s.kernel k).eyeRun.filter (fun i => i ≠ p) }).setWinBytes k
        (p * 256 + 0x44) (natBytes 4 (2 ^ 31 + errors.toNat)) 4).kernelEdge k 5 := by
  simp only [State.eyeDone, hp, Bool.not_true, Bool.false_eq_true, if_false]
  rfl

theorem State.eyeDone_gives (s : State) (k p : Nat) (errors : BitVec 24)
    (hp : (s.kernel k).eyeRun.contains p = true) :
    let t := s.eyeDone k p errors
    (t.kernel k).eyeRun = (s.kernel k).eyeRun.filter (fun i => i ≠ p) ∧
      (t.kernel k).edges = (s.kernel k).edges ||| 0x20 ∧ t.winWord k (p * 256 + 0x44) = 2 ^ 31 + errors.toNat := by
  intro t
  have ht : t = _ := State.eyeDone_running s k p errors hp
  have frame := State.setWinBytes_kernel
    (s.setKernel k { s.kernel k with eyeRun := (s.kernel k).eyeRun.filter (fun i => i ≠ p) }) k (p * 256 + 0x44)
    (natBytes 4 (2 ^ 31 + errors.toNat)) 4
  rw [State.setKernel_kernel_same] at frame
  rw [ht, State.winWord_kernelEdge, State.winWord_setWinBytes _ _ _ _ (by omega), State.kernelEdge,
    State.setKernel_kernel_same, frame]
  exact ⟨rfl, rfl, rfl⟩

/-- Settles O56: WAIT by the three cases of its mask; a wake-up, the timer and an eye measurement each by what their
event writes. -/
theorem kernelEvents : Obligations.KernelEvents := by
  intro s k rd rs1 p errors hrd x mask hit
  refine ⟨fun h hh => ?_, fun h hm hh => ?_, fun h hm => ?_, fun hk hst q m hq hw hh => ?_, fun hk ht hd => ?_,
    fun hk hd => ?_, fun hk hp hr => ?_⟩
  · show Completes (execWait k rd rs1 s) _
    exact kernelInstr_reg s k rd _ 4 _ _ h hrd (State.waitEvent_hit s.fresh k rd mask hh)
  · exact kernelInstr_waits s k rd rs1 mask h rfl hm hh
  · show Completes (execWait k rd rs1 s) _
    exact kernelInstr_gives_fault s k 6 _ _ h ((congrArg _ hm).trans (State.waitEvent_mask_zero s.fresh k rd))
  · show Completes (execWaitWakeup k s) _
    exact event_completes (decide_eq_true hk) (State.wakeUp_gives s k q m hq hst hw hh)
  · show Completes (execKernelTimer k s) _
    refine event_completes (decide_eq_true hk) ?_
    rw [State.timerEnd_running s.fresh k ht hd]
    exact (State.setKernel_gives s k _).kernelEdge 3
  · show Completes (execKernelTimer k s) _
    exact event_completes (decide_eq_true hk) (State.timerEnd_paused s.fresh k hd)
  · show Completes (execEyeMeasurementDone k p errors s) _
    exact event_completes (by simp [hk, hp]) (State.eyeDone_gives s.fresh k p errors hr)

end Sys2Proof.Machine
end

section
/-! PROOFS. Starts, faults, restarts and stops of kernels (R371, R377, R378, R388 to R392): the record that a start
leaves in its kernel depends on the bundle and on what the kernel's engine and lane window own, and the entries that a
fault leaves stand through the raise that it makes. -/

namespace Sys2Proof.Machine

/-! ### The equalisers hold their setting (R202, R391) -/

theorem State.holdEq_only_dict (s : State) (g : Nat) : s.holdEq g = { s with dict := (s.holdEq g).dict } := by
  unfold State.holdEq
  split
  · exact List.foldlRecOn (motive := fun t : State => t = { s with dict := t.dict }) _ _ rfl
      fun t ht x _ => by rw [ht]; rfl
  · rfl

theorem State.holdEq_rd (s : State) (g a b : Nat) (hb : b < 256) (h : b ≠ 0x15) : (s.holdEq g).rd a b = s.rd a b := by
  unfold State.holdEq
  split
  · refine List.foldlRecOn (motive := fun t : State => t.rd a b = s.rd a b) _ _ rfl fun t ht x _ => ?_
    rw [State.wr_rd_ne, ht]
    unfold ent
    omega
  · rfl

@[simp] theorem State.holdEq_kernel (s : State) (g k : Nat) : (s.holdEq g).kernel k = s.kernel k := by
  rw [State.holdEq_only_dict]
  rfl

@[simp] theorem State.holdEq_out (s : State) (g : Nat) : (s.holdEq g).out = s.out := by
  rw [State.holdEq_only_dict]

/-! ### Starts (R371, R388, R390) -/

/-- The state in which a kernel is loaded: its lanes' equalisers hold, and their error estimates are cleared. -/
def State.lanesHeld (s : State) (k : Nat) : State :=
  if k < 64 then
    (List.range 8).foldl (fun t i =>
      if (t.lane (8 * k + i)).estBlocks = 0 then t
      else t.setLane (8 * k + i) { t.lane (8 * k + i) with estBlocks := 0, errAt := [] }) (s.holdEq k)
  else s.holdEq k

/-- The record of a kernel that starts (R371, R388): its engine's staging bytes, and what its lane window holds and
measures, are kept (R391). -/
def State.startRecord (s : State) (k : Nat) : KernelRec :=
  let p := s.programOf k
  let code := cellsAt 0 (p.code.take (codeSize k))
  { regs := (Vector.replicate 16 (0 : Word)).setIfInBounds 13 (BitVec.ofNat 32 p.stack)
    pc := BitVec.ofNat 32 p.entry
    mem := code ++ cellsAt 0x00100000 ((s.startData k).take (dataSize k))
    code := code
    std := !s.imageNames k
    stageOwned := (s.kernel k).stageOwned
    window := (s.kernel k).window
    eyeRun := (s.kernel k).eyeRun }

theorem State.lanesHeld_frame (s : State) (k : Nat) :
    s.lanesHeld k = { s with dict := (s.lanesHeld k).dict, lanes := (s.lanesHeld k).lanes } := by
  unfold State.lanesHeld
  split
  · refine List.foldlRecOn (motive := fun t : State => t = { s with dict := t.dict, lanes := t.lanes }) _ _ ?_
      fun t ht i _ => ?_
    · rw [State.holdEq_only_dict]
    · dsimp only
      split
      · exact ht
      · rw [ht]
        rfl
  · rw [State.holdEq_only_dict]

theorem State.lanesHeld_dict (s : State) (k : Nat) : (s.lanesHeld k).dict = (s.holdEq k).dict := by
  unfold State.lanesHeld
  split
  · refine List.foldlRecOn (motive := fun t : State => t.dict = (s.holdEq k).dict) _ _ rfl fun t ht i _ => ?_
    dsimp only
    split <;> exact ht
  · rfl

theorem State.lanesHeld_rd (s : State) (k a b : Nat) (hb : b < 256) (h : b ≠ 0x15) :
    (s.lanesHeld k).rd a b = s.rd a b := by
  rw [← State.holdEq_rd s k a b hb h]
  simp only [State.rd, State.lanesHeld_dict]

/-- A start loads its record, makes the kernel's requests stale, and shows RUNNING and the program. -/
theorem State.startKernel_eq (s : State) (k : Nat) : s.startKernel k =
    let t := (((s.lanesHeld k).setKernel k (s.startRecord k)).staleRequests k).wr (0x6810 + k) 0x01 1
    let t := t.wr (0x6810 + k) 0x02 (s.progId k)
    if isReadoutKernel k then t.wr (0x6140 + (k - 64)) 0x05 0 else t := by
  have h := s.lanesHeld_frame k
  have record : s.startRecord k = { s.startRecord k with
      stageOwned := ((s.lanesHeld k).kernel k).stageOwned
      window := ((s.lanesHeld k).kernel k).window
      eyeRun := ((s.lanesHeld k).kernel k).eyeRun } := by
    rw [h]
    rfl
  have shown (x : KernelRec) : (((s.lanesHeld k).setKernel k x).staleRequests k).progId k = s.progId k := by
    rw [h]
    rfl
  rw [record, ← shown]
  rfl

theorem State.startKernel_kernel (s : State) (k j : Nat) :
    (s.startKernel k).kernel j = if j = k then s.startRecord k else s.kernel j := by
  have rest : (s.lanesHeld k).kernel j = s.kernel j := by
    rw [State.lanesHeld_frame]
    rfl
  rw [State.startKernel_eq, ← rest, ← State.setKernel_kernel]
  dsimp only
  split <;> rfl

theorem State.startKernel_bundle (s : State) (k : Nat) : (s.startKernel k).bundle = s.bundle := by
  rw [State.startKernel_eq, State.lanesHeld_frame]
  dsimp only
  split <;> rfl

/-- The entries of the started kernel: its program, RUNNING, and the others as they were. -/
theorem State.startKernel_rd (s : State) (k b : Nat) (hk : k < 94) (hb : b < 256) (h : b ≠ 0x15) :
    (s.startKernel k).rd (0x6810 + k) b
      = if b = 0x02 then s.progId k else if b = 0x01 then 1 else s.rd (0x6810 + k) b := by
  have held : (((s.lanesHeld k).setKernel k (s.startRecord k)).staleRequests k).rd (0x6810 + k) b
      = s.rd (0x6810 + k) b := by
    rw [State.staleRequests_rd, State.setKernel_rd_frame, State.lanesHeld_rd s k _ b hb h]
  have apart : ent (0x6810 + k) b ≠ ent (0x6140 + (k - 64)) 0x05 := by
    unfold ent
    omega
  rw [State.startKernel_eq]
  generalize ((s.lanesHeld k).setKernel k (s.startRecord k)).staleRequests k = u at held ⊢
  have shown : ((u.wr (0x6810 + k) 0x01 1).wr (0x6810 + k) 0x02 (s.progId k)).rd (0x6810 + k) b
      = if b = 0x02 then s.progId k else if b = 0x01 then 1 else s.rd (0x6810 + k) b := by
    simp only [State.wr_rd, ent_same, held]
  dsimp only
  split
  · rw [State.wr_rd_ne _ _ _ _ _ _ apart, shown]
  · exact shown

/-- A start's record depends on the bundle and on the kernel's own record. -/
theorem State.startRecord_congr (s t : State) (k : Nat) (hb : t.bundle = s.bundle) (hk : t.kernel k = s.kernel k) :
    t.startRecord k = s.startRecord k := by
  unfold State.startRecord State.startData State.programOf State.imageNames
  rw [hb, hk]

theorem State.startKernels_kernel (s : State) (n j : Nat) :
    let t := (List.range n).foldl (fun s k => s.startKernel k) s
    t.bundle = s.bundle ∧ t.kernel j = if j < n then s.startRecord j else s.kernel j := by
  induction n with
  | zero => exact ⟨rfl, rfl⟩
  | succ n ih =>
    obtain ⟨bundle, kernel⟩ := ih
    rw [List.range_succ, List.foldl_append]
    refine ⟨(State.startKernel_bundle _ n).trans bundle, (State.startKernel_kernel _ n j).trans ?_⟩
    by_cases hj : j = n
    · subst hj
      rw [if_neg (lt_irrefl j)] at kernel
      rw [if_pos rfl, if_pos (by omega), State.startRecord_congr s _ j bundle kernel]
    · rw [if_neg hj, kernel]
      exact if_congr (by omega) rfl rfl

/-- R371: g13 holds STACK, and every other register 0. -/
theorem State.greg_startRecord (s t : State) (k q : Nat) (h : t.kernel k = s.startRecord k) :
    t.greg k q = if q = 13 then BitVec.ofNat 32 (s.programOf k).stack else 0 := by
  have regs : (t.kernel k).regs
      = (Vector.replicate 16 (0 : Word)).setIfInBounds 13 (BitVec.ofNat 32 (s.programOf k).stack) := by rw [h]; rfl
  rw [State.greg, regs]
  by_cases h13 : q = 13
  · subst h13
    simp [Vector.getD]
  · by_cases hq : q < 16
    · simp [Vector.getD, hq, h13, Ne.symm h13]
    · simp [Vector.getD, hq, h13]

/-- A restart counts, and starts the kernel. -/
theorem State.restart_gives (s : State) (k : Nat) (hk : k < 94) :
    s.GivesStart k ((s.fresh.bump 32 (0x6810 + k) 0x07).startKernel k) := by
  set u := s.fresh.bump 32 (0x6810 + k) 0x07 with hu
  have record : (u.startKernel k).kernel k = u.startRecord k := by rw [State.startKernel_kernel, if_pos rfl]
  refine ⟨?_, ?_, ?_, ?_, fun q => State.greg_startRecord u _ k q record, ?_, ?_, ?_, ?_⟩
  · rw [State.startKernel_rd u k 1 hk (by omega) (by omega)]
    rfl
  · rw [State.startKernel_rd u k 2 hk (by omega) (by omega)]
    rfl
  · rw [State.startKernel_rd u k 7 hk (by omega) (by omega)]
    exact State.wr_rd_same ..
  all_goals
    rw [record]
    rfl

/-! ### Faults (R377) -/

theorem State.raiseKernelFault_raises (s : State) (k : Nat) :
    ∃ code level, s.raiseKernelFault k = s.raise (kernelSource k) clsKernel code level := by
  unfold State.raiseKernelFault
  split
  · exact ⟨_, _, rfl⟩
  split
  · exact ⟨_, _, rfl⟩
  split <;> exact ⟨_, _, rfl⟩

/-- The entries that show a kernel's fault, beside its count, and those that the fault leaves as they were. -/
theorem State.markFault_rd (s : State) (k c b : Nat) (hb : b ≠ 0x06) : (s.markFault k c).rd (0x6810 + k) b =
    if b = 0x01 then 3 else if b = 0x04 then (s.kernel k).pc.toNat else if b = 0x03 then c
    else s.rd (0x6810 + k) b := by
  simp only [State.markFault, State.staleRequests_rd, State.setKernel_rd_frame, State.bump_eq, State.wr_rd, ent_same,
    hb, if_false]

/-- The raise of a kernel's fault leaves the kernel's entries alone. -/
theorem State.kernelFault_rd (s : State) (k c b : Nat) (hk : k < 94) (hb : b < 256) :
    (s.kernelFault k c).rd (0x6810 + k) b = (s.markFault k c).rd (0x6810 + k) b := by
  obtain ⟨code, level, raises⟩ := (s.markFault k c).raiseKernelFault_raises k
  rw [State.kernelFault, raises]
  exact State.raise_rd _ _ _ _ _ _ _ _ b (kernelSource_lt k) (by decide) hb (by omega) (by omega) (by omega)

theorem State.kernelFault_source (s : State) (k c : Nat) :
    (s.kernelFault k c).rd (0x7100 + kernelSource k) 0x01 = 1 := by
  obtain ⟨code, level, raises⟩ := (s.markFault k c).raiseKernelFault_raises k
  rw [State.kernelFault, raises]
  exact (State.raise_source _ _ clsKernel code level 0 false (by decide)).1

/-- Any kernel that faults, a vendor kernel too, shows FAULTED and the code, and raises its source. -/
theorem State.kernelFault_shows (s : State) (k c : Nat) (hk : k < 94) :
    (s.kernelFault k c).rd (0x6810 + k) 0x01 = 3 ∧ (s.kernelFault k c).rd (0x6810 + k) 0x03 = c ∧
      (s.kernelFault k c).rd (0x7100 + kernelSource k) 0x01 = 1 := by
  refine ⟨?_, ?_, State.kernelFault_source s k c⟩
  · rw [State.kernelFault_rd s k c 1 hk (by omega), State.markFault_rd s k c 1 (by omega)]
    rfl
  · rw [State.kernelFault_rd s k c 3 hk (by omega), State.markFault_rd s k c 3 (by omega)]
    rfl

/-- What a fault shows of the state before it is the kernel's PC and registers. -/
theorem State.GivesFault.of_kernel_eq {s u t : State} {k c : Nat} (h : u.GivesFault k c t)
    (hk : u.kernel k = s.kernel k) : s.GivesFault k c t := by
  simpa only [State.GivesFault, State.greg, hk] using h

/-- A fault before which only other things than the kernel changed. -/
theorem State.kernelFault_gives_of_kernel_eq {s u : State} {k : Nat} (c : Nat) (hk : k < 80) (ho : u.out = [])
    (he : u.kernel k = s.kernel k) : s.GivesFault k c (u.kernelFault k c) := by
  have hu : u.fresh = u := by rw [State.fresh, ← ho]
  have gives := State.kernelFault_gives u k c hk
  rw [hu] at gives
  exact gives.of_kernel_eq he

/-- TRAP records its operand, and the fault leaves it there. -/
theorem State.trap_gives (s : State) (k v : Nat) (hk : k < 80) :
    s.GivesFault k 7 ((s.fresh.wr (0x6810 + k) 0x05 v).kernelFault k 7) ∧
      ((s.fresh.wr (0x6810 + k) 0x05 v).kernelFault k 7).rd (0x6810 + k) 0x05 = v := by
  refine ⟨State.kernelFault_gives_of_kernel_eq 7 hk rfl rfl, ?_⟩
  rw [State.kernelFault_rd _ k 7 5 (by omega) (by omega), State.markFault_rd _ k 7 5 (by omega)]
  exact State.wr_rd_same ..

/-! ### The watchdog and illegal encodings -/

theorem State.lt_of_canRun {s : State} {k : Nat} (h : s.canRun k = true) : k < 80 := by
  simp only [State.canRun, Bool.and_eq_true, decide_eq_true_eq] at h
  exact h.1.1.1

theorem State.illegalInstruction_undecoded (s : State) (k : Nat) (hr : s.canRun k = true) (hp : s.pcOk k = true)
    (hf : s.fetched k = none) : s.illegalInstruction k = s.kernelFault k 1 := by
  have hk : ¬ 80 ≤ k := Nat.not_le.mpr (State.lt_of_canRun hr)
  simp [State.illegalInstruction, hk, hr, hp, hf]

theorem State.illegalInstruction_outside (s : State) (k : Nat) (hr : s.canRun k = true) (hp : s.pcOk k = false) :
    s.illegalInstruction k = s.kernelFault k 3 := by
  have hk : ¬ 80 ≤ k := Nat.not_le.mpr (State.lt_of_canRun hr)
  simp [State.illegalInstruction, hk, hr, hp]

theorem State.illegalInstruction_vendor (s : State) (k : Nat) (hk : 80 ≤ k) (hr : s.kernelSt k = 1) :
    s.illegalInstruction k = s.vendorFault k 1 := by
  rw [State.illegalInstruction, if_pos hk, if_pos hr]

theorem State.kernelWatchdog_user (s : State) (k : Nat) (hk : k < 80) (hr : s.kernelSt k = 1) (hd : s.domSt 0 = 1) :
    s.kernelWatchdog k = (s.holdEq k).kernelFault k 8 := by
  rw [State.kernelWatchdog, if_neg (by simp [hr, hd]), if_neg (by omega)]

theorem State.kernelWatchdog_vendor (s : State) (k : Nat) (hk : 80 ≤ k) (hr : s.kernelSt k = 1) (hd : s.domSt 0 = 1) :
    s.kernelWatchdog k = s.vendorFault k 8 := by
  rw [State.kernelWatchdog, if_neg (by simp [hr, hd]), if_pos hk]

theorem State.kernelWatchdog_paused (s : State) (k : Nat) (hd : s.domSt 0 ≠ 1) : s.kernelWatchdog k = s :=
  if_pos (.inr hd)

/-! ### Restarts and stops (R378, R391, R392) -/

theorem State.kernelRestart_user (s : State) (k : Nat) (hk : k < 80) (hst : s.kernelSt k = 3)
    (hp : s.rd (0x6810 + k) 0x09 = 1) (hl : s.rd (0x6810 + k) 0x07 < s.rd 0x6800 0x04) :
    s.kernelRestart k = (s.bump 32 (0x6810 + k) 0x07).startKernel k := by
  rw [State.kernelRestart, if_neg (by omega), State.restartAfterFault, if_neg (by simp [hst]), if_neg (by omega),
    if_neg (by simp [hp]), if_neg (by omega)]

theorem State.restartKernel_user (s : State) (k : Nat) (hk : k < 80) (hst : s.kernelSt k ≠ 0) :
    s.restartKernel k = done ((s.bump 32 (0x6810 + k) 0x07).startKernel k) := by
  rw [State.restartKernel, if_neg (by omega), if_neg hst]

theorem State.stopCommand_user (s : State) (k : Nat) (hk : k < 80) (hst : s.kernelSt k ≠ 0)
    (hd : (s.kernel k).dict = none) : s.stopCommand k = done (s.stopKernel k) := by
  rw [State.stopCommand, if_neg (by omega), if_neg hst, if_neg (by simp [hd])]

theorem State.stopKernel_gives (s : State) (k : Nat) : (s.stopKernel k).rd (0x6810 + k) 0x01 = 4 ∧
    (s.stopKernel k).kernel k = { s.kernel k with wait := none, stopAfter := false } := by
  refine ⟨State.wr_rd_same .., ?_⟩
  rw [State.stopKernel, State.wr_kernel_frame, State.setKernel_kernel_same, State.staleRequests_kernel,
    State.holdEq_kernel]

/-- A kernel command of a requester that is no kernel. -/
theorem State.kernelCommand_of_granted (s u : State) (r : Requester) (idx sub k v : Nat)
    (hm : u.mayWrite r idx sub v = true) (hr : ∀ j, j < 94 → r ≠ .kernel j) : s.kernelCommand r k v =
      if v = 1 then s.restartKernel k else if v = 2 then s.stopCommand k else refuse abortValue s := by
  cases r with
  | kernel j =>
    simp only [State.mayWrite, requesterOk, Bool.and_eq_true, decide_eq_true_eq] at hm
    exact absurd rfl (hr j hm.1.1)
  | _ => rfl

theorem rowOf_kernelCommand : ∀ k < 94, rowOf (0x6810 + k) 0x08
    = some { idx := 0x6810, sub := 0x08, ty := .u 1, acc := .wo, guarded := true, n := 94 } := by decide

theorem State.entryAct_kernelCommand (s : State) (r : Requester) (k v : Nat) (hk : k < 94) :
    s.entryAct r (0x6810 + k) 0x08 v = some (s.kernelCommand r k v) := by
  have page : s.entryAct r (0x6810 + k) 0x08 v = s.act60 r (0x6810 + k) 0x08 v := by
    unfold State.entryAct
    iterate 6 rw [if_neg (by omega)]
    rw [if_pos (by omega)]
  rw [page, State.act60]
  iterate 4 rw [if_neg (by omega)]
  rw [if_pos (by omega), Nat.add_sub_cancel_left]

/-- No condition beyond its range stands on a kernel command (R398). -/
theorem State.valueOk_kernelCommand (s : State) (k v : Nat) (hk : k < 94) : s.valueOk (0x6810 + k) 0x08 v = true := by
  unfold State.valueOk
  iterate 16 rw [if_neg (by omega)]

theorem State.stateOk_kernelCommand (s : State) (k v : Nat) (hk : k < 94) : s.stateOk (0x6810 + k) 0x08 v = true := by
  have probe : isProbeEntry (0x6810 + k) = false := by
    simp only [isProbeEntry, Bool.or_eq_false_iff, Bool.and_eq_false_iff, decide_eq_false_iff_not]
    omega
  rw [State.stateOk, probe, if_neg Bool.false_ne_true]
  iterate 5 rw [if_neg (by omega)]

/-- A kernel command that its checks let through is done (R396, R392). -/
theorem kernelCommand_accepted (s t : State) (r : Requester) (k v : Nat) (hk : k < 94) (hv : v < 256)
    (hm : s.mayWrite r (0x6810 + k) 0x08 v = true) (hact : s.fresh.kernelCommand r k v = done t) :
    writesOn (k < 94) s r (0x6810 + k) 0x08 1 v = t.accepted r (0x6810 + k) 0x08 :=
  writesOn_acts (k < 94) s t r (0x6810 + k) 0x08 1 v _ (decide_eq_true hk) hm (rowOf_kernelCommand k hk) rfl (by omega)
    (bytesNat_natBytes_of_lt 1 v hv) rfl rfl rfl (State.valueOk_kernelCommand s k v hk)
    (State.stateOk_kernelCommand s k v hk)
    ((State.entryAct_kernelCommand s.fresh r k v hk).trans (congrArg some hact)) (by omega) (by omega)

theorem kernelRestartCommand_accepted (s : State) (r : Requester) (k : Nat) (hk : k < 80) (hst : s.kernelSt k ≠ 0)
    (hm : s.mayWrite r (0x6810 + k) 0x08 1 = true) (hr : ∀ j, j < 94 → r ≠ .kernel j) :
    Accepted (execKernelRestartCommand r k s) r (0x6810 + k) 0x08 (s.GivesStart k) := by
  refine ⟨_, kernelCommand_accepted s _ r k 1 (by omega) (by decide) hm ?_, State.restart_gives s k (by omega)⟩
  rw [State.kernelCommand_of_granted s.fresh s r _ _ k 1 hm hr, if_pos rfl,
    State.restartKernel_user s.fresh k hk hst]

theorem kernelStop_accepted (s : State) (r : Requester) (k : Nat) (hk : k < 80) (hst : s.kernelSt k ≠ 0)
    (hd : (s.kernel k).dict = none) (hm : s.mayWrite r (0x6810 + k) 0x08 2 = true)
    (hr : ∀ j, j < 94 → r ≠ .kernel j) : Accepted (execKernelStop r k s) r (0x6810 + k) 0x08 (fun t =>
      t.rd (0x6810 + k) 0x01 = 4 ∧ t.kernel k = { s.kernel k with wait := none, stopAfter := false }) := by
  refine ⟨_, kernelCommand_accepted s _ r k 2 (by omega) (by decide) hm ?_, State.stopKernel_gives s.fresh k⟩
  rw [State.kernelCommand_of_granted s.fresh s r _ _ k 2 hm hr, if_neg (by decide), if_pos rfl,
    State.stopCommand_user s.fresh k hk hst hd]

theorem State.lt_of_atInstr {s : State} {k : Nat} {i : Instr} (h : s.atInstr k i = true) : k < 80 := by
  simp only [State.atInstr, Bool.and_eq_true, decide_eq_true_eq] at h
  exact h.1.1.1

/-- R371, of one start and of the start of every user kernel. -/
theorem State.started_registers (s : State) (k : Nat) (hk : k < 80) : ∀ t ∈ [s.startKernel k, s.startKernels],
    (t.kernel k).pc = BitVec.ofNat 32 (s.programOf k).entry ∧
      ∀ q, t.greg k q = if q = 13 then BitVec.ofNat 32 (s.programOf k).stack else 0 := by
  have record : ∀ t ∈ [s.startKernel k, s.startKernels], t.kernel k = s.startRecord k := by
    simp only [List.forall_mem_cons, List.not_mem_nil, false_imp_iff, implies_true, and_true]
    exact ⟨by rw [State.startKernel_kernel, if_pos rfl],
      (State.startKernels_kernel s 80 k).2.trans (if_pos hk)⟩
  intro t ht
  exact ⟨by rw [record t ht]; rfl, fun q => State.greg_startRecord s t k q (record t ht)⟩

/-- Settles O59: a start by the record that it loads; a fault by its entries, which the raise leaves; the commands of
R392 by the writes that they are. That command restarts count in the one restart counter, and that a start clears
events and inbox, are the model's deductions (log entries 99 and 100). -/
theorem kernelFaultsAndStarts : Obligations.KernelFaultsAndStarts := by
  intro s r k rs1 fails
  refine ⟨State.started_registers s k, fun h => ?_, fun hr hp hf => ?_, fun hr hp => ?_, fun hk hr hd => ?_,
    fun hk hd => ?_, fun h80 hk hr => ⟨fun hd => ?_, ?_⟩, fun hk hst hp hl => ?_,
    kernelRestartCommand_accepted s r k, kernelStop_accepted s r k⟩
  · exact ⟨_, kernelInstr_next s _ k _ _ h rfl, State.trap_gives s k _ (State.lt_of_atInstr h)⟩
  · have hk := State.lt_of_canRun hr
    show Completes (execIllegalInstruction k s) _
    refine event_completes (decide_eq_true (by omega)) ?_
    rw [State.illegalInstruction_undecoded s.fresh k hr hp hf]
    exact State.kernelFault_gives s k 1 hk
  · have hk := State.lt_of_canRun hr
    show Completes (execIllegalInstruction k s) _
    refine event_completes (decide_eq_true (by omega)) ?_
    rw [State.illegalInstruction_outside s.fresh k hr hp]
    exact State.kernelFault_gives s k 3 hk
  · show Completes (execKernelWatchdog k s) _
    refine event_completes (decide_eq_true (by omega)) ?_
    rw [State.kernelWatchdog_user s.fresh k hk hr hd]
    exact State.kernelFault_gives_of_kernel_eq 8 hk (State.holdEq_out s.fresh k) (State.holdEq_kernel s.fresh k k)
  · show Completes (execKernelWatchdog k s) _
    exact event_completes (decide_eq_true hk) (State.kernelWatchdog_paused s.fresh k hd)
  · show Completes (execKernelWatchdog k s) _
    refine event_completes (decide_eq_true hk) ?_
    rw [State.kernelWatchdog_vendor s.fresh k h80 hr hd]
    exact State.kernelFault_shows _ k 8 hk
  · show Completes (execIllegalInstruction k s) _
    refine event_completes (decide_eq_true hk) ?_
    rw [State.illegalInstruction_vendor s.fresh k h80 hr]
    exact State.kernelFault_shows _ k 1 hk
  · show Completes (execKernelRestart k s) _
    refine event_completes (decide_eq_true (by omega)) ?_
    rw [State.kernelRestart_user s.fresh k hk hst hp hl]
    exact State.restart_gives s k (by omega)

end Sys2Proof.Machine
end
